-- ==== Sys2Proof/Word.lean ====
section
/-! DEFINITION. The word types of the device: bytes, 32-bit registers (R11), 64-bit words of the line side. -/

namespace Sys2Proof

/-- One byte of a memory space or of a frame. -/
abbrev Byte := BitVec 8

/-- One register of BAR0 (R11: registers are 32 bits wide). -/
abbrev Word := BitVec 32

/-- One 64-bit word of a line's parallel interface, or one 64-bit field of a structure in memory. -/
abbrev Word64 := BitVec 64

end Sys2Proof
end

