-- ==== Sys2Proof/Machine/Bits.lean ====
section
/-! DEFINITION. Bit fields, sign extension and little-endian byte order (R9: bit 0 is the least significant bit,
multi-byte fields are little-endian unless a chapter states otherwise). -/

namespace Sys2Proof.Machine

/-- Bits `lo` to `lo + len - 1` of a natural number. -/
def bitsOf (v lo len : Nat) : Nat := (v >>> lo) % 2 ^ len

/-- Bit `i` of a natural number. -/
def bitOf (v i : Nat) : Bool := v.testBit i

/-- 1 for true, 0 for false. -/
def b2n (b : Bool) : Nat := if b then 1 else 0

/-- The number `v` with bits `lo` to `lo + len - 1` replaced by `x` modulo 2^len. -/
def putBits (v lo len x : Nat) : Nat := v - (bitsOf v lo len) * 2 ^ lo + (x % 2 ^ len) * 2 ^ lo

/-- The number `v` with bit `i` set. -/
def setBit (v i : Nat) : Nat := putBits v i 1 1

/-- The number `v` with bit `i` cleared. -/
def clearBit (v i : Nat) : Nat := putBits v i 1 0

/-- The signed value of the low `len` bits of `v`. -/
def signedOf (len v : Nat) : Int :=
  let m := v % 2 ^ len
  if m < 2 ^ (len - 1) then (m : Int) else (m : Int) - (2 : Int) ^ len

/-- The two's complement of `i` in `len` bits. -/
def unsignedOf (len : Nat) (i : Int) : Nat := (i % (2 : Int) ^ len).toNat

/-- The signed value nearest to `i` that `len` bits hold. -/
def clampSigned (len : Nat) (i : Int) : Int :=
  if i < -((2 : Int) ^ (len - 1)) then -((2 : Int) ^ (len - 1))
  else if i > (2 : Int) ^ (len - 1) - 1 then (2 : Int) ^ (len - 1) - 1 else i

/-- The `len` bits of a register word from bit `lo` up. -/
def wordBits (w : Word) (lo len : Nat) : Nat := bitsOf w.toNat lo len

/-- The mask of `len` bits from bit `lo` up. -/
def maskOf (lo len : Nat) : Word := BitVec.ofNat 32 ((2 ^ len - 1) <<< lo)

/-- A register word with `len` bits from bit `lo` replaced by `x` modulo 2^len. -/
def wordPut (w : Word) (lo len x : Nat) : Word :=
  (w &&& ~~~(maskOf lo len)) ||| BitVec.ofNat 32 ((x % 2 ^ len) <<< lo)

/-- The number whose little-endian bytes are listed, the lowest first (R9). -/
def leNat : List Byte → Nat
  | [] => 0
  | b :: t => b.toNat + 256 * leNat t

/-- The `n` little-endian bytes of a number, the lowest first (R9). -/
def leBytes : Nat → Nat → List Byte
  | 0, _ => []
  | n + 1, v => BitVec.ofNat 8 v :: leBytes n (v / 256)

/-- The number whose big-endian bytes are listed, the highest first. -/
def beNat (l : List Byte) : Nat := leNat l.reverse

/-- The `n` big-endian bytes of a number, the highest first. -/
def beBytes (n v : Nat) : List Byte := (leBytes n v).reverse

/-- How many of the low `n` bits of `v` are 1. -/
def popCount : Nat → Nat → Nat
  | 0, _ => 0
  | n + 1, v => v % 2 + popCount n (v / 2)

/-- The low `n` bits of `v` in reverse order. -/
def reflect : Nat → Nat → Nat
  | 0, _ => 0
  | n + 1, v => (v % 2) * 2 ^ n + reflect n (v / 2)

/-- The numbers below `n` whose bit in `v` is 1, lowest first. -/
def bitList (n v : Nat) : List Nat := (List.range n).filter (fun i => v.testBit i)

/-- The list with element `i` replaced by its image under `f`; a list too short is unchanged. -/
def modAt {α : Type} (l : List α) (i : Nat) (f : α → α) : List α :=
  match l, i with
  | [], _ => []
  | x :: t, 0 => f x :: t
  | x :: t, i + 1 => x :: modAt t i f

/-- The list with element `i` replaced; a list too short is unchanged. -/
def putAt {α : Type} (l : List α) (i : Nat) (x : α) : List α := modAt l i (fun _ => x)

/-- The list with element `i` changed; a list too short is filled up with `d`, which is what its missing elements count as. -/
def modD {α : Type} (d : α) (l : List α) (i : Nat) (f : α → α) : List α :=
  match l, i with
  | [], 0 => [f d]
  | [], i + 1 => d :: modD d [] i f
  | x :: t, 0 => f x :: t
  | x :: t, i + 1 => x :: modD d t i f

/-- The list with element `i` replaced, filled up likewise. -/
def putD {α : Type} (d : α) (l : List α) (i : Nat) (x : α) : List α := modD d l i (fun _ => x)

end Sys2Proof.Machine
end

