-- ==== Sys2Proof/Machine/Types.lean ====
section
/-! DEFINITION. The operand types of the commands: line, plane and channel numbers, and the data that arrives from
outside the device with an event (a received word, the outcome of a bus transaction, the verdict of a test that a
governing standard defines and this manual only names). -/

namespace Sys2Proof

/-- A line, line 0 to line 95 (R15). -/
abbrev LineNo := Fin 96

/-- A plane or half: 0 is plane A, half A, feed 1; 1 is plane B, half B, feed 2 (R17). -/
abbrev PlaneNo := Fin 2

/-- A module bus: 0 to 7 are I2C0 to I2C7, 8 and 9 are MDIO0 and MDIO1 (R64). -/
abbrev BusNo := Fin 10

/-- An entry of the module table (R58). -/
abbrev ModuleNo := Fin 96

/-- An item of a module's poll list (R59). -/
abbrev ItemNo := Fin 8

/-- Who makes a register access: host software over PCIe, or the management processor (R411, R412). -/
inductive Agent where
  | host
  | firmware
  deriving DecidableEq, Repr

/-- The two address windows of the PCIe function (R402, R403). -/
inductive Bar where
  | bar0
  | bar2
  deriving DecidableEq, Repr

/-- The equaliser values a lane uses (R43, R44). -/
structure EqValues where
  ctle : BitVec 4
  dfe1 : BitVec 6
  dfe2 : BitVec 5
  dfe3 : BitVec 5
  dfe4 : BitVec 5
  dfe5 : BitVec 5
  deriving DecidableEq, Repr

/-- How a poll item's or host transaction's bus activity ends (R57, R61, R63). -/
inductive BusOutcome where
  /-- The device acknowledged; the bytes read, first read first. -/
  | ack (bytes : List (BitVec 8))
  /-- The address was not acknowledged. -/
  | noAck
  /-- SDA stayed low beyond the item; nine SCL pulses and a STOP freed it, or did not. -/
  | stuck (recovered : Bool)
  /-- The clock was stretched beyond 25 ms, which aborts the transaction. -/
  | stretch
  deriving DecidableEq, Repr

/-- A code-group of 1000BASE-X as the Clause 36 tests class it. -/
inductive CodeGroup where
  | comma
  | data
  | invalid
  deriving DecidableEq, Repr

/-- One word period of a line's receiver (R68): the word at the receive pins, the word that the transmitter drives where the
model builds no frame for it, which a near-end loopback takes (R48), and, of the word that the loopback and the polarity
leave, the bit positions at which the test of the governing standard passes where this manual does not give the pattern
(Clause 74 parity, Clause 108 marker), and the 8b/10b code-groups that end in it with their offset modulo 10. -/
structure RxWord where
  word : BitVec 64
  sent : BitVec 64
  marks : List (Fin 64)
  groups : List (Fin 10 × CodeGroup)
  deriving DecidableEq, Repr

/-- The outcome of one FEC codeword or block (R86, Table 3.7): corrected bits or symbols in error, by the format. -/
inductive FecOutcome where
  | clean
  | corrected (n : Nat)
  | uncorrectable
  deriving DecidableEq, Repr

/-- One FEC codeword or block as received, descrambled (Table 3.7): the 255 byte symbols of an OTUk codeword, the 192 of an MXF
row, the 2,112 bits of a Clause 74 block, bit 2111 first, with its PN-2112 sequence, the 528 ten-bit symbols of a Clause
108 codeword with the validity of the sync headers that its transcoded blocks give. -/
inductive FecBlock where
  | otu (bytes : List (BitVec 8))
  | mxf (bytes : List (BitVec 8))
  | cl74 (bits : BitVec 2112)
  | cl108 (symbols : List (BitVec 10)) (headers : List Bool)
  deriving DecidableEq, Repr

/-- How a word of plane SRAM reads back (R36). -/
inductive MemRead where
  | clean
  | corrected
  | uncorrectable
  deriving DecidableEq, Repr

/-- What a window of the Gander saw of a plane: a wire edge, with the nanoseconds since the previous one, and the frame number of
a word on the spine path (R272, R273). -/
structure Beat where
  edge : Option Nat
  word : Option (BitVec 48)
  deriving DecidableEq, Repr

/-- A peer message of the Mehrax frame, words 4 and 5 (Table 4.2, Table 4.3). -/
structure PeerMsg where
  typ : Nat
  txSeq : Nat
  index : Nat
  arg0 : Nat
  arg1 : Nat
  deriving DecidableEq, Repr

/-- A sequence ordered set (R127). -/
inductive OrderedSet where
  | localFault
  | remoteFault
  | linkInterruption
  deriving DecidableEq, Repr

/-- What the overhead processor of a line takes, by the format (R118): one STM-N or OTUk frame as it is on the line, its bytes in
transmission order; on a Mehrax line nothing more, since its frame has come with MXF_FRAME_RX; on a 10GBASE-R or
25GBASE-R line the 66-bit blocks since the last such step, the sync header first (bits 65 and 64), on a 1000BASE-X line the
code violations since then. -/
inductive OhpFrame where
  | sdh (bytes : List (BitVec 8))
  | otu (bytes : List (BitVec 8))
  | mxf
  | eth (blocks : List (BitVec 66))
  | codes (violations : Nat)
  deriving DecidableEq, Repr

/-- A flow index (R155). -/
abbrev FlowNo := Fin 65536

/-- What a path layer shows in one of its frames or multiframes (Table 5.4, R201): the byte of the trace in progress
with its place in an ODU multiframe, violations of the parity, the label as received, REI or BEI, RDI or BDI, STAT of
an ODU, and whether an ODU is out of frame or multiframe. -/
structure PathFrame where
  trace : BitVec 8
  pos : Nat
  viol : Nat
  label : BitVec 8
  rei : Nat
  rdi : Bool
  stat : BitVec 3
  lom : Bool
  deriving DecidableEq, Repr

/-- How a header error check of GFP comes out: good, a single error that is corrected, or more (R173). -/
inductive HecResult where
  | good
  | corrected
  | bad
  deriving DecidableEq, Repr

/-- A GFP-F frame as its sink finds it after unscrambling (R172, R173): core and type header checks, type fields, the
check of the pFCS, the client frame, and whether the frame was cut off by a loss of its source. -/
structure GfpFrame where
  cHec : HecResult
  tHec : HecResult
  pti : BitVec 3
  pfi : Bool
  exi : BitVec 4
  upi : BitVec 8
  pfcsGood : Bool
  client : List (BitVec 8)
  cut : Bool
  deriving DecidableEq, Repr

/-- A receive or a transmit side of a line (R192). -/
inductive Side where
  | receive
  | transmit
  deriving DecidableEq, Repr

/-- A trace store: one of a line's, or that of a flow (R130). -/
inductive TraceStore where
  | line (n : LineNo) (t : Fin 8)
  | flow (p : PlaneNo) (f : FlowNo)
  deriving DecidableEq, Repr

/-- Where a label is accepted: the payload type and MSI of an OTUk line, or a flow (R205). -/
inductive LabelAt where
  | line (n : LineNo)
  | flow (p : PlaneNo) (f : FlowNo)
  deriving DecidableEq, Repr

/-- A layer whose defects are evaluated at a frame boundary: a line, or a flow with what its path shows (R201). -/
inductive DefectLayer where
  | line (n : LineNo)
  | flow (p : PlaneNo) (f : FlowNo) (x : PathFrame)
  deriving DecidableEq, Repr

/-- A defect: bit of LCH_DPM_DEF; criterion of a TCM level (AIS, OCI, LCK, LTC, TIM, BDI, DEG); bit of a flow's DEF
counted from dAIS = 1. -/
inductive DefectId where
  | line (n : LineNo) (b : Fin 20)
  | tcm (n : LineNo) (i : Fin 6) (k : Fin 7)
  | flow (p : PlaneNo) (f : FlowNo) (b : Fin 15)
  deriving DecidableEq, Repr

/-- An access to a data register. -/
inductive RegAccess where
  | read
  | write (v : BitVec 32)
  deriving DecidableEq, Repr

/-- A protection group as a partner violation names it (Table 8.5). -/
inductive PvGroup where
  | line (p : PlaneNo) (g : Fin 48)
  | merge (p : PlaneNo) (g : Fin 256)
  deriving DecidableEq, Repr

/-- The two registers of a clock output (Table 10.9). -/
inductive ClkReg where
  | cfg
  | freq
  deriving DecidableEq, Repr

/-- A rewrite unit of a Through pair as aligned and descrambled: two frame words, or two 66-bit blocks (R147). -/
inductive ThruUnit where
  | words (a b : BitVec 64)
  | blocks (a b : BitVec 66)
  deriving DecidableEq, Repr

/-- A record of the performance history: that of a flow, or of a layer of a line (Table 7.7). -/
inductive PmSource where
  | flow (f : FlowNo)
  | layer (n : LineNo) (k : Fin 2)
  deriving DecidableEq, Repr

/-- What the read of a DMA burst brings: bytes of host memory, a read that did not complete (HOSTRD), an uncorrectable word of
device memory (ECC). A burst that reads device memory takes its bytes from there. -/
inductive DmaRead where
  | bytes (l : List (BitVec 8))
  | hostError
  | ecc
  deriving DecidableEq, Repr

end Sys2Proof
end

