-- ==== Sys2Proof/Syntax.lean ====
section
/-! DEFINITION. The commands of the block: one constructor per row of spec/opcode_table.json, with the row's operands. -/

namespace Sys2Proof

/-- A command of the device: a register access, a mailbox command, or an event at its pins, lines and clocks. The rows without
operands stand last. -/
inductive Instr where
  /-- REGISTER_WRITE (R12): A host or firmware write to a register that has no row of its own takes effect by its access code and its register's rule. -/
  | registerWrite (by' : Agent) (bar : Bar) (a : BitVec 26) (bytes : List Byte)
  /-- BAD_ACCESS (R406): A BAR0 or window access of illegal size or alignment completes with no effect, is counted and recorded, and sets BAD_ACC_EV. -/
  | badAccess (bar : Bar) (a : BitVec 26) (write : Bool) (n : Nat)
  /-- GUARD_VALUE_WRITE (R409): A 4-byte write of a value to a guarded address opens a pair, first breaking any pair already open. -/
  | guardValueWrite (by' : Agent) (a : BitVec 24) (v : Word)
  /-- GUARD_COMPLEMENT_WRITE (R410): A write to the paired address completes the open pair or breaks it with its cause. -/
  | guardComplementWrite (by' : Agent) (a : BitVec 24) (w : Word)
  /-- GUARD_WINDOW_EXPIRY (R410): The 64-cycle window of an open pair ends without a complement, and the pair breaks with cause 2. -/
  | guardWindowExpiry (by' : Agent)
  /-- GUARD_WIDE_WRITE (R410): A single 8-byte write covering a guarded address and its pair is counted as broken with cause 5. -/
  | guardWideWrite (by' : Agent) (a : BitVec 24)
  /-- GLB_CHIP_RESET (R412): A completed guarded pair with GO = 1 requests a chip reset. -/
  | glbChipReset (v : Word)
  /-- IRQ_REARM (R420): A write of a vector number to GLB_IRQ_REARM rearms the vector, clears a pulse vector, and resends a message if it stays asserted. -/
  | irqRearm (v : Fin 64)
  /-- IRQ_ENABLE_WRITE (R420): A WM write to GLB_IRQ_EN enables vectors, and a vector enabled while asserted sends a message. -/
  | irqEnableWrite (r : Fin 4) (v : Word)
  /-- MSIX_UNMASK (R421): Unmasking a vector or the function sends a pending MSI-X message once. -/
  | msixUnmask (v : Option (Fin 64))
  /-- INTERNAL_RESET_RELEASE (R467): With RESET_N high and a first feed reported good, the internal reset is released and the straps are sampled. -/
  | internalResetRelease (twin : Bool) (bootSrc : BitVec 2) (test : Bool)
  /-- FEED_LOSS (R465): The feed monitor reports a feed lost and the half is isolated, clamped, marked absent and put in reset. -/
  | feedLoss (p : PlaneNo) (pg : Bool) (spine : Bool)
  /-- FEED_RETURN (R466): After 1 ms of good conditions the feed monitor reports a return and the half's reset is released. -/
  | feedReturn (p : PlaneNo)
  /-- SPINE_SUPPLY_SWITCHOVER (R461): One spine input falls and the on-die switches move the whole spine load to the other input. -/
  | spineSupplySwitchover (limit : Bool)
  /-- SPINE_POWER_RETURN (R468): After both feeds were lost, one returns and the device makes a full start. -/
  | spinePowerReturn (p : PlaneNo) (twin : Bool) (bootSrc : BitVec 2) (test : Bool)
  /-- CORE_PLL_LOCK (R466): A half's core PLL locks, CORE_x_LOCK rises and the plane enters INIT or restarts. -/
  | corePllLock (p : PlaneNo)
  /-- CHIP_SLEEP_ENTER (R472): A write of ENTER with KEY 0xA55A starts chip sleep entry. -/
  | chipSleepEnter (v : Word)
  /-- WAKE_EVENT (R474): An enabled always-on comparator or RESET_N wakes the device, raising the core enables for a full start. -/
  | wakeEvent (active : BitVec 6)
  /-- TEMP_COMPARATOR_TRIP (R473): The always-on temperature comparator trips and, while awake, drives fault source 12. -/
  | tempComparatorTrip (t : BitVec 8)
  /-- SPREAD_CHANGE_APPLY (R477): A change of core clock spreading takes effect at the next triangle minimum. -/
  | spreadChangeApply (p : PlaneNo)
  /-- FLASH_BOOT_ATTEMPT (R353): A flash slot is read, hashed and checked in the order of Table 12.4. -/
  | flashBootAttempt (slot : Fin 2) (sfdp : Bool) (img : List Byte) (readErr : Bool)
  /-- PUSH_FETCH_COMPLETE (R356): The pushed image has been fetched by DMA channel 15 and is checked, being accepted or failed. -/
  | pushFetchComplete (img : List Byte) (readErr : Bool)
  /-- BERENT_READY (R358): Berent completes start-up and enters READY. -/
  | berentReady (good : Bool)
  /-- MBX_EVQ_RD_WRITE (R386): Host software advances MBX_EVQ_RD and held events are written into the freed space. -/
  | mbxEvqRdWrite (v : BitVec 32)
  /-- LOAD_WINDOW_END (R367): A 100 ms load window ends and LOAD is updated. -/
  | loadWindowEnd (load : Fin 101)
  /-- MBX_DOORBELL (R373): A doorbell write posts messages up to PI or is ignored with DB_ERR_EV. -/
  | mbxDoorbell (ring : Fin 4) (pi : BitVec 16)
  /-- MODULE_HOST_TRANSACTION (R62): The host module transaction runs on the bus between two poll items. -/
  | moduleHostTransaction (k : BusNo) (o : BusOutcome)
  /-- EPOCH_REBUILD (R189): The EPOCH_REBUILD command starts a copy, edit and compile of the inactive epoch as a long operation. -/
  | epochRebuild (data : List Byte)
  /-- EPOCH_REBUILD_DONE (R189): The rebuild ends, setting CHECKED or recording the failure, and is answered. -/
  | epochRebuildDone (k : Fin 8)
  /-- SCRUB_DONE (R36): The scrub ends and is answered with the counts of corrected and uncorrectable words. -/
  | scrubDone (k : Fin 8) (corrected : BitVec 32) (uncorrectable : BitVec 32)
  /-- FW_LOAD (R393): The FW_LOAD command starts writing a new image to a flash slot as a long operation. -/
  | fwLoad (data : List Byte)
  /-- FW_LOAD_DONE (R393): The firmware load ends with the header written last or with the slot left invalid. -/
  | fwLoadDone (k : Fin 8) (readBack : Bool)
  /-- PRBS_TEST_DONE (R395): The test duration expires, the result records are answered and each FAU restarts its hunt. -/
  | prbsTestDone (k : Fin 8)
  /-- PRBS_WORD_CHECK (R395): The checker examines a received word and counts it, gaining or losing SYNC. -/
  | prbsWordCheck (n : LineNo) (w : BitVec 64)
  /-- LONG_OP_PROGRESS (R388): A long operation advances and a PROGRESS event is sent when due. -/
  | longOpProgress (k : Fin 8) (pct : Nat) (pos : Nat)
  /-- LINE_CFG_WRITE (R48): A write to LCH_LINE_CFG changes polarity, squelch, loopback or signal-detect settings. -/
  | lineCfgWrite (n : LineNo) (v : Word)
  /-- RX_EQ_CFG_WRITE (R43): A write to LCH_RX_EQ_CFG changes the equaliser mode or manual values. -/
  | rxEqCfgWrite (n : LineNo) (v : Word)
  /-- EQ_ADAPT_DONE (R44): The equaliser values settle and ADAPT_DONE is set. -/
  | eqAdaptDone (n : LineNo) (v : EqValues)
  /-- TX_DRV_CFG_WRITE (R45): A write to LCH_TX_DRV_CFG sets the driver taps, clamping an illegal pair. -/
  | txDrvCfgWrite (n : LineNo) (v : Word)
  /-- SD_CHANGE (R50): The signal-presence comparator asserts or deasserts SD after 1 µs. -/
  | sdChange (n : LineNo) (sd : Bool)
  /-- CDR_LOCK_RISE (R73): The receive CDR locks and the FAU leaves IDLE for HUNT. -/
  | cdrLockRise (n : LineNo)
  /-- CDR_LOCK_FALL (R84): The receive CDR loses lock, CDR_LOSS is set and the FAU returns to IDLE. -/
  | cdrLockFall (n : LineNo)
  /-- SIGNAL_REPLACED (R500): A received signal is replaced without SD falling. -/
  | signalReplaced (n : LineNo) (cdrFalls : Bool)
  /-- DOZE_ENTRY_COMPLETE (R52): Doze entry ends with the lane blocks powered down. -/
  | dozeEntryComplete (n : LineNo)
  /-- DOZE_EXIT_COMPLETE (R53): Doze exit ends with CDR lock and the transmitter running. -/
  | dozeExitComplete (n : LineNo) (cdrLocked : Bool)
  /-- DOZE_MOVE_COMPLETE (R501): A move between light and deep doze ends. -/
  | dozeMoveComplete (n : LineNo)
  /-- WAKE_ON_SD (R54): A rising SD edge on a dozing line with WAKE_ON_SD starts exit or raises a wake request to firmware. -/
  | wakeOnSd (n : LineNo)
  /-- POLL_PASS_START (R60): A bus master's poll period elapses and a pass starts. -/
  | pollPassStart (k : BusNo)
  /-- POLL_ITEM_COMPLETE (R65): A poll item's bus transaction ends, its value is stored and its compare evaluated. -/
  | pollItemComplete (k : BusNo) (o : BusOutcome)
  /-- POLL_PASS_END (R60): A pass ends, and an overrunning pass starts the next one at once and counts an overrun. -/
  | pollPassEnd (k : BusNo) (us : Nat)
  /-- MODULE_ALARM_CHANGE (R61): An item's compare matches or fails on two consecutive passes and its alarm is raised or cleared. -/
  | moduleAlarmChange (m : ModuleNo) (item : ItemNo)
  /-- MODULE_PRESENCE_CHANGE (R61): A module is marked absent after three unacknowledged passes or present after two acknowledged ones. -/
  | modulePresenceChange (m : ModuleNo)
  /-- BUS_RECOVERY_RETRY (R63): Every 100 ms a failed bus retries recovery. -/
  | busRecoveryRetry (k : BusNo) (ok : Bool)
  /-- CLOCK_STRETCH_TIMEOUT (R63): A clock stretch beyond 25 ms aborts the item and counts a bus error. -/
  | clockStretchTimeout (k : BusNo)
  /-- LINE_QUEUE_DROP (R31): A block arrives at a full line queue and is dropped and reported as a fault. -/
  | lineQueueDrop (n : LineNo)
  /-- FAU_WORD (R69): The FAU takes a received word and tests every bit position for the lock pattern. -/
  | fauWord (n : LineNo) (w : RxWord)
  /-- FAU_LOCK_ACQUIRE (R75): A tracker meets the in-frame criterion and the FAU enters IN_FRAME. -/
  | fauLockAcquire (n : LineNo)
  /-- FAU_LOCK_LOSS (R75): The loss count is reached and the FAU leaves lock for HUNT. -/
  | fauLockLoss (n : LineNo)
  /-- FAU_SLIP_MOVE (R79): With SLIP_FOLLOW, the locked position moves to the one tracker that found both missed patterns. -/
  | fauSlipMove (n : LineNo)
  /-- MF_LOCK_CHANGE (R76): MFAS follows or breaks the expected increment for the required frames and MF_LOCK changes. -/
  | mfLockChange (n : LineNo)
  /-- FAU_RESTART (R73): Writing RESTART forces the FAU to IDLE and a new hunt. -/
  | fauRestart (n : LineNo)
  /-- FAU_HUNT_CFG_WRITE (R88): A write to LCH_FAU_HUNT_CFG changes the lock counts from the next word period. -/
  | fauHuntCfgWrite (n : LineNo) (v : Word)
  /-- FEC_CFG_WRITE (R86): A write to LCH_FAU_FEC_CFG changes the decoder mode from the next codeword boundary. -/
  | fecCfgWrite (n : LineNo) (v : Word)
  /-- FEC_CODEWORD (R86): The FEC decoder processes a codeword or block, correcting and counting. -/
  | fecCodeword (n : LineNo) (c : FecBlock)
  /-- MXF_FRAME_RX (R98): A received MXF frame is descrambled, its overhead checked and its FSN tracked. -/
  | mxfFrameRx (n : LineNo) (words : List (BitVec 64))
  /-- QL_ACCEPT (R107): A QL value arriving unchanged in 3 good frames becomes the accepted quality level. -/
  | qlAccept (n : LineNo)
  /-- MXF_FRAME_TX (R113): An MXF frame is built and transmitted with its overhead, checks and peer message. -/
  | mxfFrameTx (n : LineNo)
  /-- PMC_MESSAGE_RX (R111): A peer message in a good frame with RPT = 0 is accepted, executed, acknowledged or ignored. -/
  | pmcMessageRx (n : LineNo)
  /-- PMC_SEND_REQUEST (R112): A reliable message is queued on a line or refused with NO_RESOURCE. -/
  | pmcSendRequest (n : LineNo) (m : PeerMsg)
  /-- PMC_ACK_TIMEOUT (R112): PMC_TIMEOUT frames pass without acknowledgement and the message is resent. -/
  | pmcAckTimeout (n : LineNo)
  /-- OHP_FRAME_RX (R120): The receive OHP monitors and extracts a frame's section and line overhead. -/
  | ohpFrameRx (n : LineNo) (f : OhpFrame)
  /-- TRACE_ACCEPT (R131): A trace arriving identical in 3 trace periods is accepted. -/
  | traceAccept (x : TraceStore)
  /-- S1_ACCEPT (R298): An S1 value arriving unchanged in 8 frames is accepted as the received QL. -/
  | s1Accept (n : LineNo)
  /-- APS_ACCEPT (R237): K1 and K2 or ODUk APS bytes arriving unchanged in 3 frames are accepted. -/
  | apsAccept (n : LineNo)
  /-- LABEL_ACCEPT (R205): A path label arriving unchanged in 5 frames is accepted. -/
  | labelAccept (x : LabelAt)
  /-- OHP_FRAME_TX (R139): The transmit OHP inserts and generates a frame's overhead. -/
  | ohpFrameTx (n : LineNo)
  /-- TX_TRACE_COMMIT (R133): Writing COMMIT for a store requests its transmit trace at the next trace period. -/
  | txTraceCommit (n : LineNo) (v : Byte)
  /-- TX_TRACE_LOAD (R133): At the start of a trace period the committed trace is copied into the transmitter and PEND clears. -/
  | txTraceLoad (n : LineNo) (t : Fin 8)
  /-- CAP_RD_WRITE (R136): A write to a capture read pointer is applied or ignored with PTR_ERR_EV. -/
  | capRdWrite (n : LineNo) (c : Fin 4) (v : Word)
  /-- INS_WR_WRITE (R136): A write to an insertion write pointer is applied or ignored with PTR_ERR_EV. -/
  | insWrWrite (n : LineNo) (c : Fin 4) (v : Word)
  /-- ESMC_FRAME_RX (R128): A received ESMC PDU with good FCS is captured to channel 3 and optionally removed. -/
  | esmcFrameRx (n : LineNo) (bytes : List Byte) (fcsGood : Bool)
  /-- ESMC_FRAME_TX (R129): An ESMC record from insertion channel 3 is sent between two client packets. -/
  | esmcFrameTx (n : LineNo)
  /-- THROUGH_START (R149): A new pair starts forwarding at the first input frame boundary after the input is IN_FRAME. -/
  | throughStart (n : LineNo)
  /-- THROUGH_UNIT (R147): A rewrite unit passes the Through pipeline with rewrite and compensation. -/
  | throughUnit (n : LineNo) (u : ThruUnit)
  /-- THROUGH_FALLBACK (R148): The input loses frame or CDR lock and the output switches to local timing and a maintenance signal. -/
  | throughFallback (n : LineNo)
  /-- THROUGH_RESUME (R148): After the input returns to IN_FRAME the output takes forwarded data again once. -/
  | throughResume (n : LineNo)
  /-- THRU_CFG_WRITE (R144): A write of REWRITE or CHK_MODE takes effect at the next output frame boundary. -/
  | thruCfgWrite (n : LineNo) (v : Word)
  /-- TABLE_WRITE (R188): A write to the table space is applied to the inactive epoch or ignored with WR_IGN_EV. -/
  | tableWrite (a : BitVec 24) (bytes : List Byte)
  /-- MAP_TBL_DATA_ACCESS (R200): An access to MAP_TBL_DATA reads or writes the table word at ADDR and auto-increments. -/
  | mapTblDataAccess (w : Option Word)
  /-- EPOCH_COMMIT (R191): A completed guarded pair to MAP_EPOCH_COMMIT starts a commit or is refused. -/
  | epochCommit (p : PlaneNo)
  /-- EPOCH_SIDE_SWITCH (R192): A line's receive or transmit side switches to the new epoch at its boundary. -/
  | epochSideSwitch (n : LineNo) (d : Side)
  /-- EPOCH_COMMIT_FORCE (R195): 256 µs after acceptance every side not yet switched is forced. -/
  | epochCommitForce (p : PlaneNo)
  /-- REMOVED_QUEUE_EMPTY (R196): A removed flow's queue is emptied once both ends have switched and neither is inside a packet. -/
  | removedQueueEmpty (p : PlaneNo) (q : Fin 4096)
  /-- EPOCH_INTEGRITY_CHECK (R198): Once per second firmware checks the active epoch's CRC and reports a difference. -/
  | epochIntegrityCheck (p : PlaneNo)
  /-- CLIENT_PACKET_RX (R179): A client packet is written to its queue and committed or rewound at its end. -/
  | clientPacketRx (n : LineNo) (bytes : List Byte) (cut : Bool)
  /-- CLIENT_PACKET_TX (R182): A committed packet is read from its queue and sent whole. -/
  | clientPacketTx (p : PlaneNo) (f : Fin 4096)
  /-- QUEUE_FLUSH (R181): Writing FLUSH requests a flush of a client packet queue. -/
  | queueFlush (p : PlaneNo) (q : Fin 4096)
  /-- QUEUE_FLUSH_APPLY (R181): At the consumer's next packet boundary the read pointer moves to the commit mark. -/
  | queueFlushApply (p : PlaneNo) (q : Fin 4096)
  /-- GFP_FRAME_RX (R173): A GFP-F sink delineates and checks a GFP frame. -/
  | gfpFrameRx (p : PlaneNo) (f : Fin 4096) (g : GfpFrame)
  /-- GFP_DELINEATION_CHANGE (R173): GFP delineation moves among HUNT, PRESYNC and SYNC. -/
  | gfpDelineationChange (p : PlaneNo) (f : Fin 4096)
  /-- POINTER_RX (R161): A received AU or TU pointer is interpreted. -/
  | pointerRx (p : PlaneNo) (f : FlowNo)
  /-- POINTER_STATE_CHANGE (R161): The pointer interpreter's counts move it among NORM, AIS and LOP. -/
  | pointerStateChange (p : PlaneNo) (f : FlowNo)
  /-- POINTER_GENERATE (R162): The pointer generator sends a pointer and justifies when the staging fill requires. -/
  | pointerGenerate (p : PlaneNo) (f : FlowNo)
  /-- GMP_CONTROL_WORD_RX (R167): The Mehrax GMP sink takes C8 and VCP from a good control word or counts an error. -/
  | gmpControlWordRx (p : PlaneNo) (f : FlowNo)
  /-- GMP_LOSS_OF_SYNC (R167): Three consecutive control-word errors declare GMP loss of synchronisation. -/
  | gmpLossOfSync (p : PlaneNo) (f : FlowNo)
  /-- MEHRAX_GMP_TX (R166): The Mehrax GMP source places a frame's control word and client bytes. -/
  | mehraxGmpTx (p : PlaneNo) (f : FlowNo)
  /-- DEFECT_EVALUATE (R201): At a frame boundary of its layer each defect integrator evaluates its criterion. -/
  | defectEvaluate (x : DefectLayer) (dt : Nat)
  /-- DEFECT_RAISE (R202): A defect's raise criterion is met and the defect is raised. -/
  | defectRaise (x : DefectId)
  /-- DEFECT_CLEAR (R202): A defect's clear criterion is met and the defect is cleared. -/
  | defectClear (x : DefectId)
  /-- FAILURE_DECLARE (R204): An unmasked defect present for 2.5 s becomes a failure. -/
  | failureDeclare (x : DefectId)
  /-- FAILURE_CLEAR (R204): A failure whose defect has been absent for 10 s clears. -/
  | failureClear (x : DefectId)
  /-- CSF_SEND (R211): Every 100 ms a GFP-F destination with SSF sends a CSF frame. -/
  | csfSend (p : PlaneNo) (f : Fin 4096)
  /-- DCSF_TIMEOUT (R205): 3 s without a client management frame clears dCSF. -/
  | dcsfTimeout (p : PlaneNo) (f : Fin 4096)
  /-- HEN_PASS_END (R226): A Hen pass ends and DPM_PM_SEQ becomes even. -/
  | henPassEnd (p : PlaneNo) (us : Nat)
  /-- PM_EXPORT (R394): Firmware exports a final previous bin to the host ring or counts it lost. -/
  | pmExport (p : PlaneNo) (x : PmSource) (day : Bool) (replaced : Bool)
  /-- TCA_FORWARD (R387): With TCA_FWD firmware reads TCA records and sends them as events. -/
  | tcaForward (p : PlaneNo)
  /-- LG_CMD_CLEAR (R236): EXT_CMD 0 clears a line group's external command. -/
  | lgCmdClear (p : PlaneNo) (g : Fin 48)
  /-- LG_CMD_LOCKOUT (R236): EXT_CMD 1 sets lockout of protection on a line group. -/
  | lgCmdLockout (p : PlaneNo) (g : Fin 48)
  /-- LG_CMD_FORCED_SWITCH (R236): EXT_CMD 2 sets a forced switch on a line group. -/
  | lgCmdForcedSwitch (p : PlaneNo) (g : Fin 48)
  /-- LG_CMD_MANUAL_P (R236): EXT_CMD 3 sets a manual switch to P on a line group. -/
  | lgCmdManualP (p : PlaneNo) (g : Fin 48)
  /-- LG_CMD_EXERCISE (R236): EXT_CMD 4 sets exercise on a line group. -/
  | lgCmdExercise (p : PlaneNo) (g : Fin 48)
  /-- LG_CMD_MANUAL_W (R236): EXT_CMD 5 sets a manual switch to W on a line group. -/
  | lgCmdManualW (p : PlaneNo) (g : Fin 48)
  /-- MG_CMD_CLEAR (R258): EXT_CMD 0 clears a merge group's local request and queues MERGE_CMD. -/
  | mgCmdClear (p : PlaneNo) (g : Fin 256)
  /-- MG_CMD_LOCKOUT (R258): EXT_CMD 1 sets lockout on a merge group and queues MERGE_CMD. -/
  | mgCmdLockout (p : PlaneNo) (g : Fin 256)
  /-- MG_CMD_FORCED (R258): EXT_CMD 2 sets a forced switch on a merge group and queues MERGE_CMD. -/
  | mgCmdForced (p : PlaneNo) (g : Fin 256)
  /-- MG_CMD_MANUAL_P (R258): EXT_CMD 3 sets a manual request to P on a merge group and queues MERGE_CMD. -/
  | mgCmdManualP (p : PlaneNo) (g : Fin 256)
  /-- MG_CMD_MANUAL_W (R258): EXT_CMD 4 sets a manual request to W on a merge group and queues MERGE_CMD. -/
  | mgCmdManualW (p : PlaneNo) (g : Fin 256)
  /-- MG_CMD_REANCHOR (R255): EXT_CMD 5 re-anchors a merge group with a copy out of window, or is ignored. -/
  | mgCmdReanchor (p : PlaneNo) (g : Fin 256)
  /-- PRT_REC_DATA_ACCESS (R259): An access to PRT_REC_DATA reads or writes the record word at ADDR and auto-increments. -/
  | prtRecDataAccess (x : RegAccess)
  /-- PROT_HOLDOFF_EXPIRY (R234): An SF or SD condition held for HOLDOFF becomes a request. -/
  | protHoldoffExpiry (p : PlaneNo) (g : Fin 48) (k : Fin 4)
  /-- WTR_EXPIRY (R235): Wait-to-restore expires and the selector returns to W. -/
  | wtrExpiry (p : PlaneNo) (g : Fin 48)
  /-- PARTNER_VIOLATION_DETECT (R241): A partner-violation condition is detected, an episode starts and a record is written. -/
  | partnerViolationDetect (x : PvGroup) (c : Fin 8)
  /-- PV_EPISODE_END (R241): A violation condition absent for 1 s ends its episode. -/
  | pvEpisodeEnd (x : PvGroup) (c : Fin 8)
  /-- MERGE_CMD_REQUEUE (R241): Every 1 s an unacknowledged merge command is queued again while the request stands. -/
  | mergeCmdRequeue (p : PlaneNo) (g : Fin 256)
  /-- MERGE_COPY_WRITE (R248): A copy writes a frame's slot words with its FSN, result and SF tag into the buffer. -/
  | mergeCopyWrite (n : LineNo) (t : Nat)
  /-- MERGE_OUTPUT_READ (R250): The output selects a copy for frame f and reads it. -/
  | mergeOutputRead (p : PlaneNo) (g : Fin 256) (r : MemRead)
  /-- MERGE_REF_MOVE (R251): REF's frame is 64 word periods overdue or its FAU leaves lock and REF moves to the other copy. -/
  | mergeRefMove (p : PlaneNo) (g : Fin 256) (overdue : Bool)
  /-- MERGE_UNANCHOR (R251): After DEPTH frame periods with no copy the group becomes unanchored. -/
  | mergeUnanchor (p : PlaneNo) (g : Fin 256)
  /-- MERGE_ANCHOR (R252): An unanchored group anchors once both copies have written or DEPTH frames have passed. -/
  | mergeAnchor (p : PlaneNo) (g : Fin 256)
  /-- MERGE_OUT_OF_WINDOW (R254): A copy unusable for 8 frames is out of window and OVER is set. -/
  | mergeOutOfWindow (p : PlaneNo) (g : Fin 256) (b : Bool)
  /-- MERGE_AUTO_REALIGN (R255): After REALIGN_S seconds out of window the group re-anchors. -/
  | mergeAutoRealign (p : PlaneNo) (g : Fin 256)
  /-- MERGE_IMMEDIATE_REANCHOR (R255): Neither copy usable for 2 frames while both are locked re-anchors the group at once. -/
  | mergeImmediateReanchor (p : PlaneNo) (g : Fin 256)
  /-- LINE_BLOCK_RELEASE (R266): A line receive queue releases a block when it holds 31 words or at its fourth FRAME boundary. -/
  | lineBlockRelease (n : LineNo)
  /-- LINE_PRESENT_MARKER (R265): A returned half's line delivers its first block and a LINE_PRESENT marker enters the stream. -/
  | linePresentMarker (n : LineNo)
  /-- SIGNATURE_MISSING (R270): A signature still missing 4 frames after the other counts as a mismatch. -/
  | signatureMissing (p : PlaneNo)
  /-- HEARTBEAT_WINDOW (R273): A 1.024 µs Gander window ends and each path's miss count is updated. -/
  | heartbeatWindow (a : Beat) (b : Beat)
  /-- HEARTBEAT_PATH_SILENT (R273): After HB_MISS misses a path becomes silent. -/
  | heartbeatPathSilent (k : Fin 4)
  /-- HEARTBEAT_PATH_LIVE (R273): After 8 windows with valid heartbeats a path becomes live. -/
  | heartbeatPathLive (k : Fin 4)
  /-- LEASE_RENEW (R274): A valid heartbeat of the holder on a live path renews the lease. -/
  | leaseRenew (k : Fin 4)
  /-- LEASE_GRANT (R275): 1 µs after expiry or feed loss the Gander grants the lease to an eligible plane. -/
  | leaseGrant (t : Nat)
  /-- TWN_LEASE_FORCE (R277): A completed guarded pair requests a planned transfer to TARGET or is refused. -/
  | twnLeaseForce (target : BitVec 2)
  /-- LINE_WORD_TX (R278): A line transmitter takes the word for the next LWN from the enabled plane and compares the other. -/
  | lineWordTx (n : LineNo) (a : Option (BitVec 64)) (b : Option (BitVec 64)) (starts : Bool)
  /-- HOLD_MAX_EXPIRY (R281): A hold longer than HOLD_MAX ends the repeat and starts the maintenance signal. -/
  | holdMaxExpiry (n : LineNo)
  /-- PLANE_INIT_COMPLETE (R284): A plane completes INIT and starts, joins a joint start or waits for re-synchronisation. -/
  | planeInitComplete (p : PlaneNo)
  /-- RESYNC_PASS_END (R286): A copy pass ends and the next pass copies the dirty granules. -/
  | resyncPassEnd (d : List (Fin 20992))
  /-- CAND_ACTIVITY_CHANGE (R296): A REFIN candidate gains or loses activity. -/
  | candActivityChange (c : Fin 8) (act : Bool)
  /-- FREQ_MONITOR_UPDATE (R300): Every 100 ms a candidate's offset is updated and compared with SOFT and HARD. -/
  | freqMonitorUpdate (c : Fin 24) (v : Int)
  /-- CAND_WTR_EXPIRY (R301): A candidate's wait-to-restore ends and it becomes QUAL. -/
  | candWtrExpiry (c : Fin 24)
  /-- CAND_HOLDOFF_EXPIRY (R302): SF persisting through hold-off makes the selected candidate DISQ. -/
  | candHoldoffExpiry (c : Fin 24)
  /-- QL_FW_WRITE (R298): Firmware writes a candidate's QL_FW from ESMC information. -/
  | qlFwWrite (c : Fin 24) (v : BitVec 4)
  /-- QL_FW_TIMEOUT (R298): 5 s without a QL_FW write fails the candidate's quality and sets QL_TMO. -/
  | qlFwTimeout (c : Fin 24)
  /-- REF_SWITCH_COMPLETE (R305): A reference switch completes with the loop closed and the output QL changed. -/
  | refSwitchComplete (d : Fin 8) (lost : Bool) (mean : Int)
  /-- PHASE_SAMPLE (R312): Each millisecond a DPLL delivers a phase error sample. -/
  | phaseSample (d : Fin 8) (v : Int) (dco : Int)
  /-- DPLL_LOCKED (R308): After 1 s of samples within ±100 ns the DPLL enters LOCKED. -/
  | dpllLocked (d : Fin 8)
  /-- HO_VALID_SET (R309): After HO_AVG + 1 s LOCKED, HO_VALID becomes 1. -/
  | hoValidSet (d : Fin 8)
  /-- DPLL_MODE_AUTO (R303): MODE 0 puts a DPLL in automatic selection. -/
  | dpllModeAuto (d : Fin 8)
  /-- DPLL_FORCED_HOLDOVER (R307): MODE 1 forces a DPLL into holdover. -/
  | dpllForcedHoldover (d : Fin 8)
  /-- DPLL_FORCED_FREE_RUN (R307): MODE 2 forces a DPLL into free-run. -/
  | dpllForcedFreeRun (d : Fin 8)
  /-- DPLL_SOFTWARE_MODE (R310): MODE 3 opens the loop into SOFTWARE or DCO mode. -/
  | dpllSoftwareMode (d : Fin 8)
  /-- DPLL_CMD_NONE (R303): CMD 0 removes a manual or forced selection command. -/
  | dpllCmdNone (d : Fin 8)
  /-- DPLL_CMD_MANUAL (R303): CMD 1 gives a manual selection command. -/
  | dpllCmdManual (d : Fin 8) (c : Fin 32)
  /-- DPLL_CMD_FORCED (R303): CMD 2 gives a forced selection command. -/
  | dpllCmdForced (d : Fin 8) (c : Fin 32)
  /-- FREQ_WORD_WRITE (R310): A FREQ_WORD write sets a software DCO frequency within 1 µs. -/
  | freqWordWrite (d : Fin 8) (v : Word)
  /-- DPLL_PPT (R311): A completed guarded pair sets PPT_ADJ of DPLL0 or DPLL1. -/
  | dpllPpt (d : Fin 2) (v : BitVec 30)
  /-- SW_TMO_EXPIRY (R312): No frequency write for SW_TMO ms holds the DPLL and sets SW_TMO_EV. -/
  | swTmoExpiry (d : Fin 8)
  /-- ESMC_PDU_SEND (R315): Once per second Berent sends an ESMC information PDU on Ethernet lines. -/
  | esmcPduSend (n : LineNo) (event : Bool)
  /-- CLKOUT_CFG_WRITE (R316): A clock output configuration change takes effect at its next falling edge. -/
  | clkoutCfgWrite (k : Fin 12) (r : ClkReg) (v : Word)
  /-- PPS_OUT_EDGE (R317): The time-keeper passes the second plus OFFSET_NS and PPS_OUT rises. -/
  | ppsOutEdge (k : Fin 2)
  /-- PPS_IN_EDGE (R318): A rising PPS_IN edge is stamped or ignored as a glitch. -/
  | ppsInEdge (k : Fin 2) (width since : Nat)
  /-- TOD_RX_GROUP (R319): A group of received TOD bytes ends and is sent as an event. -/
  | todRxGroup (bytes : List Byte) (sec : Nat) (ns : Nat)
  /-- SCC_RAW_SAMPLE (R326): A slot takes a raw sample at its raw tick. -/
  | sccRawSample (k : Fin 128) (v : Int)
  /-- SCC_MID_SAMPLE (R329): A decimated sample passes the DC block and FIR. -/
  | sccMidSample (k : Fin 128)
  /-- SCC_THRESHOLD_CROSS (R339): PERSIST samples beyond a threshold set or clear HI or LO. -/
  | sccThresholdCross (k : Fin 128)
  /-- SCC_THRESHOLD_WRITE (R339): A threshold register write takes effect and restarts persistence counts. -/
  | sccThresholdWrite (k : Fin 128) (r : Fin 3) (v : Word)
  /-- SCC_DLY_WRITE (R338): A SCC_SLOT_DLY write takes effect at the next output tick. -/
  | sccDlyWrite (k : Fin 128) (v : Word)
  /-- SCC_COEF_DATA_ACCESS (R333): A coefficient is read or written, or refused during a fade. -/
  | sccCoefDataAccess (a : RegAccess)
  /-- SCC_COEF_LOAD (R333): GO loads a library set into a bank or is refused. -/
  | sccCoefLoad (v : Word)
  /-- SCC_BANK_SWAP_REQUEST (R334): REQ requests a swap, starting or holding a fade. -/
  | sccBankSwapRequest (k : Fin 128) (v : Word)
  /-- SCC_FADE_END (R334): The last fade sample makes the target bank active. -/
  | sccFadeEnd (k : Fin 128)
  /-- SCC_SLOT_SYNC (R340): SYNC performs a synchronising reset of one slot. -/
  | sccSlotSync (k : Fin 128)
  /-- SCC_SLOT_EN_RISE (R340): A rise of a slot's EN starts a synchronising reset. -/
  | sccSlotEnRise (k : Fin 128)
  /-- SCC_SLOT_EN_FALL (R340): A fall of EN stops the slot at the next tick. -/
  | sccSlotEnFall (k : Fin 128)
  /-- SCC_SETTLE_END (R341): SETTLE_LEN samples after a reset the SETTLING flag ends. -/
  | sccSettleEnd (k : Fin 128)
  /-- DMA_START (R430): Writing START gives a software trigger. -/
  | dmaStart (by' : Agent) (c : Fin 16)
  /-- DMA_STOP (R429): Writing STOP halts the run at the next burst boundary with ERR 9. -/
  | dmaStop (by' : Agent) (c : Fin 16)
  /-- DMA_CHANNEL_ENABLE (R428): Setting EN arms a channel and resets EPTR. -/
  | dmaChannelEnable (by' : Agent) (c : Fin 16) (cfg : BitVec 32)
  /-- DMA_CHANNEL_DISABLE (R429): Clearing EN halts a run or discards a held trigger. -/
  | dmaChannelDisable (by' : Agent) (c : Fin 16) (cfg : BitVec 32)
  /-- DMA_TIMER_TICK (R431): A DMA timer ticks and triggers its channels. -/
  | dmaTimerTick (t : Fin 8)
  /-- DMA_BURST (R434): The arbiter chooses a channel and moves one burst. -/
  | dmaBurst (list : List (BitVec 128)) (x : DmaRead)
  /-- DMA_FENCE_COMPLETE (R433): A fence read-back returns and the descriptor is complete. -/
  | dmaFenceComplete (c : Fin 16)
  /-- DMA_RUN_END (R430): A run ends successfully, chains and starts a held trigger. -/
  | dmaRunEnd (c : Fin 16)
  /-- DMA_HPTR_WRITE (R432): A write to HPTR is applied or ignored with HPTR_EV. -/
  | dmaHptrWrite (by' : Agent) (c : Fin 16) (v : BitVec 32)
  /-- CVU_START (R436): START latches parameters and loads INIT. -/
  | cvuStart (by' : Agent) (k : Fin 16)
  /-- CVU_DATA32_WRITE (R437): A CVU_DATA32 write feeds 4 or 8 bytes. -/
  | cvuData32Write (by' : Agent) (k : Fin 16) (lo : BitVec 32) (hi : Option (BitVec 32))
  /-- CVU_DATA8_WRITE (R437): A CVU_DATA8 write feeds one byte. -/
  | cvuData8Write (by' : Agent) (k : Fin 16) (b : BitVec 8)
  /-- FAULT_EVENT (R442): A fault source's live bit rises, and the FCR records, escalates and reacts. -/
  | faultEvent (raised : List (Fin 608)) (ended : List (Fin 608))
  /-- PLANE_STOP_RELEASE (R450): With no Fatal class 4 source live, the stopped plane is block-reset. -/
  | planeStopRelease (p : PlaneNo)
  /-- FCR_CAUSE_CLEAR (R442): Writing 1 to a cause bit clears it, resetting escalation and releasing ERR_N. -/
  | fcrCauseClear (r : Fin 19) (v : Word)
  /-- FCR_RECORD_EMPTY (R452): Writing VALID empties the first-fault or worst-fault record. -/
  | fcrRecordEmpty (worst : Bool)
  /-- FCR_FW_RAISE (R456): Berent raises the epoch integrity source. -/
  | fcrFwRaise (by' : Agent) (v : Word)
  /-- FCR_INJ_UNLOCK (R457): A completed unlock pair in TESTMODE unlocks injection. -/
  | fcrInjUnlock (v : Word)
  /-- FCR_INJ_GO (R458): GO forces a source's live bit. -/
  | fcrInjGo (src : BitVec 10) (hold : Bool) (pulse : BitVec 16)
  /-- JTAG_SAMPLE_PRELOAD (R495): SAMPLE/PRELOAD captures and loads the boundary register. -/
  | jtagSamplePreload (pins : List Bool) (data : List Bool)
  /-- JTAG_BYPASS (R495): BYPASS or an unlisted code selects the bypass register. -/
  | jtagBypass (code : BitVec 8)
  /-- CHIP_RESET (R468): A chip reset starts and resets everything outside its kept scope. -/
  | chipReset
  /-- CHIP_RESET_RELEASE (R469): After 100 µs the chip reset releases and the device proceeds as a start after RESET_N release. -/
  | chipResetRelease
  /-- PERST_N_ASSERT (R468): PERST_N low resets the PCIe endpoint and halts DMA channels with ERR 7. -/
  | perstNAssert
  /-- PERST_N_RELEASE (R470): PERST_N release lets the endpoint become ready for configuration requests 100 ms later. -/
  | perstNRelease
  /-- D3HOT_ENTRY (R400): The function enters D3hot, memory decoding and bus mastering stop, and DMA channels halt at burst boundaries. -/
  | d3hotEntry
  /-- BUS_MASTER_DISABLE (R429): Clearing Bus Master Enable halts running DMA channels at their next burst boundary with ERR 7. -/
  | busMasterDisable
  /-- VAON_POWER_ON (R468): VAON reaches tolerance and the always-on domain leaves power-on reset with the time-keeper at 0. -/
  | vaonPowerOn
  /-- RESET_N_ASSERT (R467): RESET_N low resets everything outside the always-on domain, FORCE_PUSH included, and wakes a sleeping device. -/
  | resetNAssert
  /-- RESET_N_RELEASE (R467): RESET_N rises, and a start begins once a feed is reported good. -/
  | resetNRelease
  /-- CHIP_SLEEP_ENTRY_COMPLETE (R472): At the CK_AON edges the time-keeper moves to CK_AON and the core enables fall. -/
  | chipSleepEntryComplete
  /-- PUSH_GO (R356): A write of GO while PUSH_READY = 1 starts the one-time fetch of a pushed image. -/
  | pushGo
  /-- MGMT_WATCHDOG_LAPSE (R347): Berent fails to service the management watchdog within 100 ms and the fault source fires. -/
  | mgmtWatchdogLapse
  /-- MGMT_RESTART (R348): The MGMT_RESTART command is answered and a management restart follows within 1 ms. -/
  | mgmtRestart
  /-- MANAGEMENT_RESTART (R348): The Mule is reset and the boot ROM re-runs while every other block keeps running. -/
  | managementRestart
  /-- UNKNOWN_OPCODE (R382): A message whose opcode is not in Table 13.8 is answered UNKNOWN_OP. -/
  | unknownOpcode
  /-- PING (R391): The PING command echoes its payload. -/
  | ping
  /-- GET_STATUS (R391): The GET_STATUS command returns state, configuration, load and event sequence. -/
  | getStatus
  /-- EVQ_SET (R386): The EVQ_SET command names the host event queue and sets TCA forwarding. -/
  | evqSet
  /-- CONFIG_CONFIRM (R262): The CONFIG_CONFIRM command confirms the configuration taken or is refused. -/
  | configConfirm
  /-- ENTER_SERVICE (R364): The ENTER_SERVICE command moves Berent from CONFIGURED to IN_SERVICE or DEGRADED. -/
  | enterService
  /-- ENTER_MAINTENANCE (R364): The ENTER_MAINTENANCE command moves Berent into MAINTENANCE. -/
  | enterMaintenance
  /-- LEAVE_MAINTENANCE (R390): The LEAVE_MAINTENANCE command aborts pattern tests and returns to the previous state. -/
  | leaveMaintenance
  /-- OP_CANCEL (R390): The OP_CANCEL command ends the long operation in an entry, which is answered OP_ABORTED. -/
  | opCancel
  /-- LINE_CONFIG (R392): The LINE_CONFIG command sets a line's format and MXF FEC after its checks and the admission rule. -/
  | lineConfig
  /-- LINE_DOZE (R51): The LINE_DOZE command puts a line into doze, moves it between dozes or wakes it. -/
  | lineDoze
  /-- MODULE_ACCESS (R62): The MODULE_ACCESS command performs a host I2C or MDIO transaction on a module. -/
  | moduleAccess
  /-- THROUGH_CONFIG (R142): The THROUGH_CONFIG command creates or removes a Through pair. -/
  | throughConfig
  /-- PG_CREATE (R230): The PG_CREATE command creates an MSP or ODUk line protection group. -/
  | pgCreate
  /-- MG_CREATE (R243): The MG_CREATE command creates a merge group and allocates its buffers. -/
  | mgCreate
  /-- PG_REMOVE (R392): The PG_REMOVE command removes a line or merge group from the plane named. -/
  | pgRemove
  /-- LINE_TX_TIMING (R313): The LINE_TX_TIMING command sets the transmit timing source of a list of lines together. -/
  | lineTxTiming
  /-- TOD_CONFIG (R319): The TOD_CONFIG command sets the time-of-day UART baud and its output and events. -/
  | todConfig
  /-- PM_EXPORT_SET (R394): The PM_EXPORT_SET command names the host ring for PM history export. -/
  | pmExportSet
  /-- SCRUB (R36): The SCRUB command starts the background SRAM scrub of a plane as a long operation. -/
  | scrub
  /-- RESYNC (R285): The RESYNC command starts a plane re-synchronisation as a long operation. -/
  | resync
  /-- OTP_PROGRAM (R354): The OTP_PROGRAM command raises the fused SVN. -/
  | otpProgram
  /-- ATTEST (R362): The ATTEST command writes the device certificate or a signed quote into a host buffer. -/
  | attest
  /-- PRBS_TEST (R395): The PRBS_TEST command starts pattern generation and checking on a mask of lines. -/
  | prbsTest
  /-- TK_SECOND_ROLLOVER (R320): The time-keeper's seconds field rolls over. -/
  | tkSecondRollover
  /-- FRAME_MARKER (R265): Every 256 CK_TMG cycles a FRAME marker ends a sequencer frame. -/
  | frameMarker
  /-- SIGNATURE_COMPARE (R270): Both signatures of a frame have arrived and are compared. -/
  | signatureCompare
  /-- HOLDER_LOCAL_TIMER_EXPIRY (R274): The holder's local lease timer runs out and its output enable falls. -/
  | holderLocalTimerExpiry
  /-- LEASE_EXPIRY (R275): The Gander's lease expiry passes and the holder's lease ends. -/
  | leaseExpiry
  /-- FIRST_LEASE_TIMEOUT (R284): 1 ms after confirmation the only eligible plane receives the first lease. -/
  | firstLeaseTimeout
  /-- PLANNED_TRANSFER (R276): At the transfer frame every line takes words from the new holder. -/
  | plannedTransfer
  /-- REVERT (R290): After REVERT_WAIT the Gander makes a planned transfer to the preferred plane. -/
  | revert
  /-- AUTO_RESYNC_START (R285): With AUTO_RESYNC firmware starts a re-synchronisation when its conditions hold. -/
  | autoResyncStart
  /-- RESYNC_TIMEOUT (R288): 1 s after COPY began without IN_STEP the re-synchronisation fails. -/
  | resyncTimeout
  /-- TOD_ZDA_SEND (R319): 10 ms after PPS_OUT0 Berent sends a ZDA sentence. -/
  | todZdaSend
  /-- TK_CAPTURE (R321): Writing CAPTURE latches the time-keeper. -/
  | tkCapture
  /-- TK_STEP (R321): Writing STEP applies the signed step atomically and sets TSTEP_EV. -/
  | tkStep
  /-- SCC_OUTPUT_TICK (R342): At the output tick each slot writes its record. -/
  | sccOutputTick
  /-- SCC_SYNC_ALL (R340): SYNC_ALL resets every enabled slot and restarts the tick. -/
  | sccSyncAll
  /-- FCR_INJ_PULSE_END (R458): PULSE cycles end the injection. -/
  | fcrInjPulseEnd
  /-- FCR_INJ_STOP (R458): Clearing GO with HOLD ends the injection. -/
  | fcrInjStop
  /-- FCR_INJ_LOCK (R457): Writing LOCK ends the unlock. -/
  | fcrInjLock
  /-- JTAG_TAP_RESET (R495): The TAP resets and IDCODE is selected. -/
  | jtagTapReset
  /-- JTAG_EXTEST (R495): EXTEST drives the boundary register onto the pins. -/
  | jtagExtest
  /-- JTAG_IDCODE (R495): IDCODE selects the identification register. -/
  | jtagIdcode
  /-- JTAG_EXTEST_PULSE (R495): EXTEST_PULSE tests AC-coupled lanes with pulses. -/
  | jtagExtestPulse
  /-- JTAG_EXTEST_TRAIN (R495): EXTEST_TRAIN tests AC-coupled lanes with trains. -/
  | jtagExtestTrain
  /-- JTAG_HIGHZ (R495): HIGHZ puts outputs in high impedance. -/
  | jtagHighz
  /-- JTAG_CLAMP (R495): CLAMP holds outputs from the boundary register. -/
  | jtagClamp
  /-- XTAL32K_OK_RISE (R471): The 32.768 kHz crystal oscillator starts running, XTAL32K_OK rises and the time-keeper starts counting from 0. -/
  | xtal32kOkRise
  /-- PCIE_ENDPOINT_READY (R470): 100 ms after the later of the PERST_N release and the start that followed the first good feed, the endpoint starts accepting configuration requests. -/
  | pcieEndpointReady
  deriving DecidableEq, Repr

end Sys2Proof
end

