-- ==== Sys2Proof/Machine/Crc.lean ====
section
/-! DEFINITION. Check values: the bit-serial register of R437, which every CRC of the device follows with the
parameters of Table 15.6, and the bit-interleaved parity of R100. -/

namespace Sys2Proof.Machine

/-- One bit `x` into a check register of `w` bits with polynomial `poly` (R437). -/
def crcBit (w poly reg : Nat) (x : Bool) : Nat :=
  let top := reg.testBit (w - 1)
  let sh := (reg * 2) % 2 ^ w
  if top != x then sh ^^^ (poly % 2 ^ w) else sh

/-- One byte into a check register, least significant bit first where `refin` (R437). -/
def crcByte (w poly : Nat) (refin : Bool) (reg : Nat) (b : Byte) : Nat :=
  (List.range 8).foldl (fun r i => crcBit w poly r (b.toNat.testBit (if refin then i else 7 - i))) reg

/-- The register after a byte string. -/
def crcBytes (w poly : Nat) (refin : Bool) (reg : Nat) (bs : List Byte) : Nat :=
  bs.foldl (crcByte w poly refin) reg

/-- The value of RES (R437): reflected where `refout`, with the final XOR. -/
def crcResult (w : Nat) (refout : Bool) (xorout reg : Nat) : Nat :=
  ((if refout then reflect w reg else reg) ^^^ xorout) % 2 ^ w

/-- The mailbox CRC-32C (R372, Table 15.6). -/
def crc32c (bs : List Byte) : Nat :=
  crcResult 32 true 0xFFFFFFFF (crcBytes 32 0x1EDC6F41 true 0xFFFFFFFF bs)

/-- The bytes of a 64-bit word in transmission order, bits [63:56] first (R90, R100). -/
def wordBytes (w : Word64) : List Byte := beBytes 8 w.toNat

/-- PCRC over payload words (R100): CRC-32C polynomial, most significant bit first, no reflection. -/
def pcrcOf (ws : List Word64) : Nat :=
  crcResult 32 false 0xFFFFFFFF (crcBytes 32 0x1EDC6F41 false 0xFFFFFFFF (ws.flatMap wordBytes))

/-- OHCRC over word 0 bits [15:0] and words 1 to 7 with the OHCRC field as zero (R99). -/
def ohcrcOf (ws : List Word64) : Nat :=
  let w0 := (ws.getD 0 0).toNat % 2 ^ 16
  let mid := (ws.drop 1).take 6
  let w7 := (ws.getD 7 0).toNat / 2 ^ 16
  crcBytes 16 0x1021 false 0xFFFF (beBytes 2 w0 ++ mid.flatMap wordBytes ++ beBytes 8 (w7 * 2 ^ 16))

/-- BIP8: bit i is even parity over bit i of every byte (R100). -/
def bip8Of (ws : List Word64) : Nat := (ws.flatMap wordBytes).foldl (fun a b => a ^^^ b.toNat) 0

/-- The Mehrax GMP control word check (R166, Table 15.6). -/
def crc8Of (bs : List Byte) : Nat := crcBytes 8 0x07 false 0 bs

/-- The Twin signature register over bytes (R269, Table 15.6). -/
def crc64Of (bs : List Byte) : Nat :=
  crcResult 64 false (2 ^ 64 - 1) (crcBytes 64 0x42F0E1EBA9EA3693 false (2 ^ 64 - 1) bs)

end Sys2Proof.Machine
end

