-- ==== Sys2Proof/Config.lean ====
section
/-! DEFINITION. The values the manual leaves open, as constants with no body: nothing in Lean can evaluate one or
prove a value of it, so a claim about the model holds whatever they are. -/

namespace Sys2Proof.Config

/-- A value the manual does not fix, one for each count of State.fresh (log entry 3). -/
opaque freeValue : Nat → Nat

/-- SHA3-512 over a byte string; FIPS 202 is outside the manual (R351, R359, R362). -/
opaque sha3_512 : List Byte → List Byte

/-- ML-DSA-87 verification of a signature by a public key over a digest; FIPS 204 is outside the manual (R352). -/
opaque mlDsaVerify : List Byte → List Byte → List Byte → Bool

/-- The ML-DSA-87 signature the device key makes over a digest (R360, R362). -/
opaque deviceSignature : List Byte → List Byte

/-- The device certificate of a device (R361), by its serial number. -/
opaque deviceCertificate : List Byte → List Byte

/-- Tap `k` of library set `set` of Table 11.3 for the sets whose coefficients the manual does not list. -/
opaque firLibrary : Nat → Nat → Int

/-- What the 8 taps of phase `p` of the polyphase resampler give for 8 samples, the newest first; the manual does not list
the taps (R337). -/
opaque polyphase : Nat → List Int → Int

/-- Whether the quotient of two integers that is not an integer is rounded up, where the manual names no rounding
(R332, R334), and for a tie where it names the nearest (R331, R333, R337). -/
opaque roundUp : Int → Int → Bool

/-- The level of GPIO ball `b` while the device does not drive it, for each count of State.fresh (R498). -/
opaque gpioLevel : Nat → Nat → Bool

/-- The ROM identifier that MEAS0 covers (R359). -/
opaque romId : Nat

end Sys2Proof.Config
end

