-- ==== Sys2Proof/Machine/FcrTable.lean ====
section
/-! DEFINITION. The fault source map of Table 16.1 (R441): class, type, plane attribution, default severity,
default reactions and the block a block reset acts on, for each of the 608 sources. -/

namespace Sys2Proof.Machine

/-- What a block reset acts on (Table 16.1, R449). -/
inductive BlockId where
  | line (n : Nat)
  | plane (p : Nat)
  | slot (s : Nat)
  | dmaChannel (c : Nat)
  | management
  deriving DecidableEq, Repr

/-- One source of Table 16.1. -/
structure SrcInfo where
  cls : Nat
  typeE : Bool
  pa : Bool
  sev : Nat
  int : Bool
  nmi : Bool
  errn : Bool
  block : Option BlockId
  deriving DecidableEq, Repr

/-- Table 16.1: the sources of plane p, by their number less 32 + 32p. -/
def planeSrcInfo (p k : Nat) : Option SrcInfo :=
  match k with
  | 0 => some ⟨4, false, true, 4, true, true, false, some (.plane p)⟩
  | 1 => some ⟨4, true, true, 2, true, false, false, some (.plane p)⟩
  | 2 => some ⟨5, true, false, 0, false, false, false, some (.plane p)⟩
  | 3 => some ⟨4, false, true, 2, true, true, false, some (.plane p)⟩
  | 4 => some ⟨6, true, false, 3, true, true, false, some (.plane p)⟩
  | 5 => some ⟨4, true, true, 3, true, false, false, some (.plane p)⟩
  | 6 => some ⟨7, false, false, 2, true, false, false, none⟩
  | 7 => some ⟨8, false, false, 2, true, false, false, none⟩
  | 8 => some ⟨8, false, false, 2, true, false, false, none⟩
  | 9 => some ⟨4, false, true, 3, true, true, false, some (.plane p)⟩
  | _ => none

/-- Table 16.1: the sources of line n, by their number less 96 + 4n. -/
def lineSrcInfo (n k : Nat) : Option SrcInfo :=
  match k with
  | 0 => some ⟨9, false, false, 2, true, false, false, some (.line n)⟩
  | 1 => some ⟨10, false, false, 1, true, false, false, none⟩
  | 2 => some ⟨11, true, false, 2, true, false, false, some (.line n)⟩
  | 3 => some ⟨12, true, false, 1, true, false, false, none⟩
  | _ => none

/-- Table 16.1: the sources below 32. -/
def spineSrcInfo (s : Nat) : Option SrcInfo :=
  match s with
  | 0 | 1 | 2 | 3 => some ⟨0, false, false, 3, true, false, true, none⟩
  | 4 => some ⟨0, false, false, 1, true, false, false, none⟩
  | 5 => some ⟨1, true, false, 3, true, false, true, some .management⟩
  | 6 => some ⟨1, true, false, 3, true, true, false, some .management⟩
  | 7 => some ⟨1, true, false, 0, false, false, false, none⟩
  | 8 => some ⟨1, false, false, 4, true, false, true, none⟩
  | 9 | 10 => some ⟨2, false, false, 3, true, true, false, none⟩
  | 11 => some ⟨2, false, false, 3, true, false, true, none⟩
  | 12 => some ⟨3, false, false, 3, true, true, false, none⟩
  | _ => none

/-- Table 16.1: the sources from 576 up. -/
def highSrcInfo (s : Nat) : Option SrcInfo :=
  if s = 576 then some ⟨16, true, false, 3, true, false, false, none⟩
  else if 577 ≤ s ∧ s ≤ 580 then some ⟨17, false, false, 2, true, false, false, none⟩
  else if s = 581 then some ⟨16, true, false, 3, true, true, false, none⟩
  else if s = 582 then some ⟨16, true, false, 2, true, false, false, none⟩
  else if s = 583 then some ⟨16, false, false, 4, true, true, true, none⟩
  else if 584 ≤ s ∧ s ≤ 599 then some ⟨18, true, false, 1, true, false, false, some (.dmaChannel (s - 584))⟩
  else if s = 600 then some ⟨19, false, false, 2, false, true, false, none⟩
  else if s = 601 ∨ s = 602 then some ⟨19, true, false, 1, true, false, false, none⟩
  else if s = 603 then some ⟨19, true, false, 2, true, true, false, none⟩
  else none

/-- Table 16.1: what source `s` is; none for a reserved number. -/
def srcInfo (s : Nat) : Option SrcInfo :=
  if s < 32 then spineSrcInfo s
  else if s < 96 then planeSrcInfo ((s - 32) / 32) ((s - 32) % 32)
  else if s < 480 then lineSrcInfo ((s - 96) / 4) ((s - 96) % 4)
  else if s < 544 then some ⟨13, false, false, 1, true, false, false, some (.slot (64 + (s - 480)))⟩
  else if s < 552 then some ⟨14, false, false, 1, true, false, false, none⟩
  else if s < 576 then some ⟨15, false, false, 0, false, false, false, none⟩
  else highSrcInfo s

/-- The reset value of FCR_SRC_CFG of source `s`: the defaults of Table 16.1 with EN = 1; a reserved number
reads zero (R441). -/
def srcCfgReset (s : Nat) : Nat :=
  match srcInfo s with
  | none => 0
  | some i => i.sev + 8 + 16 * b2n i.int + 32 * b2n i.nmi + 256 * b2n i.errn + 2 ^ 16 * i.cls + 2 ^ 21 * b2n i.pa
      + 2 ^ 22 * b2n i.typeE

/-- The bits of FCR_SRC_CFG of source `s` that software may write: none for a reserved number, BRST only where
Table 16.1 names a block (R444). -/
def srcCfgRw (s : Nat) : Nat :=
  match srcInfo s with
  | none => 0
  | some i => 0x1BF + 0x40 * b2n i.block.isSome

end Sys2Proof.Machine
end

