-- ==== Sys2Proof/Machine/RegRow.lean ====
section
/-! DEFINITION. The shapes of the register map: a reference to a field of a register, and a row that describes
one register, or a row of equally spaced ones, by its access codes (R12) and its reset value. -/

namespace Sys2Proof.Machine

/-- A field of a register: its BAR0 offset, lowest bit and width. -/
structure FRef where
  addr : Nat
  lo : Nat
  len : Nat
  deriving DecidableEq, Repr

/-- One row of the register map: `cnt` registers from block offset `off`, `step` bytes apart. `rw` are the bits
software may write, `w1c` the bits a written 1 clears, `wm` marks a write-masked register (R408), `gd` a guarded
one (R409), `reset` the value at reset. -/
structure RegRow where
  off : Nat
  cnt : Nat
  step : Nat
  rw : Nat
  w1c : Nat
  wm : Bool
  gd : Bool
  reset : Nat
  deriving DecidableEq, Repr

/-- The row lists the register at block offset `o`. -/
def RegRow.has (r : RegRow) (o : Nat) : Bool :=
  decide (r.off ≤ o) && ((o - r.off) % r.step == 0) && decide ((o - r.off) / r.step < r.cnt)

end Sys2Proof.Machine
end

