-- ==== Sys2Proof/Machine/RegMap.lean ====
section
/-! DEFINITION. The register map of BAR0: the offset of every register, the place of every field, and per block
the rows that say which bits software may write, which bits are W1C, which registers are WM or GD, and what each
register holds at reset. Written from the register tables and list tables of spec/01 to spec/18. -/

namespace Sys2Proof.Machine

namespace Reg

/-- GLB_CLK_STATUS: spec/01_architecture.md. -/
def GLB_CLK_STATUS : Nat := 0x100
/-- PIN_MOD_DESC: spec/02_line_ports.md. -/
def PIN_MOD_DESC (m : Nat) : Nat := 0xC01000 + m * 0x4
/-- PIN_MOD_STATUS: spec/02_line_ports.md. -/
def PIN_MOD_STATUS (m : Nat) : Nat := 0xC01200 + m * 0x4
/-- PIN_MOD_CAUSE: spec/02_line_ports.md. -/
def PIN_MOD_CAUSE (m : Nat) : Nat := 0xC01400 + m * 0x4
/-- LCH_LINE_CFG: spec/02_line_ports.md. -/
def LCH_LINE_CFG (n : Nat) : Nat := 0x100000 + n * 0x8000
/-- LCH_LINE_STATUS: spec/02_line_ports.md. -/
def LCH_LINE_STATUS (n : Nat) : Nat := 0x100004 + n * 0x8000
/-- LCH_RX_EQ_CFG: spec/02_line_ports.md. -/
def LCH_RX_EQ_CFG (n : Nat) : Nat := 0x100400 + n * 0x8000
/-- LCH_RX_EQ_STATUS: spec/02_line_ports.md. -/
def LCH_RX_EQ_STATUS (n : Nat) : Nat := 0x100404 + n * 0x8000
/-- LCH_TX_DRV_CFG: spec/02_line_ports.md. -/
def LCH_TX_DRV_CFG (n : Nat) : Nat := 0x100800 + n * 0x8000
/-- LCH_FAU_HUNT_CFG: spec/03_frame_acquisition.md. -/
def LCH_FAU_HUNT_CFG (n : Nat) : Nat := 0x101000 + n * 0x8000
/-- LCH_FAU_FEC_CFG: spec/03_frame_acquisition.md. -/
def LCH_FAU_FEC_CFG (n : Nat) : Nat := 0x101004 + n * 0x8000
/-- LCH_FAU_STATUS: spec/03_frame_acquisition.md. -/
def LCH_FAU_STATUS (n : Nat) : Nat := 0x101008 + n * 0x8000
/-- LCH_MXF_CFG: spec/04_mehrax_frame.md. -/
def LCH_MXF_CFG (n : Nat) : Nat := 0x101010 + n * 0x8000
/-- LCH_MXF_STATUS: spec/04_mehrax_frame.md. -/
def LCH_MXF_STATUS (n : Nat) : Nat := 0x101014 + n * 0x8000
/-- LCH_OHP_RX_CFG: spec/05_overhead.md. -/
def LCH_OHP_RX_CFG (n : Nat) : Nat := 0x102000 + n * 0x8000
/-- LCH_OHP_RX_STATUS: spec/05_overhead.md. -/
def LCH_OHP_RX_STATUS (n : Nat) : Nat := 0x102004 + n * 0x8000
/-- LCH_OHP_RX_SNAP: spec/05_overhead.md. -/
def LCH_OHP_RX_SNAP (n : Nat) : Nat := 0x102008 + n * 0x8000
/-- LCH_OHP_RX_TRACE_STATUS: spec/05_overhead.md. -/
def LCH_OHP_RX_TRACE_STATUS (n : Nat) : Nat := 0x10200C + n * 0x8000
/-- LCH_OHP_TIM_CFG: spec/05_overhead.md. -/
def LCH_OHP_TIM_CFG (n : Nat) : Nat := 0x102010 + n * 0x8000
/-- LCH_OHP_TCM_CFG: spec/05_overhead.md. -/
def LCH_OHP_TCM_CFG (n : Nat) : Nat := 0x102014 + n * 0x8000
/-- LCH_OHP_TX_CFG: spec/05_overhead.md. -/
def LCH_OHP_TX_CFG (n : Nat) : Nat := 0x103000 + n * 0x8000
/-- LCH_OHP_TX_TRACE_CTL: spec/05_overhead.md. -/
def LCH_OHP_TX_TRACE_CTL (n : Nat) : Nat := 0x103004 + n * 0x8000
/-- LCH_OHP_THRU_CFG: spec/05_overhead.md. -/
def LCH_OHP_THRU_CFG (n : Nat) : Nat := 0x103010 + n * 0x8000
/-- LCH_OHP_THRU_STATUS: spec/05_overhead.md. -/
def LCH_OHP_THRU_STATUS (n : Nat) : Nat := 0x103014 + n * 0x8000
/-- MAP_TBL_ADDR: spec/06_mapping_and_flows.md. -/
def MAP_TBL_ADDR : Nat := 0x400000
/-- MAP_TBL_DATA: spec/06_mapping_and_flows.md. -/
def MAP_TBL_DATA : Nat := 0x400004
/-- MAP_EPOCH_STATUS: spec/06_mapping_and_flows.md. -/
def MAP_EPOCH_STATUS (p : Nat) : Nat := 0x400100 + p * 0x100
/-- MAP_EPOCH_COMMIT: spec/06_mapping_and_flows.md. -/
def MAP_EPOCH_COMMIT (p : Nat) : Nat := 0x400108 + p * 0x100
/-- MAP_EPOCH_FORCED: spec/06_mapping_and_flows.md. -/
def MAP_EPOCH_FORCED (p : Nat) (k : Nat) : Nat := 0x400110 + p * 0x100 + k * 0x4
/-- MAP_EPOCH_CRC: spec/06_mapping_and_flows.md. -/
def MAP_EPOCH_CRC (p : Nat) : Nat := 0x400120 + p * 0x100
/-- MAP_EPOCH_PROG: spec/06_mapping_and_flows.md. -/
def MAP_EPOCH_PROG (p : Nat) : Nat := 0x400124 + p * 0x100
/-- MAP_EPOCH_FAIL: spec/06_mapping_and_flows.md. -/
def MAP_EPOCH_FAIL (p : Nat) : Nat := 0x400128 + p * 0x100
/-- LCH_DPM_CFG: spec/07_defects_and_performance.md. -/
def LCH_DPM_CFG (n : Nat) : Nat := 0x105000 + n * 0x8000
/-- LCH_DPM_DEF: spec/07_defects_and_performance.md. -/
def LCH_DPM_DEF (n : Nat) : Nat := 0x105004 + n * 0x8000
/-- LCH_DPM_FAIL: spec/07_defects_and_performance.md. -/
def LCH_DPM_FAIL (n : Nat) : Nat := 0x105008 + n * 0x8000
/-- LCH_DPM_DEF_EV: spec/07_defects_and_performance.md. -/
def LCH_DPM_DEF_EV (n : Nat) : Nat := 0x10500C + n * 0x8000
/-- LCH_DPM_TCM_DEF: spec/07_defects_and_performance.md. -/
def LCH_DPM_TCM_DEF (n : Nat) : Nat := 0x105010 + n * 0x8000
/-- DPM_PM_CFG: spec/07_defects_and_performance.md. -/
def DPM_PM_CFG (p : Nat) : Nat := 0x900000 + p * 0x100
/-- DPM_PM_SEQ: spec/07_defects_and_performance.md. -/
def DPM_PM_SEQ (p : Nat) : Nat := 0x900004 + p * 0x100
/-- DPM_PM_STATUS: spec/07_defects_and_performance.md. -/
def DPM_PM_STATUS (p : Nat) : Nat := 0x900008 + p * 0x100
/-- DPM_TCA_WR: spec/07_defects_and_performance.md. -/
def DPM_TCA_WR (p : Nat) : Nat := 0x90000C + p * 0x100
/-- DPM_TCA_RD: spec/07_defects_and_performance.md. -/
def DPM_TCA_RD (p : Nat) : Nat := 0x900010 + p * 0x100
/-- DPM_FLOW_SUM0: spec/07_defects_and_performance.md. -/
def DPM_FLOW_SUM0 (p : Nat) : Nat := 0x900014 + p * 0x100
/-- DPM_FLOW_SUM1: spec/07_defects_and_performance.md. -/
def DPM_FLOW_SUM1 (p : Nat) : Nat := 0x900018 + p * 0x100
/-- PRT_REC_ADDR: spec/08_protection.md. -/
def PRT_REC_ADDR : Nat := 0x800000
/-- PRT_REC_DATA: spec/08_protection.md. -/
def PRT_REC_DATA : Nat := 0x800004
/-- PRT_STATUS: spec/08_protection.md. -/
def PRT_STATUS (p : Nat) : Nat := 0x800100 + p * 0x100
/-- PRT_PV_WR: spec/08_protection.md. -/
def PRT_PV_WR (p : Nat) : Nat := 0x800104 + p * 0x100
/-- PRT_PV_RD: spec/08_protection.md. -/
def PRT_PV_RD (p : Nat) : Nat := 0x800108 + p * 0x100
/-- TWN_STATUS: spec/09_twin_halves.md. -/
def TWN_STATUS : Nat := 0x20000
/-- TWN_CONFIRM: spec/09_twin_halves.md. -/
def TWN_CONFIRM : Nat := 0x20008
/-- TWN_LEASE_CFG: spec/09_twin_halves.md. -/
def TWN_LEASE_CFG : Nat := 0x20010
/-- TWN_HOLD_MAX: spec/09_twin_halves.md. -/
def TWN_HOLD_MAX : Nat := 0x20014
/-- TWN_LEASE_FORCE: spec/09_twin_halves.md. -/
def TWN_LEASE_FORCE : Nat := 0x20018
/-- TWN_HB_STATUS: spec/09_twin_halves.md. -/
def TWN_HB_STATUS : Nat := 0x20020
/-- TWN_SQF_LO: spec/09_twin_halves.md. -/
def TWN_SQF_LO : Nat := 0x20028
/-- TWN_SQF_HI: spec/09_twin_halves.md. -/
def TWN_SQF_HI : Nat := 0x2002C
/-- TWN_MISMATCH_CNT: spec/09_twin_halves.md. -/
def TWN_MISMATCH_CNT : Nat := 0x20030
/-- TWN_MISMATCH_LAST: spec/09_twin_halves.md. -/
def TWN_MISMATCH_LAST : Nat := 0x20034
/-- TWN_GAP: spec/09_twin_halves.md. -/
def TWN_GAP : Nat := 0x20038
/-- TWN_HANDOVER_CNT: spec/09_twin_halves.md. -/
def TWN_HANDOVER_CNT : Nat := 0x2003C
/-- TWN_RESYNC_PROG: spec/09_twin_halves.md. -/
def TWN_RESYNC_PROG : Nat := 0x20040
/-- LCH_FRB_STATUS: spec/09_twin_halves.md. -/
def LCH_FRB_STATUS (n : Nat) : Nat := 0x104000 + n * 0x8000
/-- LCH_FRB_HOLD_CNT: spec/09_twin_halves.md. -/
def LCH_FRB_HOLD_CNT (n : Nat) : Nat := 0x104004 + n * 0x8000
/-- LCH_FRB_CMP_ERR: spec/09_twin_halves.md. -/
def LCH_FRB_CMP_ERR (n : Nat) : Nat := 0x104008 + n * 0x8000
/-- TMG_GLB_CFG: spec/10_timing.md. -/
def TMG_GLB_CFG : Nat := 0x60000
/-- AON_TK_CTL: spec/10_timing.md. -/
def AON_TK_CTL : Nat := 0x80000
/-- AON_TK_CAP_NS: spec/10_timing.md. -/
def AON_TK_CAP_NS : Nat := 0x80004
/-- AON_TK_CAP_S_LO: spec/10_timing.md. -/
def AON_TK_CAP_S_LO : Nat := 0x80008
/-- AON_TK_CAP_S_HI: spec/10_timing.md. -/
def AON_TK_CAP_S_HI : Nat := 0x8000C
/-- AON_TK_STEP_S: spec/10_timing.md. -/
def AON_TK_STEP_S : Nat := 0x80010
/-- AON_TK_STEP_NS: spec/10_timing.md. -/
def AON_TK_STEP_NS : Nat := 0x80014
/-- SCC_GLB_CFG: spec/11_sample_chain.md. -/
def SCC_GLB_CFG : Nat := 0x70000
/-- SCC_GLB_CTL: spec/11_sample_chain.md. -/
def SCC_GLB_CTL : Nat := 0x70004
/-- SCC_TICK: spec/11_sample_chain.md. -/
def SCC_TICK : Nat := 0x70008
/-- SCC_OUT_HZ_ACT: spec/11_sample_chain.md. -/
def SCC_OUT_HZ_ACT : Nat := 0x7000C
/-- SCC_COEF_ADDR: spec/11_sample_chain.md. -/
def SCC_COEF_ADDR : Nat := 0x70010
/-- SCC_COEF_DATA: spec/11_sample_chain.md. -/
def SCC_COEF_DATA : Nat := 0x70014
/-- SCC_COEF_LOAD: spec/11_sample_chain.md. -/
def SCC_COEF_LOAD : Nat := 0x70018
/-- MGMT_BOOT_STATUS: spec/12_boot_and_firmware.md. -/
def MGMT_BOOT_STATUS : Nat := 0x90000
/-- MGMT_FW_STATE: spec/12_boot_and_firmware.md. -/
def MGMT_FW_STATE : Nat := 0x90004
/-- MGMT_BOOT_CTL: spec/12_boot_and_firmware.md. -/
def MGMT_BOOT_CTL : Nat := 0x90020
/-- MGMT_LOAD: spec/12_boot_and_firmware.md. -/
def MGMT_LOAD : Nat := 0x90030
/-- MGMT_BUSY_CFG: spec/12_boot_and_firmware.md. -/
def MGMT_BUSY_CFG : Nat := 0x90034
/-- MGMT_FWLOAD_PROG: spec/12_boot_and_firmware.md. -/
def MGMT_FWLOAD_PROG : Nat := 0x90040
/-- LCH_PRBS_CFG: spec/13_mailbox.md. -/
def LCH_PRBS_CFG (n : Nat) : Nat := 0x100C00 + n * 0x8000
/-- LCH_PRBS_STATUS: spec/13_mailbox.md. -/
def LCH_PRBS_STATUS (n : Nat) : Nat := 0x100C04 + n * 0x8000
/-- GLB_ID: spec/14_host_access.md. -/
def GLB_ID : Nat := 0x0
/-- GLB_STRAP: spec/14_host_access.md. -/
def GLB_STRAP : Nat := 0x8
/-- GLB_SERIAL: spec/14_host_access.md. -/
def GLB_SERIAL (k : Nat) : Nat := 0x10 + k * 0x4
/-- GLB_CHIP_RESET: spec/14_host_access.md. -/
def GLB_CHIP_RESET : Nat := 0x40
/-- GLB_OTP_PROG: spec/14_host_access.md. -/
def GLB_OTP_PROG : Nat := 0x48
/-- GLB_GUARD_STATUS: spec/14_host_access.md. -/
def GLB_GUARD_STATUS : Nat := 0x80
/-- GLB_GUARD_LAST: spec/14_host_access.md. -/
def GLB_GUARD_LAST : Nat := 0x84
/-- GLB_ACC_STATUS: spec/14_host_access.md. -/
def GLB_ACC_STATUS : Nat := 0x88
/-- GLB_ACC_LAST: spec/14_host_access.md. -/
def GLB_ACC_LAST : Nat := 0x8C
/-- GLB_IRQ_EN: spec/14_host_access.md. -/
def GLB_IRQ_EN (k : Nat) : Nat := 0x200 + k * 0x4
/-- GLB_IRQ_STAT_LO: spec/14_host_access.md. -/
def GLB_IRQ_STAT_LO : Nat := 0x210
/-- GLB_IRQ_STAT_HI: spec/14_host_access.md. -/
def GLB_IRQ_STAT_HI : Nat := 0x214
/-- GLB_IRQ_REARM: spec/14_host_access.md. -/
def GLB_IRQ_REARM : Nat := 0x218
/-- GLB_INTN_EN: spec/14_host_access.md. -/
def GLB_INTN_EN (k : Nat) : Nat := 0x220 + k * 0x4
/-- GLB_LINE_SUM: spec/14_host_access.md. -/
def GLB_LINE_SUM (k : Nat) : Nat := 0x230 + k * 0x4
/-- DMA_GLB_STATUS: spec/15_dma_and_check_units.md. -/
def DMA_GLB_STATUS : Nat := 0x40000
/-- DMA_TMR_CFG: spec/15_dma_and_check_units.md. -/
def DMA_TMR_CFG (k : Nat) : Nat := 0x40100 + k * 0x8
/-- FCR_FF_SRC: spec/16_faults.md. -/
def FCR_FF_SRC : Nat := 0x10000
/-- FCR_WORST_SRC: spec/16_faults.md. -/
def FCR_WORST_SRC : Nat := 0x10010
/-- FCR_FF_TK_NS: spec/16_faults.md. -/
def FCR_FF_TK_NS : Nat := 0x10004
/-- FCR_FF_TK_S: spec/16_faults.md. -/
def FCR_FF_TK_S : Nat := 0x10008
/-- FCR_WORST_TK_NS: spec/16_faults.md. -/
def FCR_WORST_TK_NS : Nat := 0x10014
/-- FCR_WORST_TK_S: spec/16_faults.md. -/
def FCR_WORST_TK_S : Nat := 0x10018
/-- FCR_STATUS: spec/16_faults.md. -/
def FCR_STATUS : Nat := 0x10020
/-- FCR_EVENT_CNT: spec/16_faults.md. -/
def FCR_EVENT_CNT : Nat := 0x10024
/-- FCR_CRST_SRC: spec/16_faults.md. -/
def FCR_CRST_SRC : Nat := 0x10028
/-- FCR_SEV_REACT: spec/16_faults.md. -/
def FCR_SEV_REACT (k : Nat) : Nat := 0x10040 + k * 0x4
/-- FCR_ESC_DIS: spec/16_faults.md. -/
def FCR_ESC_DIS : Nat := 0x10060
/-- FCR_CLASS_UNACK: spec/16_faults.md. -/
def FCR_CLASS_UNACK : Nat := 0x10064
/-- FCR_CLASS_E: spec/16_faults.md. -/
def FCR_CLASS_E (k : Nat) : Nat := 0x10068 + k * 0x4
/-- FCR_FW_RAISE: spec/16_faults.md. -/
def FCR_FW_RAISE : Nat := 0x10070
/-- FCR_INJ_UNLOCK: spec/16_faults.md. -/
def FCR_INJ_UNLOCK : Nat := 0x10300
/-- FCR_INJ_CTL: spec/16_faults.md. -/
def FCR_INJ_CTL : Nat := 0x10308
/-- FCR_SRC_CFG: spec/16_faults.md. -/
def FCR_SRC_CFG (s : Nat) : Nat := 0x11000 + s * 0x4
/-- GLB_CLK_CFG: spec/17_power_reset_sleep.md. -/
def GLB_CLK_CFG : Nat := 0x104
/-- PIN_PAD_SLEW: spec/17_power_reset_sleep.md. -/
def PIN_PAD_SLEW : Nat := 0xC00F00
/-- AON_FEED_STATUS: spec/17_power_reset_sleep.md. -/
def AON_FEED_STATUS : Nat := 0x80040
/-- AON_WAKE_CFG: spec/17_power_reset_sleep.md. -/
def AON_WAKE_CFG : Nat := 0x80044
/-- AON_WAKE_STATUS: spec/17_power_reset_sleep.md. -/
def AON_WAKE_STATUS : Nat := 0x80048
/-- AON_SLEEP_CTL: spec/17_power_reset_sleep.md. -/
def AON_SLEEP_CTL : Nat := 0x8004C
/-- AON_TEMP_CFG: spec/17_power_reset_sleep.md. -/
def AON_TEMP_CFG : Nat := 0x80050
/-- AON_RST_CAUSE: spec/17_power_reset_sleep.md. -/
def AON_RST_CAUSE : Nat := 0x80054
/-- PIN_GPIO_IN: spec/18_package_and_electrical.md. -/
def PIN_GPIO_IN : Nat := 0xC00E00
/-- PIN_GPIO_OUT_LO: spec/18_package_and_electrical.md. -/
def PIN_GPIO_OUT_LO : Nat := 0xC00E04
/-- PIN_GPIO_OUT_HI: spec/18_package_and_electrical.md. -/
def PIN_GPIO_OUT_HI : Nat := 0xC00E08
/-- PIN_GPIO_OE_LO: spec/18_package_and_electrical.md. -/
def PIN_GPIO_OE_LO : Nat := 0xC00E0C
/-- PIN_GPIO_OE_HI: spec/18_package_and_electrical.md. -/
def PIN_GPIO_OE_HI : Nat := 0xC00E10
/-- PIN_BUS_CFG: spec/02_line_ports.md. -/
def PIN_BUS_CFG (k : Nat) : Nat := 0xC00000 + k * 0x10
/-- PIN_BUS_STATUS: spec/02_line_ports.md. -/
def PIN_BUS_STATUS (k : Nat) : Nat := 0xC00004 + k * 0x10
/-- PIN_BUS_CNT: spec/02_line_ports.md. -/
def PIN_BUS_CNT (k : Nat) : Nat := 0xC00008 + k * 0x10
/-- PIN_ITEM_CTL: spec/02_line_ports.md. -/
def PIN_ITEM_CTL (m : Nat) (i : Nat) : Nat := 0xC02000 + m * 0x100 + i * 0x20
/-- PIN_ITEM_OFS: spec/02_line_ports.md. -/
def PIN_ITEM_OFS (m : Nat) (i : Nat) : Nat := 0xC02004 + m * 0x100 + i * 0x20
/-- PIN_ITEM_OP_A_LO: spec/02_line_ports.md. -/
def PIN_ITEM_OP_A_LO (m : Nat) (i : Nat) : Nat := 0xC02008 + m * 0x100 + i * 0x20
/-- PIN_ITEM_OP_A_HI: spec/02_line_ports.md. -/
def PIN_ITEM_OP_A_HI (m : Nat) (i : Nat) : Nat := 0xC0200C + m * 0x100 + i * 0x20
/-- PIN_ITEM_OP_B_LO: spec/02_line_ports.md. -/
def PIN_ITEM_OP_B_LO (m : Nat) (i : Nat) : Nat := 0xC02010 + m * 0x100 + i * 0x20
/-- PIN_ITEM_OP_B_HI: spec/02_line_ports.md. -/
def PIN_ITEM_OP_B_HI (m : Nat) (i : Nat) : Nat := 0xC02014 + m * 0x100 + i * 0x20
/-- PIN_ITEM_VALUE_LO: spec/02_line_ports.md. -/
def PIN_ITEM_VALUE_LO (m : Nat) (i : Nat) : Nat := 0xC02018 + m * 0x100 + i * 0x20
/-- PIN_ITEM_VALUE_HI: spec/02_line_ports.md. -/
def PIN_ITEM_VALUE_HI (m : Nat) (i : Nat) : Nat := 0xC0201C + m * 0x100 + i * 0x20
/-- LCH_FAU_FAS_ERR_LO: spec/03_frame_acquisition.md. -/
def LCH_FAU_FAS_ERR_LO (n : Nat) : Nat := 0x101100 + n * 0x8000
/-- LCH_FAU_FAS_ERR_HI: spec/03_frame_acquisition.md. -/
def LCH_FAU_FAS_ERR_HI (n : Nat) : Nat := 0x101104 + n * 0x8000
/-- LCH_FAU_LOSS_CNT_LO: spec/03_frame_acquisition.md. -/
def LCH_FAU_LOSS_CNT_LO (n : Nat) : Nat := 0x101108 + n * 0x8000
/-- LCH_FAU_LOSS_CNT_HI: spec/03_frame_acquisition.md. -/
def LCH_FAU_LOSS_CNT_HI (n : Nat) : Nat := 0x10110C + n * 0x8000
/-- LCH_FAU_SLIP_CNT_LO: spec/03_frame_acquisition.md. -/
def LCH_FAU_SLIP_CNT_LO (n : Nat) : Nat := 0x101110 + n * 0x8000
/-- LCH_FAU_SLIP_CNT_HI: spec/03_frame_acquisition.md. -/
def LCH_FAU_SLIP_CNT_HI (n : Nat) : Nat := 0x101114 + n * 0x8000
/-- LCH_FAU_FEC_CORR_LO: spec/03_frame_acquisition.md. -/
def LCH_FAU_FEC_CORR_LO (n : Nat) : Nat := 0x101118 + n * 0x8000
/-- LCH_FAU_FEC_CORR_HI: spec/03_frame_acquisition.md. -/
def LCH_FAU_FEC_CORR_HI (n : Nat) : Nat := 0x10111C + n * 0x8000
/-- LCH_FAU_FEC_CORR_CW_LO: spec/03_frame_acquisition.md. -/
def LCH_FAU_FEC_CORR_CW_LO (n : Nat) : Nat := 0x101120 + n * 0x8000
/-- LCH_FAU_FEC_CORR_CW_HI: spec/03_frame_acquisition.md. -/
def LCH_FAU_FEC_CORR_CW_HI (n : Nat) : Nat := 0x101124 + n * 0x8000
/-- LCH_FAU_FEC_UNC_CW_LO: spec/03_frame_acquisition.md. -/
def LCH_FAU_FEC_UNC_CW_LO (n : Nat) : Nat := 0x101128 + n * 0x8000
/-- LCH_FAU_FEC_UNC_CW_HI: spec/03_frame_acquisition.md. -/
def LCH_FAU_FEC_UNC_CW_HI (n : Nat) : Nat := 0x10112C + n * 0x8000
/-- LCH_MXF_OHCRC_ERR_LO: spec/04_mehrax_frame.md. -/
def LCH_MXF_OHCRC_ERR_LO (n : Nat) : Nat := 0x101130 + n * 0x8000
/-- LCH_MXF_OHCRC_ERR_HI: spec/04_mehrax_frame.md. -/
def LCH_MXF_OHCRC_ERR_HI (n : Nat) : Nat := 0x101134 + n * 0x8000
/-- LCH_MXF_PCRC_ERR_LO: spec/04_mehrax_frame.md. -/
def LCH_MXF_PCRC_ERR_LO (n : Nat) : Nat := 0x101138 + n * 0x8000
/-- LCH_MXF_PCRC_ERR_HI: spec/04_mehrax_frame.md. -/
def LCH_MXF_PCRC_ERR_HI (n : Nat) : Nat := 0x10113C + n * 0x8000
/-- LCH_MXF_FSN_JUMP_LO: spec/04_mehrax_frame.md. -/
def LCH_MXF_FSN_JUMP_LO (n : Nat) : Nat := 0x101140 + n * 0x8000
/-- LCH_MXF_FSN_JUMP_HI: spec/04_mehrax_frame.md. -/
def LCH_MXF_FSN_JUMP_HI (n : Nat) : Nat := 0x101144 + n * 0x8000
/-- LCH_MXF_PMC_UNACK_LO: spec/04_mehrax_frame.md. -/
def LCH_MXF_PMC_UNACK_LO (n : Nat) : Nat := 0x101148 + n * 0x8000
/-- LCH_MXF_PMC_UNACK_HI: spec/04_mehrax_frame.md. -/
def LCH_MXF_PMC_UNACK_HI (n : Nat) : Nat := 0x10114C + n * 0x8000
/-- LCH_OHP_TRACE_ACC: spec/05_overhead.md. -/
def LCH_OHP_TRACE_ACC (n : Nat) (w : Nat) : Nat := 0x102100 + n * 0x8000 + w * 0x4
/-- LCH_OHP_TRACE_EXP: spec/05_overhead.md. -/
def LCH_OHP_TRACE_EXP (n : Nat) (w : Nat) : Nat := 0x102300 + n * 0x8000 + w * 0x4
/-- LCH_OHP_TRACE_TX: spec/05_overhead.md. -/
def LCH_OHP_TRACE_TX (n : Nat) (w : Nat) : Nat := 0x103100 + n * 0x8000 + w * 0x4
/-- LCH_OHP_CAP_CFG: spec/05_overhead.md. -/
def LCH_OHP_CAP_CFG (n : Nat) (c : Nat) : Nat := 0x102600 + n * 0x8000 + c * 0x10
/-- LCH_OHP_CAP_WR: spec/05_overhead.md. -/
def LCH_OHP_CAP_WR (n : Nat) (c : Nat) : Nat := 0x102604 + n * 0x8000 + c * 0x10
/-- LCH_OHP_CAP_RD: spec/05_overhead.md. -/
def LCH_OHP_CAP_RD (n : Nat) (c : Nat) : Nat := 0x102608 + n * 0x8000 + c * 0x10
/-- LCH_OHP_CAP_DROP: spec/05_overhead.md. -/
def LCH_OHP_CAP_DROP (n : Nat) (c : Nat) : Nat := 0x10260C + n * 0x8000 + c * 0x10
/-- LCH_OHP_INS_CFG: spec/05_overhead.md. -/
def LCH_OHP_INS_CFG (n : Nat) (c : Nat) : Nat := 0x103400 + n * 0x8000 + c * 0x10
/-- LCH_OHP_INS_WR: spec/05_overhead.md. -/
def LCH_OHP_INS_WR (n : Nat) (c : Nat) : Nat := 0x103404 + n * 0x8000 + c * 0x10
/-- LCH_OHP_INS_RD: spec/05_overhead.md. -/
def LCH_OHP_INS_RD (n : Nat) (c : Nat) : Nat := 0x103408 + n * 0x8000 + c * 0x10
/-- LCH_OHP_INS_UNDER: spec/05_overhead.md. -/
def LCH_OHP_INS_UNDER (n : Nat) (c : Nat) : Nat := 0x10340C + n * 0x8000 + c * 0x10
/-- LCH_DPM_CNT0_LO: spec/07_defects_and_performance.md. -/
def LCH_DPM_CNT0_LO (n : Nat) : Nat := 0x105100 + n * 0x8000
/-- LCH_DPM_CNT0_HI: spec/07_defects_and_performance.md. -/
def LCH_DPM_CNT0_HI (n : Nat) : Nat := 0x105104 + n * 0x8000
/-- LCH_DPM_CNT1_LO: spec/07_defects_and_performance.md. -/
def LCH_DPM_CNT1_LO (n : Nat) : Nat := 0x105108 + n * 0x8000
/-- LCH_DPM_CNT1_HI: spec/07_defects_and_performance.md. -/
def LCH_DPM_CNT1_HI (n : Nat) : Nat := 0x10510C + n * 0x8000
/-- LCH_DPM_CNT2_LO: spec/07_defects_and_performance.md. -/
def LCH_DPM_CNT2_LO (n : Nat) : Nat := 0x105110 + n * 0x8000
/-- LCH_DPM_CNT2_HI: spec/07_defects_and_performance.md. -/
def LCH_DPM_CNT2_HI (n : Nat) : Nat := 0x105114 + n * 0x8000
/-- LCH_DPM_CNT3_LO: spec/07_defects_and_performance.md. -/
def LCH_DPM_CNT3_LO (n : Nat) : Nat := 0x105118 + n * 0x8000
/-- LCH_DPM_CNT3_HI: spec/07_defects_and_performance.md. -/
def LCH_DPM_CNT3_HI (n : Nat) : Nat := 0x10511C + n * 0x8000
/-- TMG_CAND_CFG: spec/10_timing.md. -/
def TMG_CAND_CFG (c : Nat) : Nat := 0x60100 + c * 0x20
/-- TMG_CAND_FREQ: spec/10_timing.md. -/
def TMG_CAND_FREQ (c : Nat) : Nat := 0x60104 + c * 0x20
/-- TMG_CAND_LIM: spec/10_timing.md. -/
def TMG_CAND_LIM (c : Nat) : Nat := 0x60108 + c * 0x20
/-- TMG_CAND_LIM2: spec/10_timing.md. -/
def TMG_CAND_LIM2 (c : Nat) : Nat := 0x6010C + c * 0x20
/-- TMG_CAND_STATUS: spec/10_timing.md. -/
def TMG_CAND_STATUS (c : Nat) : Nat := 0x60110 + c * 0x20
/-- TMG_CAND_FOFS: spec/10_timing.md. -/
def TMG_CAND_FOFS (c : Nat) : Nat := 0x60114 + c * 0x20
/-- TMG_CAND_QLFW: spec/10_timing.md. -/
def TMG_CAND_QLFW (c : Nat) : Nat := 0x60118 + c * 0x20
/-- TMG_DPLL_CFG: spec/10_timing.md. -/
def TMG_DPLL_CFG (d : Nat) : Nat := 0x60400 + d * 0x40
/-- TMG_DPLL_MASK: spec/10_timing.md. -/
def TMG_DPLL_MASK (d : Nat) : Nat := 0x60404 + d * 0x40
/-- TMG_DPLL_QLCFG: spec/10_timing.md. -/
def TMG_DPLL_QLCFG (d : Nat) : Nat := 0x60408 + d * 0x40
/-- TMG_DPLL_STATUS: spec/10_timing.md. -/
def TMG_DPLL_STATUS (d : Nat) : Nat := 0x6040C + d * 0x40
/-- TMG_DPLL_PHERR: spec/10_timing.md. -/
def TMG_DPLL_PHERR (d : Nat) : Nat := 0x60410 + d * 0x40
/-- TMG_DPLL_PHSEQ: spec/10_timing.md. -/
def TMG_DPLL_PHSEQ (d : Nat) : Nat := 0x60414 + d * 0x40
/-- TMG_DPLL_FREQ: spec/10_timing.md. -/
def TMG_DPLL_FREQ (d : Nat) : Nat := 0x60418 + d * 0x40
/-- TMG_DPLL_SWCFG: spec/10_timing.md. -/
def TMG_DPLL_SWCFG (d : Nat) : Nat := 0x6041C + d * 0x40
/-- TMG_DPLL_PPT: spec/10_timing.md. -/
def TMG_DPLL_PPT (d : Nat) : Nat := 0x60420 + d * 0x40
/-- TMG_DPLL_PPT_RD: spec/10_timing.md. -/
def TMG_DPLL_PPT_RD (d : Nat) : Nat := 0x60428 + d * 0x40
/-- TMG_CLKOUT_CFG: spec/10_timing.md. -/
def TMG_CLKOUT_CFG (k : Nat) : Nat := 0x60800 + k * 0x8
/-- TMG_CLKOUT_FREQ: spec/10_timing.md. -/
def TMG_CLKOUT_FREQ (k : Nat) : Nat := 0x60804 + k * 0x8
/-- TMG_PPSOUT_CFG: spec/10_timing.md. -/
def TMG_PPSOUT_CFG (i : Nat) : Nat := 0x60900 + i * 0x10
/-- TMG_PPSOUT_OFS: spec/10_timing.md. -/
def TMG_PPSOUT_OFS (i : Nat) : Nat := 0x60904 + i * 0x10
/-- TMG_PPSIN_NS: spec/10_timing.md. -/
def TMG_PPSIN_NS (i : Nat) : Nat := 0x60980 + i * 0x10
/-- TMG_PPSIN_S_LO: spec/10_timing.md. -/
def TMG_PPSIN_S_LO (i : Nat) : Nat := 0x60984 + i * 0x10
/-- TMG_PPSIN_S_HI: spec/10_timing.md. -/
def TMG_PPSIN_S_HI (i : Nat) : Nat := 0x60988 + i * 0x10
/-- TMG_PPSIN_SEQ: spec/10_timing.md. -/
def TMG_PPSIN_SEQ (i : Nat) : Nat := 0x6098C + i * 0x10
/-- TMG_LINE_TXT: spec/10_timing.md. -/
def TMG_LINE_TXT (n : Nat) : Nat := 0x60C00 + n * 0x4
/-- SCC_SLOT_CFG: spec/11_sample_chain.md. -/
def SCC_SLOT_CFG (s : Nat) : Nat := 0x71000 + s * 0x40
/-- SCC_SLOT_SRC: spec/11_sample_chain.md. -/
def SCC_SLOT_SRC (s : Nat) : Nat := 0x71004 + s * 0x40
/-- SCC_SLOT_DLY: spec/11_sample_chain.md. -/
def SCC_SLOT_DLY (s : Nat) : Nat := 0x71008 + s * 0x40
/-- SCC_SLOT_FIR: spec/11_sample_chain.md. -/
def SCC_SLOT_FIR (s : Nat) : Nat := 0x7100C + s * 0x40
/-- SCC_SLOT_STATUS: spec/11_sample_chain.md. -/
def SCC_SLOT_STATUS (s : Nat) : Nat := 0x71010 + s * 0x40
/-- SCC_SLOT_THR_HI: spec/11_sample_chain.md. -/
def SCC_SLOT_THR_HI (s : Nat) : Nat := 0x71014 + s * 0x40
/-- SCC_SLOT_THR_LO: spec/11_sample_chain.md. -/
def SCC_SLOT_THR_LO (s : Nat) : Nat := 0x71018 + s * 0x40
/-- SCC_SLOT_THR_CFG: spec/11_sample_chain.md. -/
def SCC_SLOT_THR_CFG (s : Nat) : Nat := 0x7101C + s * 0x40
/-- SCC_SLOT_CTL: spec/11_sample_chain.md. -/
def SCC_SLOT_CTL (s : Nat) : Nat := 0x71020 + s * 0x40
/-- MGMT_PUSH_ADDR_LO: spec/12_boot_and_firmware.md. -/
def MGMT_PUSH_ADDR_LO : Nat := 0x90010
/-- MGMT_PUSH_ADDR_HI: spec/12_boot_and_firmware.md. -/
def MGMT_PUSH_ADDR_HI : Nat := 0x90014
/-- MGMT_PUSH_LEN: spec/12_boot_and_firmware.md. -/
def MGMT_PUSH_LEN : Nat := 0x90018
/-- MGMT_PUSH_CTL: spec/12_boot_and_firmware.md. -/
def MGMT_PUSH_CTL : Nat := 0x9001C
/-- MBX_DB: spec/13_mailbox.md. -/
def MBX_DB (r : Nat) : Nat := 0x30000 + r * 0x4
/-- MBX_CI: spec/13_mailbox.md. -/
def MBX_CI (r : Nat) : Nat := 0x30010 + r * 0x4
/-- MBX_STATUS: spec/13_mailbox.md. -/
def MBX_STATUS : Nat := 0x30020
/-- MBX_EVQ_WR: spec/13_mailbox.md. -/
def MBX_EVQ_WR : Nat := 0x30030
/-- MBX_EVQ_RD: spec/13_mailbox.md. -/
def MBX_EVQ_RD : Nat := 0x30034
/-- MBX_EVQ_LOST: spec/13_mailbox.md. -/
def MBX_EVQ_LOST : Nat := 0x30038
/-- MBX_PMX_WR: spec/13_mailbox.md. -/
def MBX_PMX_WR : Nat := 0x30040
/-- MBX_PMX_RD: spec/13_mailbox.md. -/
def MBX_PMX_RD : Nat := 0x30044
/-- MBX_PMX_LOST: spec/13_mailbox.md. -/
def MBX_PMX_LOST : Nat := 0x30048
/-- MBX_OP_ID: spec/13_mailbox.md. -/
def MBX_OP_ID (k : Nat) : Nat := 0x30100 + k * 0x10
/-- MBX_OP_PROG: spec/13_mailbox.md. -/
def MBX_OP_PROG (k : Nat) : Nat := 0x30104 + k * 0x10
/-- MBX_OP_POS: spec/13_mailbox.md. -/
def MBX_OP_POS (k : Nat) : Nat := 0x30108 + k * 0x10
/-- LCH_PRBS_BITS_LO: spec/13_mailbox.md. -/
def LCH_PRBS_BITS_LO (n : Nat) : Nat := 0x100C10 + n * 0x8000
/-- LCH_PRBS_BITS_HI: spec/13_mailbox.md. -/
def LCH_PRBS_BITS_HI (n : Nat) : Nat := 0x100C14 + n * 0x8000
/-- LCH_PRBS_ERR_LO: spec/13_mailbox.md. -/
def LCH_PRBS_ERR_LO (n : Nat) : Nat := 0x100C18 + n * 0x8000
/-- LCH_PRBS_ERR_HI: spec/13_mailbox.md. -/
def LCH_PRBS_ERR_HI (n : Nat) : Nat := 0x100C1C + n * 0x8000
/-- DMA_CH_CFG: spec/15_dma_and_check_units.md. -/
def DMA_CH_CFG (c : Nat) : Nat := 0x41000 + c * 0x40
/-- DMA_CH_CTL: spec/15_dma_and_check_units.md. -/
def DMA_CH_CTL (c : Nat) : Nat := 0x41004 + c * 0x40
/-- DMA_CH_LIST_LO: spec/15_dma_and_check_units.md. -/
def DMA_CH_LIST_LO (c : Nat) : Nat := 0x41008 + c * 0x40
/-- DMA_CH_LIST_HI: spec/15_dma_and_check_units.md. -/
def DMA_CH_LIST_HI (c : Nat) : Nat := 0x4100C + c * 0x40
/-- DMA_CH_HWIN_BASE_LO: spec/15_dma_and_check_units.md. -/
def DMA_CH_HWIN_BASE_LO (c : Nat) : Nat := 0x41010 + c * 0x40
/-- DMA_CH_HWIN_BASE_HI: spec/15_dma_and_check_units.md. -/
def DMA_CH_HWIN_BASE_HI (c : Nat) : Nat := 0x41014 + c * 0x40
/-- DMA_CH_HWIN_LIM_LO: spec/15_dma_and_check_units.md. -/
def DMA_CH_HWIN_LIM_LO (c : Nat) : Nat := 0x41018 + c * 0x40
/-- DMA_CH_HWIN_LIM_HI: spec/15_dma_and_check_units.md. -/
def DMA_CH_HWIN_LIM_HI (c : Nat) : Nat := 0x4101C + c * 0x40
/-- DMA_CH_DWIN_BASE: spec/15_dma_and_check_units.md. -/
def DMA_CH_DWIN_BASE (c : Nat) : Nat := 0x41020 + c * 0x40
/-- DMA_CH_DWIN_LIM: spec/15_dma_and_check_units.md. -/
def DMA_CH_DWIN_LIM (c : Nat) : Nat := 0x41024 + c * 0x40
/-- DMA_CH_STATUS: spec/15_dma_and_check_units.md. -/
def DMA_CH_STATUS (c : Nat) : Nat := 0x41028 + c * 0x40
/-- DMA_CH_BYTES: spec/15_dma_and_check_units.md. -/
def DMA_CH_BYTES (c : Nat) : Nat := 0x4102C + c * 0x40
/-- DMA_CH_RUNS: spec/15_dma_and_check_units.md. -/
def DMA_CH_RUNS (c : Nat) : Nat := 0x41030 + c * 0x40
/-- DMA_CH_RING_CFG: spec/15_dma_and_check_units.md. -/
def DMA_CH_RING_CFG (c : Nat) : Nat := 0x41034 + c * 0x40
/-- DMA_CH_HPTR: spec/15_dma_and_check_units.md. -/
def DMA_CH_HPTR (c : Nat) : Nat := 0x41038 + c * 0x40
/-- DMA_CH_EPTR: spec/15_dma_and_check_units.md. -/
def DMA_CH_EPTR (c : Nat) : Nat := 0x4103C + c * 0x40
/-- CVU_CFG: spec/15_dma_and_check_units.md. -/
def CVU_CFG (k : Nat) : Nat := 0x51000 + k * 0x40
/-- CVU_CTL: spec/15_dma_and_check_units.md. -/
def CVU_CTL (k : Nat) : Nat := 0x51004 + k * 0x40
/-- CVU_POLY_LO: spec/15_dma_and_check_units.md. -/
def CVU_POLY_LO (k : Nat) : Nat := 0x51008 + k * 0x40
/-- CVU_POLY_HI: spec/15_dma_and_check_units.md. -/
def CVU_POLY_HI (k : Nat) : Nat := 0x5100C + k * 0x40
/-- CVU_INIT_LO: spec/15_dma_and_check_units.md. -/
def CVU_INIT_LO (k : Nat) : Nat := 0x51010 + k * 0x40
/-- CVU_INIT_HI: spec/15_dma_and_check_units.md. -/
def CVU_INIT_HI (k : Nat) : Nat := 0x51014 + k * 0x40
/-- CVU_XOROUT_LO: spec/15_dma_and_check_units.md. -/
def CVU_XOROUT_LO (k : Nat) : Nat := 0x51018 + k * 0x40
/-- CVU_XOROUT_HI: spec/15_dma_and_check_units.md. -/
def CVU_XOROUT_HI (k : Nat) : Nat := 0x5101C + k * 0x40
/-- CVU_SEQ: spec/15_dma_and_check_units.md. -/
def CVU_SEQ (k : Nat) : Nat := 0x51020 + k * 0x40
/-- CVU_DATA32: spec/15_dma_and_check_units.md. -/
def CVU_DATA32 (k : Nat) : Nat := 0x51024 + k * 0x40
/-- CVU_DATA8: spec/15_dma_and_check_units.md. -/
def CVU_DATA8 (k : Nat) : Nat := 0x51028 + k * 0x40
/-- CVU_STATUS: spec/15_dma_and_check_units.md. -/
def CVU_STATUS (k : Nat) : Nat := 0x5102C + k * 0x40
/-- CVU_BYTES: spec/15_dma_and_check_units.md. -/
def CVU_BYTES (k : Nat) : Nat := 0x51030 + k * 0x40
/-- CVU_RES_LO: spec/15_dma_and_check_units.md. -/
def CVU_RES_LO (k : Nat) : Nat := 0x51034 + k * 0x40
/-- CVU_RES_HI: spec/15_dma_and_check_units.md. -/
def CVU_RES_HI (k : Nat) : Nat := 0x51038 + k * 0x40
/-- FCR_CAUSE: spec/16_faults.md. -/
def FCR_CAUSE (r : Nat) : Nat := 0x10100 + r * 0x4
/-- FCR_LIVE: spec/16_faults.md. -/
def FCR_LIVE (r : Nat) : Nat := 0x10200 + r * 0x4
/-- MSIX_ADDR_LO: spec/14_host_access.md. -/
def MSIX_ADDR_LO (v : Nat) : Nat := 0xF00000 + v * 0x10
/-- MSIX_ADDR_HI: spec/14_host_access.md. -/
def MSIX_ADDR_HI (v : Nat) : Nat := 0xF00004 + v * 0x10
/-- MSIX_DATA: spec/14_host_access.md. -/
def MSIX_DATA (v : Nat) : Nat := 0xF00008 + v * 0x10
/-- MSIX_CTRL: spec/14_host_access.md. -/
def MSIX_CTRL (v : Nat) : Nat := 0xF0000C + v * 0x10
/-- MSIX_PBA: spec/14_host_access.md. -/
def MSIX_PBA (k : Nat) : Nat := 0xF01000 + k * 0x4

end Reg

namespace Fld

def GLB_CLK_STATUS_CORE_A_LOCK : FRef := ⟨Reg.GLB_CLK_STATUS, 0, 1⟩
def GLB_CLK_STATUS_CORE_B_LOCK : FRef := ⟨Reg.GLB_CLK_STATUS, 1, 1⟩
def GLB_CLK_STATUS_MGMT_LOCK : FRef := ⟨Reg.GLB_CLK_STATUS, 2, 1⟩
def GLB_CLK_STATUS_PCIE_LOCK : FRef := ⟨Reg.GLB_CLK_STATUS, 3, 1⟩
def GLB_CLK_STATUS_TMG_LOCK : FRef := ⟨Reg.GLB_CLK_STATUS, 4, 1⟩
def GLB_CLK_STATUS_OSC_IN_OK : FRef := ⟨Reg.GLB_CLK_STATUS, 5, 1⟩
def GLB_CLK_STATUS_XTAL32K_OK : FRef := ⟨Reg.GLB_CLK_STATUS, 6, 1⟩
def GLB_CLK_STATUS_CORE_A_SPREAD : FRef := ⟨Reg.GLB_CLK_STATUS, 8, 1⟩
def GLB_CLK_STATUS_CORE_B_SPREAD : FRef := ⟨Reg.GLB_CLK_STATUS, 9, 1⟩
def PIN_MOD_DESC_TYPE (m : Nat) : FRef := ⟨Reg.PIN_MOD_DESC m, 0, 3⟩
def PIN_MOD_DESC_BUS (m : Nat) : FRef := ⟨Reg.PIN_MOD_DESC m, 3, 4⟩
def PIN_MOD_DESC_SW_ADDR (m : Nat) : FRef := ⟨Reg.PIN_MOD_DESC m, 7, 7⟩
def PIN_MOD_DESC_SW_CHAN (m : Nat) : FRef := ⟨Reg.PIN_MOD_DESC m, 14, 3⟩
def PIN_MOD_DESC_FIRST_LINE (m : Nat) : FRef := ⟨Reg.PIN_MOD_DESC m, 17, 7⟩
def PIN_MOD_DESC_LANES (m : Nat) : FRef := ⟨Reg.PIN_MOD_DESC m, 24, 2⟩
def PIN_MOD_DESC_PHY_ADDR (m : Nat) : FRef := ⟨Reg.PIN_MOD_DESC m, 26, 5⟩
def PIN_MOD_STATUS_ALARM (m : Nat) : FRef := ⟨Reg.PIN_MOD_STATUS m, 0, 8⟩
def PIN_MOD_STATUS_STALE (m : Nat) : FRef := ⟨Reg.PIN_MOD_STATUS m, 8, 8⟩
def PIN_MOD_STATUS_ABSENT (m : Nat) : FRef := ⟨Reg.PIN_MOD_STATUS m, 16, 1⟩
def PIN_MOD_CAUSE_ALARM_EV (m : Nat) : FRef := ⟨Reg.PIN_MOD_CAUSE m, 0, 8⟩
def PIN_MOD_CAUSE_ABSENT_EV (m : Nat) : FRef := ⟨Reg.PIN_MOD_CAUSE m, 8, 1⟩
def PIN_MOD_CAUSE_PRESENT_EV (m : Nat) : FRef := ⟨Reg.PIN_MOD_CAUSE m, 9, 1⟩
def LCH_LINE_CFG_FORMAT (n : Nat) : FRef := ⟨Reg.LCH_LINE_CFG n, 0, 5⟩
def LCH_LINE_CFG_RX_INV (n : Nat) : FRef := ⟨Reg.LCH_LINE_CFG n, 5, 1⟩
def LCH_LINE_CFG_TX_INV (n : Nat) : FRef := ⟨Reg.LCH_LINE_CFG n, 6, 1⟩
def LCH_LINE_CFG_TX_SQUELCH (n : Nat) : FRef := ⟨Reg.LCH_LINE_CFG n, 7, 1⟩
def LCH_LINE_CFG_LOOPBACK (n : Nat) : FRef := ⟨Reg.LCH_LINE_CFG n, 8, 2⟩
def LCH_LINE_CFG_SD_THR (n : Nat) : FRef := ⟨Reg.LCH_LINE_CFG n, 10, 3⟩
def LCH_LINE_CFG_SD_HYST (n : Nat) : FRef := ⟨Reg.LCH_LINE_CFG n, 13, 1⟩
def LCH_LINE_CFG_WAKE_ON_SD (n : Nat) : FRef := ⟨Reg.LCH_LINE_CFG n, 14, 1⟩
def LCH_LINE_STATUS_SD (n : Nat) : FRef := ⟨Reg.LCH_LINE_STATUS n, 0, 1⟩
def LCH_LINE_STATUS_CDR_LOCK (n : Nat) : FRef := ⟨Reg.LCH_LINE_STATUS n, 1, 1⟩
def LCH_LINE_STATUS_PLL_LOCK (n : Nat) : FRef := ⟨Reg.LCH_LINE_STATUS n, 2, 1⟩
def LCH_LINE_STATUS_TX_CLAMP (n : Nat) : FRef := ⟨Reg.LCH_LINE_STATUS n, 3, 1⟩
def LCH_LINE_STATUS_PWR_STATE (n : Nat) : FRef := ⟨Reg.LCH_LINE_STATUS n, 4, 2⟩
def LCH_LINE_STATUS_ADAPT_DONE (n : Nat) : FRef := ⟨Reg.LCH_LINE_STATUS n, 6, 1⟩
def LCH_LINE_STATUS_WAKE_PEND (n : Nat) : FRef := ⟨Reg.LCH_LINE_STATUS n, 7, 1⟩
def LCH_LINE_STATUS_SD_EDGE (n : Nat) : FRef := ⟨Reg.LCH_LINE_STATUS n, 8, 1⟩
def LCH_LINE_STATUS_CDR_LOSS (n : Nat) : FRef := ⟨Reg.LCH_LINE_STATUS n, 9, 1⟩
def LCH_RX_EQ_CFG_MODE (n : Nat) : FRef := ⟨Reg.LCH_RX_EQ_CFG n, 0, 2⟩
def LCH_RX_EQ_CFG_CTLE (n : Nat) : FRef := ⟨Reg.LCH_RX_EQ_CFG n, 2, 4⟩
def LCH_RX_EQ_CFG_DFE1 (n : Nat) : FRef := ⟨Reg.LCH_RX_EQ_CFG n, 6, 6⟩
def LCH_RX_EQ_CFG_DFE2 (n : Nat) : FRef := ⟨Reg.LCH_RX_EQ_CFG n, 12, 5⟩
def LCH_RX_EQ_CFG_DFE3 (n : Nat) : FRef := ⟨Reg.LCH_RX_EQ_CFG n, 17, 5⟩
def LCH_RX_EQ_CFG_DFE4 (n : Nat) : FRef := ⟨Reg.LCH_RX_EQ_CFG n, 22, 5⟩
def LCH_RX_EQ_CFG_DFE5 (n : Nat) : FRef := ⟨Reg.LCH_RX_EQ_CFG n, 27, 5⟩
def LCH_RX_EQ_STATUS_CTLE (n : Nat) : FRef := ⟨Reg.LCH_RX_EQ_STATUS n, 0, 4⟩
def LCH_RX_EQ_STATUS_DFE1 (n : Nat) : FRef := ⟨Reg.LCH_RX_EQ_STATUS n, 4, 6⟩
def LCH_RX_EQ_STATUS_DFE2 (n : Nat) : FRef := ⟨Reg.LCH_RX_EQ_STATUS n, 10, 5⟩
def LCH_RX_EQ_STATUS_DFE3 (n : Nat) : FRef := ⟨Reg.LCH_RX_EQ_STATUS n, 15, 5⟩
def LCH_RX_EQ_STATUS_DFE4 (n : Nat) : FRef := ⟨Reg.LCH_RX_EQ_STATUS n, 20, 5⟩
def LCH_RX_EQ_STATUS_DFE5 (n : Nat) : FRef := ⟨Reg.LCH_RX_EQ_STATUS n, 25, 5⟩
def LCH_TX_DRV_CFG_PRE (n : Nat) : FRef := ⟨Reg.LCH_TX_DRV_CFG n, 0, 4⟩
def LCH_TX_DRV_CFG_POST (n : Nat) : FRef := ⟨Reg.LCH_TX_DRV_CFG n, 4, 5⟩
def LCH_TX_DRV_CFG_AMPL (n : Nat) : FRef := ⟨Reg.LCH_TX_DRV_CFG n, 9, 3⟩
def LCH_TX_DRV_CFG_EDGE (n : Nat) : FRef := ⟨Reg.LCH_TX_DRV_CFG n, 12, 2⟩
def LCH_FAU_HUNT_CFG_IF_CNT (n : Nat) : FRef := ⟨Reg.LCH_FAU_HUNT_CFG n, 0, 3⟩
def LCH_FAU_HUNT_CFG_OOF_CNT (n : Nat) : FRef := ⟨Reg.LCH_FAU_HUNT_CFG n, 3, 4⟩
def LCH_FAU_HUNT_CFG_BLK_LOCK_CNT (n : Nat) : FRef := ⟨Reg.LCH_FAU_HUNT_CFG n, 7, 7⟩
def LCH_FAU_HUNT_CFG_SLIP_FOLLOW (n : Nat) : FRef := ⟨Reg.LCH_FAU_HUNT_CFG n, 14, 1⟩
def LCH_FAU_HUNT_CFG_SCR_BYPASS (n : Nat) : FRef := ⟨Reg.LCH_FAU_HUNT_CFG n, 15, 1⟩
def LCH_FAU_HUNT_CFG_RESTART (n : Nat) : FRef := ⟨Reg.LCH_FAU_HUNT_CFG n, 16, 1⟩
def LCH_FAU_FEC_CFG_MODE (n : Nat) : FRef := ⟨Reg.LCH_FAU_FEC_CFG n, 0, 2⟩
def LCH_FAU_FEC_CFG_UNC_MARK (n : Nat) : FRef := ⟨Reg.LCH_FAU_FEC_CFG n, 2, 1⟩
def LCH_FAU_STATUS_STATE (n : Nat) : FRef := ⟨Reg.LCH_FAU_STATUS n, 0, 3⟩
def LCH_FAU_STATUS_MF_LOCK (n : Nat) : FRef := ⟨Reg.LCH_FAU_STATUS n, 3, 1⟩
def LCH_FAU_STATUS_FEC_LOCK (n : Nat) : FRef := ⟨Reg.LCH_FAU_STATUS n, 4, 1⟩
def LCH_FAU_STATUS_NONSTD (n : Nat) : FRef := ⟨Reg.LCH_FAU_STATUS n, 5, 1⟩
def LCH_FAU_STATUS_CAND (n : Nat) : FRef := ⟨Reg.LCH_FAU_STATUS n, 6, 3⟩
def LCH_FAU_STATUS_BIT_OFS (n : Nat) : FRef := ⟨Reg.LCH_FAU_STATUS n, 9, 7⟩
def LCH_FAU_STATUS_IF_EV (n : Nat) : FRef := ⟨Reg.LCH_FAU_STATUS n, 16, 1⟩
def LCH_FAU_STATUS_LOSS_EV (n : Nat) : FRef := ⟨Reg.LCH_FAU_STATUS n, 17, 1⟩
def LCH_FAU_STATUS_SLIP_EV (n : Nat) : FRef := ⟨Reg.LCH_FAU_STATUS n, 18, 1⟩
def LCH_FAU_STATUS_MF_LOSS_EV (n : Nat) : FRef := ⟨Reg.LCH_FAU_STATUS n, 19, 1⟩
def LCH_FAU_STATUS_FEC_UNC_EV (n : Nat) : FRef := ⟨Reg.LCH_FAU_STATUS n, 20, 1⟩
def LCH_MXF_CFG_FEC (n : Nat) : FRef := ⟨Reg.LCH_MXF_CFG n, 0, 1⟩
def LCH_MXF_CFG_PMC_TIMEOUT (n : Nat) : FRef := ⟨Reg.LCH_MXF_CFG n, 1, 8⟩
def LCH_MXF_CFG_PMC_RETRIES (n : Nat) : FRef := ⟨Reg.LCH_MXF_CFG n, 9, 3⟩
def LCH_MXF_STATUS_RX_RATE (n : Nat) : FRef := ⟨Reg.LCH_MXF_STATUS n, 0, 4⟩
def LCH_MXF_STATUS_RX_FEC (n : Nat) : FRef := ⟨Reg.LCH_MXF_STATUS n, 4, 1⟩
def LCH_MXF_STATUS_RX_VER (n : Nat) : FRef := ⟨Reg.LCH_MXF_STATUS n, 5, 3⟩
def LCH_MXF_STATUS_RATE_MM (n : Nat) : FRef := ⟨Reg.LCH_MXF_STATUS n, 8, 1⟩
def LCH_MXF_STATUS_FEC_MM (n : Nat) : FRef := ⟨Reg.LCH_MXF_STATUS n, 9, 1⟩
def LCH_MXF_STATUS_VER_MM (n : Nat) : FRef := ⟨Reg.LCH_MXF_STATUS n, 10, 1⟩
def LCH_MXF_STATUS_FSN_JUMP_EV (n : Nat) : FRef := ⟨Reg.LCH_MXF_STATUS n, 11, 1⟩
def LCH_MXF_STATUS_OHCRC_EV (n : Nat) : FRef := ⟨Reg.LCH_MXF_STATUS n, 12, 1⟩
def LCH_MXF_STATUS_PMC_UNACK_EV (n : Nat) : FRef := ⟨Reg.LCH_MXF_STATUS n, 13, 1⟩
def LCH_MXF_STATUS_PMC_UNK_EV (n : Nat) : FRef := ⟨Reg.LCH_MXF_STATUS n, 14, 1⟩
def LCH_MXF_STATUS_PMC_BUSY (n : Nat) : FRef := ⟨Reg.LCH_MXF_STATUS n, 15, 1⟩
def LCH_OHP_RX_CFG_J0_MODE (n : Nat) : FRef := ⟨Reg.LCH_OHP_RX_CFG n, 0, 2⟩
def LCH_OHP_RX_CFG_ESMC_EN (n : Nat) : FRef := ⟨Reg.LCH_OHP_RX_CFG n, 2, 1⟩
def LCH_OHP_RX_CFG_ESMC_REMOVE (n : Nat) : FRef := ⟨Reg.LCH_OHP_RX_CFG n, 3, 1⟩
def LCH_OHP_RX_STATUS_TIM (n : Nat) : FRef := ⟨Reg.LCH_OHP_RX_STATUS n, 0, 8⟩
def LCH_OHP_RX_STATUS_CAP_OVF_EV (n : Nat) : FRef := ⟨Reg.LCH_OHP_RX_STATUS n, 8, 4⟩
def LCH_OHP_RX_STATUS_CAP_THR_EV (n : Nat) : FRef := ⟨Reg.LCH_OHP_RX_STATUS n, 12, 4⟩
def LCH_OHP_RX_STATUS_PTR_ERR_EV (n : Nat) : FRef := ⟨Reg.LCH_OHP_RX_STATUS n, 16, 1⟩
def LCH_OHP_RX_STATUS_CRC7_EV (n : Nat) : FRef := ⟨Reg.LCH_OHP_RX_STATUS n, 17, 1⟩
def LCH_OHP_RX_SNAP_SNAP (n : Nat) : FRef := ⟨Reg.LCH_OHP_RX_SNAP n, 0, 32⟩
def LCH_OHP_RX_TRACE_STATUS_ACC_CNT (n : Nat) : FRef := ⟨Reg.LCH_OHP_RX_TRACE_STATUS n, 0, 32⟩
def LCH_OHP_TIM_CFG_MODE (n : Nat) : FRef := ⟨Reg.LCH_OHP_TIM_CFG n, 0, 24⟩
def LCH_OHP_TCM_CFG_TCM_MODE (n : Nat) : FRef := ⟨Reg.LCH_OHP_TCM_CFG n, 0, 12⟩
def LCH_OHP_TX_CFG_J0_MODE (n : Nat) : FRef := ⟨Reg.LCH_OHP_TX_CFG n, 0, 2⟩
def LCH_OHP_TX_TRACE_CTL_COMMIT (n : Nat) : FRef := ⟨Reg.LCH_OHP_TX_TRACE_CTL n, 0, 8⟩
def LCH_OHP_TX_TRACE_CTL_PEND (n : Nat) : FRef := ⟨Reg.LCH_OHP_TX_TRACE_CTL n, 8, 8⟩
def LCH_OHP_THRU_CFG_ENABLE (n : Nat) : FRef := ⟨Reg.LCH_OHP_THRU_CFG n, 0, 1⟩
def LCH_OHP_THRU_CFG_SRC_LINE (n : Nat) : FRef := ⟨Reg.LCH_OHP_THRU_CFG n, 1, 7⟩
def LCH_OHP_THRU_CFG_CHK_MODE (n : Nat) : FRef := ⟨Reg.LCH_OHP_THRU_CFG n, 8, 1⟩
def LCH_OHP_THRU_CFG_REWRITE (n : Nat) : FRef := ⟨Reg.LCH_OHP_THRU_CFG n, 9, 4⟩
def LCH_OHP_THRU_STATUS_ACTIVE (n : Nat) : FRef := ⟨Reg.LCH_OHP_THRU_STATUS n, 0, 1⟩
def LCH_OHP_THRU_STATUS_FALLBACK (n : Nat) : FRef := ⟨Reg.LCH_OHP_THRU_STATUS n, 1, 1⟩
def LCH_OHP_THRU_STATUS_TX_TIMING (n : Nat) : FRef := ⟨Reg.LCH_OHP_THRU_STATUS n, 2, 1⟩
def LCH_OHP_THRU_STATUS_LAT_CYC (n : Nat) : FRef := ⟨Reg.LCH_OHP_THRU_STATUS n, 3, 7⟩
def LCH_OHP_THRU_STATUS_FALLBACK_EV (n : Nat) : FRef := ⟨Reg.LCH_OHP_THRU_STATUS n, 10, 1⟩
def MAP_TBL_ADDR_ADDR : FRef := ⟨Reg.MAP_TBL_ADDR, 0, 24⟩
def MAP_TBL_ADDR_AUTOINC : FRef := ⟨Reg.MAP_TBL_ADDR, 24, 1⟩
def MAP_TBL_DATA_DATA : FRef := ⟨Reg.MAP_TBL_DATA, 0, 32⟩
def MAP_EPOCH_STATUS_ACTIVE (p : Nat) : FRef := ⟨Reg.MAP_EPOCH_STATUS p, 0, 1⟩
def MAP_EPOCH_STATUS_COMMIT_BUSY (p : Nat) : FRef := ⟨Reg.MAP_EPOCH_STATUS p, 1, 1⟩
def MAP_EPOCH_STATUS_CHECKED (p : Nat) : FRef := ⟨Reg.MAP_EPOCH_STATUS p, 2, 1⟩
def MAP_EPOCH_STATUS_DONE_EV (p : Nat) : FRef := ⟨Reg.MAP_EPOCH_STATUS p, 3, 1⟩
def MAP_EPOCH_STATUS_COMMIT_REF_EV (p : Nat) : FRef := ⟨Reg.MAP_EPOCH_STATUS p, 4, 1⟩
def MAP_EPOCH_STATUS_WR_IGN_EV (p : Nat) : FRef := ⟨Reg.MAP_EPOCH_STATUS p, 5, 1⟩
def MAP_EPOCH_STATUS_FORCED_EV (p : Nat) : FRef := ⟨Reg.MAP_EPOCH_STATUS p, 6, 1⟩
def MAP_EPOCH_STATUS_COMMIT_CNT (p : Nat) : FRef := ⟨Reg.MAP_EPOCH_STATUS p, 16, 16⟩
def MAP_EPOCH_COMMIT_GO (p : Nat) : FRef := ⟨Reg.MAP_EPOCH_COMMIT p, 0, 1⟩
def MAP_EPOCH_FORCED_LINES (p : Nat) (k : Nat) : FRef := ⟨Reg.MAP_EPOCH_FORCED p k, 0, 32⟩
def MAP_EPOCH_CRC_CRC (p : Nat) : FRef := ⟨Reg.MAP_EPOCH_CRC p, 0, 32⟩
def MAP_EPOCH_PROG_PCT (p : Nat) : FRef := ⟨Reg.MAP_EPOCH_PROG p, 0, 14⟩
def MAP_EPOCH_PROG_POS (p : Nat) : FRef := ⟨Reg.MAP_EPOCH_PROG p, 16, 16⟩
def MAP_EPOCH_FAIL_FLOW (p : Nat) : FRef := ⟨Reg.MAP_EPOCH_FAIL p, 0, 16⟩
def MAP_EPOCH_FAIL_CODE (p : Nat) : FRef := ⟨Reg.MAP_EPOCH_FAIL p, 16, 8⟩
def LCH_DPM_CFG_EXC_EXP (n : Nat) : FRef := ⟨Reg.LCH_DPM_CFG n, 0, 3⟩
def LCH_DPM_CFG_DEG_EXP (n : Nat) : FRef := ⟨Reg.LCH_DPM_CFG n, 3, 4⟩
def LCH_DPM_CFG_TIM_AIS (n : Nat) : FRef := ⟨Reg.LCH_DPM_CFG n, 7, 1⟩
def LCH_DPM_CFG_ETH_RF_EN (n : Nat) : FRef := ⟨Reg.LCH_DPM_CFG n, 8, 1⟩
def LCH_DPM_CFG_PROFILE (n : Nat) : FRef := ⟨Reg.LCH_DPM_CFG n, 28, 4⟩
def LCH_DPM_DEF_DEF (n : Nat) : FRef := ⟨Reg.LCH_DPM_DEF n, 0, 22⟩
def LCH_DPM_FAIL_FAIL (n : Nat) : FRef := ⟨Reg.LCH_DPM_FAIL n, 0, 20⟩
def LCH_DPM_DEF_EV_RISE (n : Nat) : FRef := ⟨Reg.LCH_DPM_DEF_EV n, 0, 20⟩
def LCH_DPM_TCM_DEF_TCM (n : Nat) : FRef := ⟨Reg.LCH_DPM_TCM_DEF n, 0, 30⟩
def DPM_PM_CFG_DAY_OFS (p : Nat) : FRef := ⟨Reg.DPM_PM_CFG p, 0, 7⟩
def DPM_PM_SEQ_SEQ (p : Nat) : FRef := ⟨Reg.DPM_PM_SEQ p, 0, 32⟩
def DPM_PM_STATUS_OVERRUN_EV (p : Nat) : FRef := ⟨Reg.DPM_PM_STATUS p, 0, 1⟩
def DPM_PM_STATUS_TCA_EV (p : Nat) : FRef := ⟨Reg.DPM_PM_STATUS p, 1, 1⟩
def DPM_PM_STATUS_TCA_DROP_EV (p : Nat) : FRef := ⟨Reg.DPM_PM_STATUS p, 2, 1⟩
def DPM_PM_STATUS_TSTEP_EV (p : Nat) : FRef := ⟨Reg.DPM_PM_STATUS p, 3, 1⟩
def DPM_PM_STATUS_PASS_US (p : Nat) : FRef := ⟨Reg.DPM_PM_STATUS p, 16, 16⟩
def DPM_TCA_WR_WR (p : Nat) : FRef := ⟨Reg.DPM_TCA_WR p, 0, 32⟩
def DPM_TCA_RD_RD (p : Nat) : FRef := ⟨Reg.DPM_TCA_RD p, 0, 32⟩
def DPM_FLOW_SUM0_GRP (p : Nat) : FRef := ⟨Reg.DPM_FLOW_SUM0 p, 0, 32⟩
def DPM_FLOW_SUM1_GRP (p : Nat) : FRef := ⟨Reg.DPM_FLOW_SUM1 p, 0, 32⟩
def PRT_REC_ADDR_ADDR : FRef := ⟨Reg.PRT_REC_ADDR, 0, 24⟩
def PRT_REC_ADDR_AUTOINC : FRef := ⟨Reg.PRT_REC_ADDR, 24, 1⟩
def PRT_REC_DATA_DATA : FRef := ⟨Reg.PRT_REC_DATA, 0, 32⟩
def PRT_STATUS_SWITCH_EV (p : Nat) : FRef := ⟨Reg.PRT_STATUS p, 0, 1⟩
def PRT_STATUS_PV_EV (p : Nat) : FRef := ⟨Reg.PRT_STATUS p, 1, 1⟩
def PRT_STATUS_PV_DROP_EV (p : Nat) : FRef := ⟨Reg.PRT_STATUS p, 2, 1⟩
def PRT_STATUS_OVER_EV (p : Nat) : FRef := ⟨Reg.PRT_STATUS p, 3, 1⟩
def PRT_STATUS_REALIGN_EV (p : Nat) : FRef := ⟨Reg.PRT_STATUS p, 4, 1⟩
def PRT_STATUS_POOL_FREE (p : Nat) : FRef := ⟨Reg.PRT_STATUS p, 16, 14⟩
def PRT_PV_WR_WR (p : Nat) : FRef := ⟨Reg.PRT_PV_WR p, 0, 32⟩
def PRT_PV_RD_RD (p : Nat) : FRef := ⟨Reg.PRT_PV_RD p, 0, 32⟩
def TWN_STATUS_TWIN : FRef := ⟨Reg.TWN_STATUS, 0, 1⟩
def TWN_STATUS_CONFIRMED : FRef := ⟨Reg.TWN_STATUS, 1, 1⟩
def TWN_STATUS_HOLDER : FRef := ⟨Reg.TWN_STATUS, 2, 2⟩
def TWN_STATUS_STATE_A : FRef := ⟨Reg.TWN_STATUS, 4, 3⟩
def TWN_STATUS_STATE_B : FRef := ⟨Reg.TWN_STATUS, 7, 3⟩
def TWN_STATUS_TRANSFER_PEND : FRef := ⟨Reg.TWN_STATUS, 10, 1⟩
def TWN_STATUS_HANDOVER_EV : FRef := ⟨Reg.TWN_STATUS, 16, 1⟩
def TWN_STATUS_TRANSFER_EV : FRef := ⟨Reg.TWN_STATUS, 17, 1⟩
def TWN_STATUS_MISMATCH_EV : FRef := ⟨Reg.TWN_STATUS, 18, 1⟩
def TWN_STATUS_PATH_EV : FRef := ⟨Reg.TWN_STATUS, 19, 1⟩
def TWN_STATUS_STATE_EV : FRef := ⟨Reg.TWN_STATUS, 20, 1⟩
def TWN_STATUS_FORCE_REF_EV : FRef := ⟨Reg.TWN_STATUS, 21, 1⟩
def TWN_STATUS_RESYNC_FAIL_EV : FRef := ⟨Reg.TWN_STATUS, 22, 1⟩
def TWN_CONFIRM_CFG : FRef := ⟨Reg.TWN_CONFIRM, 0, 2⟩
def TWN_LEASE_CFG_LEN : FRef := ⟨Reg.TWN_LEASE_CFG, 0, 7⟩
def TWN_LEASE_CFG_HB_MISS : FRef := ⟨Reg.TWN_LEASE_CFG, 8, 4⟩
def TWN_LEASE_CFG_AUTO_RESYNC : FRef := ⟨Reg.TWN_LEASE_CFG, 12, 1⟩
def TWN_LEASE_CFG_PREF : FRef := ⟨Reg.TWN_LEASE_CFG, 13, 2⟩
def TWN_LEASE_CFG_REVERT_WAIT : FRef := ⟨Reg.TWN_LEASE_CFG, 16, 16⟩
def TWN_HOLD_MAX_HOLD_MAX : FRef := ⟨Reg.TWN_HOLD_MAX, 0, 10⟩
def TWN_LEASE_FORCE_TARGET : FRef := ⟨Reg.TWN_LEASE_FORCE, 0, 2⟩
def TWN_HB_STATUS_LIVE : FRef := ⟨Reg.TWN_HB_STATUS, 0, 4⟩
def TWN_HB_STATUS_A_WIRE_MISS : FRef := ⟨Reg.TWN_HB_STATUS, 8, 4⟩
def TWN_HB_STATUS_A_SPINE_MISS : FRef := ⟨Reg.TWN_HB_STATUS, 12, 4⟩
def TWN_HB_STATUS_B_WIRE_MISS : FRef := ⟨Reg.TWN_HB_STATUS, 16, 4⟩
def TWN_HB_STATUS_B_SPINE_MISS : FRef := ⟨Reg.TWN_HB_STATUS, 20, 4⟩
def TWN_SQF_LO_SQF : FRef := ⟨Reg.TWN_SQF_LO, 0, 32⟩
def TWN_SQF_HI_SQF : FRef := ⟨Reg.TWN_SQF_HI, 0, 32⟩
def TWN_MISMATCH_CNT_CNT : FRef := ⟨Reg.TWN_MISMATCH_CNT, 0, 32⟩
def TWN_MISMATCH_LAST_FRAME : FRef := ⟨Reg.TWN_MISMATCH_LAST, 0, 30⟩
def TWN_MISMATCH_LAST_ATTR : FRef := ⟨Reg.TWN_MISMATCH_LAST, 30, 2⟩
def TWN_GAP_GAP_BOUND_NS : FRef := ⟨Reg.TWN_GAP, 0, 24⟩
def TWN_HANDOVER_CNT_UNPLANNED : FRef := ⟨Reg.TWN_HANDOVER_CNT, 0, 16⟩
def TWN_HANDOVER_CNT_PLANNED : FRef := ⟨Reg.TWN_HANDOVER_CNT, 16, 16⟩
def TWN_RESYNC_PROG_PCT : FRef := ⟨Reg.TWN_RESYNC_PROG, 0, 14⟩
def TWN_RESYNC_PROG_POS : FRef := ⟨Reg.TWN_RESYNC_PROG, 16, 16⟩
def LCH_FRB_STATUS_HOLD (n : Nat) : FRef := ⟨Reg.LCH_FRB_STATUS n, 0, 1⟩
def LCH_FRB_STATUS_MAINT (n : Nat) : FRef := ⟨Reg.LCH_FRB_STATUS n, 1, 1⟩
def LCH_FRB_STATUS_SRC (n : Nat) : FRef := ⟨Reg.LCH_FRB_STATUS n, 2, 1⟩
def LCH_FRB_STATUS_SRC_VALID (n : Nat) : FRef := ⟨Reg.LCH_FRB_STATUS n, 3, 1⟩
def LCH_FRB_STATUS_FULL (n : Nat) : FRef := ⟨Reg.LCH_FRB_STATUS n, 4, 1⟩
def LCH_FRB_STATUS_HOLD_EV (n : Nat) : FRef := ⟨Reg.LCH_FRB_STATUS n, 5, 1⟩
def LCH_FRB_STATUS_MAINT_EV (n : Nat) : FRef := ⟨Reg.LCH_FRB_STATUS n, 6, 1⟩
def LCH_FRB_STATUS_CMP_EV (n : Nat) : FRef := ⟨Reg.LCH_FRB_STATUS n, 7, 1⟩
def LCH_FRB_HOLD_CNT_CNT (n : Nat) : FRef := ⟨Reg.LCH_FRB_HOLD_CNT n, 0, 32⟩
def LCH_FRB_CMP_ERR_CNT (n : Nat) : FRef := ⟨Reg.LCH_FRB_CMP_ERR n, 0, 32⟩
def TMG_GLB_CFG_QL_OPT : FRef := ⟨Reg.TMG_GLB_CFG, 0, 2⟩
def AON_TK_CTL_CAPTURE : FRef := ⟨Reg.AON_TK_CTL, 0, 1⟩
def AON_TK_CTL_STEP : FRef := ⟨Reg.AON_TK_CTL, 1, 1⟩
def AON_TK_CTL_SLEEP_CLK : FRef := ⟨Reg.AON_TK_CTL, 2, 1⟩
def AON_TK_CTL_TK_STEP_EV : FRef := ⟨Reg.AON_TK_CTL, 3, 1⟩
def AON_TK_CAP_NS_CAP : FRef := ⟨Reg.AON_TK_CAP_NS, 0, 32⟩
def AON_TK_CAP_S_LO_CAP : FRef := ⟨Reg.AON_TK_CAP_S_LO, 0, 32⟩
def AON_TK_CAP_S_HI_CAP : FRef := ⟨Reg.AON_TK_CAP_S_HI, 0, 32⟩
def AON_TK_STEP_S_STEP : FRef := ⟨Reg.AON_TK_STEP_S, 0, 32⟩
def AON_TK_STEP_NS_STEP : FRef := ⟨Reg.AON_TK_STEP_NS, 0, 32⟩
def SCC_GLB_CFG_OUT_HZ : FRef := ⟨Reg.SCC_GLB_CFG, 0, 17⟩
def SCC_GLB_CTL_SYNC_ALL : FRef := ⟨Reg.SCC_GLB_CTL, 0, 1⟩
def SCC_TICK_TICK : FRef := ⟨Reg.SCC_TICK, 0, 32⟩
def SCC_OUT_HZ_ACT_OUT_HZ : FRef := ⟨Reg.SCC_OUT_HZ_ACT, 0, 17⟩
def SCC_COEF_ADDR_TAP : FRef := ⟨Reg.SCC_COEF_ADDR, 0, 6⟩
def SCC_COEF_ADDR_BANK : FRef := ⟨Reg.SCC_COEF_ADDR, 6, 1⟩
def SCC_COEF_ADDR_SLOT : FRef := ⟨Reg.SCC_COEF_ADDR, 7, 7⟩
def SCC_COEF_ADDR_AUTOINC : FRef := ⟨Reg.SCC_COEF_ADDR, 14, 1⟩
def SCC_COEF_DATA_COEF : FRef := ⟨Reg.SCC_COEF_DATA, 0, 18⟩
def SCC_COEF_LOAD_SLOT : FRef := ⟨Reg.SCC_COEF_LOAD, 0, 7⟩
def SCC_COEF_LOAD_BANK : FRef := ⟨Reg.SCC_COEF_LOAD, 7, 1⟩
def SCC_COEF_LOAD_SET : FRef := ⟨Reg.SCC_COEF_LOAD, 8, 4⟩
def SCC_COEF_LOAD_GO : FRef := ⟨Reg.SCC_COEF_LOAD, 12, 1⟩
def MGMT_BOOT_STATUS_ERR : FRef := ⟨Reg.MGMT_BOOT_STATUS, 0, 8⟩
def MGMT_BOOT_STATUS_ERR_A : FRef := ⟨Reg.MGMT_BOOT_STATUS, 8, 8⟩
def MGMT_BOOT_STATUS_ERR_B : FRef := ⟨Reg.MGMT_BOOT_STATUS, 16, 8⟩
def MGMT_BOOT_STATUS_PHASE : FRef := ⟨Reg.MGMT_BOOT_STATUS, 24, 3⟩
def MGMT_BOOT_STATUS_SRC_USED : FRef := ⟨Reg.MGMT_BOOT_STATUS, 27, 2⟩
def MGMT_BOOT_STATUS_PUSH_READY : FRef := ⟨Reg.MGMT_BOOT_STATUS, 29, 1⟩
def MGMT_FW_STATE_STATE : FRef := ⟨Reg.MGMT_FW_STATE, 0, 3⟩
def MGMT_FW_STATE_OVERLOAD : FRef := ⟨Reg.MGMT_FW_STATE, 3, 1⟩
def MGMT_FW_STATE_SVN : FRef := ⟨Reg.MGMT_FW_STATE, 8, 6⟩
def MGMT_FW_STATE_FW_VER : FRef := ⟨Reg.MGMT_FW_STATE, 16, 16⟩
def MGMT_BOOT_CTL_FORCE_PUSH : FRef := ⟨Reg.MGMT_BOOT_CTL, 0, 1⟩
def MGMT_LOAD_LOAD : FRef := ⟨Reg.MGMT_LOAD, 0, 7⟩
def MGMT_LOAD_BACKLOG : FRef := ⟨Reg.MGMT_LOAD, 8, 8⟩
def MGMT_LOAD_BUSY_CNT : FRef := ⟨Reg.MGMT_LOAD, 16, 16⟩
def MGMT_BUSY_CFG_BUSY_HI : FRef := ⟨Reg.MGMT_BUSY_CFG, 0, 8⟩
def MGMT_BUSY_CFG_BUSY_LO : FRef := ⟨Reg.MGMT_BUSY_CFG, 8, 8⟩
def MGMT_FWLOAD_PROG_PCT : FRef := ⟨Reg.MGMT_FWLOAD_PROG, 0, 14⟩
def MGMT_FWLOAD_PROG_POS : FRef := ⟨Reg.MGMT_FWLOAD_PROG, 16, 16⟩
def LCH_PRBS_CFG_PATTERN (n : Nat) : FRef := ⟨Reg.LCH_PRBS_CFG n, 0, 3⟩
def LCH_PRBS_CFG_GEN_EN (n : Nat) : FRef := ⟨Reg.LCH_PRBS_CFG n, 3, 1⟩
def LCH_PRBS_CFG_CHK_EN (n : Nat) : FRef := ⟨Reg.LCH_PRBS_CFG n, 4, 1⟩
def LCH_PRBS_CFG_INV (n : Nat) : FRef := ⟨Reg.LCH_PRBS_CFG n, 5, 1⟩
def LCH_PRBS_STATUS_SYNC (n : Nat) : FRef := ⟨Reg.LCH_PRBS_STATUS n, 0, 1⟩
def LCH_PRBS_STATUS_SYNC_LOSS_EV (n : Nat) : FRef := ⟨Reg.LCH_PRBS_STATUS n, 1, 1⟩
def GLB_ID_PART : FRef := ⟨Reg.GLB_ID, 0, 16⟩
def GLB_ID_REV : FRef := ⟨Reg.GLB_ID, 16, 8⟩
def GLB_ID_FAMILY : FRef := ⟨Reg.GLB_ID, 24, 4⟩
def GLB_STRAP_CFG_TWIN : FRef := ⟨Reg.GLB_STRAP, 0, 1⟩
def GLB_STRAP_BOOT_SRC : FRef := ⟨Reg.GLB_STRAP, 1, 2⟩
def GLB_STRAP_TESTMODE : FRef := ⟨Reg.GLB_STRAP, 3, 1⟩
def GLB_STRAP_TWIN_TAKEN : FRef := ⟨Reg.GLB_STRAP, 4, 1⟩
def GLB_STRAP_CONFLICT : FRef := ⟨Reg.GLB_STRAP, 5, 1⟩
def GLB_SERIAL_SERIAL (k : Nat) : FRef := ⟨Reg.GLB_SERIAL k, 0, 32⟩
def GLB_CHIP_RESET_GO : FRef := ⟨Reg.GLB_CHIP_RESET, 0, 1⟩
def GLB_OTP_PROG_SVN : FRef := ⟨Reg.GLB_OTP_PROG, 0, 6⟩
def GLB_GUARD_STATUS_BROKEN_PCIE : FRef := ⟨Reg.GLB_GUARD_STATUS, 0, 16⟩
def GLB_GUARD_STATUS_BROKEN_MGMT : FRef := ⟨Reg.GLB_GUARD_STATUS, 16, 8⟩
def GLB_GUARD_STATUS_LAST_CAUSE : FRef := ⟨Reg.GLB_GUARD_STATUS, 24, 3⟩
def GLB_GUARD_STATUS_OPEN : FRef := ⟨Reg.GLB_GUARD_STATUS, 27, 1⟩
def GLB_GUARD_STATUS_BROKEN_EV : FRef := ⟨Reg.GLB_GUARD_STATUS, 28, 1⟩
def GLB_GUARD_LAST_ADDR : FRef := ⟨Reg.GLB_GUARD_LAST, 0, 24⟩
def GLB_GUARD_LAST_MGMT : FRef := ⟨Reg.GLB_GUARD_LAST, 24, 1⟩
def GLB_ACC_STATUS_ACC_CNT : FRef := ⟨Reg.GLB_ACC_STATUS, 0, 16⟩
def GLB_ACC_STATUS_BAD_ACC_EV : FRef := ⟨Reg.GLB_ACC_STATUS, 16, 1⟩
def GLB_ACC_LAST_OFFSET : FRef := ⟨Reg.GLB_ACC_LAST, 0, 26⟩
def GLB_ACC_LAST_BAR2 : FRef := ⟨Reg.GLB_ACC_LAST, 26, 1⟩
def GLB_ACC_LAST_WRITE : FRef := ⟨Reg.GLB_ACC_LAST, 27, 1⟩
def GLB_ACC_LAST_SIZE : FRef := ⟨Reg.GLB_ACC_LAST, 28, 4⟩
def GLB_IRQ_EN_EN (k : Nat) : FRef := ⟨Reg.GLB_IRQ_EN k, 0, 16⟩
def GLB_IRQ_EN_MASK (k : Nat) : FRef := ⟨Reg.GLB_IRQ_EN k, 16, 16⟩
def GLB_IRQ_STAT_LO_ASSERT : FRef := ⟨Reg.GLB_IRQ_STAT_LO, 0, 32⟩
def GLB_IRQ_STAT_HI_ASSERT : FRef := ⟨Reg.GLB_IRQ_STAT_HI, 0, 32⟩
def GLB_IRQ_REARM_VECTOR : FRef := ⟨Reg.GLB_IRQ_REARM, 0, 6⟩
def GLB_INTN_EN_EN (k : Nat) : FRef := ⟨Reg.GLB_INTN_EN k, 0, 16⟩
def GLB_INTN_EN_MASK (k : Nat) : FRef := ⟨Reg.GLB_INTN_EN k, 16, 16⟩
def GLB_LINE_SUM_LINES (k : Nat) : FRef := ⟨Reg.GLB_LINE_SUM k, 0, 32⟩
def DMA_GLB_STATUS_BUSY : FRef := ⟨Reg.DMA_GLB_STATUS, 0, 16⟩
def DMA_GLB_STATUS_RSV_WR_EV : FRef := ⟨Reg.DMA_GLB_STATUS, 16, 1⟩
def DMA_GLB_STATUS_BM_OFF : FRef := ⟨Reg.DMA_GLB_STATUS, 17, 1⟩
def DMA_GLB_STATUS_OWN14_15 : FRef := ⟨Reg.DMA_GLB_STATUS, 18, 2⟩
def DMA_TMR_CFG_EN (k : Nat) : FRef := ⟨Reg.DMA_TMR_CFG k, 0, 1⟩
def DMA_TMR_CFG_ALIGN (k : Nat) : FRef := ⟨Reg.DMA_TMR_CFG k, 1, 1⟩
def DMA_TMR_CFG_PERIOD_US (k : Nat) : FRef := ⟨Reg.DMA_TMR_CFG k, 2, 20⟩
def FCR_FF_SRC_SRC : FRef := ⟨Reg.FCR_FF_SRC, 0, 10⟩
def FCR_FF_SRC_SEV : FRef := ⟨Reg.FCR_FF_SRC, 10, 3⟩
def FCR_FF_SRC_VALID : FRef := ⟨Reg.FCR_FF_SRC, 13, 1⟩
def FCR_FF_SRC_MULTI : FRef := ⟨Reg.FCR_FF_SRC, 14, 1⟩
def FCR_FF_SRC_INJ : FRef := ⟨Reg.FCR_FF_SRC, 15, 1⟩
def FCR_FF_SRC_CLASS : FRef := ⟨Reg.FCR_FF_SRC, 16, 5⟩
def FCR_FF_SRC_E : FRef := ⟨Reg.FCR_FF_SRC, 21, 3⟩
def FCR_WORST_SRC_SRC : FRef := ⟨Reg.FCR_WORST_SRC, 0, 10⟩
def FCR_WORST_SRC_SEV : FRef := ⟨Reg.FCR_WORST_SRC, 10, 3⟩
def FCR_WORST_SRC_VALID : FRef := ⟨Reg.FCR_WORST_SRC, 13, 1⟩
def FCR_WORST_SRC_MULTI : FRef := ⟨Reg.FCR_WORST_SRC, 14, 1⟩
def FCR_WORST_SRC_INJ : FRef := ⟨Reg.FCR_WORST_SRC, 15, 1⟩
def FCR_WORST_SRC_CLASS : FRef := ⟨Reg.FCR_WORST_SRC, 16, 5⟩
def FCR_WORST_SRC_E : FRef := ⟨Reg.FCR_WORST_SRC, 21, 3⟩
def FCR_FF_TK_NS_TK : FRef := ⟨Reg.FCR_FF_TK_NS, 0, 32⟩
def FCR_FF_TK_S_TK : FRef := ⟨Reg.FCR_FF_TK_S, 0, 32⟩
def FCR_WORST_TK_NS_TK : FRef := ⟨Reg.FCR_WORST_TK_NS, 0, 32⟩
def FCR_WORST_TK_S_TK : FRef := ⟨Reg.FCR_WORST_TK_S, 0, 32⟩
def FCR_STATUS_ERRN : FRef := ⟨Reg.FCR_STATUS, 0, 1⟩
def FCR_STATUS_NMI_PEND : FRef := ⟨Reg.FCR_STATUS, 1, 1⟩
def FCR_STATUS_CRST_PRIOR : FRef := ⟨Reg.FCR_STATUS, 2, 1⟩
def FCR_STATUS_INJ_READY : FRef := ⟨Reg.FCR_STATUS, 3, 1⟩
def FCR_STATUS_INJ_BUSY : FRef := ⟨Reg.FCR_STATUS, 4, 1⟩
def FCR_EVENT_CNT_CNT : FRef := ⟨Reg.FCR_EVENT_CNT, 0, 32⟩
def FCR_CRST_SRC_SRC : FRef := ⟨Reg.FCR_CRST_SRC, 0, 10⟩
def FCR_CRST_SRC_SEV : FRef := ⟨Reg.FCR_CRST_SRC, 10, 3⟩
def FCR_SEV_REACT_INT (k : Nat) : FRef := ⟨Reg.FCR_SEV_REACT k, 0, 1⟩
def FCR_SEV_REACT_NMI (k : Nat) : FRef := ⟨Reg.FCR_SEV_REACT k, 1, 1⟩
def FCR_SEV_REACT_CRST (k : Nat) : FRef := ⟨Reg.FCR_SEV_REACT k, 2, 1⟩
def FCR_SEV_REACT_ERRN (k : Nat) : FRef := ⟨Reg.FCR_SEV_REACT k, 3, 1⟩
def FCR_ESC_DIS_DIS : FRef := ⟨Reg.FCR_ESC_DIS, 0, 20⟩
def FCR_CLASS_UNACK_UNACK : FRef := ⟨Reg.FCR_CLASS_UNACK, 0, 20⟩
def FCR_CLASS_E_E (k : Nat) : FRef := ⟨Reg.FCR_CLASS_E k, 0, 30⟩
def FCR_FW_RAISE_TBL_A : FRef := ⟨Reg.FCR_FW_RAISE, 0, 1⟩
def FCR_FW_RAISE_TBL_B : FRef := ⟨Reg.FCR_FW_RAISE, 1, 1⟩
def FCR_INJ_UNLOCK_UNLOCK : FRef := ⟨Reg.FCR_INJ_UNLOCK, 0, 1⟩
def FCR_INJ_CTL_SRC : FRef := ⟨Reg.FCR_INJ_CTL, 0, 10⟩
def FCR_INJ_CTL_GO : FRef := ⟨Reg.FCR_INJ_CTL, 10, 1⟩
def FCR_INJ_CTL_HOLD : FRef := ⟨Reg.FCR_INJ_CTL, 11, 1⟩
def FCR_INJ_CTL_LOCK : FRef := ⟨Reg.FCR_INJ_CTL, 12, 1⟩
def FCR_INJ_CTL_PULSE : FRef := ⟨Reg.FCR_INJ_CTL, 16, 16⟩
def FCR_SRC_CFG_SEV (s : Nat) : FRef := ⟨Reg.FCR_SRC_CFG s, 0, 3⟩
def FCR_SRC_CFG_EN (s : Nat) : FRef := ⟨Reg.FCR_SRC_CFG s, 3, 1⟩
def FCR_SRC_CFG_INT (s : Nat) : FRef := ⟨Reg.FCR_SRC_CFG s, 4, 1⟩
def FCR_SRC_CFG_NMI (s : Nat) : FRef := ⟨Reg.FCR_SRC_CFG s, 5, 1⟩
def FCR_SRC_CFG_BRST (s : Nat) : FRef := ⟨Reg.FCR_SRC_CFG s, 6, 1⟩
def FCR_SRC_CFG_CRST (s : Nat) : FRef := ⟨Reg.FCR_SRC_CFG s, 7, 1⟩
def FCR_SRC_CFG_ERRN (s : Nat) : FRef := ⟨Reg.FCR_SRC_CFG s, 8, 1⟩
def FCR_SRC_CFG_CLASS (s : Nat) : FRef := ⟨Reg.FCR_SRC_CFG s, 16, 5⟩
def FCR_SRC_CFG_PA (s : Nat) : FRef := ⟨Reg.FCR_SRC_CFG s, 21, 1⟩
def FCR_SRC_CFG_TYPE (s : Nat) : FRef := ⟨Reg.FCR_SRC_CFG s, 22, 1⟩
def FCR_SRC_CFG_LAST_SEV (s : Nat) : FRef := ⟨Reg.FCR_SRC_CFG s, 24, 3⟩
def GLB_CLK_CFG_SPREAD_A : FRef := ⟨Reg.GLB_CLK_CFG, 0, 1⟩
def GLB_CLK_CFG_SPREAD_B : FRef := ⟨Reg.GLB_CLK_CFG, 1, 1⟩
def PIN_PAD_SLEW_GPIO : FRef := ⟨Reg.PIN_PAD_SLEW, 0, 1⟩
def PIN_PAD_SLEW_SPI : FRef := ⟨Reg.PIN_PAD_SLEW, 1, 1⟩
def PIN_PAD_SLEW_MDIO : FRef := ⟨Reg.PIN_PAD_SLEW, 2, 1⟩
def PIN_PAD_SLEW_TOD : FRef := ⟨Reg.PIN_PAD_SLEW, 3, 1⟩
def PIN_PAD_SLEW_STAT : FRef := ⟨Reg.PIN_PAD_SLEW, 4, 1⟩
def AON_FEED_STATUS_PG1 : FRef := ⟨Reg.AON_FEED_STATUS, 0, 1⟩
def AON_FEED_STATUS_PG2 : FRef := ⟨Reg.AON_FEED_STATUS, 1, 1⟩
def AON_FEED_STATUS_SPINE1_OK : FRef := ⟨Reg.AON_FEED_STATUS, 2, 1⟩
def AON_FEED_STATUS_SPINE2_OK : FRef := ⟨Reg.AON_FEED_STATUS, 3, 1⟩
def AON_FEED_STATUS_FEED1_GOOD : FRef := ⟨Reg.AON_FEED_STATUS, 4, 1⟩
def AON_FEED_STATUS_FEED2_GOOD : FRef := ⟨Reg.AON_FEED_STATUS, 5, 1⟩
def AON_FEED_STATUS_MUX_LIMIT : FRef := ⟨Reg.AON_FEED_STATUS, 6, 1⟩
def AON_FEED_STATUS_LOSS_EV : FRef := ⟨Reg.AON_FEED_STATUS, 8, 2⟩
def AON_FEED_STATUS_RET_EV : FRef := ⟨Reg.AON_FEED_STATUS, 10, 2⟩
def AON_WAKE_CFG_WAKE_LP : FRef := ⟨Reg.AON_WAKE_CFG, 0, 4⟩
def AON_WAKE_CFG_WAKE_TEMP : FRef := ⟨Reg.AON_WAKE_CFG, 4, 1⟩
def AON_WAKE_CFG_WAKE_EXT : FRef := ⟨Reg.AON_WAKE_CFG, 5, 1⟩
def AON_WAKE_STATUS_WAKE_SRC : FRef := ⟨Reg.AON_WAKE_STATUS, 0, 6⟩
def AON_WAKE_STATUS_WAKE_RST : FRef := ⟨Reg.AON_WAKE_STATUS, 6, 1⟩
def AON_WAKE_STATUS_SLEEP_CNT : FRef := ⟨Reg.AON_WAKE_STATUS, 16, 16⟩
def AON_SLEEP_CTL_ENTER : FRef := ⟨Reg.AON_SLEEP_CTL, 0, 1⟩
def AON_SLEEP_CTL_KEY : FRef := ⟨Reg.AON_SLEEP_CTL, 16, 16⟩
def AON_TEMP_CFG_THR : FRef := ⟨Reg.AON_TEMP_CFG, 0, 8⟩
def AON_TEMP_CFG_TRIP : FRef := ⟨Reg.AON_TEMP_CFG, 8, 1⟩
def AON_TEMP_CFG_TEMP : FRef := ⟨Reg.AON_TEMP_CFG, 16, 8⟩
def AON_RST_CAUSE_CAUSE : FRef := ⟨Reg.AON_RST_CAUSE, 0, 3⟩
def AON_RST_CAUSE_CAUSE_EV : FRef := ⟨Reg.AON_RST_CAUSE, 3, 1⟩
def PIN_GPIO_IN_IN : FRef := ⟨Reg.PIN_GPIO_IN, 0, 32⟩
def PIN_GPIO_OUT_LO_OUT : FRef := ⟨Reg.PIN_GPIO_OUT_LO, 0, 16⟩
def PIN_GPIO_OUT_LO_MASK : FRef := ⟨Reg.PIN_GPIO_OUT_LO, 16, 16⟩
def PIN_GPIO_OUT_HI_OUT : FRef := ⟨Reg.PIN_GPIO_OUT_HI, 0, 16⟩
def PIN_GPIO_OUT_HI_MASK : FRef := ⟨Reg.PIN_GPIO_OUT_HI, 16, 16⟩
def PIN_GPIO_OE_LO_OE : FRef := ⟨Reg.PIN_GPIO_OE_LO, 0, 16⟩
def PIN_GPIO_OE_LO_MASK : FRef := ⟨Reg.PIN_GPIO_OE_LO, 16, 16⟩
def PIN_GPIO_OE_HI_OE : FRef := ⟨Reg.PIN_GPIO_OE_HI, 0, 16⟩
def PIN_GPIO_OE_HI_MASK : FRef := ⟨Reg.PIN_GPIO_OE_HI, 16, 16⟩
def PIN_BUS_CFG_EN (k : Nat) : FRef := ⟨Reg.PIN_BUS_CFG k, 0, 1⟩
def PIN_BUS_CFG_SPEED (k : Nat) : FRef := ⟨Reg.PIN_BUS_CFG k, 1, 2⟩
def PIN_BUS_CFG_POLL_PERIOD (k : Nat) : FRef := ⟨Reg.PIN_BUS_CFG k, 16, 10⟩
def PIN_BUS_STATUS_FAILED (k : Nat) : FRef := ⟨Reg.PIN_BUS_STATUS k, 0, 1⟩
def PIN_BUS_STATUS_RUNNING (k : Nat) : FRef := ⟨Reg.PIN_BUS_STATUS k, 1, 1⟩
def PIN_BUS_STATUS_OVR_EV (k : Nat) : FRef := ⟨Reg.PIN_BUS_STATUS k, 8, 1⟩
def PIN_BUS_STATUS_BUSERR_EV (k : Nat) : FRef := ⟨Reg.PIN_BUS_STATUS k, 9, 1⟩
def PIN_BUS_STATUS_FAIL_EV (k : Nat) : FRef := ⟨Reg.PIN_BUS_STATUS k, 10, 1⟩
def PIN_BUS_STATUS_PASS_US (k : Nat) : FRef := ⟨Reg.PIN_BUS_STATUS k, 16, 16⟩
def PIN_BUS_CNT_OVR (k : Nat) : FRef := ⟨Reg.PIN_BUS_CNT k, 0, 16⟩
def PIN_BUS_CNT_ERR (k : Nat) : FRef := ⟨Reg.PIN_BUS_CNT k, 16, 16⟩
def PIN_ITEM_CTL_DEV (m : Nat) (i : Nat) : FRef := ⟨Reg.PIN_ITEM_CTL m i, 0, 7⟩
def PIN_ITEM_CTL_PAGE (m : Nat) (i : Nat) : FRef := ⟨Reg.PIN_ITEM_CTL m i, 8, 8⟩
def PIN_ITEM_CTL_LEN (m : Nat) (i : Nat) : FRef := ⟨Reg.PIN_ITEM_CTL m i, 16, 4⟩
def PIN_ITEM_CTL_CMP (m : Nat) (i : Nat) : FRef := ⟨Reg.PIN_ITEM_CTL m i, 20, 2⟩
def PIN_ITEM_CTL_SCC (m : Nat) (i : Nat) : FRef := ⟨Reg.PIN_ITEM_CTL m i, 22, 1⟩
def PIN_ITEM_CTL_EN (m : Nat) (i : Nat) : FRef := ⟨Reg.PIN_ITEM_CTL m i, 23, 1⟩
def PIN_ITEM_OFS_OFFSET (m : Nat) (i : Nat) : FRef := ⟨Reg.PIN_ITEM_OFS m i, 0, 16⟩
def PIN_ITEM_OP_A_LO_V (m : Nat) (i : Nat) : FRef := ⟨Reg.PIN_ITEM_OP_A_LO m i, 0, 32⟩
def PIN_ITEM_OP_A_HI_V (m : Nat) (i : Nat) : FRef := ⟨Reg.PIN_ITEM_OP_A_HI m i, 0, 32⟩
def PIN_ITEM_OP_B_LO_V (m : Nat) (i : Nat) : FRef := ⟨Reg.PIN_ITEM_OP_B_LO m i, 0, 32⟩
def PIN_ITEM_OP_B_HI_V (m : Nat) (i : Nat) : FRef := ⟨Reg.PIN_ITEM_OP_B_HI m i, 0, 32⟩
def PIN_ITEM_VALUE_LO_V (m : Nat) (i : Nat) : FRef := ⟨Reg.PIN_ITEM_VALUE_LO m i, 0, 32⟩
def PIN_ITEM_VALUE_HI_V (m : Nat) (i : Nat) : FRef := ⟨Reg.PIN_ITEM_VALUE_HI m i, 0, 32⟩
def LCH_FAU_FAS_ERR_LO_CNT (n : Nat) : FRef := ⟨Reg.LCH_FAU_FAS_ERR_LO n, 0, 32⟩
def LCH_FAU_FAS_ERR_HI_CNT (n : Nat) : FRef := ⟨Reg.LCH_FAU_FAS_ERR_HI n, 0, 16⟩
def LCH_FAU_LOSS_CNT_LO_CNT (n : Nat) : FRef := ⟨Reg.LCH_FAU_LOSS_CNT_LO n, 0, 32⟩
def LCH_FAU_LOSS_CNT_HI_CNT (n : Nat) : FRef := ⟨Reg.LCH_FAU_LOSS_CNT_HI n, 0, 16⟩
def LCH_FAU_SLIP_CNT_LO_CNT (n : Nat) : FRef := ⟨Reg.LCH_FAU_SLIP_CNT_LO n, 0, 32⟩
def LCH_FAU_SLIP_CNT_HI_CNT (n : Nat) : FRef := ⟨Reg.LCH_FAU_SLIP_CNT_HI n, 0, 16⟩
def LCH_FAU_FEC_CORR_LO_CNT (n : Nat) : FRef := ⟨Reg.LCH_FAU_FEC_CORR_LO n, 0, 32⟩
def LCH_FAU_FEC_CORR_HI_CNT (n : Nat) : FRef := ⟨Reg.LCH_FAU_FEC_CORR_HI n, 0, 16⟩
def LCH_FAU_FEC_CORR_CW_LO_CNT (n : Nat) : FRef := ⟨Reg.LCH_FAU_FEC_CORR_CW_LO n, 0, 32⟩
def LCH_FAU_FEC_CORR_CW_HI_CNT (n : Nat) : FRef := ⟨Reg.LCH_FAU_FEC_CORR_CW_HI n, 0, 16⟩
def LCH_FAU_FEC_UNC_CW_LO_CNT (n : Nat) : FRef := ⟨Reg.LCH_FAU_FEC_UNC_CW_LO n, 0, 32⟩
def LCH_FAU_FEC_UNC_CW_HI_CNT (n : Nat) : FRef := ⟨Reg.LCH_FAU_FEC_UNC_CW_HI n, 0, 16⟩
def LCH_MXF_OHCRC_ERR_LO_CNT (n : Nat) : FRef := ⟨Reg.LCH_MXF_OHCRC_ERR_LO n, 0, 32⟩
def LCH_MXF_OHCRC_ERR_HI_CNT (n : Nat) : FRef := ⟨Reg.LCH_MXF_OHCRC_ERR_HI n, 0, 16⟩
def LCH_MXF_PCRC_ERR_LO_CNT (n : Nat) : FRef := ⟨Reg.LCH_MXF_PCRC_ERR_LO n, 0, 32⟩
def LCH_MXF_PCRC_ERR_HI_CNT (n : Nat) : FRef := ⟨Reg.LCH_MXF_PCRC_ERR_HI n, 0, 16⟩
def LCH_MXF_FSN_JUMP_LO_CNT (n : Nat) : FRef := ⟨Reg.LCH_MXF_FSN_JUMP_LO n, 0, 32⟩
def LCH_MXF_FSN_JUMP_HI_CNT (n : Nat) : FRef := ⟨Reg.LCH_MXF_FSN_JUMP_HI n, 0, 16⟩
def LCH_MXF_PMC_UNACK_LO_CNT (n : Nat) : FRef := ⟨Reg.LCH_MXF_PMC_UNACK_LO n, 0, 32⟩
def LCH_MXF_PMC_UNACK_HI_CNT (n : Nat) : FRef := ⟨Reg.LCH_MXF_PMC_UNACK_HI n, 0, 16⟩
def LCH_OHP_TRACE_ACC_V (n : Nat) (w : Nat) : FRef := ⟨Reg.LCH_OHP_TRACE_ACC n w, 0, 32⟩
def LCH_OHP_TRACE_EXP_V (n : Nat) (w : Nat) : FRef := ⟨Reg.LCH_OHP_TRACE_EXP n w, 0, 32⟩
def LCH_OHP_TRACE_TX_V (n : Nat) (w : Nat) : FRef := ⟨Reg.LCH_OHP_TRACE_TX n w, 0, 32⟩
def LCH_OHP_CAP_CFG_EN (n : Nat) (c : Nat) : FRef := ⟨Reg.LCH_OHP_CAP_CFG n c, 0, 1⟩
def LCH_OHP_CAP_CFG_THR (n : Nat) (c : Nat) : FRef := ⟨Reg.LCH_OHP_CAP_CFG n c, 16, 14⟩
def LCH_OHP_CAP_WR_V (n : Nat) (c : Nat) : FRef := ⟨Reg.LCH_OHP_CAP_WR n c, 0, 32⟩
def LCH_OHP_CAP_RD_V (n : Nat) (c : Nat) : FRef := ⟨Reg.LCH_OHP_CAP_RD n c, 0, 32⟩
def LCH_OHP_CAP_DROP_V (n : Nat) (c : Nat) : FRef := ⟨Reg.LCH_OHP_CAP_DROP n c, 0, 32⟩
def LCH_OHP_INS_CFG_EN (n : Nat) (c : Nat) : FRef := ⟨Reg.LCH_OHP_INS_CFG n c, 0, 1⟩
def LCH_OHP_INS_CFG_FILL (n : Nat) (c : Nat) : FRef := ⟨Reg.LCH_OHP_INS_CFG n c, 8, 8⟩
def LCH_OHP_INS_WR_V (n : Nat) (c : Nat) : FRef := ⟨Reg.LCH_OHP_INS_WR n c, 0, 32⟩
def LCH_OHP_INS_RD_V (n : Nat) (c : Nat) : FRef := ⟨Reg.LCH_OHP_INS_RD n c, 0, 32⟩
def LCH_OHP_INS_UNDER_V (n : Nat) (c : Nat) : FRef := ⟨Reg.LCH_OHP_INS_UNDER n c, 0, 32⟩
def LCH_DPM_CNT0_LO_CNT (n : Nat) : FRef := ⟨Reg.LCH_DPM_CNT0_LO n, 0, 32⟩
def LCH_DPM_CNT0_HI_CNT (n : Nat) : FRef := ⟨Reg.LCH_DPM_CNT0_HI n, 0, 16⟩
def LCH_DPM_CNT1_LO_CNT (n : Nat) : FRef := ⟨Reg.LCH_DPM_CNT1_LO n, 0, 32⟩
def LCH_DPM_CNT1_HI_CNT (n : Nat) : FRef := ⟨Reg.LCH_DPM_CNT1_HI n, 0, 16⟩
def LCH_DPM_CNT2_LO_CNT (n : Nat) : FRef := ⟨Reg.LCH_DPM_CNT2_LO n, 0, 32⟩
def LCH_DPM_CNT2_HI_CNT (n : Nat) : FRef := ⟨Reg.LCH_DPM_CNT2_HI n, 0, 16⟩
def LCH_DPM_CNT3_LO_CNT (n : Nat) : FRef := ⟨Reg.LCH_DPM_CNT3_LO n, 0, 32⟩
def LCH_DPM_CNT3_HI_CNT (n : Nat) : FRef := ⟨Reg.LCH_DPM_CNT3_HI n, 0, 16⟩
def TMG_CAND_CFG_EN (c : Nat) : FRef := ⟨Reg.TMG_CAND_CFG c, 0, 1⟩
def TMG_CAND_CFG_PRIO (c : Nat) : FRef := ⟨Reg.TMG_CAND_CFG c, 1, 4⟩
def TMG_CAND_CFG_LOCKOUT (c : Nat) : FRef := ⟨Reg.TMG_CAND_CFG c, 5, 1⟩
def TMG_CAND_CFG_QL_SRC (c : Nat) : FRef := ⟨Reg.TMG_CAND_CFG c, 6, 2⟩
def TMG_CAND_CFG_QL_STATIC (c : Nat) : FRef := ⟨Reg.TMG_CAND_CFG c, 8, 4⟩
def TMG_CAND_CFG_LINE (c : Nat) : FRef := ⟨Reg.TMG_CAND_CFG c, 12, 7⟩
def TMG_CAND_CFG_HOLDOFF (c : Nat) : FRef := ⟨Reg.TMG_CAND_CFG c, 24, 5⟩
def TMG_CAND_FREQ_NOM_HZ (c : Nat) : FRef := ⟨Reg.TMG_CAND_FREQ c, 0, 30⟩
def TMG_CAND_LIM_SOFT (c : Nat) : FRef := ⟨Reg.TMG_CAND_LIM c, 0, 16⟩
def TMG_CAND_LIM_HARD (c : Nat) : FRef := ⟨Reg.TMG_CAND_LIM c, 16, 16⟩
def TMG_CAND_LIM2_HYST (c : Nat) : FRef := ⟨Reg.TMG_CAND_LIM2 c, 0, 8⟩
def TMG_CAND_LIM2_WTR_S (c : Nat) : FRef := ⟨Reg.TMG_CAND_LIM2 c, 16, 10⟩
def TMG_CAND_STATUS_STATE (c : Nat) : FRef := ⟨Reg.TMG_CAND_STATUS c, 0, 2⟩
def TMG_CAND_STATUS_ACT (c : Nat) : FRef := ⟨Reg.TMG_CAND_STATUS c, 2, 1⟩
def TMG_CAND_STATUS_SF (c : Nat) : FRef := ⟨Reg.TMG_CAND_STATUS c, 3, 1⟩
def TMG_CAND_STATUS_SOFT_FL (c : Nat) : FRef := ⟨Reg.TMG_CAND_STATUS c, 4, 1⟩
def TMG_CAND_STATUS_HARD_FL (c : Nat) : FRef := ⟨Reg.TMG_CAND_STATUS c, 5, 1⟩
def TMG_CAND_STATUS_HOLDOFF_RUN (c : Nat) : FRef := ⟨Reg.TMG_CAND_STATUS c, 6, 1⟩
def TMG_CAND_STATUS_NOM_BAD (c : Nat) : FRef := ⟨Reg.TMG_CAND_STATUS c, 7, 1⟩
def TMG_CAND_STATUS_QL (c : Nat) : FRef := ⟨Reg.TMG_CAND_STATUS c, 8, 4⟩
def TMG_CAND_STATUS_QL_FAILED (c : Nat) : FRef := ⟨Reg.TMG_CAND_STATUS c, 12, 1⟩
def TMG_CAND_STATUS_QL_TMO (c : Nat) : FRef := ⟨Reg.TMG_CAND_STATUS c, 13, 1⟩
def TMG_CAND_STATUS_WTR_LEFT (c : Nat) : FRef := ⟨Reg.TMG_CAND_STATUS c, 14, 10⟩
def TMG_CAND_STATUS_DISQ_EV (c : Nat) : FRef := ⟨Reg.TMG_CAND_STATUS c, 24, 1⟩
def TMG_CAND_STATUS_QUAL_EV (c : Nat) : FRef := ⟨Reg.TMG_CAND_STATUS c, 25, 1⟩
def TMG_CAND_STATUS_SOFT_EV (c : Nat) : FRef := ⟨Reg.TMG_CAND_STATUS c, 26, 1⟩
def TMG_CAND_FOFS_V (c : Nat) : FRef := ⟨Reg.TMG_CAND_FOFS c, 0, 32⟩
def TMG_CAND_QLFW_QL_FW (c : Nat) : FRef := ⟨Reg.TMG_CAND_QLFW c, 0, 4⟩
def TMG_DPLL_CFG_MODE (d : Nat) : FRef := ⟨Reg.TMG_DPLL_CFG d, 0, 2⟩
def TMG_DPLL_CFG_BW (d : Nat) : FRef := ⟨Reg.TMG_DPLL_CFG d, 2, 3⟩
def TMG_DPLL_CFG_QL_EN (d : Nat) : FRef := ⟨Reg.TMG_DPLL_CFG d, 5, 1⟩
def TMG_DPLL_CFG_PBO_EN (d : Nat) : FRef := ⟨Reg.TMG_DPLL_CFG d, 6, 1⟩
def TMG_DPLL_CFG_CMD (d : Nat) : FRef := ⟨Reg.TMG_DPLL_CFG d, 8, 2⟩
def TMG_DPLL_CFG_CMD_CAND (d : Nat) : FRef := ⟨Reg.TMG_DPLL_CFG d, 10, 5⟩
def TMG_DPLL_MASK_CAND_MASK (d : Nat) : FRef := ⟨Reg.TMG_DPLL_MASK d, 0, 24⟩
def TMG_DPLL_QLCFG_QL_MIN (d : Nat) : FRef := ⟨Reg.TMG_DPLL_QLCFG d, 0, 4⟩
def TMG_DPLL_QLCFG_HO_QL (d : Nat) : FRef := ⟨Reg.TMG_DPLL_QLCFG d, 4, 4⟩
def TMG_DPLL_QLCFG_FR_QL (d : Nat) : FRef := ⟨Reg.TMG_DPLL_QLCFG d, 8, 4⟩
def TMG_DPLL_QLCFG_HO_AVG (d : Nat) : FRef := ⟨Reg.TMG_DPLL_QLCFG d, 16, 6⟩
def TMG_DPLL_STATUS_STATE (d : Nat) : FRef := ⟨Reg.TMG_DPLL_STATUS d, 0, 3⟩
def TMG_DPLL_STATUS_SEL (d : Nat) : FRef := ⟨Reg.TMG_DPLL_STATUS d, 3, 5⟩
def TMG_DPLL_STATUS_QL (d : Nat) : FRef := ⟨Reg.TMG_DPLL_STATUS d, 8, 4⟩
def TMG_DPLL_STATUS_HO_VALID (d : Nat) : FRef := ⟨Reg.TMG_DPLL_STATUS d, 12, 1⟩
def TMG_DPLL_STATUS_SWITCH_EV (d : Nat) : FRef := ⟨Reg.TMG_DPLL_STATUS d, 16, 1⟩
def TMG_DPLL_STATUS_STATE_EV (d : Nat) : FRef := ⟨Reg.TMG_DPLL_STATUS d, 17, 1⟩
def TMG_DPLL_STATUS_SW_TMO_EV (d : Nat) : FRef := ⟨Reg.TMG_DPLL_STATUS d, 18, 1⟩
def TMG_DPLL_PHERR_V (d : Nat) : FRef := ⟨Reg.TMG_DPLL_PHERR d, 0, 32⟩
def TMG_DPLL_PHSEQ_SEQ (d : Nat) : FRef := ⟨Reg.TMG_DPLL_PHSEQ d, 0, 16⟩
def TMG_DPLL_PHSEQ_CAND (d : Nat) : FRef := ⟨Reg.TMG_DPLL_PHSEQ d, 16, 5⟩
def TMG_DPLL_FREQ_V (d : Nat) : FRef := ⟨Reg.TMG_DPLL_FREQ d, 0, 32⟩
def TMG_DPLL_SWCFG_SW_TMO (d : Nat) : FRef := ⟨Reg.TMG_DPLL_SWCFG d, 0, 16⟩
def TMG_DPLL_PPT_PPT_ADJ (d : Nat) : FRef := ⟨Reg.TMG_DPLL_PPT d, 0, 32⟩
def TMG_DPLL_PPT_RD_V (d : Nat) : FRef := ⟨Reg.TMG_DPLL_PPT_RD d, 0, 32⟩
def TMG_CLKOUT_CFG_EN (k : Nat) : FRef := ⟨Reg.TMG_CLKOUT_CFG k, 0, 1⟩
def TMG_CLKOUT_CFG_SRC (k : Nat) : FRef := ⟨Reg.TMG_CLKOUT_CFG k, 1, 3⟩
def TMG_CLKOUT_CFG_SQUELCH (k : Nat) : FRef := ⟨Reg.TMG_CLKOUT_CFG k, 4, 2⟩
def TMG_CLKOUT_FREQ_FREQ_HZ (k : Nat) : FRef := ⟨Reg.TMG_CLKOUT_FREQ k, 0, 30⟩
def TMG_PPSOUT_CFG_EN (i : Nat) : FRef := ⟨Reg.TMG_PPSOUT_CFG i, 0, 1⟩
def TMG_PPSOUT_CFG_WIDTH_US (i : Nat) : FRef := ⟨Reg.TMG_PPSOUT_CFG i, 1, 19⟩
def TMG_PPSOUT_OFS_OFFSET_NS (i : Nat) : FRef := ⟨Reg.TMG_PPSOUT_OFS i, 0, 32⟩
def TMG_PPSIN_NS_V (i : Nat) : FRef := ⟨Reg.TMG_PPSIN_NS i, 0, 32⟩
def TMG_PPSIN_S_LO_V (i : Nat) : FRef := ⟨Reg.TMG_PPSIN_S_LO i, 0, 32⟩
def TMG_PPSIN_S_HI_V (i : Nat) : FRef := ⟨Reg.TMG_PPSIN_S_HI i, 0, 16⟩
def TMG_PPSIN_SEQ_SEQ (i : Nat) : FRef := ⟨Reg.TMG_PPSIN_SEQ i, 0, 16⟩
def TMG_PPSIN_SEQ_GLITCH (i : Nat) : FRef := ⟨Reg.TMG_PPSIN_SEQ i, 16, 8⟩
def TMG_PPSIN_SEQ_PPS_EV (i : Nat) : FRef := ⟨Reg.TMG_PPSIN_SEQ i, 24, 1⟩
def TMG_LINE_TXT_SRC (n : Nat) : FRef := ⟨Reg.TMG_LINE_TXT n, 0, 4⟩
def SCC_SLOT_CFG_EN (s : Nat) : FRef := ⟨Reg.SCC_SLOT_CFG s, 0, 1⟩
def SCC_SLOT_CFG_MED (s : Nat) : FRef := ⟨Reg.SCC_SLOT_CFG s, 1, 2⟩
def SCC_SLOT_CFG_CIC_N (s : Nat) : FRef := ⟨Reg.SCC_SLOT_CFG s, 3, 2⟩
def SCC_SLOT_CFG_CIC_R (s : Nat) : FRef := ⟨Reg.SCC_SLOT_CFG s, 5, 6⟩
def SCC_SLOT_CFG_UNIT (s : Nat) : FRef := ⟨Reg.SCC_SLOT_CFG s, 11, 4⟩
def SCC_SLOT_CFG_DCB_EN (s : Nat) : FRef := ⟨Reg.SCC_SLOT_CFG s, 15, 1⟩
def SCC_SLOT_CFG_DCB_K (s : Nat) : FRef := ⟨Reg.SCC_SLOT_CFG s, 16, 5⟩
def SCC_SLOT_CFG_FREEZE (s : Nat) : FRef := ⟨Reg.SCC_SLOT_CFG s, 21, 1⟩
def SCC_SLOT_SRC_TSRC (s : Nat) : FRef := ⟨Reg.SCC_SLOT_SRC s, 0, 5⟩
def SCC_SLOT_SRC_REF_DPLL (s : Nat) : FRef := ⟨Reg.SCC_SLOT_SRC s, 5, 3⟩
def SCC_SLOT_SRC_SKIND (s : Nat) : FRef := ⟨Reg.SCC_SLOT_SRC s, 8, 2⟩
def SCC_SLOT_SRC_SLINE (s : Nat) : FRef := ⟨Reg.SCC_SLOT_SRC s, 10, 7⟩
def SCC_SLOT_SRC_ITEM (s : Nat) : FRef := ⟨Reg.SCC_SLOT_SRC s, 17, 3⟩
def SCC_SLOT_DLY_DLY_INT (s : Nat) : FRef := ⟨Reg.SCC_SLOT_DLY s, 0, 10⟩
def SCC_SLOT_DLY_DLY_FRAC (s : Nat) : FRef := ⟨Reg.SCC_SLOT_DLY s, 10, 6⟩
def SCC_SLOT_FIR_ACTIVE (s : Nat) : FRef := ⟨Reg.SCC_SLOT_FIR s, 0, 1⟩
def SCC_SLOT_FIR_FADING (s : Nat) : FRef := ⟨Reg.SCC_SLOT_FIR s, 1, 1⟩
def SCC_SLOT_FIR_PEND (s : Nat) : FRef := ⟨Reg.SCC_SLOT_FIR s, 2, 1⟩
def SCC_SLOT_FIR_PEND_BANK (s : Nat) : FRef := ⟨Reg.SCC_SLOT_FIR s, 3, 1⟩
def SCC_SLOT_FIR_FADE_K (s : Nat) : FRef := ⟨Reg.SCC_SLOT_FIR s, 4, 4⟩
def SCC_SLOT_FIR_REQ (s : Nat) : FRef := ⟨Reg.SCC_SLOT_FIR s, 8, 1⟩
def SCC_SLOT_FIR_REQ_BANK (s : Nat) : FRef := ⟨Reg.SCC_SLOT_FIR s, 9, 1⟩
def SCC_SLOT_STATUS_SETTLE_LEN (s : Nat) : FRef := ⟨Reg.SCC_SLOT_STATUS s, 0, 16⟩
def SCC_SLOT_STATUS_SETTLING (s : Nat) : FRef := ⟨Reg.SCC_SLOT_STATUS s, 16, 1⟩
def SCC_SLOT_STATUS_FROZEN (s : Nat) : FRef := ⟨Reg.SCC_SLOT_STATUS s, 17, 1⟩
def SCC_SLOT_STATUS_HOLD (s : Nat) : FRef := ⟨Reg.SCC_SLOT_STATUS s, 18, 1⟩
def SCC_SLOT_STATUS_CFG_ERR (s : Nat) : FRef := ⟨Reg.SCC_SLOT_STATUS s, 19, 1⟩
def SCC_SLOT_STATUS_HI (s : Nat) : FRef := ⟨Reg.SCC_SLOT_STATUS s, 20, 1⟩
def SCC_SLOT_STATUS_LO (s : Nat) : FRef := ⟨Reg.SCC_SLOT_STATUS s, 21, 1⟩
def SCC_SLOT_STATUS_SAT_EV (s : Nat) : FRef := ⟨Reg.SCC_SLOT_STATUS s, 22, 1⟩
def SCC_SLOT_STATUS_WR_REF_EV (s : Nat) : FRef := ⟨Reg.SCC_SLOT_STATUS s, 23, 1⟩
def SCC_SLOT_STATUS_HI_EV (s : Nat) : FRef := ⟨Reg.SCC_SLOT_STATUS s, 24, 1⟩
def SCC_SLOT_STATUS_LO_EV (s : Nat) : FRef := ⟨Reg.SCC_SLOT_STATUS s, 25, 1⟩
def SCC_SLOT_THR_HI_V (s : Nat) : FRef := ⟨Reg.SCC_SLOT_THR_HI s, 0, 32⟩
def SCC_SLOT_THR_LO_V (s : Nat) : FRef := ⟨Reg.SCC_SLOT_THR_LO s, 0, 32⟩
def SCC_SLOT_THR_CFG_HYST (s : Nat) : FRef := ⟨Reg.SCC_SLOT_THR_CFG s, 0, 24⟩
def SCC_SLOT_THR_CFG_PERSIST (s : Nat) : FRef := ⟨Reg.SCC_SLOT_THR_CFG s, 24, 6⟩
def SCC_SLOT_THR_CFG_HI_EN (s : Nat) : FRef := ⟨Reg.SCC_SLOT_THR_CFG s, 30, 1⟩
def SCC_SLOT_THR_CFG_LO_EN (s : Nat) : FRef := ⟨Reg.SCC_SLOT_THR_CFG s, 31, 1⟩
def SCC_SLOT_CTL_SYNC (s : Nat) : FRef := ⟨Reg.SCC_SLOT_CTL s, 0, 1⟩
def MGMT_PUSH_ADDR_LO_V : FRef := ⟨Reg.MGMT_PUSH_ADDR_LO, 0, 32⟩
def MGMT_PUSH_ADDR_HI_V : FRef := ⟨Reg.MGMT_PUSH_ADDR_HI, 0, 32⟩
def MGMT_PUSH_LEN_V : FRef := ⟨Reg.MGMT_PUSH_LEN, 0, 32⟩
def MGMT_PUSH_CTL_GO : FRef := ⟨Reg.MGMT_PUSH_CTL, 0, 1⟩
def MBX_DB_PI (r : Nat) : FRef := ⟨Reg.MBX_DB r, 0, 16⟩
def MBX_CI_TAKEN (r : Nat) : FRef := ⟨Reg.MBX_CI r, 0, 16⟩
def MBX_CI_ANSWERED (r : Nat) : FRef := ⟨Reg.MBX_CI r, 16, 16⟩
def MBX_STATUS_DB_ERR_EV : FRef := ⟨Reg.MBX_STATUS, 0, 4⟩
def MBX_STATUS_EVQ_ON : FRef := ⟨Reg.MBX_STATUS, 4, 1⟩
def MBX_STATUS_EVQ_LOST_EV : FRef := ⟨Reg.MBX_STATUS, 5, 1⟩
def MBX_STATUS_PMX_ON : FRef := ⟨Reg.MBX_STATUS, 6, 1⟩
def MBX_STATUS_PMX_LOST_EV : FRef := ⟨Reg.MBX_STATUS, 7, 1⟩
def MBX_EVQ_WR_V : FRef := ⟨Reg.MBX_EVQ_WR, 0, 32⟩
def MBX_EVQ_RD_V : FRef := ⟨Reg.MBX_EVQ_RD, 0, 32⟩
def MBX_EVQ_LOST_V : FRef := ⟨Reg.MBX_EVQ_LOST, 0, 32⟩
def MBX_PMX_WR_V : FRef := ⟨Reg.MBX_PMX_WR, 0, 32⟩
def MBX_PMX_RD_V : FRef := ⟨Reg.MBX_PMX_RD, 0, 32⟩
def MBX_PMX_LOST_V : FRef := ⟨Reg.MBX_PMX_LOST, 0, 32⟩
def MBX_OP_ID_OPCODE (k : Nat) : FRef := ⟨Reg.MBX_OP_ID k, 0, 16⟩
def MBX_OP_ID_TAG (k : Nat) : FRef := ⟨Reg.MBX_OP_ID k, 16, 16⟩
def MBX_OP_PROG_PCT (k : Nat) : FRef := ⟨Reg.MBX_OP_PROG k, 0, 14⟩
def MBX_OP_PROG_RING (k : Nat) : FRef := ⟨Reg.MBX_OP_PROG k, 14, 2⟩
def MBX_OP_PROG_ACTIVE (k : Nat) : FRef := ⟨Reg.MBX_OP_PROG k, 16, 1⟩
def MBX_OP_PROG_SLOT (k : Nat) : FRef := ⟨Reg.MBX_OP_PROG k, 17, 6⟩
def MBX_OP_POS_V (k : Nat) : FRef := ⟨Reg.MBX_OP_POS k, 0, 32⟩
def LCH_PRBS_BITS_LO_CNT (n : Nat) : FRef := ⟨Reg.LCH_PRBS_BITS_LO n, 0, 32⟩
def LCH_PRBS_BITS_HI_CNT (n : Nat) : FRef := ⟨Reg.LCH_PRBS_BITS_HI n, 0, 16⟩
def LCH_PRBS_ERR_LO_CNT (n : Nat) : FRef := ⟨Reg.LCH_PRBS_ERR_LO n, 0, 32⟩
def LCH_PRBS_ERR_HI_CNT (n : Nat) : FRef := ⟨Reg.LCH_PRBS_ERR_HI n, 0, 16⟩
def DMA_CH_CFG_EN (c : Nat) : FRef := ⟨Reg.DMA_CH_CFG c, 0, 1⟩
def DMA_CH_CFG_PRIO (c : Nat) : FRef := ⟨Reg.DMA_CH_CFG c, 1, 2⟩
def DMA_CH_CFG_TRIG (c : Nat) : FRef := ⟨Reg.DMA_CH_CFG c, 3, 2⟩
def DMA_CH_CFG_TMR (c : Nat) : FRef := ⟨Reg.DMA_CH_CFG c, 5, 3⟩
def DMA_CH_CFG_CHAIN_SRC (c : Nat) : FRef := ⟨Reg.DMA_CH_CFG c, 8, 4⟩
def DMA_CH_CFG_RING (c : Nat) : FRef := ⟨Reg.DMA_CH_CFG c, 12, 1⟩
def DMA_CH_CFG_CVU_EN (c : Nat) : FRef := ⟨Reg.DMA_CH_CFG c, 13, 1⟩
def DMA_CH_CFG_CVU_CH (c : Nat) : FRef := ⟨Reg.DMA_CH_CFG c, 14, 4⟩
def DMA_CH_CFG_LIST_SRAM (c : Nat) : FRef := ⟨Reg.DMA_CH_CFG c, 18, 1⟩
def DMA_CH_CTL_START (c : Nat) : FRef := ⟨Reg.DMA_CH_CTL c, 0, 1⟩
def DMA_CH_CTL_STOP (c : Nat) : FRef := ⟨Reg.DMA_CH_CTL c, 1, 1⟩
def DMA_CH_LIST_LO_V (c : Nat) : FRef := ⟨Reg.DMA_CH_LIST_LO c, 0, 32⟩
def DMA_CH_LIST_HI_V (c : Nat) : FRef := ⟨Reg.DMA_CH_LIST_HI c, 0, 32⟩
def DMA_CH_HWIN_BASE_LO_V (c : Nat) : FRef := ⟨Reg.DMA_CH_HWIN_BASE_LO c, 0, 32⟩
def DMA_CH_HWIN_BASE_HI_V (c : Nat) : FRef := ⟨Reg.DMA_CH_HWIN_BASE_HI c, 0, 32⟩
def DMA_CH_HWIN_LIM_LO_V (c : Nat) : FRef := ⟨Reg.DMA_CH_HWIN_LIM_LO c, 0, 32⟩
def DMA_CH_HWIN_LIM_HI_V (c : Nat) : FRef := ⟨Reg.DMA_CH_HWIN_LIM_HI c, 0, 32⟩
def DMA_CH_DWIN_BASE_V (c : Nat) : FRef := ⟨Reg.DMA_CH_DWIN_BASE c, 0, 32⟩
def DMA_CH_DWIN_LIM_V (c : Nat) : FRef := ⟨Reg.DMA_CH_DWIN_LIM c, 0, 32⟩
def DMA_CH_STATUS_STATE (c : Nat) : FRef := ⟨Reg.DMA_CH_STATUS c, 0, 2⟩
def DMA_CH_STATUS_PEND (c : Nat) : FRef := ⟨Reg.DMA_CH_STATUS c, 2, 1⟩
def DMA_CH_STATUS_ERR (c : Nat) : FRef := ⟨Reg.DMA_CH_STATUS c, 3, 4⟩
def DMA_CH_STATUS_DONE_EV (c : Nat) : FRef := ⟨Reg.DMA_CH_STATUS c, 8, 1⟩
def DMA_CH_STATUS_DESC_EV (c : Nat) : FRef := ⟨Reg.DMA_CH_STATUS c, 9, 1⟩
def DMA_CH_STATUS_ERR_EV (c : Nat) : FRef := ⟨Reg.DMA_CH_STATUS c, 10, 1⟩
def DMA_CH_STATUS_TRIG_OVR_EV (c : Nat) : FRef := ⟨Reg.DMA_CH_STATUS c, 11, 1⟩
def DMA_CH_STATUS_MOVE_EV (c : Nat) : FRef := ⟨Reg.DMA_CH_STATUS c, 12, 1⟩
def DMA_CH_STATUS_HPTR_EV (c : Nat) : FRef := ⟨Reg.DMA_CH_STATUS c, 13, 1⟩
def DMA_CH_STATUS_DESC_IDX (c : Nat) : FRef := ⟨Reg.DMA_CH_STATUS c, 16, 16⟩
def DMA_CH_BYTES_V (c : Nat) : FRef := ⟨Reg.DMA_CH_BYTES c, 0, 32⟩
def DMA_CH_RUNS_V (c : Nat) : FRef := ⟨Reg.DMA_CH_RUNS c, 0, 32⟩
def DMA_CH_RING_CFG_LINE (c : Nat) : FRef := ⟨Reg.DMA_CH_RING_CFG c, 0, 7⟩
def DMA_CH_RING_CFG_CH (c : Nat) : FRef := ⟨Reg.DMA_CH_RING_CFG c, 7, 2⟩
def DMA_CH_RING_CFG_INS (c : Nat) : FRef := ⟨Reg.DMA_CH_RING_CFG c, 9, 1⟩
def DMA_CH_RING_CFG_RUN_MAX (c : Nat) : FRef := ⟨Reg.DMA_CH_RING_CFG c, 16, 16⟩
def DMA_CH_HPTR_V (c : Nat) : FRef := ⟨Reg.DMA_CH_HPTR c, 0, 32⟩
def DMA_CH_EPTR_V (c : Nat) : FRef := ⟨Reg.DMA_CH_EPTR c, 0, 32⟩
def CVU_CFG_WIDTH (k : Nat) : FRef := ⟨Reg.CVU_CFG k, 0, 7⟩
def CVU_CFG_REFIN (k : Nat) : FRef := ⟨Reg.CVU_CFG k, 7, 1⟩
def CVU_CFG_REFOUT (k : Nat) : FRef := ⟨Reg.CVU_CFG k, 8, 1⟩
def CVU_CFG_FOLD_EN (k : Nat) : FRef := ⟨Reg.CVU_CFG k, 9, 1⟩
def CVU_CFG_SEG (k : Nat) : FRef := ⟨Reg.CVU_CFG k, 10, 16⟩
def CVU_CTL_START (k : Nat) : FRef := ⟨Reg.CVU_CTL k, 0, 1⟩
def CVU_POLY_LO_V (k : Nat) : FRef := ⟨Reg.CVU_POLY_LO k, 0, 32⟩
def CVU_POLY_HI_V (k : Nat) : FRef := ⟨Reg.CVU_POLY_HI k, 0, 32⟩
def CVU_INIT_LO_V (k : Nat) : FRef := ⟨Reg.CVU_INIT_LO k, 0, 32⟩
def CVU_INIT_HI_V (k : Nat) : FRef := ⟨Reg.CVU_INIT_HI k, 0, 32⟩
def CVU_XOROUT_LO_V (k : Nat) : FRef := ⟨Reg.CVU_XOROUT_LO k, 0, 32⟩
def CVU_XOROUT_HI_V (k : Nat) : FRef := ⟨Reg.CVU_XOROUT_HI k, 0, 32⟩
def CVU_SEQ_V (k : Nat) : FRef := ⟨Reg.CVU_SEQ k, 0, 32⟩
def CVU_DATA32_V (k : Nat) : FRef := ⟨Reg.CVU_DATA32 k, 0, 32⟩
def CVU_DATA8_V (k : Nat) : FRef := ⟨Reg.CVU_DATA8 k, 0, 32⟩
def CVU_STATUS_STARTED (k : Nat) : FRef := ⟨Reg.CVU_STATUS k, 0, 1⟩
def CVU_STATUS_DMA_OWNED (k : Nat) : FRef := ⟨Reg.CVU_STATUS k, 1, 1⟩
def CVU_STATUS_REFUSED_EV (k : Nat) : FRef := ⟨Reg.CVU_STATUS k, 2, 1⟩
def CVU_STATUS_RSV_EV (k : Nat) : FRef := ⟨Reg.CVU_STATUS k, 3, 1⟩
def CVU_BYTES_V (k : Nat) : FRef := ⟨Reg.CVU_BYTES k, 0, 32⟩
def CVU_RES_LO_V (k : Nat) : FRef := ⟨Reg.CVU_RES_LO k, 0, 32⟩
def CVU_RES_HI_V (k : Nat) : FRef := ⟨Reg.CVU_RES_HI k, 0, 32⟩
def FCR_CAUSE_V (r : Nat) : FRef := ⟨Reg.FCR_CAUSE r, 0, 32⟩
def FCR_LIVE_V (r : Nat) : FRef := ⟨Reg.FCR_LIVE r, 0, 32⟩
def MSIX_ADDR_LO_V (v : Nat) : FRef := ⟨Reg.MSIX_ADDR_LO v, 0, 32⟩
def MSIX_ADDR_HI_V (v : Nat) : FRef := ⟨Reg.MSIX_ADDR_HI v, 0, 32⟩
def MSIX_DATA_V (v : Nat) : FRef := ⟨Reg.MSIX_DATA v, 0, 32⟩
def MSIX_CTRL_MASK (v : Nat) : FRef := ⟨Reg.MSIX_CTRL v, 0, 1⟩
def MSIX_PBA_V (k : Nat) : FRef := ⟨Reg.MSIX_PBA k, 0, 32⟩

end Fld

/-- The registers of block GLB by their offset inside the block. -/
def rowsGlb : List RegRow :=
  [⟨0x100, 1, 0x4, 0x0, 0x0, false, false, 0x0⟩,
   ⟨0x0, 1, 0x4, 0x0, 0x0, false, false, 0x1A10000⟩,
   ⟨0x8, 1, 0x4, 0x0, 0x0, false, false, 0x0⟩,
   ⟨0x10, 4, 0x4, 0x0, 0x0, false, false, 0x0⟩,
   ⟨0x40, 1, 0x4, 0x0, 0x0, false, true, 0x0⟩,
   ⟨0x48, 1, 0x4, 0x0, 0x0, false, true, 0x0⟩,
   ⟨0x80, 1, 0x4, 0x0, 0x10000000, false, false, 0x0⟩,
   ⟨0x84, 1, 0x4, 0x0, 0x0, false, false, 0x0⟩,
   ⟨0x88, 1, 0x4, 0x0, 0x10000, false, false, 0x0⟩,
   ⟨0x8C, 1, 0x4, 0x0, 0x0, false, false, 0x0⟩,
   ⟨0x200, 4, 0x4, 0x0, 0x0, true, false, 0x0⟩,
   ⟨0x210, 1, 0x4, 0x0, 0x0, false, false, 0x0⟩,
   ⟨0x214, 1, 0x4, 0x0, 0x0, false, false, 0x0⟩,
   ⟨0x218, 1, 0x4, 0x3F, 0x0, false, false, 0x0⟩,
   ⟨0x220, 4, 0x4, 0x0, 0x0, true, false, 0x0⟩,
   ⟨0x230, 3, 0x4, 0x0, 0x0, false, false, 0x0⟩,
   ⟨0x104, 1, 0x4, 0x3, 0x0, false, false, 0x3⟩]

/-- The registers of block FCR by their offset inside the block. -/
def rowsFcr : List RegRow :=
  [⟨0x0, 1, 0x4, 0x0, 0x2000, false, false, 0x0⟩,
   ⟨0x10, 1, 0x4, 0x0, 0x2000, false, false, 0x0⟩,
   ⟨0x4, 1, 0x4, 0x0, 0x0, false, false, 0x0⟩,
   ⟨0x8, 1, 0x4, 0x0, 0x0, false, false, 0x0⟩,
   ⟨0x14, 1, 0x4, 0x0, 0x0, false, false, 0x0⟩,
   ⟨0x18, 1, 0x4, 0x0, 0x0, false, false, 0x0⟩,
   ⟨0x20, 1, 0x4, 0x0, 0x4, false, false, 0x0⟩,
   ⟨0x24, 1, 0x4, 0x0, 0x0, false, false, 0x0⟩,
   ⟨0x28, 1, 0x4, 0x0, 0x0, false, false, 0x0⟩,
   ⟨0x40, 4, 0x4, 0xF, 0x0, false, false, 0x0⟩,
   ⟨0x50, 1, 0x4, 0xF, 0x0, false, false, 0xA⟩,
   ⟨0x60, 1, 0x4, 0xFFFFF, 0x0, false, false, 0xBE20⟩,
   ⟨0x64, 1, 0x4, 0x0, 0x0, false, false, 0x0⟩,
   ⟨0x68, 2, 0x4, 0x0, 0x0, false, false, 0x0⟩,
   ⟨0x70, 1, 0x4, 0x3, 0x0, false, false, 0x0⟩,
   ⟨0x300, 1, 0x4, 0x0, 0x0, false, true, 0x0⟩,
   ⟨0x308, 1, 0x4, 0xFFFF1FFF, 0x0, false, false, 0x0⟩,
   ⟨0x1000, 608, 0x4, 0x1FF, 0x0, false, false, 0x8⟩,
   ⟨0x100, 19, 0x4, 0x0, 0xFFFFFFFF, false, false, 0x0⟩,
   ⟨0x200, 19, 0x4, 0x0, 0x0, false, false, 0x0⟩]

/-- The registers of block TWN by their offset inside the block. -/
def rowsTwn : List RegRow :=
  [⟨0x0, 1, 0x4, 0x0, 0x7F0000, false, false, 0x0⟩,
   ⟨0x8, 1, 0x4, 0x0, 0x0, false, true, 0x0⟩,
   ⟨0x10, 1, 0x4, 0xFFFF7F7F, 0x0, false, false, 0x3C3308⟩,
   ⟨0x14, 1, 0x4, 0x3FF, 0x0, false, false, 0x64⟩,
   ⟨0x18, 1, 0x4, 0x0, 0x0, false, true, 0x0⟩,
   ⟨0x20, 1, 0x4, 0x0, 0x0, false, false, 0x0⟩,
   ⟨0x28, 1, 0x4, 0x0, 0x0, false, false, 0x0⟩,
   ⟨0x2C, 1, 0x4, 0x0, 0x0, false, false, 0x0⟩,
   ⟨0x30, 1, 0x4, 0x0, 0x0, false, false, 0x0⟩,
   ⟨0x34, 1, 0x4, 0x0, 0x0, false, false, 0x0⟩,
   ⟨0x38, 1, 0x4, 0x0, 0x0, false, false, 0x0⟩,
   ⟨0x3C, 1, 0x4, 0x0, 0x0, false, false, 0x0⟩,
   ⟨0x40, 1, 0x4, 0x0, 0x0, false, false, 0x0⟩]

/-- The registers of block MBX by their offset inside the block. -/
def rowsMbx : List RegRow :=
  [⟨0x0, 4, 0x4, 0xFFFF, 0x0, false, false, 0x0⟩,
   ⟨0x10, 4, 0x4, 0x0, 0x0, false, false, 0x0⟩,
   ⟨0x20, 1, 0x4, 0x0, 0xAF, false, false, 0x0⟩,
   ⟨0x30, 1, 0x4, 0x0, 0x0, false, false, 0x0⟩,
   ⟨0x34, 1, 0x4, 0xFFFFFFFF, 0x0, false, false, 0x0⟩,
   ⟨0x38, 1, 0x4, 0x0, 0x0, false, false, 0x0⟩,
   ⟨0x40, 1, 0x4, 0x0, 0x0, false, false, 0x0⟩,
   ⟨0x44, 1, 0x4, 0xFFFFFFFF, 0x0, false, false, 0x0⟩,
   ⟨0x48, 1, 0x4, 0x0, 0x0, false, false, 0x0⟩,
   ⟨0x100, 8, 0x10, 0x0, 0x0, false, false, 0x0⟩,
   ⟨0x104, 8, 0x10, 0x0, 0x0, false, false, 0x0⟩,
   ⟨0x108, 8, 0x10, 0x0, 0x0, false, false, 0x0⟩]

/-- The registers of block DMA by their offset inside the block. -/
def rowsDma : List RegRow :=
  [⟨0x0, 1, 0x4, 0x0, 0x10000, false, false, 0x0⟩,
   ⟨0x100, 8, 0x8, 0x3FFFFF, 0x0, false, false, 0x0⟩,
   ⟨0x1000, 16, 0x40, 0x7FFFF, 0x0, false, false, 0x0⟩,
   ⟨0x1004, 16, 0x40, 0x3, 0x0, false, false, 0x0⟩,
   ⟨0x1008, 16, 0x40, 0xFFFFFFFF, 0x0, false, false, 0x0⟩,
   ⟨0x100C, 16, 0x40, 0xFFFFFFFF, 0x0, false, false, 0x0⟩,
   ⟨0x1010, 16, 0x40, 0xFFFFFFFF, 0x0, false, false, 0x0⟩,
   ⟨0x1014, 16, 0x40, 0xFFFFFFFF, 0x0, false, false, 0x0⟩,
   ⟨0x1018, 16, 0x40, 0xFFFFFFFF, 0x0, false, false, 0x0⟩,
   ⟨0x101C, 16, 0x40, 0xFFFFFFFF, 0x0, false, false, 0x0⟩,
   ⟨0x1020, 16, 0x40, 0xFFFFFFFF, 0x0, false, false, 0x0⟩,
   ⟨0x1024, 16, 0x40, 0xFFFFFFFF, 0x0, false, false, 0x0⟩,
   ⟨0x1028, 16, 0x40, 0x0, 0x3F00, false, false, 0x0⟩,
   ⟨0x102C, 16, 0x40, 0x0, 0x0, false, false, 0x0⟩,
   ⟨0x1030, 16, 0x40, 0x0, 0x0, false, false, 0x0⟩,
   ⟨0x1034, 16, 0x40, 0xFFFF03FF, 0x0, false, false, 0x0⟩,
   ⟨0x1038, 16, 0x40, 0xFFFFFFFF, 0x0, false, false, 0x0⟩,
   ⟨0x103C, 16, 0x40, 0x0, 0x0, false, false, 0x0⟩]

/-- The registers of block CVU by their offset inside the block. -/
def rowsCvu : List RegRow :=
  [⟨0x1000, 16, 0x40, 0x3FFFFFF, 0x0, false, false, 0x0⟩,
   ⟨0x1004, 16, 0x40, 0x1, 0x0, false, false, 0x0⟩,
   ⟨0x1008, 16, 0x40, 0xFFFFFFFF, 0x0, false, false, 0x0⟩,
   ⟨0x100C, 16, 0x40, 0xFFFFFFFF, 0x0, false, false, 0x0⟩,
   ⟨0x1010, 16, 0x40, 0xFFFFFFFF, 0x0, false, false, 0x0⟩,
   ⟨0x1014, 16, 0x40, 0xFFFFFFFF, 0x0, false, false, 0x0⟩,
   ⟨0x1018, 16, 0x40, 0xFFFFFFFF, 0x0, false, false, 0x0⟩,
   ⟨0x101C, 16, 0x40, 0xFFFFFFFF, 0x0, false, false, 0x0⟩,
   ⟨0x1020, 16, 0x40, 0xFFFFFFFF, 0x0, false, false, 0x0⟩,
   ⟨0x1024, 16, 0x40, 0xFFFFFFFF, 0x0, false, false, 0x0⟩,
   ⟨0x1028, 16, 0x40, 0xFFFFFFFF, 0x0, false, false, 0x0⟩,
   ⟨0x102C, 16, 0x40, 0x0, 0xC, false, false, 0x0⟩,
   ⟨0x1030, 16, 0x40, 0x0, 0x0, false, false, 0x0⟩,
   ⟨0x1034, 16, 0x40, 0x0, 0x0, false, false, 0x0⟩,
   ⟨0x1038, 16, 0x40, 0x0, 0x0, false, false, 0x0⟩]

/-- The registers of block TMG by their offset inside the block. -/
def rowsTmg : List RegRow :=
  [⟨0x0, 1, 0x4, 0x3, 0x0, false, false, 0x0⟩,
   ⟨0x100, 8, 0x20, 0x1F000FFF, 0x0, false, false, 0x3000000⟩,
   ⟨0x200, 16, 0x20, 0x1F07FFFF, 0x0, false, false, 0x3000000⟩,
   ⟨0x104, 8, 0x20, 0x3FFFFFFF, 0x0, false, false, 0x0⟩,
   ⟨0x204, 16, 0x20, 0x0, 0x0, false, false, 0x0⟩,
   ⟨0x108, 24, 0x20, 0xFFFFFFFF, 0x0, false, false, 0x1CC00C8⟩,
   ⟨0x10C, 24, 0x20, 0x3FF00FF, 0x0, false, false, 0x12C0032⟩,
   ⟨0x110, 24, 0x20, 0x0, 0x7000000, false, false, 0x0⟩,
   ⟨0x114, 24, 0x20, 0x0, 0x0, false, false, 0x0⟩,
   ⟨0x118, 24, 0x20, 0x0, 0x0, false, false, 0x0⟩,
   ⟨0x400, 8, 0x40, 0x7F7F, 0x0, false, false, 0x48⟩,
   ⟨0x404, 8, 0x40, 0xFFFFFF, 0x0, false, false, 0x0⟩,
   ⟨0x408, 8, 0x40, 0x3F0FFF, 0x0, false, false, 0xA0BBB⟩,
   ⟨0x40C, 8, 0x40, 0x0, 0x70000, false, false, 0xF8⟩,
   ⟨0x410, 8, 0x40, 0x0, 0x0, false, false, 0x0⟩,
   ⟨0x414, 8, 0x40, 0x0, 0x0, false, false, 0x0⟩,
   ⟨0x418, 8, 0x40, 0x0, 0x0, false, false, 0x0⟩,
   ⟨0x41C, 8, 0x40, 0xFFFF, 0x0, false, false, 0x0⟩,
   ⟨0x420, 2, 0x40, 0x0, 0x0, false, true, 0x0⟩,
   ⟨0x4A0, 6, 0x40, 0x0, 0x0, false, false, 0x0⟩,
   ⟨0x428, 8, 0x40, 0x0, 0x0, false, false, 0x0⟩,
   ⟨0x800, 12, 0x8, 0x3F, 0x0, false, false, 0x0⟩,
   ⟨0x804, 12, 0x8, 0x3FFFFFFF, 0x0, false, false, 0x0⟩,
   ⟨0x900, 2, 0x10, 0xFFFFF, 0x0, false, false, 0x30D40⟩]
  ++ [⟨0x904, 2, 0x10, 0xFFFFFFFF, 0x0, false, false, 0x0⟩,
   ⟨0x980, 2, 0x10, 0x0, 0x0, false, false, 0x0⟩,
   ⟨0x984, 2, 0x10, 0x0, 0x0, false, false, 0x0⟩,
   ⟨0x988, 2, 0x10, 0x0, 0x0, false, false, 0x0⟩,
   ⟨0x98C, 2, 0x10, 0x0, 0x1000000, false, false, 0x0⟩,
   ⟨0xC00, 96, 0x4, 0x0, 0x0, false, false, 0x9⟩]

/-- The registers of block SCC by their offset inside the block. -/
def rowsScc : List RegRow :=
  [⟨0x0, 1, 0x4, 0x1FFFF, 0x0, false, false, 0x1F40⟩,
   ⟨0x4, 1, 0x4, 0x1, 0x0, false, false, 0x0⟩,
   ⟨0x8, 1, 0x4, 0x0, 0x0, false, false, 0xFFFFFFFF⟩,
   ⟨0xC, 1, 0x4, 0x0, 0x0, false, false, 0x1F40⟩,
   ⟨0x10, 1, 0x4, 0x7FFF, 0x0, false, false, 0x0⟩,
   ⟨0x14, 1, 0x4, 0x3FFFF, 0x0, false, false, 0x0⟩,
   ⟨0x18, 1, 0x4, 0x1FFF, 0x0, false, false, 0x0⟩,
   ⟨0x1000, 64, 0x40, 0x3FFFFF, 0x0, false, false, 0x100010⟩,
   ⟨0x2000, 64, 0x40, 0x7FF, 0x0, false, false, 0x10⟩,
   ⟨0x1004, 1, 0x40, 0x0, 0x0, false, false, 0x0⟩,
   ⟨0x1044, 1, 0x40, 0x0, 0x0, false, false, 0x1⟩,
   ⟨0x1084, 1, 0x40, 0x0, 0x0, false, false, 0x2⟩,
   ⟨0x10C4, 1, 0x40, 0x0, 0x0, false, false, 0x3⟩,
   ⟨0x1104, 1, 0x40, 0x0, 0x0, false, false, 0x4⟩,
   ⟨0x1144, 1, 0x40, 0x0, 0x0, false, false, 0x5⟩,
   ⟨0x1184, 1, 0x40, 0x0, 0x0, false, false, 0x6⟩,
   ⟨0x11C4, 1, 0x40, 0x0, 0x0, false, false, 0x7⟩,
   ⟨0x1204, 1, 0x40, 0xE0, 0x0, false, false, 0x8⟩,
   ⟨0x1244, 1, 0x40, 0xE0, 0x0, false, false, 0x9⟩,
   ⟨0x1284, 1, 0x40, 0xE0, 0x0, false, false, 0xA⟩,
   ⟨0x12C4, 1, 0x40, 0xE0, 0x0, false, false, 0xB⟩,
   ⟨0x1304, 1, 0x40, 0xE0, 0x0, false, false, 0xC⟩,
   ⟨0x1344, 1, 0x40, 0xE0, 0x0, false, false, 0xD⟩,
   ⟨0x1384, 1, 0x40, 0xE0, 0x0, false, false, 0xE⟩]
  ++ [⟨0x13C4, 1, 0x40, 0xE0, 0x0, false, false, 0xF⟩,
   ⟨0x1404, 1, 0x40, 0xE0, 0x0, false, false, 0x10⟩,
   ⟨0x1444, 1, 0x40, 0xE0, 0x0, false, false, 0x11⟩,
   ⟨0x1484, 1, 0x40, 0xE0, 0x0, false, false, 0x12⟩,
   ⟨0x14C4, 1, 0x40, 0xE0, 0x0, false, false, 0x13⟩,
   ⟨0x1504, 1, 0x40, 0xE0, 0x0, false, false, 0x14⟩,
   ⟨0x1544, 1, 0x40, 0xE0, 0x0, false, false, 0x15⟩,
   ⟨0x1584, 1, 0x40, 0xE0, 0x0, false, false, 0x16⟩,
   ⟨0x15C4, 1, 0x40, 0xE0, 0x0, false, false, 0x17⟩,
   ⟨0x1604, 1, 0x40, 0xE0, 0x0, false, false, 0x18⟩,
   ⟨0x1644, 1, 0x40, 0xE0, 0x0, false, false, 0x19⟩,
   ⟨0x1684, 1, 0x40, 0xE0, 0x0, false, false, 0x1A⟩,
   ⟨0x16C4, 1, 0x40, 0xE0, 0x0, false, false, 0x1B⟩,
   ⟨0x1704, 1, 0x40, 0xE0, 0x0, false, false, 0x1C⟩,
   ⟨0x1744, 1, 0x40, 0xE0, 0x0, false, false, 0x1D⟩,
   ⟨0x1784, 1, 0x40, 0xE0, 0x0, false, false, 0x1E⟩,
   ⟨0x17C4, 1, 0x40, 0xE0, 0x0, false, false, 0x1F⟩,
   ⟨0x1804, 32, 0x40, 0xFF, 0x0, false, false, 0x0⟩,
   ⟨0x2004, 18, 0x40, 0x0, 0x0, false, false, 0x0⟩,
   ⟨0x2484, 46, 0x40, 0xFFF00, 0x0, false, false, 0x0⟩,
   ⟨0x1008, 128, 0x40, 0xFFFF, 0x0, false, false, 0x0⟩,
   ⟨0x100C, 128, 0x40, 0x3F0, 0x0, false, false, 0x60⟩,
   ⟨0x1010, 128, 0x40, 0x0, 0x3C00000, false, false, 0x0⟩,
   ⟨0x1014, 64, 0x40, 0x0, 0x0, false, false, 0x0⟩]
  ++ [⟨0x2014, 64, 0x40, 0xFFFFFFFF, 0x0, false, false, 0x0⟩,
   ⟨0x1018, 64, 0x40, 0x0, 0x0, false, false, 0x0⟩,
   ⟨0x2018, 64, 0x40, 0xFFFFFFFF, 0x0, false, false, 0x0⟩,
   ⟨0x101C, 64, 0x40, 0x0, 0x0, false, false, 0x0⟩,
   ⟨0x201C, 64, 0x40, 0xFFFFFFFF, 0x0, false, false, 0x1000000⟩,
   ⟨0x1020, 128, 0x40, 0x1, 0x0, false, false, 0x0⟩]

/-- The registers of block AON by their offset inside the block. -/
def rowsAon : List RegRow :=
  [⟨0x0, 1, 0x4, 0x3, 0x8, false, false, 0x0⟩,
   ⟨0x4, 1, 0x4, 0x0, 0x0, false, false, 0x0⟩,
   ⟨0x8, 1, 0x4, 0x0, 0x0, false, false, 0x0⟩,
   ⟨0xC, 1, 0x4, 0x0, 0x0, false, false, 0x0⟩,
   ⟨0x10, 1, 0x4, 0xFFFFFFFF, 0x0, false, false, 0x0⟩,
   ⟨0x14, 1, 0x4, 0xFFFFFFFF, 0x0, false, false, 0x0⟩,
   ⟨0x40, 1, 0x4, 0x0, 0xF00, false, false, 0x0⟩,
   ⟨0x44, 1, 0x4, 0x3F, 0x0, false, false, 0x20⟩,
   ⟨0x48, 1, 0x4, 0x0, 0x0, false, false, 0x0⟩,
   ⟨0x4C, 1, 0x4, 0xFFFF0001, 0x0, false, false, 0x0⟩,
   ⟨0x50, 1, 0x4, 0xFF, 0x0, false, false, 0x73⟩,
   ⟨0x54, 1, 0x4, 0x0, 0x8, false, false, 0x0⟩]

/-- The registers of block MGMT by their offset inside the block. -/
def rowsMgmt : List RegRow :=
  [⟨0x0, 1, 0x4, 0x0, 0x0, false, false, 0x0⟩,
   ⟨0x4, 1, 0x4, 0x0, 0x0, false, false, 0x0⟩,
   ⟨0x20, 1, 0x4, 0x1, 0x0, false, false, 0x0⟩,
   ⟨0x30, 1, 0x4, 0x0, 0x0, false, false, 0x0⟩,
   ⟨0x34, 1, 0x4, 0xFFFF, 0x0, false, false, 0x1030⟩,
   ⟨0x40, 1, 0x4, 0x0, 0x0, false, false, 0x0⟩,
   ⟨0x10, 1, 0x4, 0xFFFFFFFF, 0x0, false, false, 0x0⟩,
   ⟨0x14, 1, 0x4, 0xFFFFFFFF, 0x0, false, false, 0x0⟩,
   ⟨0x18, 1, 0x4, 0xFFFFFFFF, 0x0, false, false, 0x0⟩,
   ⟨0x1C, 1, 0x4, 0x1, 0x0, false, false, 0x0⟩]

/-- The registers of block LCH by their offset inside the block. -/
def rowsLch : List RegRow :=
  [⟨0x0, 1, 0x4, 0x7FE0, 0x0, false, false, 0x800⟩,
   ⟨0x4, 1, 0x4, 0x0, 0x300, false, false, 0x20⟩,
   ⟨0x400, 1, 0x4, 0xFFFFFFFF, 0x0, false, false, 0x0⟩,
   ⟨0x404, 1, 0x4, 0x0, 0x0, false, false, 0x0⟩,
   ⟨0x800, 1, 0x4, 0x3FFF, 0x0, false, false, 0xE00⟩,
   ⟨0x1000, 1, 0x4, 0x1FFFF, 0x0, false, false, 0x202A⟩,
   ⟨0x1004, 1, 0x4, 0x7, 0x0, false, false, 0x4⟩,
   ⟨0x1008, 1, 0x4, 0x0, 0x1F0000, false, false, 0x0⟩,
   ⟨0x1010, 1, 0x4, 0xFFE, 0x0, false, false, 0x840⟩,
   ⟨0x1014, 1, 0x4, 0x0, 0x7800, false, false, 0x0⟩,
   ⟨0x2000, 1, 0x4, 0xF, 0x0, false, false, 0xD⟩,
   ⟨0x2004, 1, 0x4, 0x0, 0x3FF00, false, false, 0x0⟩,
   ⟨0x2008, 1, 0x4, 0x0, 0x0, false, false, 0x0⟩,
   ⟨0x200C, 1, 0x4, 0x0, 0x0, false, false, 0x0⟩,
   ⟨0x2010, 1, 0x4, 0xFFFFFF, 0x0, false, false, 0x0⟩,
   ⟨0x2014, 1, 0x4, 0xFFF, 0x0, false, false, 0x0⟩,
   ⟨0x3000, 1, 0x4, 0x3, 0x0, false, false, 0x1⟩,
   ⟨0x3004, 1, 0x4, 0xFF, 0x0, false, false, 0x0⟩,
   ⟨0x3010, 1, 0x4, 0x1F00, 0x0, false, false, 0x0⟩,
   ⟨0x3014, 1, 0x4, 0x0, 0x400, false, false, 0x0⟩,
   ⟨0x5000, 1, 0x4, 0xF00001FF, 0x0, false, false, 0x133⟩,
   ⟨0x5004, 1, 0x4, 0x0, 0x0, false, false, 0x0⟩,
   ⟨0x5008, 1, 0x4, 0x0, 0x0, false, false, 0x0⟩,
   ⟨0x500C, 1, 0x4, 0x0, 0xFFFFF, false, false, 0x0⟩]
  ++ [⟨0x5010, 1, 0x4, 0x0, 0x0, false, false, 0x0⟩,
   ⟨0x4000, 1, 0x4, 0x0, 0xE0, false, false, 0x0⟩,
   ⟨0x4004, 1, 0x4, 0x0, 0x0, false, false, 0x0⟩,
   ⟨0x4008, 1, 0x4, 0x0, 0x0, false, false, 0x0⟩,
   ⟨0xC00, 1, 0x4, 0x0, 0x0, false, false, 0x0⟩,
   ⟨0xC04, 1, 0x4, 0x0, 0x2, false, false, 0x0⟩,
   ⟨0x1100, 1, 0x4, 0x0, 0x0, false, false, 0x0⟩,
   ⟨0x1104, 1, 0x4, 0x0, 0x0, false, false, 0x0⟩,
   ⟨0x1108, 1, 0x4, 0x0, 0x0, false, false, 0x0⟩,
   ⟨0x110C, 1, 0x4, 0x0, 0x0, false, false, 0x0⟩,
   ⟨0x1110, 1, 0x4, 0x0, 0x0, false, false, 0x0⟩,
   ⟨0x1114, 1, 0x4, 0x0, 0x0, false, false, 0x0⟩,
   ⟨0x1118, 1, 0x4, 0x0, 0x0, false, false, 0x0⟩,
   ⟨0x111C, 1, 0x4, 0x0, 0x0, false, false, 0x0⟩,
   ⟨0x1120, 1, 0x4, 0x0, 0x0, false, false, 0x0⟩,
   ⟨0x1124, 1, 0x4, 0x0, 0x0, false, false, 0x0⟩,
   ⟨0x1128, 1, 0x4, 0x0, 0x0, false, false, 0x0⟩,
   ⟨0x112C, 1, 0x4, 0x0, 0x0, false, false, 0x0⟩,
   ⟨0x1130, 1, 0x4, 0x0, 0x0, false, false, 0x0⟩,
   ⟨0x1134, 1, 0x4, 0x0, 0x0, false, false, 0x0⟩,
   ⟨0x1138, 1, 0x4, 0x0, 0x0, false, false, 0x0⟩,
   ⟨0x113C, 1, 0x4, 0x0, 0x0, false, false, 0x0⟩,
   ⟨0x1140, 1, 0x4, 0x0, 0x0, false, false, 0x0⟩,
   ⟨0x1144, 1, 0x4, 0x0, 0x0, false, false, 0x0⟩]
  ++ [⟨0x1148, 1, 0x4, 0x0, 0x0, false, false, 0x0⟩,
   ⟨0x114C, 1, 0x4, 0x0, 0x0, false, false, 0x0⟩,
   ⟨0x2100, 128, 0x4, 0x0, 0x0, false, false, 0x0⟩,
   ⟨0x2300, 128, 0x4, 0xFFFFFFFF, 0x0, false, false, 0x0⟩,
   ⟨0x3100, 128, 0x4, 0xFFFFFFFF, 0x0, false, false, 0x0⟩,
   ⟨0x2600, 4, 0x10, 0x3FFF0001, 0x0, false, false, 0x0⟩,
   ⟨0x2604, 4, 0x10, 0x0, 0x0, false, false, 0x0⟩,
   ⟨0x2608, 4, 0x10, 0xFFFFFFFF, 0x0, false, false, 0x0⟩,
   ⟨0x260C, 4, 0x10, 0x0, 0x0, false, false, 0x0⟩,
   ⟨0x3400, 4, 0x10, 0xFF01, 0x0, false, false, 0x7E00⟩,
   ⟨0x3404, 4, 0x10, 0xFFFFFFFF, 0x0, false, false, 0x0⟩,
   ⟨0x3408, 4, 0x10, 0x0, 0x0, false, false, 0x0⟩,
   ⟨0x340C, 4, 0x10, 0x0, 0x0, false, false, 0x0⟩,
   ⟨0x5100, 1, 0x4, 0x0, 0x0, false, false, 0x0⟩,
   ⟨0x5104, 1, 0x4, 0x0, 0x0, false, false, 0x0⟩,
   ⟨0x5108, 1, 0x4, 0x0, 0x0, false, false, 0x0⟩,
   ⟨0x510C, 1, 0x4, 0x0, 0x0, false, false, 0x0⟩,
   ⟨0x5110, 1, 0x4, 0x0, 0x0, false, false, 0x0⟩,
   ⟨0x5114, 1, 0x4, 0x0, 0x0, false, false, 0x0⟩,
   ⟨0x5118, 1, 0x4, 0x0, 0x0, false, false, 0x0⟩,
   ⟨0x511C, 1, 0x4, 0x0, 0x0, false, false, 0x0⟩,
   ⟨0xC10, 1, 0x4, 0x0, 0x0, false, false, 0x0⟩,
   ⟨0xC14, 1, 0x4, 0x0, 0x0, false, false, 0x0⟩,
   ⟨0xC18, 1, 0x4, 0x0, 0x0, false, false, 0x0⟩]
  ++ [⟨0xC1C, 1, 0x4, 0x0, 0x0, false, false, 0x0⟩]

/-- The registers of block MAP by their offset inside the block. -/
def rowsMap : List RegRow :=
  [⟨0x0, 1, 0x4, 0x1FFFFFF, 0x0, false, false, 0x0⟩,
   ⟨0x4, 1, 0x4, 0xFFFFFFFF, 0x0, false, false, 0x0⟩,
   ⟨0x100, 2, 0x100, 0x0, 0x78, false, false, 0x0⟩,
   ⟨0x108, 2, 0x100, 0x0, 0x0, false, true, 0x0⟩,
   ⟨0x110, 3, 0x4, 0x0, 0x0, false, false, 0x0⟩,
   ⟨0x210, 3, 0x4, 0x0, 0x0, false, false, 0x0⟩,
   ⟨0x120, 2, 0x100, 0x0, 0x0, false, false, 0x0⟩,
   ⟨0x124, 2, 0x100, 0x0, 0x0, false, false, 0x0⟩,
   ⟨0x128, 2, 0x100, 0x0, 0x0, false, false, 0x0⟩]

/-- The registers of block PRT by their offset inside the block. -/
def rowsPrt : List RegRow :=
  [⟨0x0, 1, 0x4, 0x1FFFFFF, 0x0, false, false, 0x0⟩,
   ⟨0x4, 1, 0x4, 0xFFFFFFFF, 0x0, false, false, 0x0⟩,
   ⟨0x100, 2, 0x100, 0x0, 0x1F, false, false, 0x30000000⟩,
   ⟨0x104, 2, 0x100, 0x0, 0x0, false, false, 0x0⟩,
   ⟨0x108, 2, 0x100, 0xFFFFFFFF, 0x0, false, false, 0x0⟩]

/-- The registers of block DPM by their offset inside the block. -/
def rowsDpm : List RegRow :=
  [⟨0x0, 2, 0x100, 0x7F, 0x0, false, false, 0x0⟩,
   ⟨0x4, 2, 0x100, 0x0, 0x0, false, false, 0x0⟩,
   ⟨0x8, 2, 0x100, 0x0, 0xF, false, false, 0x0⟩,
   ⟨0xC, 2, 0x100, 0x0, 0x0, false, false, 0x0⟩,
   ⟨0x10, 2, 0x100, 0xFFFFFFFF, 0x0, false, false, 0x0⟩,
   ⟨0x14, 2, 0x100, 0x0, 0xFFFFFFFF, false, false, 0x0⟩,
   ⟨0x18, 2, 0x100, 0x0, 0xFFFFFFFF, false, false, 0x0⟩]

/-- The registers of block PIN by their offset inside the block. -/
def rowsPin : List RegRow :=
  [⟨0x1000, 96, 0x4, 0x7FFFFFFF, 0x0, false, false, 0x0⟩,
   ⟨0x1200, 96, 0x4, 0x0, 0x0, false, false, 0xFF00⟩,
   ⟨0x1400, 96, 0x4, 0x0, 0x3FF, false, false, 0x0⟩,
   ⟨0xF00, 1, 0x4, 0x1F, 0x0, false, false, 0x1D⟩,
   ⟨0xE00, 1, 0x4, 0x0, 0x0, false, false, 0x0⟩,
   ⟨0xE04, 1, 0x4, 0x0, 0x0, true, false, 0x0⟩,
   ⟨0xE08, 1, 0x4, 0x0, 0x0, true, false, 0x0⟩,
   ⟨0xE0C, 1, 0x4, 0x0, 0x0, true, false, 0x0⟩,
   ⟨0xE10, 1, 0x4, 0x0, 0x0, true, false, 0x0⟩,
   ⟨0x0, 10, 0x10, 0x3FF0007, 0x0, false, false, 0xA0001⟩,
   ⟨0x4, 10, 0x10, 0x0, 0x700, false, false, 0x0⟩,
   ⟨0x8, 10, 0x10, 0x0, 0x0, false, false, 0x0⟩,
   ⟨0x2000, 768, 0x20, 0xFFFF7F, 0x0, false, false, 0x0⟩,
   ⟨0x2004, 768, 0x20, 0xFFFF, 0x0, false, false, 0x0⟩,
   ⟨0x2008, 768, 0x20, 0xFFFFFFFF, 0x0, false, false, 0x0⟩,
   ⟨0x200C, 768, 0x20, 0xFFFFFFFF, 0x0, false, false, 0x0⟩,
   ⟨0x2010, 768, 0x20, 0xFFFFFFFF, 0x0, false, false, 0x0⟩,
   ⟨0x2014, 768, 0x20, 0xFFFFFFFF, 0x0, false, false, 0x0⟩,
   ⟨0x2018, 768, 0x20, 0x0, 0x0, false, false, 0x0⟩,
   ⟨0x201C, 768, 0x20, 0x0, 0x0, false, false, 0x0⟩]

/-- The registers of block MSIX by their offset inside the block. -/
def rowsMsix : List RegRow :=
  [⟨0x0, 64, 0x10, 0xFFFFFFFF, 0x0, false, false, 0x0⟩,
   ⟨0x4, 64, 0x10, 0xFFFFFFFF, 0x0, false, false, 0x0⟩,
   ⟨0x8, 64, 0x10, 0xFFFFFFFF, 0x0, false, false, 0x0⟩,
   ⟨0xC, 64, 0x10, 0x1, 0x0, false, false, 0x1⟩,
   ⟨0x1000, 2, 0x4, 0x0, 0x0, false, false, 0x0⟩]

/-- The rows of the block that holds BAR0 offset `a`, and the offset inside it (Table 14.2, Table 2.6). -/
def blockOf (a : Nat) : List RegRow × Nat :=
  let b := a / 0x10000
  if a % 4 ≠ 0 then ([], a)
  else if 0x10 ≤ b ∧ b < 0x40 then (rowsLch, (a - 0x100000) % 0x8000)
  else
    match b with
    | 0 => (rowsGlb, a)
    | 1 => (rowsFcr, a % 0x10000)
    | 2 => (rowsTwn, a % 0x10000)
    | 3 => (rowsMbx, a % 0x10000)
    | 4 => (rowsDma, a % 0x10000)
    | 5 => (rowsCvu, a % 0x10000)
    | 6 => (rowsTmg, a % 0x10000)
    | 7 => (rowsScc, a % 0x10000)
    | 8 => (rowsAon, a % 0x10000)
    | 9 => (rowsMgmt, a % 0x10000)
    | 0x40 => (rowsMap, a % 0x10000)
    | 0x80 => (rowsPrt, a % 0x10000)
    | 0x90 => (rowsDpm, a % 0x10000)
    | 0xC0 => (rowsPin, a % 0x10000)
    | 0xF0 => (rowsMsix, a % 0x10000)
    | _ => ([], a)

/-- The row of the register at BAR0 offset `a`; none at a reserved location. -/
def regRow (a : Nat) : Option RegRow :=
  let p := blockOf a
  p.1.find? (fun r => r.has p.2)

/-- The source number whose FCR_SRC_CFG lies at `a`. -/
def srcCfgIndex (a : Nat) : Option Nat :=
  if 0x11000 ≤ a ∧ a < 0x11000 + 608 * 4 ∧ a % 4 = 0 then some ((a - 0x11000) / 4) else none

/-- What the register at BAR0 offset `a` holds after reset: its reset value, 0 at a reserved location (R11). -/
def regReset (a : Nat) : Word :=
  match srcCfgIndex a with
  | some s => BitVec.ofNat 32 (srcCfgReset s)
  | none =>
    match regRow a with
    | some r => BitVec.ofNat 32 r.reset
    | none => 0

/-- The bits of the register at `a` that a plain write changes (access code RW, R12). -/
def regRw (a : Nat) : Nat :=
  match srcCfgIndex a with
  | some s => srcCfgRw s
  | none => match regRow a with
    | some r => r.rw
    | none => 0

/-- The bits of the register at `a` that a written 1 clears (access code W1C, R12). -/
def regW1c (a : Nat) : Nat :=
  match regRow a with
  | some r => r.w1c
  | none => 0

/-- The register at `a` is write-masked (R408). -/
def regWm (a : Nat) : Bool :=
  match regRow a with
  | some r => r.wm
  | none => false

end Sys2Proof.Machine
end

