-- ==== Sys2Proof/Machine/Sparse.lean ====
section
/-! DEFINITION. Sparse data by address in one canonical form: addresses strictly rising, and no entry equal to
what an unlisted address reads as. Registers and memory spaces are held so. -/

namespace Sys2Proof.Machine

/-- What address `k` holds: its entry, or the default `d k` where the list has none. -/
def Sparse.get {β : Type} (d : Nat → β) : List (Nat × β) → Nat → β
  | [], k => d k
  | (a, v) :: t, k => if a = k then v else Sparse.get d t k

/-- The list with an entry put in before the first higher address. -/
def Sparse.insert {β : Type} : List (Nat × β) → Nat → β → List (Nat × β)
  | [], k, v => [(k, v)]
  | (a, w) :: t, k, v => if k < a then (k, v) :: (a, w) :: t else (a, w) :: Sparse.insert t k v

/-- The list with address `k` holding `v`; a value equal to the default leaves no entry. -/
def Sparse.set {β : Type} [DecidableEq β] (d : Nat → β) (m : List (Nat × β)) (k : Nat) (v : β) : List (Nat × β) :=
  let rest := m.filter (fun c => c.1 != k)
  if v = d k then rest else Sparse.insert rest k v

/-- The canonical form: strictly rising addresses, no entry equal to the default. -/
def Sparse.wf {β : Type} [DecidableEq β] (d : Nat → β) : List (Nat × β) → Bool
  | [] => true
  | (a, v) :: t => decide (v ≠ d a) && t.all (fun c => decide (a < c.1)) && Sparse.wf d t

/-- The list with every address that `p` names back at its default. -/
def Sparse.clear {β : Type} (p : Nat → Bool) (m : List (Nat × β)) : List (Nat × β) :=
  m.filter (fun c => !p c.1)

/-- The list with consecutive addresses from `k` holding the listed values. -/
def Sparse.setList {β : Type} [DecidableEq β] (d : Nat → β) (m : List (Nat × β)) (k : Nat) :
    List β → List (Nat × β)
  | [] => m
  | v :: t => Sparse.setList d (Sparse.set d m k v) (k + 1) t

/-- What `n` consecutive addresses from `k` hold. -/
def Sparse.getList {β : Type} (d : Nat → β) (m : List (Nat × β)) (k n : Nat) : List β :=
  (List.range n).map (fun i => Sparse.get d m (k + i))

end Sys2Proof.Machine
end

