-- ==== Sys2Proof/Machine/StLine.lean ====
section
/-! DEFINITION. The state of a line channel that no register shows: lane transitions, the frame acquisition unit. -/

namespace Sys2Proof.Machine

/-- A wake or doze request of a line (R51, R55). -/
inductive LineReq where
  | wake
  | light
  | deep
  deriving DecidableEq, Repr

/-- The transition a lane is in (R52, R53, R501). -/
inductive LineTrans where
  | none
  | entry (deep : Bool)
  | exit
  | move (toDeep : Bool)
  deriving DecidableEq, Repr

/-- The lane of a line (chapter 2). -/
structure Lane where
  /-- the transition in progress -/
  trans : LineTrans
  /-- the doze the line was in before the exit or move in progress -/
  fromDeep : Bool
  /-- the one held request (R55) -/
  held : Option LineReq
  /-- a format change in progress through deep doze, or stored until wake (R42): FORMAT, MXF FEC, raw kbaud -/
  newFormat : Option (Nat × Bool × Nat)
  /-- the lane baud of FORMAT 0x11 in kbaud -/
  rawKbaud : Nat
  /-- in doze by command: a line that dozes only for want of a format wakes when it gets one (R42) -/
  dozeCmd : Bool
  /-- the loopback mode in force (R48) -/
  loopback : Nat
  /-- the words of the last frame at the transmit parallel interface that no loopback has taken yet, the first sent first -/
  words : List (BitVec 64)
  /-- bytes of the last frame that do not fill a word -/
  odd : List (BitVec 8)
  /-- the word that a far-end loopback retransmitted last -/
  looped : Option (BitVec 64)
  deriving DecidableEq, Repr

/-- A lane at reset: deep doze, nothing held. -/
def Lane.reset : Lane := ⟨.none, true, none, none, 0, false, 0, [], [], none⟩

/-- A candidate tracker of a framed format (R70). -/
structure Tracker where
  /-- bit position modulo the frame length at which the pattern ends -/
  pos : Nat
  /-- consecutive finds -/
  count : Nat
  /-- bit offset of the last find within its word -/
  ofs : Nat
  /-- order of opening -/
  born : Nat
  /-- frame numbers of the last find and of the one before it -/
  fr : Nat
  frPrev : Nat
  deriving DecidableEq, Repr

/-- A Clause 36 synchronization state machine at one code-group offset (R71). -/
structure Cl36 where
  st : Nat
  good : Nat
  even : Bool
  deriving DecidableEq, Repr

/-- The frame acquisition unit of a line (chapter 3). -/
structure Fau where
  /-- the preceding word, and whether there is one -/
  prev : Nat
  havePrev : Bool
  /-- bits taken since IDLE, modulo the frame length: the position of the next word's first bit -/
  pos : Nat
  /-- finds of the last word, registered in the next word period: position and offset in the word -/
  finds : List (Nat × Nat)
  /-- first position the last word covered -/
  lastBase : Nat
  trackers : List Tracker
  opened : Nat
  /-- locked position, or block offset -/
  lock : Option Nat
  /-- consecutive misses at the locked position -/
  miss : Nat
  /-- expected patterns at the locked position that have passed -/
  passes : Nat
  /-- 64b/66b: valid headers in a row per offset (R71) -/
  hdr : List Nat
  /-- 64b/66b: headers and invalid headers of the window of 64 in progress -/
  win : Nat
  winBad : Nat
  /-- the block-coded loss criterion has been reached -/
  lossDue : Bool
  /-- 1000BASE-X: the state machine of each offset -/
  cl36 : List Cl36
  /-- OTUk multiframe: last MFAS, matches and differences in a row (R76) -/
  mfas : Option Nat
  mfGood : Nat
  mfBad : Nat
  /-- FEC decoder mode in force, and the modes in which the codewords of the frame in progress were decoded (R86) -/
  fecMode : Nat
  modes : List Nat
  /-- position and BIT_OFS of the tracker that takes the line back into lock in the next word period (R78) -/
  relock : Option (Nat × Nat)
  deriving DecidableEq, Repr

/-- An idle frame acquisition unit: all trackers clear (R73). -/
def Fau.idle : Fau :=
  ⟨0, false, 0, [], 0, [], 0, none, 0, 0, List.replicate 66 0, 0, 0, false, List.replicate 10 ⟨0, 0, false⟩, none, 0, 0, 0, [], none⟩

/-- A received Mehrax frame whose check result is not yet known (R100, R101). -/
structure MxfPending where
  /-- the FSN the frame is taken to carry, if any (R98) -/
  fsn : Option Nat
  ohGood : Bool
  rpt : Bool
  unc : Bool
  pcrc : Nat
  bip : Nat
  deriving DecidableEq, Repr

/-- A reliable message that awaits its acknowledgement (R112). -/
structure PmcOut where
  msg : PeerMsg
  resends : Nat
  /-- transmit frames started since the one that carried the message -/
  waited : Nat
  /-- the message is due in the next frame: its first sending or a resend -/
  due : Bool
  deriving DecidableEq, Repr

/-- The Mehrax receiver and transmitter of a line (chapter 4). -/
structure Mxf where
  /-- FSN the next frame is expected to carry (R98) -/
  expFsn : Option Nat
  /-- a new sequence: its FSN and the frame periods since -/
  newSeq : Option (Nat × Nat)
  prev : Option MxfPending
  /-- payload words of the last received frame, descrambled and corrected; frames received -/
  payload : List (BitVec 64)
  frames : Nat
  /-- its rows whose words are marked errored, by bit (Table 3.7) -/
  marked : Nat
  /-- FSN and result of the last frame check: true is clean (R101) -/
  result : Option (Option Nat × Bool)
  /-- fields of the last frame with a good OHCRC (R105, R106) -/
  slotUsed : Nat
  slotAis : Nat
  slotRdi : Nat
  rdi : Bool
  /-- violations of the check results since the transmitter's previous frame, sent as REI (R106, R212) -/
  violations : Nat
  /-- QL_OPT, QL and the run of equal values; the accepted pair (R107) -/
  qlOpt : Nat
  ql : Nat
  qlRun : Nat
  qlAcc : Option (Nat × Nat)
  /-- a peer message taken from a frame, not yet handled (R109) -/
  rxMsg : Option PeerMsg
  /-- last PMC_ACK_SEQ received in a good frame with RPT = 0 -/
  rxAck : Option Nat
  /-- the peer's HELLO: identifier, capabilities, line (R116) -/
  peer : Option (Nat × Nat × Nat)
  /-- the latest HELLO of the merge pair came on this line (R258) -/
  peerNew : Bool
  /-- the last merge message that was inconsistent (R241, class 5) -/
  badMerge : Option PeerMsg
  /-- MERGE_STATUS values received, by group (R113) -/
  mergeStatus : List (Nat × Nat × Nat)
  /-- the received trace identifier by fragment, and the fragments seen (R126) -/
  traceRx : List (Nat × Nat)
  /-- overhead of the last frame that its OHCRC passed, not yet taken by the OHP: SNAP value, and the MCC octets where
  RPT was 0 (R120, R125) -/
  oh : Option (Nat × Option (List (BitVec 8)))
  /-- the frame in progress has lost words (R31) -/
  frameUnc : Bool
  fecRx : Bool
  /-- transmitter: next FSN, first frame, check fields of the previous frame (R96, R100) -/
  txFsn : Nat
  txFirst : Bool
  txPcrc : Nat
  txBip : Nat
  fecTx : Bool
  /-- reliable messages (R111, R112) -/
  out : Option PmcOut
  waiting : List PeerMsg
  nextSeq : Nat
  ackSeq : Nat
  /-- merge commands that this line has dropped, and that have been acknowledged, not yet seen by the protection engine
  (R241, R258) -/
  dropped : List PeerMsg
  acked : List PeerMsg
  /-- groups whose PMC_ARG0 changed, with repeats left, and the value last sent (R113, R256) -/
  changed : List (Nat × Nat)
  sentArg0 : List (Nat × Nat)
  /-- position in the status cycle (R113) -/
  cycle : Nat
  /-- the last frame sent, and the last one completed before it, which a hold repeats (R102); scrambled as on the line -/
  txFrame : List (BitVec 64)
  txBuf : List (BitVec 64)
  /-- status of the last request for a reliable message: 0, or NO_RESOURCE (R112) -/
  reqStatus : Nat
  deriving DecidableEq, Repr

/-- A Mehrax line part at reset. -/
def Mxf.reset : Mxf :=
  ⟨none, none, none, [], 0, 0, none, 0, 0, 0, false, 0, 0, 0, 0, none, none, none, none, false, none, [], [], none, false, false, 0, true, 0, 0, false,
    none, [], 1, 0, [], [], [], [], 0, [], [], 0⟩

/-- The receiver of a trace store (R130, R131). -/
structure Trace where
  /-- the bytes of the trace period in progress -/
  buf : List (BitVec 8)
  /-- the value of the last complete period and the consecutive periods that carried it -/
  last : List (BitVec 8)
  run : Nat
  /-- a trace has been accepted (R132) -/
  got : Bool
  deriving DecidableEq, Repr

/-- A trace receiver at reset. -/
def Trace.reset : Trace := ⟨[], [], 0, false⟩

/-- The receiver of a 10GBASE-R or 25GBASE-R line after block lock (R85, R127, R202). -/
structure EthRx where
  /-- the last 58 scrambled bits, the newest lowest -/
  descr : Nat
  /-- blocks and invalid sync headers in the window of the BER monitor; hi_ber -/
  blocks : Nat
  invalid : Nat
  hiBer : Bool
  /-- Clause 46: link fault state (0 OK, else the code of the ordered set), the last fault sequence and how often it has come,
  columns since it came -/
  fault : Nat
  last : Nat
  count : Nat
  cols : Nat
  deriving DecidableEq, Repr

/-- An Ethernet receiver that has seen nothing. -/
def EthRx.reset : EthRx := ⟨0, 0, 0, false, 0, 0, 0, 0⟩

/-- The overhead processor of a line (chapter 5). -/
structure Ohp where
  /-- RX_CFG, TIM_CFG, TCM_CFG (receive), TCM_CFG (transmit) and TX_CFG as taken at the last frame boundary (R152) -/
  rxCfg : Nat
  timCfg : Nat
  tcmRx : Nat
  tcmTx : Nat
  txCfg : Nat
  /-- trace stores 0 to 7 -/
  traces : List Trace
  /-- CRC-7 errors of trace 0, and the last complete 16-byte trace multiframe (R131) -/
  crc7 : Nat
  crc7Prev : Option (List (BitVec 8))
  /-- the last frame taken under R120, descrambled and decoded; frames taken so far; whether the defect integrators have yet to
  evaluate the last one -/
  rx : Option OhpFrame
  frames : Nat
  fresh : Bool
  /-- BIP-8 and BIP-24N computed over the last STM-N frame; BIP-8 over the OPUk of the last two OTUk frames, the
  older first -/
  par1 : Option (BitVec 8)
  par2 : List (BitVec 8)
  opuBips : List (BitVec 8)
  /-- value and run of K1, K2 or of the ODUk APS bytes, of the S1 quality level, of PT and of the MSI; accepted ones -/
  aps : Nat × Nat
  /-- APS frames since values were last stable (R241, class 4) -/
  apsAge : Nat
  s1 : Nat × Nat
  s1Acc : Option Nat
  pt : Nat × Nat
  ptAcc : Option Nat
  msiBuf : List (BitVec 8)
  msi : List (BitVec 8) × Nat
  msiAcc : Option (List (BitVec 8))
  /-- violations found and not yet sent as MS-REI, or as SM, PM and TCM1 to TCM6 BEI -/
  reiDue : List Nat
  /-- Ethernet receiver -/
  eth : EthRx
  /-- transmitter: the traces in force, the J0 trace of the multiframe before this one, the position in the trace period and
  the multiframe, parities of the last frames sent, ordered sets in force (R210): 0 none, 1 local fault, 2 remote fault,
  3 idle -/
  txTraces : List (List (BitVec 8))
  txJ0Prev : Option (List (BitVec 8))
  txPos : Nat
  txPar1 : BitVec 8
  txPar2 : List (BitVec 8)
  txBips : List (BitVec 8)
  /-- the STM-N or OTUk frame in transmission before scrambling, and the frame that the hold buffer keeps (R37, R279) -/
  tx : List (BitVec 8)
  txHold : List (BitVec 8)
  txSets : Nat
  /-- the MCC octets that OHP_FRAME_TX has taken for the next Mehrax frame (R108) -/
  txMcc : List (BitVec 8)
  /-- the last ESMC frame sent, with its FCS (R129), and bytes still to come of a record that is discarded whole (R138) -/
  esmcTx : List (BitVec 8)
  esmcSkip : Nat
  deriving DecidableEq, Repr

/-- An overhead processor at reset. -/
def Ohp.reset : Ohp where
  rxCfg := 0xD
  timCfg := 0
  tcmRx := 0
  tcmTx := 0
  txCfg := 1
  traces := List.replicate 8 Trace.reset
  crc7 := 0
  crc7Prev := none
  rx := none
  frames := 0
  fresh := false
  par1 := none
  par2 := []
  opuBips := []
  aps := (0, 0)
  apsAge := 0
  s1 := (0, 0)
  s1Acc := none
  pt := (0, 0)
  ptAcc := none
  msiBuf := []
  msi := ([], 0)
  msiAcc := none
  reiDue := List.replicate 8 0
  eth := EthRx.reset
  txTraces := List.replicate 8 (List.replicate 64 0)
  txJ0Prev := none
  txPos := 0
  txPar1 := 0
  txPar2 := []
  txBips := []
  tx := []
  txHold := []
  txSets := 0
  txMcc := []
  esmcTx := []
  esmcSkip := 0

/-- The defect integrators and the monitoring of a line (chapter 7). -/
structure Dpm where
  /-- how long each criterion of Table 7.1 has held and has not, by bit of LCH_DPM_DEF: frames, or ns for the criteria
  that name a time -/
  on : List Nat
  off : List Nat
  /-- ns that each unmasked defect has been present, and that the defect has been absent, without a break (R204) -/
  here : List Nat
  gone : List Nat
  /-- TCM levels: 7 criteria per level (AIS, OCI, LCK, LTC, TIM, BDI, DEG), runs and defects -/
  tcmOn : List Nat
  tcmOff : List Nat
  tcmDef : Nat
  /-- consecutive bad and good seconds of layer 0, layer 1 and TCM1 to TCM6; errored blocks of the TCM levels in the
  present second -/
  bad : List Nat
  good : List Nat
  tcmEb : List Nat
  /-- frames with a nonzero BEI of each TCM level in the present second -/
  tcmFe : List Nat
  /-- B2 windows of dEXC and dDEG: frames, violations, and whether the last complete window exceeded its ratio, fell below a
  tenth of it -/
  b2 : List (Nat × Nat × Bool × Bool)
  deriving DecidableEq, Repr

/-- Defect integrators at reset. -/
def Dpm.reset : Dpm where
  on := List.replicate 20 0
  off := List.replicate 20 0
  here := List.replicate 20 0
  gone := List.replicate 20 0
  tcmOn := List.replicate 42 0
  tcmOff := List.replicate 42 0
  tcmDef := 0
  bad := List.replicate 8 0
  good := List.replicate 8 0
  tcmEb := List.replicate 6 0
  tcmFe := List.replicate 6 0
  b2 := List.replicate 2 (0, 0, false, false)

/-- The hold control and the receive queue of a line (R264 to R266, R278 to R281): line word number, and of the last word taken
the low 8 bits of its sequencer frame; the frame in progress was interrupted by a hold; the input is absent from the
sequencer; the words that wait in the receive queue, and FRAME boundaries since the first of them. -/
structure Frb where
  lwn : Nat
  tag : Nat
  cut : Bool
  absent : Bool
  words : List (BitVec 64)
  age : Nat
  deriving DecidableEq, Repr

/-- A hold control at reset. -/
def Frb.reset : Frb := ⟨0, 0, false, false, [], 0⟩

/-- The Through pipeline of an output line (R141 to R150). -/
structure Thru where
  /-- the pair has forwarded data since it was created -/
  started : Bool
  /-- CHK_MODE and REWRITE as taken at the last output frame boundary -/
  chk : Bool
  rw : Nat
  /-- bytes of a frame, byte position of the next unit in it, the bytes sent so far, and the bytes that are rewritten in it -/
  size : Nat
  pos : Nat
  frame : List (BitVec 8)
  ins : List (Nat × BitVec 8)
  /-- changes made in this frame and in the frame before, as B1 and as each B2 byte sees them -/
  d1 : BitVec 8
  d1p : BitVec 8
  d2 : List (BitVec 8)
  d2p : List (BitVec 8)
  /-- parity of the changes per interleaved codeword of the OTUk row -/
  rs : List (List (BitVec 8))
  /-- MFAS of the last forwarded frame, the trace whose byte replaces its SM TTI, check byte sent under CHK_MODE = 1 -/
  mfas : Nat
  tti : List (BitVec 8)
  check : BitVec 8
  /-- Mehrax overhead words received and sent in this frame, SLOT_USED of the last frame -/
  ohIn : List (BitVec 64)
  ohOut : List (BitVec 64)
  used : Nat
  /-- output frame boundaries in a row at which the input was IN_FRAME, while the maintenance signal is sent (R148) -/
  back : Nat
  /-- the last unit sent -/
  sent : List Nat
  deriving DecidableEq, Repr

/-- A Through pipeline at reset. -/
def Thru.reset : Thru := ⟨false, false, 0, 0, 0, [], [], 0, 0, [], [], [], 0, [], 0, [], [], 0, 0, []⟩

/-- What Berent keeps of a line whose half has lost its feed, to restore it (R466): format, FEC, raw rate, the kind of a
commanded doze, the input of the Through pair whose output the line is. -/
structure LineOwn where
  format : Nat
  fec : Bool
  kbaud : Nat
  doze : Option Bool
  thru : Option Nat
  deriving DecidableEq, Repr

/-- Nothing to restore. -/
def LineOwn.reset : LineOwn := ⟨0, false, 0, none, none⟩

/-- A pattern generator and checker (R395): the generator's register, 0 while it is off; the bits from which the next received
word is foretold, once seeded; error-free words in a row before SYNC, words in a row with more than 8 errors in SYNC; losses of
SYNC. -/
structure Prbs where
  gen : Nat
  seed : Option Nat
  good : Nat
  bad : Nat
  losses : Nat
  deriving DecidableEq, Repr

/-- A pattern generator and checker that have not begun. -/
def Prbs.reset : Prbs := ⟨0, none, 0, 0, 0⟩

end Sys2Proof.Machine
end

