-- ==== Sys2Proof/Machine/StPlane.lean ====
section
/-! DEFINITION. The state of a plane that no register and no memory space shows: flow contexts, epochs, protection
groups. -/

namespace Sys2Proof.Machine

/-- A pointer interpreter (R161): its state (0 NORM, 1 AIS, 2 LOP), the value in use, the last differing value and its run, runs
of AIS, of invalid pointers and of enabled NDF, frames since the last NDF or adjustment (up to 4), the adjustment of the last
frame (0 none, 1 positive, 2 negative), and the state that its counts call for. -/
structure PtrCtx where
  st : Nat
  val : Nat
  eqVal : Nat
  eqRun : Nat
  ais : Nat
  inv : Nat
  ndf : Nat
  since : Nat
  adj : Nat
  due : Option Nat
  deriving DecidableEq, Repr

/-- A pointer interpreter that has seen nothing. -/
def PtrCtx.reset : PtrCtx := ⟨0, 0, 0, 0, 0, 0, 0, 4, 0, none⟩

/-- The source of a container at one destination of a flow: pointer or GMP generation (R160, R162, R164, R166). -/
structure Gen where
  /-- TX_ST and TX_PTR of Table 6.8; a packet flow's destination waits for a packet of the new epoch (R194, R196) -/
  st : Nat
  val : Nat
  wait : Bool
  /-- the staging store, oldest byte first, and the bytes from its end to the next container frame start -/
  stage : List (BitVec 8)
  ahead : Nat
  /-- container frames made here and not yet in the store; frames made so far; remainder of the nominal rate -/
  made : List (BitVec 8)
  count : Nat
  frac : Nat
  /-- the path trace in force; B3, BIP-2 or ODU BIP-8 values of the last frames made, the older first -/
  trace : List (BitVec 8)
  bips : List (BitVec 8)
  /-- pointer generator: frames since the last adjustment, up to 4; a new pointer is due; the pointer word sent -/
  sinceAdj : Nat
  newPtr : Bool
  ptrTx : Nat
  /-- what the position carries in the next frame, built and not yet sent: H3 and payload of an AU or TU, the words of a group -/
  out : List (BitVec 8)
  ready : Bool
  /-- ODTU2.ts: payload of the multiframe in transmission and of the next, their Cm, the sum of CnD -/
  cur : List (BitVec 8)
  next : List (BitVec 8)
  cm : Nat
  cmNext : Nat
  cnd : Nat
  deriving DecidableEq, Repr

/-- A source that has not begun. -/
def Gen.reset : Gen := ⟨0, 0, false, [], 0, [], 0, 0, [], [], 4, false, 0, [], false, [], [], 0, 0, 0⟩

/-- The alignment of the ODU that a circuit flow carries (R123, R164): byte position in the frame, the last six bytes, frames in
a row without the alignment signal, MFAS, BIP-8 over the OPU of this frame and of the two before it, the older first. -/
structure OduCtx where
  pos : Option Nat
  tail : List (BitVec 8)
  bad : Nat
  mfas : Nat
  run : BitVec 8
  bips : List (BitVec 8)
  deriving DecidableEq, Repr

/-- An ODU not yet aligned. -/
def OduCtx.reset : OduCtx := ⟨none, [], 0, 0, 0, []⟩

/-- A committed client packet with the epoch tag of the receive side that wrote it (R196). -/
structure Packet where
  tag : Nat
  bytes : List (BitVec 8)
  deriving DecidableEq, Repr

/-- The context of a flow in a plane, beside its state record. -/
structure FlowCtx where
  /-- receive pointer, and those of the concatenation indications of an AU-4-nc (R161); the frame of its line or of its VC-4 that
  the sink took last -/
  ptr : PtrCtx
  conc : List PtrCtx
  seen : Nat
  /-- structured sink (R160): bytes of the VC-4 frame in progress, the last complete one, the H4 before it, frames completed; first
  half of a TU-12 pointer, in the first frame of its multiframe -/
  vcBuf : List (BitVec 8)
  vcFrame : List (BitVec 8)
  h4 : Nat
  frames : Nat
  v1 : List (BitVec 8)
  /-- sink in tributary slots (R164): payload of the multiframe in progress, the Cm of it and of the next one; the ODU carried -/
  slots : List (BitVec 8)
  cm : Nat
  cmNext : Nat
  odu : OduCtx
  /-- Mehrax GMP sink (R167): last good C8, bytes to the next VC frame start, run and count of control-word errors,
  client bytes taken from the last frame -/
  c8 : Nat
  vcNext : Option Nat
  cwRun : Nat
  cwErrs : Nat
  client : List (BitVec 8)
  /-- the sources at the destination and at the second destination of a bridge (R155), as epoch 0 and as epoch 1 names them -/
  gens : List Gen
  /-- violations of the path's parity not yet sent as REI or BEI (R212) -/
  reiDue : Nat
  /-- bytes of GFP frames that wait for their container (R172) -/
  gfpOut : List (BitVec 8)
  /-- GFP-F sink (R173): the state that the last core header calls for, frames discarded -/
  gfpDue : Option Nat
  gfpDisc : Nat
  /-- GFP-F sink: a client signal fail frame, or a client data frame, was the last that counts (R205) -/
  csf : Bool
  /-- client packet queue, oldest first; the last packet sent; the scrambler of the GFP-F source -/
  queue : List Packet
  sent : List (BitVec 8)
  scr : Nat
  /-- label as received and its run (R205); an accepted label has been set -/
  label : Nat × Nat
  labelled : Bool
  /-- path trace receiver (R130, R131) -/
  trace : Trace

  /-- runs of the flow's defect criteria, on and off, by bit of DEF (R205) -/
  on : List Nat
  off : List Nat
  /-- ns that each defect has been present and absent without a break, failures (R204) -/
  here : List Nat
  gone : List Nat
  fail : Nat
  /-- consecutive bad and good seconds (R218) -/
  bad : Nat
  good : Nat
  /-- parities whose accumulator the last pass left unread, PM_EN being 0 (R221) -/
  unread : Nat
  /-- state of the pointer or of Mehrax GMP, state of GFP delineation (Table 6.8) -/
  st : Nat
  gfp : Nat
  deriving DecidableEq, Repr

/-- A flow context with nothing learned. -/
def FlowCtx.reset : FlowCtx where
  ptr := PtrCtx.reset
  conc := []
  seen := 0
  vcBuf := []
  vcFrame := []
  h4 := 0
  frames := 0
  v1 := []
  slots := []
  cm := 0
  cmNext := 0
  odu := OduCtx.reset
  c8 := 0
  vcNext := none
  cwRun := 0
  cwErrs := 0
  client := []
  gens := List.replicate 4 Gen.reset
  reiDue := 0
  gfpOut := []
  gfpDue := none
  gfpDisc := 0
  csf := false
  queue := []
  sent := []
  scr := 0
  label := (0, 0)
  labelled := false
  trace := Trace.reset
  on := List.replicate 16 0
  off := List.replicate 16 0
  here := List.replicate 16 0
  gone := List.replicate 16 0
  fail := 0
  bad := 0
  good := 0
  unread := 0
  st := 0
  gfp := 0

/-- What an unlisted flow's context is. -/
def flowDefault (_ : Nat) : FlowCtx := FlowCtx.reset

/-- A request with its channel or signal number: priority of Table 8.2, 1 the highest; 11 is no request. -/
structure ApsReq where
  prio : Nat
  chan : Nat
  deriving DecidableEq, Repr

/-- A line protection group beside its record (R236 to R241). -/
structure LGroup where
  /-- the accepted far-end request and its bridged channel -/
  rx : Option (ApsReq × Nat)
  /-- the request sent and the bridged channel sent -/
  tx : ApsReq
  txBridge : Nat
  /-- P is selected because of SF or SD on W (R235) -/
  cause : Bool
  /-- which manual request was in force first: 0 none, 1 the local one, 2 the far one -/
  first : Nat
  /-- the last value that was not accepted, and whether architecture or mode differs (class 2) -/
  refused : Option (Nat × Bool)
  /-- classes whose episode runs, by bit -/
  pv : Nat
  deriving DecidableEq, Repr

/-- A line group at its creation. -/
def LGroup.reset : LGroup := ⟨none, ⟨11, 0⟩, 0, false, 0, none, 0⟩

/-- A buffer position of a copy of a merge group (R248). -/
structure MergePos where
  fsn : Nat
  result : Option Bool
  sf : Bool
  words : List (BitVec 64)
  deriving DecidableEq, Repr

/-- One copy of a merge group: its positions, the newest first; arrival time of the newest frame in word periods; frames
written since the group was last unanchored; consecutive output frames not usable; out of window; class 7. -/
structure MergeCopy where
  buf : List MergePos
  arrived : Nat
  written : Nat
  unused : Nat
  out : Bool
  seven : Bool
  deriving DecidableEq, Repr

/-- A copy with nothing written. -/
def MergeCopy.reset : MergeCopy := ⟨[], 0, 0, 0, false, false⟩

/-- A merge group beside its record (R243 to R258). -/
structure MGroup where
  w : MergeCopy
  p : MergeCopy
  /-- FSN of the next output frame; output frames still to come without a copy (R255) -/
  next : Nat
  gap : Nat
  /-- the copy that supplied the last output frame: false is W -/
  src : Option Bool
  /-- output frames in a row without a copy -/
  dry : Nat
  /-- FAR_REQ as the last accepted MERGE_CMD set it; a merge message was inconsistent since (class 5); a MERGE_STATUS has
  been accepted, with its bridge bits -/
  farKept : Nat
  incons : Bool
  farBridge : Option Nat
  /-- which manual request was in force first: 0 none, 1 local, 2 far; it came in the present frame -/
  first : Nat
  fresh : Bool
  /-- the MERGE_CMD in hand has been refused by the waiting queue of W, of P (R258) -/
  refusedW : Bool
  refusedP : Bool
  /-- classes whose episode runs, by bit -/
  pv : Nat
  /-- frames in a row with the relation of class 7, and with different MERGE_STATUS on the two lines (Table 8.4) -/
  sevenRun : Nat
  differ : Nat
  /-- words of the last output frame, output frames so far, the last one has an uncorrectable word (R36, R248) -/
  output : List (BitVec 64)
  frames : Nat
  bad : Bool
  deriving DecidableEq, Repr

/-- A merge group at its creation. -/
def MGroup.reset : MGroup := ⟨MergeCopy.reset, MergeCopy.reset, 0, 0, none, 0, 0, false, none, 0, false, false, false, 0, 0, 0, [], 0, false⟩

/-- A plane (chapters 6 to 9). -/
structure Plane where
  /-- a Fatal class 4 event has stopped it (R450) -/
  stopped : Bool
  /-- the parity of the per-second accumulators (R215) -/
  parity : Nat
  /-- contexts of flows that are not at their reset value -/
  flows : List (Nat × FlowCtx)
  /-- lines whose receive and whose transmit side has switched in the commit in progress, by bit (R192) -/
  rxDone : Nat
  txDone : Nat
  /-- packet flows that the last commit removed and whose queues are not yet empty (R196) -/
  removed : List Nat
  /-- check value of the active epoch, and whether a commit has completed (R198) -/
  crcActive : Nat
  committed : Bool
  /-- parities whose accumulators no pass has consumed (R221); a time step since the last pass (R223); the 15-minute and
  24-hour intervals of the last pass -/
  stale : Nat
  stepped : Bool
  int15 : Nat
  int24 : Nat
  /-- protection groups -/
  lgs : List LGroup
  mgs : List MGroup
  deriving DecidableEq, Repr

/-- A plane at reset. -/
def Plane.reset : Plane := ⟨false, 0, [], 0, 0, [], 0, false, 0, false, 0, 0, List.replicate 48 LGroup.reset, List.replicate 256 MGroup.reset⟩

end Sys2Proof.Machine
end

