-- ==== Sys2Proof/Machine/StUnits.lean ====
section
/-! DEFINITION. The state of the spine's units and of the module buses that no register shows. -/

namespace Sys2Proof.Machine

/-- The two ordering variants (Table 0.1). -/
inductive Variant where
  | lp9672
  | lp9648
  deriving DecidableEq, Repr

/-- What is fixed in a part: variant and fuses (R2, R351, R354, R361). -/
structure Fuses where
  variant : Variant
  serial : List (BitVec 8)
  rootKeyHash : Option (List (BitVec 8))
  svn : Nat
  lockWord : Nat
  deriving DecidableEq, Repr

/-- The time-keeper (R320). -/
structure TimeKeeper where
  running : Bool
  sec : Nat
  ns : Nat
  /-- fraction of a nanosecond in units of 2^-11 ns, carried while it advances from CK_AON -/
  frac : Nat
  deriving DecidableEq, Repr

/-- How far chip sleep has gone (R472 to R475). -/
inductive SleepPhase where
  | awake
  | entering
  | asleep
  deriving DecidableEq, Repr

/-- Pins, supplies and resets (chapter 17). -/
structure Power where
  /-- levels at the balls: RESET_N, PERST_N -/
  resetN : Bool
  perstN : Bool
  /-- straps as sampled, the configuration taken (R19, R468) -/
  strapTwin : Bool
  strapBootSrc : Nat
  strapTest : Bool
  twinTaken : Bool
  /-- the internal reset is held (R467) -/
  inReset : Bool
  /-- the 100 µs of a chip reset run (R469); a chip reset has been requested, by the fault collector or not -/
  chipReset : Bool
  crstDue : Option Bool
  /-- chip sleep; CORE_EN_A and CORE_EN_B; wake sources that arrived during entry (R475) -/
  sleep : SleepPhase
  coreEn : Bool
  wakeDue : Nat
  /-- the cause that the next start records -/
  nextCause : Nat
  /-- per half: from its feed loss until its core PLL locks, its sources are held (R443) -/
  halfHeld : List Bool
  deriving DecidableEq, Repr

/-- Supplies and resets when VAON has reached tolerance: RESET_N and PERST_N low. -/
def Power.reset : Power where
  resetN := false
  perstN := false
  strapTwin := false
  strapBootSrc := 0
  strapTest := false
  twinTaken := false
  inReset := true
  chipReset := false
  crstDue := none
  sleep := .awake
  coreEn := false
  wakeDue := 0
  nextCause := 0
  halfHeld := [true, true]

/-- The PCIe function (R398 to R400, R421). -/
structure Pcie where
  cfgReady : Bool
  linkUp : Bool
  busMaster : Bool
  d3hot : Bool
  fnMask : Bool
  deriving DecidableEq, Repr

/-- Interrupt vectors (R419 to R421): pulse vectors asserted, assertions after the last command, pending bits, the
MSI-X messages sent, oldest first. -/
structure Irq where
  pulse : Nat
  asserted : Nat
  pba : Nat
  sent : List Nat
  deriving DecidableEq, Repr

/-- One guard unit (R409 to R411): the address and value of the open pair. -/
structure Guard where
  pair : Option (Nat × Nat)
  deriving DecidableEq, Repr

/-- A transfer of a bus master: the channel of a bus switch, a page select at offset 127, a read; a frame of Clause 22 or 45
(R57, R59, R62). -/
inductive BusXfer where
  | channel (addr chan : Nat)
  | page (dev page : Nat)
  | read (dev ofs len : Nat)
  | clause22 (port reg : Nat)
  | clause45 (port dev reg : Nat)
  deriving DecidableEq, Repr

/-- One bus of the PIN block (R57 to R63). -/
structure Bus where
  /-- PIN_BUS_CFG as taken at the start of the pass -/
  en : Bool
  speed : Nat
  period : Nat
  /-- the items of the pass still to run: module, item, CTL, OFS, OP_A, OP_B as taken at its start -/
  pass : List (Nat × Nat × Nat × Nat × Nat × Nat)
  /-- a period has elapsed while the pass runs -/
  overrun : Bool
  /-- the module whose switch channel is selected -/
  channel : Option Nat
  /-- modules whose address was not acknowledged, and acknowledged, in this pass -/
  nacked : List Nat
  acked : List Nat
  /-- a host transaction waits for its turn (R62) -/
  hostDue : Bool
  /-- the transfers of the last item, in their order (R59, R60) -/
  xfers : List BusXfer
  deriving DecidableEq, Repr

/-- A bus at reset. -/
def Bus.reset : Bus := ⟨true, 0, 10, [], false, none, [], [], false, []⟩

/-- A module of the table: consecutive passes without and with acknowledgement, and per item the consecutive passes
on which its compare matched and failed (R61). -/
structure Module where
  nackRun : Nat
  ackRun : Nat
  matchRun : List Nat
  failRun : List Nat
  /-- items that hold a fresh value, by bit -/
  read : Nat
  deriving DecidableEq, Repr

/-- A module at reset. -/
def Module.reset : Module := ⟨0, 0, List.replicate 8 0, List.replicate 8 0, 0⟩

/-- The fault collector's state beside its registers (chapter 16). -/
structure Fcr where
  /-- registered live bits of type L sources -/
  live : Nat
  /-- conditions outside the device's own state that hold: bit s for source s -/
  ext : Nat
  /-- happenings of type E sources not yet registered, by bit -/
  due : Nat
  /-- sources whose last event carried INT, ERRN -/
  lastInt : Nat
  lastErrn : Nat
  /-- escalation level of each class, unsaturated (R445) -/
  esc : List Nat
  /-- source whose live bit an injection forces -/
  injected : Option Nat
  deriving DecidableEq, Repr

/-- An event waiting in Berent (R386). -/
structure EventRec where
  code : Nat
  tag : Nat
  seq : Nat
  tkNs : Nat
  tkS : Nat
  args : List (BitVec 8)
  deriving DecidableEq, Repr

/-- A message posted on a ring and not yet taken (R373, R379, R381). -/
structure Posted where
  ring : Fin 4
  num : Nat
  /-- messages that other rings have started since its doorbell -/
  passed : Nat
  /-- its doorbell arrived while Berent was in overload -/
  ovl : Bool
  deriving DecidableEq, Repr

/-- A command that Berent has taken and not yet answered. -/
structure Taken where
  ring : Fin 4
  slot : Nat
  opcode : Nat
  tag : Nat
  prog : Bool
  ovl : Bool
  state : Nat
  deriving DecidableEq, Repr

/-- A long operation in an entry of the MBX_OP table (R388). -/
structure LongOp where
  cmd : Taken
  /-- started by firmware itself, with no message to answer (R389) -/
  auto : Bool
  /-- planes of the operation (bit 0 A, bit 1 B), or lines, or the flash slot -/
  target : Nat
  lastPct : Nat
  /-- data the operation reads once: the edit list, the image, the pattern (R385) -/
  data : List (BitVec 8)
  /-- flash has been written (R390) -/
  writing : Bool
  deriving DecidableEq, Repr

/-- The retained record of a management restart (R346, R348): release, firmware state, commands whose slots are still to be
answered OP_ABORTED (R390). -/
structure Retained where
  release : Nat
  state : Nat
  aborted : List Taken
  deriving DecidableEq, Repr

/-- The boot ROM and what it leaves (chapter 12). -/
structure Boot where
  /-- measurements MEAS0, MEAS1, MEAS2 (R359) -/
  meas0 : List (BitVec 8)
  meas1 : List (BitVec 8)
  meas2 : List (BitVec 8)
  /-- FW_VER of the accepted image -/
  fwVer : Nat
  /-- the OTP seed is locked (R360) -/
  seedLocked : Bool
  /-- the next flash slot to attempt: 0 slot A, 1 slot B, 2 none -/
  slot : Nat
  /-- this start is a management restart; one is due -/
  restart : Bool
  restartDue : Bool
  retained : Option Retained
  /-- the events, by source and severity, that the trap handler has put into the retained record (Table 16.2); those of a trap that
  waits (NMI_PEND) -/
  trapped : List (Nat × Nat)
  trapDue : List (Nat × Nat)
  /-- the state that MAINTENANCE was entered from (R364) -/
  maintFrom : Nat
  /-- load windows in a row with LOAD at 95 or above (R368) -/
  hot : Nat
  deriving DecidableEq, Repr

/-- The boot ROM at reset. -/
def Boot.reset : Boot :=
  ⟨List.replicate 64 0, List.replicate 64 0, List.replicate 64 0, 0, false, 0, false, false, none, [], [], 2, 0⟩

/-- Berent's mailbox state (chapter 13). -/
structure Mbx where
  posts : List Posted
  /-- the command in execution that waits on a bus (R378) -/
  busy : Option Taken
  ops : List (Option LongOp)
  evWait : List EventRec
  evLost : Nat
  evSeq : Nat
  evq : Option (Nat × Nat)
  tcaFwd : Bool
  pmx : Option (Nat × Nat)
  /-- the last interval exported, plus one, by record address and day (R394) -/
  pmxDone : List (Nat × Nat)
  todBaud : Nat
  todZda : Bool
  todRx : Bool
  /-- a MODULE_ACCESS in progress: bus, module, operation, payload bytes -/
  access : Option (Nat × Nat × Nat × List (BitVec 8))
  /-- the degrading conditions last reported, by the kind of event 0x0003 -/
  degr : Nat
  /-- configuration words of the groups of an unpowered plane, by record address, to recreate them (R466) -/
  kept : List (Nat × Nat)
  deriving DecidableEq, Repr

/-- The mailbox at reset (R371). -/
def Mbx.reset : Mbx :=
  ⟨[], none, List.replicate 8 none, [], 0, 0, none, false, none, [], 9600, false, false, none, 0, []⟩

/-- The kinds of blocks of the input stream: a block of line data, and the markers of Table 9.2. -/
inductive BlockKind where
  | data
  | frame
  | write
  | commit
  | second
  | lineAbsent
  | linePresent
  deriving DecidableEq, Repr

/-- A block of the input stream (R264, R266): its tag, which is its kind, line, valid word count and the low 40 bits of its
global block number, and its data. -/
structure StreamBlock where
  kind : BlockKind
  line : Nat
  words : List (BitVec 64)
  gbn : Nat
  deriving DecidableEq, Repr

/-- What the twin control holds of a plane (chapter 9). -/
structure PlaneTwin where
  /-- the plane is in INIT or restarts (R449, R466), the restart keeps its SRAM (R449), and INIT has completed and the plane
  waits (R284) -/
  initDue : Bool
  keep : Bool
  inited : Bool
  /-- it began in a joint start -/
  joint : Bool
  /-- windows left of the first 16 in which a silent path does not count after a start in ALONE (R273) -/
  grace : Nat
  /-- sequencer frames in which the plane raised a plane-attributable source, the newest first (R271) -/
  faults : List Nat
  /-- windows with a valid heartbeat in a row, wire and spine -/
  goodWire : Nat
  goodSpine : Nat
  /-- the local lease timer runs (R274) -/
  output : Bool
  /-- the plane restarts after a reset or the return of its feed (R223) -/
  restarted : Bool
  /-- the block that the plane consumed last; it has consumed one in the present frame, none in the last (R272) -/
  last : Option StreamBlock
  took : Bool
  idle : Bool
  /-- the input queue in COPY: the blocks of the two most recent frames (R287) -/
  queue : List StreamBlock
  /-- the signature of the present frame, and up to 8 frames of signatures that wait for their compare (R269, R270) -/
  sig : Nat
  sigs : List (Nat × Nat)
  /-- the frame number of the last spine heartbeat (R272, R273) -/
  beat : Option Nat
  deriving DecidableEq, Repr

/-- A plane of the twin control at reset. -/
def PlaneTwin.reset : PlaneTwin :=
  ⟨true, false, false, false, 0, [], 0, 0, false, false, none, false, false, [], 0, [], none⟩

/-- A planned transfer: target plane, its frame, and whether the target must stay IN_STEP (R276). -/
structure Transfer where
  target : Nat
  frame : Nat
  inStep : Bool
  deriving DecidableEq, Repr

/-- A re-synchronisation: the returning plane, COPY has begun, passes ended, dirty granules left to the pass that runs. -/
structure Resync where
  plane : Nat
  copying : Bool
  passes : Nat
  dirty : List Nat
  deriving DecidableEq, Repr

/-- The ingress sequencer, the signature compare, the lease arbiter and the state-copy engine (chapter 9). -/
structure TwinUnit where
  /-- the next global block number -/
  gbn : Nat
  planes : List PlaneTwin
  /-- the next frame to be compared, and the frames compared equal in a row -/
  cmp : Nat
  equal : Nat
  /-- the first lease has been granted; it or its 1 ms is over (R284, R443) -/
  leased : Bool
  firstOver : Bool
  /-- the plane that completed INIT first (R284) -/
  initFirst : Nat
  /-- the last re-synchronisation ended without success (R288) -/
  resyncEnded : Bool
  xfer : Option Transfer
  resync : Option Resync
  deriving DecidableEq, Repr

/-- The twin control at reset. -/
def TwinUnit.reset : TwinUnit := ⟨0, [PlaneTwin.reset, PlaneTwin.reset], 0, 0, false, false, 0, false, none, none⟩

/-- A candidate beside its registers (R296 to R302): activity at the pin, monitor updates since activity began, the quality
is unknown, 5 s without a QL_FW write. -/
structure CandUnit where
  pin : Bool
  updates : Nat
  unknown : Bool
  /-- the effective rank that it had before its signal failed (R302) -/
  rank : Option Nat
  deriving DecidableEq, Repr

/-- A candidate at reset. -/
def CandUnit.reset : CandUnit := ⟨false, 0, false, none⟩

/-- A DPLL beside its registers (R303 to R312): the DCO offset in ppt, phase samples in a row within 100 ns, milliseconds
LOCKED, the DCO offsets at the samples of the past 61 s (newest first), the phase build-out offset in 2^-8 ns, the
direct-current blocking of its timing-class slot is frozen, a SW_TMO has held the DCO. -/
structure DpllUnit where
  dco : Int
  run : Nat
  lockedMs : Nat
  hist : List Int
  pbo : Int
  frozen : Bool
  swHeld : Bool
  deriving DecidableEq, Repr

/-- The timing unit beside its registers: the clock outputs as in force (CFG and FREQ words), of the last PPS_OUT pulses the
time-keeper reading at the edge (seconds, nanoseconds) and the width in µs, the second that the last ZDA sentence named. -/
structure TmgUnit where
  cands : List CandUnit
  dplls : List DpllUnit
  clk : List (Nat × Nat)
  pps : List (Option (Nat × Nat × Nat))
  zda : Option Nat
  deriving DecidableEq, Repr

/-- A DPLL at reset. -/
def DpllUnit.reset : DpllUnit := ⟨0, 0, 0, [], 0, false, false⟩

/-- The timing unit at reset. -/
def TmgUnit.reset : TmgUnit :=
  ⟨List.replicate 24 CandUnit.reset, List.replicate 8 DpllUnit.reset, List.replicate 12 (0, 0), [none, none], none⟩

/-- A slot of the sample chain (chapter 11). -/
structure SccSlot where
  /-- SCC_SLOT_CFG and SCC_SLOT_SRC as the last synchronising reset took them (R340) -/
  cfg : Nat
  src : Nat
  /-- the slot restarts at the next output tick; it processes samples -/
  restart : Bool
  run : Bool
  /-- candidate phase origin (R327), the last input, which a hold repeats (R328) -/
  origin : Option Int
  input : Int
  /-- median window, newest first, with the hold of each sample (R330) -/
  win : List (Int × Bool)
  /-- raw samples since the restart, up to 1,000; raw samples of the decimation period in progress, one of them held -/
  raws : Nat
  dec : Nat
  decHeld : Bool
  /-- integrators and combs modulo 2^48 (R331), decimated samples that a held one still touches -/
  ints : List Nat
  combs : List Nat
  tail : Nat
  /-- a decimated sample that awaits SCC_MID_SAMPLE -/
  mid : Option (Int × Bool)
  /-- the mean of the DC block with 24 fraction bits; it has been loaded after settling (R332) -/
  mean : Int
  loaded : Bool
  /-- FIR delay line, newest first (R333) -/
  line : List (Int × Bool)
  /-- a fade: target bank, samples done, samples in all (R334) -/
  fade : Option (Nat × Nat × Nat)
  /-- FIR outputs for the resampler, newest first, and its position from the newest one on, in parts of an input sample
  (R337) -/
  hist : List (Int × Bool)
  pos : Int
  /-- output samples for the phase delay, newest first (R338) -/
  outs : List (Int × Bool)
  /-- output samples since the restart, up to SETTLE_LEN (R341) -/
  settle : Nat
  /-- consecutive samples at or above THR_HI, below THR_HI − HYST, at or below THR_LO, above THR_LO + HYST (R339) -/
  hiUp : Nat
  hiDown : Nat
  loUp : Nat
  loDown : Nat
  /-- a stage saturated, a fade ran, the DC block was frozen since the last record (Table 11.4) -/
  sat : Bool
  faded : Bool
  frozen : Bool
  deriving DecidableEq, Repr

/-- A slot with every state register clear (R340). -/
def SccSlot.reset : SccSlot :=
  ⟨0, 0, false, false, none, 0, [], 0, 0, false, [], [], 0, none, 0, false, [], none, [], 0, [], 0, 0, 0, 0, 0, false, false, false⟩

/-- The sample chain: slots, and coefficients that are not 0 by slot × 128 + bank × 64 + tap (R333). -/
structure SccUnit where
  slots : List SccSlot
  coefs : List (Nat × Int)
  deriving DecidableEq, Repr

/-- The sample chain at reset. -/
def SccUnit.reset : SccUnit := ⟨List.replicate 128 SccSlot.reset, []⟩

/-- A descriptor as the engine has read it (Table 15.2). -/
structure DmaDesc where
  addr : Nat
  len : Nat
  dir : Nat
  last : Bool
  irq : Bool
  fence : Bool
  rsv : Nat
  ofs : Nat
  deriving DecidableEq, Repr

/-- A run of a DMA channel (R425 to R439): the registers as taken at its start, the descriptor in execution with the bytes
of it moved, the next entry of the list; in ring mode the bytes that this run moves; a read-back is awaited; the last
descriptor is complete; the run has its check-value unit (R438). -/
structure DmaRun where
  cfg : Nat
  list : Nat
  hostBase : Nat
  hostLim : Nat
  devBase : Nat
  devLim : Nat
  ring : Nat
  idx : Nat
  desc : Option DmaDesc
  moved : Nat
  left : Nat
  fence : Bool
  ended : Bool
  owns : Bool
  deriving DecidableEq, Repr

/-- A DMA channel: its run, the bursts for which it has been passed over (R434), the size of its host ring as last read from
its list (R432). -/
structure DmaChan where
  run : Option DmaRun
  passed : Nat
  size : Option Nat
  deriving DecidableEq, Repr

/-- The DMA engine: its channels, the channel last served at each priority (R434), the ALIGN bit of each timer as its last tick
took it (R431). -/
structure DmaUnit where
  chans : List DmaChan
  served : List Nat
  align : List Bool
  deriving DecidableEq, Repr

/-- The DMA engine at reset. -/
def DmaUnit.reset : DmaUnit := ⟨List.replicate 16 ⟨none, 0, none⟩, List.replicate 4 15, List.replicate 8 false⟩

/-- A check-value unit as its last START latched it (R436), the check register, data bytes to the next fold. -/
structure CvuChan where
  width : Nat
  refin : Bool
  refout : Bool
  fold : Bool
  seg : Nat
  poly : Nat
  xorout : Nat
  reg : Nat
  left : Nat
  /-- the value of the next fold; what has been written to CVU_SEQ since START, for the next START -/
  seq : Nat
  written : Option Nat
  deriving DecidableEq, Repr

/-- A check-value unit at reset. -/
def CvuChan.reset : CvuChan := ⟨32, false, false, false, 0, 0, 0, 0, 0, 0, none⟩

/-- The register that the TAP shifts (R495). -/
inductive JtagReg where
  | idcode
  | boundary
  | bypass
  deriving DecidableEq, Repr

/-- What drives the pins: the device, or the boundary register with its levels, pulses or trains; or nothing. -/
inductive PinSource where
  | device
  | boundary
  | pulse
  | train
  | highZ
  deriving DecidableEq, Repr

/-- The JTAG port (R495): the instruction register, the boundary register as captured and as loaded. -/
structure Jtag where
  ir : Nat
  captured : List Bool
  loaded : List Bool
  deriving DecidableEq, Repr

/-- The JTAG port with its TAP reset. -/
def Jtag.reset : Jtag := ⟨1, [], []⟩

end Sys2Proof.Machine
end

