-- ==== Sys2Proof/Machine/State.lean ====
section
/-! DEFINITION. The state of the device: its registers, its memory spaces, and what its units hold that no register
shows; the faults and refusals a step can end in; the state after reset. -/

namespace Sys2Proof.Machine

/-- What one line channel holds beside its registers. -/
structure LineState where
  lane : Lane
  fau : Fau
  mxf : Mxf
  ohp : Ohp
  dpm : Dpm
  frb : Frb
  thru : Thru
  /-- client frames dropped for an unknown VID (R170) -/
  unkVid : Nat
  /-- the flow that the Ethernet port sent from last (R171) -/
  portLast : Nat
  /-- the characters of the last frame at an Ethernet port: bit 8 marks control characters (R171, R280) -/
  portTx : List (BitVec 9)
  prbs : Prbs
  own : LineOwn
  deriving DecidableEq, Repr

/-- A line channel at reset. -/
def LineState.reset : LineState := ⟨Lane.reset, Fau.idle, Mxf.reset, Ohp.reset, Dpm.reset, Frb.reset, Thru.reset, 0, 0, [], Prbs.reset, LineOwn.reset⟩

/-- The state of the device. -/
structure State where
  /-- the registers of BAR0 that do not hold their reset value (RegMap) -/
  regs : List (Nat × Word)
  /-- the memory spaces behind BAR2 by BAR2 offset (R403) -/
  bar2 : List Host.Cell
  /-- the record space of the protection engines by its 24-bit address (R259) -/
  prtRec : List Host.Cell
  /-- what the device has written to host memory -/
  host : List Host.Cell
  /-- what the device has written to the boot flash -/
  flash : List Host.Cell
  fuses : Fuses
  power : Power
  pcie : Pcie
  irq : Irq
  guardHost : Guard
  guardMgmt : Guard
  tk : TimeKeeper
  fcr : Fcr
  boot : Boot
  mbx : Mbx
  buses : List Bus
  modules : List Module
  lines : List LineState
  planes : List Plane
  tw : TwinUnit
  tmg : TmgUnit
  scc : SccUnit
  dma : DmaUnit
  cvu : List CvuChan
  jtag : Jtag
  /-- how many free values have been taken (Config.freeValue) -/
  fresh : Nat
  /-- the commands that wait, the first to run at the front -/
  pending : List Instr
  deriving DecidableEq, Repr

/-- Why a step stops. -/
inductive Fault where
  /-- Raised by nothing: every command of the table has an effect. Safe. -/
  | none
  deriving DecidableEq, Repr

/-- Why a command is not run. -/
inductive Refusal where
  /-- Raised by an arm of exec whose command has no meaning yet. Safe: nothing is claimed of it. -/
  | notModelled (mnemonic : String)
  deriving DecidableEq, Repr

/-- The device when VAON has reached tolerance (Table 17.3, time 0): every register at its reset value, the internal
reset held, no feed good. -/
def State.reset : State where
  regs := []
  bar2 := []
  prtRec := []
  host := []
  flash := []
  fuses := ⟨.lp9672, List.replicate 16 0, some (List.replicate 64 0), 0, 0⟩
  power := Power.reset
  pcie := ⟨false, false, false, false, false⟩
  irq := ⟨0, 0, 0, []⟩
  guardHost := ⟨none⟩
  guardMgmt := ⟨none⟩
  tk := ⟨false, 0, 0, 0⟩
  fcr := ⟨0, 0, 0, 0, 0, List.replicate 20 0, none⟩
  boot := Boot.reset
  mbx := Mbx.reset
  buses := List.replicate 10 Bus.reset
  modules := List.replicate 96 Module.reset
  lines := List.replicate 96 LineState.reset
  planes := List.replicate 2 Plane.reset
  tw := TwinUnit.reset
  tmg := TmgUnit.reset
  scc := SccUnit.reset
  dma := DmaUnit.reset
  cvu := List.replicate 16 CvuChan.reset
  jtag := Jtag.reset
  fresh := 0
  pending := []

end Sys2Proof.Machine
end

