-- ==== Sys2Proof/Machine/Ops.lean ====
section
/-! DEFINITION. The named operations over the state: registers and their fields, counters, memory spaces, lines,
power and variant, time stamps, free values. -/

namespace Sys2Proof.Machine

/-! ## Registers -/

/-- What the register at BAR0 offset `a` holds. -/
def State.reg (s : State) (a : Nat) : Word := Sparse.get regReset s.regs a

/-- The state with the register at `a` holding `w`. -/
def State.setReg (s : State) (a : Nat) (w : Word) : State :=
  { s with regs := Sparse.set regReset s.regs a w }

/-- The value of a field. -/
def State.get (s : State) (f : FRef) : Nat := wordBits (s.reg f.addr) f.lo f.len

/-- The state with a field holding `v` modulo its width. -/
def State.set (s : State) (f : FRef) (v : Nat) : State :=
  s.setReg f.addr (wordPut (s.reg f.addr) f.lo f.len v)

/-- A one-bit field reads 1; for a wider field, it is not zero. -/
def State.flag (s : State) (f : FRef) : Bool := s.get f != 0

/-- The state with a one-bit field set or cleared. -/
def State.setB (s : State) (f : FRef) (b : Bool) : State := s.set f (b2n b)

/-- The state with a one-bit field set to 1. -/
def State.raise (s : State) (f : FRef) : State := s.set f 1

/-- The state with `k` added to a field, modulo its width. -/
def State.add (s : State) (f : FRef) (k : Nat) : State := s.set f (s.get f + k)

/-- The state with `k` added to a field, held at its largest value. -/
def State.addSat (s : State) (f : FRef) (k : Nat) : State := s.set f (min (s.get f + k) (2 ^ f.len - 1))

/-- The state with the bits of `m` set in a field. -/
def State.orBits (s : State) (f : FRef) (m : Nat) : State := s.set f (s.get f ||| m)

/-- The value of a counter or wide field whose low word lies at `a` and whose high word at `a + 4` (R89). -/
def State.get64 (s : State) (a : Nat) : Nat := (s.reg a).toNat + 2 ^ 32 * (s.reg (a + 4)).toNat

/-- The state with the 64 bits at `a` and `a + 4` holding `v`. -/
def State.set64 (s : State) (a v : Nat) : State :=
  (s.setReg a (BitVec.ofNat 32 v)).setReg (a + 4) (BitVec.ofNat 32 (v / 2 ^ 32))

/-- The state with a 48-bit counter increased by `k`, modulo 2^48 (R87, R89). -/
def State.count (s : State) (a k : Nat) : State := s.set64 a ((s.get64 a + k) % 2 ^ 48)

/-- The state with every register that `p` names back at its reset value. -/
def State.clearRegs (s : State) (p : Nat → Bool) : State := { s with regs := Sparse.clear p s.regs }

/-- A plain write of software to the register at `a` by its access codes (R12, R408): RW bits take the value,
written ones clear W1C bits, WM registers change under their mask, all else is ignored. -/
def State.writeByCode (s : State) (a : Nat) (v : Word) : State :=
  if regWm a then
    let m := v.toNat / 2 ^ 16
    let old := (s.reg a).toNat % 2 ^ 16
    s.setReg a (BitVec.ofNat 32 ((old &&& (0xFFFF - m)) ||| (v.toNat % 2 ^ 16 &&& m)))
  else
    let rw : Word := BitVec.ofNat 32 (regRw a)
    let w1c : Word := BitVec.ofNat 32 (regW1c a)
    s.setReg a (((s.reg a &&& ~~~rw) &&& ~~~(w1c &&& v)) ||| (v &&& rw))

/-! ## Memory spaces -/

/-- What an unlisted byte of a BAR2 space reads as: zero, but the low byte of a flow PM word, where PM_EN resets
to 1 (Table 7.9). -/
def bar2Default (a : Nat) : Byte :=
  if 0x2000000 ≤ a ∧ a < 0x3000000 ∧ 0x600000 ≤ a % 0x800000 ∧ a % 0x800000 < 0x640000 ∧ a % 4 = 0 then 1 else 0

/-- What an unlisted byte of the record space, or of host memory as the device has written it, reads as. -/
def zeroDefault (_ : Nat) : Byte := 0

/-- The canonical form of a memory space. -/
def Memory.wf (d : Nat → Byte) (m : List Host.Cell) : Bool := Sparse.wf d m

/-- One byte of a BAR2 space. -/
def State.bar2Byte (s : State) (a : Nat) : Byte := Sparse.get bar2Default s.bar2 a

/-- `n` bytes of a BAR2 space from `a`. -/
def State.bar2Bytes (s : State) (a n : Nat) : List Byte := Sparse.getList bar2Default s.bar2 a n

/-- The `n`-byte little-endian number at `a` of a BAR2 space. -/
def State.bar2Num (s : State) (a n : Nat) : Nat := leNat (s.bar2Bytes a n)

/-- The state with bytes written to a BAR2 space. -/
def State.putBar2 (s : State) (a : Nat) (bs : List Byte) : State :=
  { s with bar2 := Sparse.setList bar2Default s.bar2 a bs }

/-- The state with an `n`-byte little-endian number written to a BAR2 space. -/
def State.putBar2Num (s : State) (a n v : Nat) : State := s.putBar2 a (leBytes n v)

/-- The state with the BAR2 addresses that `p` names back at what they read as unwritten. -/
def State.clearBar2 (s : State) (p : Nat → Bool) : State := { s with bar2 := Sparse.clear p s.bar2 }

/-- The `n`-byte little-endian number at address `a` of the record space. -/
def State.recNum (s : State) (a n : Nat) : Nat := leNat (Sparse.getList zeroDefault s.prtRec a n)

/-- The state with an `n`-byte number written to the record space. -/
def State.putRec (s : State) (a n v : Nat) : State :=
  { s with prtRec := Sparse.setList zeroDefault s.prtRec a (leBytes n v) }

/-- The state with the device's write of bytes to host memory done. -/
def State.putHost (s : State) (a : Nat) (bs : List Byte) : State :=
  { s with host := Sparse.setList zeroDefault s.host a bs }

/-! ## Free values -/

/-- The next free value, and the state that has taken it (log entry 3). -/
def State.free (s : State) : Nat × State := (Config.freeValue s.fresh, { s with fresh := s.fresh + 1 })

/-! ## Faults -/

/-- A happening of the type E source `src` awaits registration by the fault collector (R442, R451). -/
def State.happen (s : State) (src : Nat) : State := { s with fcr := { s.fcr with due := s.fcr.due ||| 2 ^ src } }

/-! ## Twin control -/

/-- What the twin control holds of plane `p`. -/
def State.planeTw (s : State) (p : Nat) : PlaneTwin := s.tw.planes.getD p PlaneTwin.reset

/-- The state with the twin control's part of a plane changed. -/
def State.modTw (s : State) (p : Nat) (f : PlaneTwin → PlaneTwin) : State :=
  { s with tw := { s.tw with planes := modD PlaneTwin.reset s.tw.planes p f } }

/-- The configuration has been confirmed (R262). -/
def State.confirmed (s : State) : Bool := s.flag Fld.TWN_STATUS_CONFIRMED

/-- The state of plane `p` (Table 9.4). -/
def State.planeState (s : State) (p : Nat) : Nat :=
  if p = 0 then s.get Fld.TWN_STATUS_STATE_A else s.get Fld.TWN_STATUS_STATE_B

/-- Path `k` is live: A wire, A spine, B wire, B spine by number (R273). -/
def State.pathLive (s : State) (k : Nat) : Bool := (s.get Fld.TWN_HB_STATUS_LIVE).testBit k

/-- Silence of a path of plane `p` does not count in the present period (R273). -/
def State.pathHeld (s : State) (p : Nat) : Bool :=
  decide (s.planeState p ≤ 3) || (s.planeState p == 5 && (s.planeTw p).grace != 0)

/-- Plane `p` may receive a grant of the lease (R275). -/
def State.eligible (s : State) (p : Nat) : Bool :=
  (s.planeState p == 4 || s.planeState p == 5) && (s.pathLive (2 * p) || s.pathLive (2 * p + 1))
    && !(s.planes.getD p Plane.reset).stopped

/-- The holder: 0 none, 1 plane A, 2 plane B. -/
def State.holder (s : State) : Nat := s.get Fld.TWN_STATUS_HOLDER

/-! ## Power, variant, lines -/

/-- The half of a line (Table 1.1). -/
def halfOf (n : Nat) : Nat := if n < 48 then 0 else 1

/-- The spine runs: neither the internal reset nor the 100 µs of a chip reset holds it, and its rails are on. -/
def State.spineOn (s : State) : Bool :=
  !s.power.inReset && !s.power.chipReset && decide (s.power.sleep ≠ .asleep)

/-- Plane B and lines 48 to 95 exist on the LP9672-A only (R3). -/
def State.hasHalf (s : State) (p : Nat) : Bool := p == 0 || decide (s.fuses.variant = .lp9672)

/-- The variant has line `n` (R2, R4). -/
def State.hasLine (s : State) (n : Nat) : Bool := s.hasHalf (halfOf n)

/-- The feed of half `p` is reported good (R464). -/
def State.feedGood (s : State) (p : Nat) : Bool :=
  if p = 0 then s.flag Fld.AON_FEED_STATUS_FEED1_GOOD else s.flag Fld.AON_FEED_STATUS_FEED2_GOOD

/-- Half `p` is powered and out of reset (R17, R465). -/
def State.halfOn (s : State) (p : Nat) : Bool := s.spineOn && s.feedGood p && s.hasHalf p

/-- Line `n` exists and its half is powered. -/
def State.lineOn (s : State) (n : Nat) : Bool := s.halfOn (halfOf n)

/-- What the line channel of line `n` holds beside its registers. -/
def State.line (s : State) (n : Nat) : LineState := s.lines.getD n LineState.reset

/-- The state with line `n` changed. -/
def State.modLine (s : State) (n : Nat) (f : LineState → LineState) : State :=
  { s with lines := modD LineState.reset s.lines n f }

/-- The state with the lane of line `n` changed. -/
def State.modLane (s : State) (n : Nat) (f : Lane → Lane) : State :=
  s.modLine n (fun l => { l with lane := f l.lane })

/-- The state with the frame acquisition unit of line `n` changed. -/
def State.modFau (s : State) (n : Nat) (f : Fau → Fau) : State :=
  s.modLine n (fun l => { l with fau := f l.fau })

/-- The state with the Mehrax part of line `n` changed. -/
def State.modMxf (s : State) (n : Nat) (f : Mxf → Mxf) : State :=
  s.modLine n (fun l => { l with mxf := f l.mxf })

/-- The state with the overhead processor of line `n` changed. -/
def State.modOhp (s : State) (n : Nat) (f : Ohp → Ohp) : State :=
  s.modLine n (fun l => { l with ohp := f l.ohp })

/-- The state with the defect integrators of line `n` changed. -/
def State.modDpm (s : State) (n : Nat) (f : Dpm → Dpm) : State :=
  s.modLine n (fun l => { l with dpm := f l.dpm })

/-- The format code of line `n` (Table 2.1). -/
def State.format (s : State) (n : Nat) : Nat := s.get (Fld.LCH_LINE_CFG_FORMAT n)

/-- The Twin configuration has been taken (R19). -/
def State.twin (s : State) : Bool := s.power.twinTaken

/-- Line `n` is ACTIVE (PWR_STATE, R52). -/
def State.lineActive (s : State) (n : Nat) : Bool := s.get (Fld.LCH_LINE_STATUS_PWR_STATE n) == 0

/-- Line `n` is in light or deep doze. -/
def State.lineDozes (s : State) (n : Nat) : Bool :=
  let p := s.get (Fld.LCH_LINE_STATUS_PWR_STATE n)
  p == 1 || p == 2

/-- Counted rate of a format in units of 10 bit/s (Table 1.3, Table 2.1). -/
def countedRate (fmt : Nat) : Nat :=
  match fmt with
  | 1 => 100000000
  | 2 | 3 => 1000000000
  | 4 | 5 => 2500000000
  | 6 => 15552000
  | 7 => 62208000
  | 8 => 248832000
  | 9 => 995328000
  | 0x0A => 249877500
  | 0x0B => 1003727400
  | 0x0C => 1039952500
  | 0x0D => 250000000
  | 0x0E => 500000000
  | 0x0F => 1000000000
  | 0x10 => 2500000000
  | _ => 0

/-- The bound of R23, 1.92 Tbit/s, in units of 10 bit/s. -/
def rateBound : Nat := 192000000000

/-- The format the line has once every stored change has been taken up (R42). -/
def State.targetFormat (s : State) (n : Nat) : Nat :=
  match (s.line n).lane.newFormat with
  | some t => t.1
  | none => s.format n

/-- Line `n` holds its own configuration: its half is powered and Berent has restored what it keeps of it (R466). -/
def State.lineReady (s : State) (n : Nat) : Bool := s.lineOn n && !s.power.halfHeld.getD (halfOf n) true

/-- Line `n` counts from the moment it has a format: it neither dozes by command nor is on its way there (R23). A line of a half
that is not ready counts as it will be restored. A held wake counts (log entry 20). -/
def State.counts (s : State) (n : Nat) : Bool :=
  let l := s.line n
  if s.lineReady n then
    !l.lane.dozeCmd || l.lane.held == some .wake
  else l.own.doze.isNone

/-- The format Berent holds for line `n`, in force or stored. -/
def State.heldFormat (s : State) (n : Nat) : Nat := if s.lineReady n then s.targetFormat n else (s.line n).own.format

/-- The counted rate of line `n`: a line in doze, or with no format, counts zero (R23). -/
def State.lineRate (s : State) (n : Nat) : Nat := if s.counts n then countedRate (s.heldFormat n) else 0

/-- The counted sum of all lines. -/
def State.rateSum (s : State) : Nat := ((List.range 96).map s.lineRate).foldl (· + ·) 0

/-- The admission rule of R23 with line `n` counting `r`. -/
def State.admits (s : State) (n r : Nat) : Bool :=
  !s.twin || decide (s.rateSum - s.lineRate n + r ≤ rateBound)

/-- Format groups of Table 2.1. -/
def isStm (f : Nat) : Bool := decide (6 ≤ f ∧ f ≤ 9)
def isOtu (f : Nat) : Bool := decide (0x0A ≤ f ∧ f ≤ 0x0C)
def isMxf (f : Nat) : Bool := decide (0x0D ≤ f ∧ f ≤ 0x10)
def isEth (f : Nat) : Bool := decide (1 ≤ f ∧ f ≤ 5)

/-- Do something on a line that exists and is powered; on any other line nothing happens (R4, R18, R67). -/
def State.onLine (s : State) (n : Nat) (f : State → State) : State := if s.lineOn n then f s else s

/-- Do something in the spine while it runs. -/
def State.onSpine (s : State) (f : State → State) : State := if s.spineOn then f s else s

/-- A step under its condition: where the condition does not hold the event does not occur (log entry 2). -/
def State.when (s : State) (c : Bool) (f : State → State) : State := if c then f s else s

end Sys2Proof.Machine
end

