-- ==== Sys2Proof/Machine/Settle.lean ====
section
/-! DEFINITION. What follows every command: the registered live bits of the fault collector fall with their
conditions (R442), and the interrupt vectors take their new assertions, each rise of an enabled vector sending one
MSI-X message or setting its pending bit (R419 to R421). -/

namespace Sys2Proof.Machine

/-- The cause bit of source `s` is set (R442, R459). -/
def State.cause (s : State) (src : Nat) : Bool := (s.reg (Reg.FCR_CAUSE (src / 32))).toNat.testBit (src % 32)

/-- The sources whose cause bit is set, lowest first. -/
def State.causes (s : State) : List Nat :=
  (List.range 19).flatMap (fun r =>
    let w := (s.reg (Reg.FCR_CAUSE r)).toNat
    if w = 0 then [] else (bitList 32 w).map (fun b => 32 * r + b))

/-- LAST_SEV of source `s`. -/
def State.lastSev (s : State) (src : Nat) : Nat := s.get (Fld.FCR_SRC_CFG_LAST_SEV src)

/-- The level vector that a W1C event bit of the register at `a` asserts (Table 14.7). -/
def vectorOf (a : Nat) : Option Nat :=
  if 0x100000 ≤ a ∧ a < 0x400000 then some (32 + (a - 0x100000) / 0x8000 / 12)
  else if 0x41000 ≤ a ∧ a < 0x41400 then some (16 + (a - 0x41000) / 0x40)
  else if a = 0x30020 then some 7
  else if 0x400100 ≤ a ∧ a < 0x400300 then some (9 + (a - 0x400100) / 0x100)
  else if 0x800100 ≤ a ∧ a < 0x800300 then some (11 + (a - 0x800100) / 0x100)
  else if 0x900000 ≤ a ∧ a < 0x900200 then some (13 + (a - 0x900000) / 0x100)
  else if a = 0x20000 then some 15
  else if 0x60000 ≤ a ∧ a < 0x70000 then some 40
  else if 0x70000 ≤ a ∧ a < 0x80000 then some 41
  else if 0x80000 ≤ a ∧ a < 0x90000 then some 42
  else if 0xC00000 ≤ a ∧ a < 0xD00000 then some 43
  else if 0x50000 ≤ a ∧ a < 0x60000 then some 44
  else if a = 0x80 ∨ a = 0x88 then some 45
  else none

/-- The level vectors asserted by event bits of registers. -/
def State.eventVectors (s : State) : Nat :=
  s.regs.foldl (fun m c =>
    if c.2.toNat &&& regW1c c.1 = 0 then m
    else match vectorOf c.1 with
      | some v => m ||| 2 ^ v
      | none => m) 0

/-- Vectors 0 and 1: the host interrupt reaction of the fault collector (Table 16.2). -/
def State.faultVectors (s : State) : Nat :=
  s.causes.foldl (fun m src =>
    if s.fcr.lastInt.testBit src then (if 3 ≤ s.lastSev src then m ||| 1 else m ||| 2) else m) 0

/-- The vectors asserted (R419). -/
def State.vectors (s : State) : Nat := s.eventVectors ||| s.faultVectors ||| s.irq.pulse

/-- Vector `v` is enabled for MSI-X (R420). -/
def State.irqEnabled (s : State) (v : Nat) : Bool := (s.get (Fld.GLB_IRQ_EN_EN (v / 16))).testBit (v % 16)

/-- A message of vector `v` cannot go out: the vector or the function is masked (R421), or the function may not write (R400; log
entry 151). -/
def State.irqMasked (s : State) (v : Nat) : Bool :=
  s.pcie.fnMask || s.flag (Fld.MSIX_CTRL_MASK v) || !s.pcie.linkUp || !s.pcie.busMaster

/-- One message of vector `v` becomes due: sent, or pending while it cannot go out (R421). An endpoint in reset has neither. -/
def State.message (s : State) (i : Irq) (v : Nat) : Irq :=
  if !s.pcie.cfgReady then i
  else if s.irqMasked v then { i with pba := i.pba ||| 2 ^ v } else { i with sent := i.sent ++ [v] }

/-- Messages that are pending and can now go out are sent, once each (R421). -/
def State.releaseMessages (s : State) : State :=
  let l := (bitList 64 s.irq.pba).filter (fun k => !s.irqMasked k)
  { s with irq := { s.irq with
    pba := l.foldl (fun m k => putBits m k 1 0) s.irq.pba
    sent := s.irq.sent ++ l } }

/-- The interrupt state after the vectors have taken their new assertions (R420). -/
def State.irqAfter (s : State) : Irq :=
  let v := s.vectors
  let up := (bitList 64 v).filter (fun k => !s.irq.asserted.testBit k && s.irqEnabled k)
  { up.foldl s.message s.irq with asserted := v }

/-- INT_N is low (R422). -/
def State.intN (s : State) : Bool :=
  (bitList 46 s.vectors).any (fun v => (s.get (Fld.GLB_INTN_EN_EN (v / 16))).testBit (v % 16))

/-- A pulse vector is set (R419): a new event on an asserted pulse vector changes nothing until it is rearmed. -/
def State.pulse (s : State) (v : Nat) : State := { s with irq := { s.irq with pulse := s.irq.pulse ||| 2 ^ v } }

/-- Line `n`: a module that serves it has an alarm or is absent (source 97 + 4n, R61). -/
def State.moduleFault (s : State) (n : Nat) : Bool :=
  (List.range 96).any (fun m =>
    let ty := s.get (Fld.PIN_MOD_DESC_TYPE m)
    let first := s.get (Fld.PIN_MOD_DESC_FIRST_LINE m)
    let cnt := match s.get (Fld.PIN_MOD_DESC_LANES m) with
      | 1 => 2
      | 2 => 4
      | _ => 1
    decide (1 ≤ ty ∧ ty ≤ 4) && decide (first ≤ n ∧ n < first + cnt) &&
      (s.get (Fld.PIN_MOD_STATUS_ALARM m) != 0 || s.flag (Fld.PIN_MOD_STATUS_ABSENT m)))

/-- The condition of a type L source of the spine below 32 (Table 16.1). -/
def State.spineCond (s : State) (src : Nat) : Bool :=
  match src with
  | 0 => !s.flag Fld.GLB_CLK_STATUS_MGMT_LOCK
  | 1 => !s.flag Fld.GLB_CLK_STATUS_PCIE_LOCK
  | 2 => !s.flag Fld.GLB_CLK_STATUS_TMG_LOCK
  | 3 => !s.flag Fld.GLB_CLK_STATUS_OSC_IN_OK
  | 4 => !s.flag Fld.GLB_CLK_STATUS_XTAL32K_OK
  | 8 => s.get Fld.MGMT_BOOT_STATUS_PHASE == 6
  | 9 => !s.feedGood 0
  | 10 => !s.feedGood 1
  | 11 => s.flag Fld.AON_FEED_STATUS_MUX_LIMIT
  | 12 => s.flag Fld.AON_TEMP_CFG_TRIP
  | _ => false

/-- The condition of a type L source (Table 16.1): what the device's own state shows, else what lies outside it. -/
def State.condition (s : State) (src : Nat) : Bool :=
  if src < 32 then s.spineCond src
  else if src < 96 then
    let p := (src - 32) / 32
    match (src - 32) % 32 with
    | 0 => if p = 0 then !s.flag Fld.GLB_CLK_STATUS_CORE_A_LOCK else !s.flag Fld.GLB_CLK_STATUS_CORE_B_LOCK
    | 6 => (s.planes.getD p Plane.reset).flows.any (fun c => c.2.fail != 0)
    | 7 => (List.range 48).any (fun g => bitOf (s.recNum (p * 0x800000 + g * 32 + 12) 4) 15)
    | 8 => (List.range 256).any (fun g => bitOf (s.recNum (p * 0x800000 + 0x10000 + g * 64 + 20) 4) 6)
    | _ => s.fcr.ext.testBit src
  else if src < 480 then
    match (src - 96) % 4 with
    | 0 => s.get (Fld.LCH_DPM_FAIL_FAIL ((src - 96) / 4)) != 0
    | 1 => s.moduleFault ((src - 96) / 4)
    | _ => false
  else if src < 544 then
    s.flag (Fld.SCC_SLOT_STATUS_HI (src - 416)) || s.flag (Fld.SCC_SLOT_STATUS_LO (src - 416))
  else if src < 552 then
    let d := src - 544
    s.get (Fld.TMG_DPLL_CFG_MODE d) == 0 && (s.get (Fld.TMG_DPLL_STATUS_STATE d) == 0 || s.get (Fld.TMG_DPLL_STATUS_STATE d) == 3)
  else if src < 576 then
    s.flag (Fld.TMG_CAND_CFG_EN (src - 552)) && s.get (Fld.TMG_CAND_STATUS_STATE (src - 552)) == 0
  else if 577 ≤ src ∧ src ≤ 580 then s.twin && s.confirmed && !s.pathLive (src - 577) && !s.pathHeld ((src - 577) / 2)
  else if src = 583 then s.twin && s.confirmed && s.tw.firstOver && s.holder == 0 && !s.eligible 0 && !s.eligible 1
  else if src = 600 then !s.pcie.linkUp
  else s.fcr.ext.testBit src

/-- Source `src` exists in this part (R441). -/
def State.srcExists (s : State) (src : Nat) : Bool :=
  (srcInfo src).isSome &&
    (if src < 32 then true
     else if src < 96 then s.hasHalf ((src - 32) / 32)
     else if src < 480 then s.hasLine ((src - 96) / 4)
     else if 576 ≤ src ∧ src ≤ 583 then s.twin
     else true)

/-- The live bit of source `src` is held at 0 (R443). In Wide configuration a restart of the plane stands for INIT; a block
reset that keeps the SRAM holds every source of the plane. -/
def State.srcHeld (s : State) (src : Nat) : Bool :=
  if src < 32 then false
  else if src < 96 then
    let p := (src - 32) / 32
    let k := (src - 32) % 32
    s.power.halfHeld.getD p true || (s.planeTw p).keep
      || (decide (1 ≤ k) && (if s.twin then s.planeState p == 1 else (s.planeTw p).initDue))
  else if src < 480 then s.power.halfHeld.getD (halfOf ((src - 96) / 4)) true
  else false

/-- The live bit of a source that lasts stays set: its condition holds, or an injection forces it, and nothing holds it at 0. -/
def State.staysLive (s : State) (src : Nat) : Bool :=
  !s.srcHeld src && (s.condition src || s.fcr.injected == some src)

/-- The state after the live bits and the interrupt vectors have followed a command. -/
def settle (s : State) : State :=
  { s with
    irq := s.irqAfter
    fcr := { s.fcr with live := (bitList 608 s.fcr.live).foldl (fun m k => if s.staysLive k then m ||| 2 ^ k else m) 0 } }

/-- A command's outcome: the state it leaves, settled. -/
def done (s : State) : Host.Outcome State Fault Refusal := .next (settle s)

end Sys2Proof.Machine
end

