-- ==== Sys2Proof/Machine/Mail.lean ====
section
/-! DEFINITION. What Berent does on its own account: the event queue (R386), the firmware state and the degrading
conditions (R363 to R366), and the answers it writes into the slots of the rings (R372 to R375). -/

namespace Sys2Proof.Machine

/-! ## Firmware state -/

/-- The firmware state of Table 12.7. -/
def State.fwState (s : State) : Nat := s.get Fld.MGMT_FW_STATE_STATE

/-- Berent runs: the state is READY or later. -/
def State.berentRuns (s : State) : Bool := s.spineOn && decide (1 ≤ s.fwState)

/-- Berent carries out its automatic duties: CONFIGURED or later (R364). -/
def State.berentDuty (s : State) : Bool := s.spineOn && decide (2 ≤ s.fwState)

/-- The states in which PM export and TCA events run (R364). -/
def State.berentService (s : State) : Bool := s.spineOn && decide (3 ≤ s.fwState)

/-! ## Events -/

/-- The 64 bytes of an event record (Table 13.6). -/
def EventRec.bytes (e : EventRec) : List Byte :=
  leBytes 2 e.code ++ leBytes 2 e.tag ++ leBytes 4 e.seq ++ leBytes 4 e.tkNs ++ leBytes 4 e.tkS
    ++ (e.args ++ List.replicate 48 0).take 48

/-- The event queue holds space for one more record, and its writes can leave the device (R386, R400). -/
def State.evqRoom (s : State) : Bool :=
  match s.mbx.evq with
  | none => false
  | some (_, size) =>
    s.pcie.busMaster && s.pcie.linkUp &&
      decide ((s.get Fld.MBX_EVQ_WR_V + 2 ^ 32 - s.get Fld.MBX_EVQ_RD_V) % 2 ^ 32 < size / 64)

/-- Berent writes one record into the event queue and raises the event interrupt, vector 6 (R386). -/
def State.writeEvent (s : State) (e : EventRec) : State :=
  match s.mbx.evq with
  | none => s
  | some (base, size) =>
    let i := s.get Fld.MBX_EVQ_WR_V
    ((s.putHost (base + (i * 64) % size) e.bytes).add Fld.MBX_EVQ_WR_V 1).pulse 6

/-- The waiting events written while the queue has space, the oldest first; `n` bounds their number. -/
def State.drainEvents : Nat → State → State
  | 0, s => s
  | n + 1, s =>
    match s.mbx.evWait with
    | [] => s
    | e :: t =>
      if s.evqRoom then
        State.drainEvents n ({ (s.writeEvent e) with mbx := { s.mbx with evWait := t } })
      else s

/-- One event of Berent: numbered, stamped and placed behind the waiting ones, or dropped past 256 (R386). -/
def State.enqueueEvent (s : State) (code tag : Nat) (args : List Byte) : State :=
  let s := { s with mbx := { s.mbx with evSeq := (s.mbx.evSeq + 1) % 2 ^ 32 } }
  let e : EventRec := ⟨code, tag, (s.mbx.evSeq + 2 ^ 32 - 1) % 2 ^ 32, s.tk.ns, s.tk.sec % 2 ^ 32, args⟩
  if s.mbx.evWait.length < 256 then { s with mbx := { s.mbx with evWait := s.mbx.evWait ++ [e] } }
  else ({ s with mbx := { s.mbx with evLost := s.mbx.evLost + 1 } }.add Fld.MBX_EVQ_LOST_V 1).raise
    Fld.MBX_STATUS_EVQ_LOST_EV

/-- Events move on: waiting ones into the queue, then an EVENTS_LOST record once space exists (R386). -/
def State.moveEvents (s : State) : State :=
  let s := State.drainEvents 257 s
  if s.mbx.evLost ≠ 0 ∧ s.mbx.evWait.length < 256 then
    let lost := s.mbx.evLost
    State.drainEvents 257 ({ s with mbx := { s.mbx with evLost := 0 } }.enqueueEvent 0x00FF 0 (leBytes 4 lost))
  else s

/-- Berent sends an event (Table 13.7). -/
def State.postEvent (s : State) (code tag : Nat) (args : List Byte) : State :=
  (s.enqueueEvent code tag args).moveEvents

/-! ## State changes and degrading conditions -/

/-- Berent changes its state and reports it, event 0x0001 with the cause of Table 13.7. -/
def State.setFw (s : State) (new cause : Nat) : State :=
  if s.fwState = new then s
  else (s.set Fld.MGMT_FW_STATE_STATE new).postEvent 0x0001 0 (leBytes 1 s.fwState ++ leBytes 1 new ++ leBytes 1 cause)

/-- Plane `p`. -/
def State.plane (s : State) (p : Nat) : Plane := s.planes.getD p Plane.reset

/-- The state with plane `p` changed. -/
def State.modPlane (s : State) (p : Nat) (f : Plane → Plane) : State := { s with planes := modD Plane.reset s.planes p f }

/-- The core PLL of half `p` is locked (R466). -/
def State.coreLocked (s : State) (p : Nat) : Bool :=
  if p = 0 then s.flag Fld.GLB_CLK_STATUS_CORE_A_LOCK else s.flag Fld.GLB_CLK_STATUS_CORE_B_LOCK

/-- The degrading conditions that hold (R366), bit k for kind k of event 0x0003. IN_STEP is state 4 of Table 9.4. -/
def State.degrading (s : State) : Nat :=
  if s.twin then 1 * b2n (s.planeState 0 != 4) + 2 * b2n (s.planeState 1 != 4)
  else 4 * b2n (!s.feedGood 0) + 8 * b2n (s.hasHalf 1 && !s.feedGood 1)
    + 16 * b2n (!s.coreLocked 0 || (s.plane 0).stopped)
    + 32 * b2n (s.hasHalf 1 && (!s.coreLocked 1 || (s.plane 1).stopped))

/-- Berent follows the degrading conditions between IN_SERVICE and DEGRADED (R364), but not while a command runs (R365). -/
def State.stateFollow (s : State) : State :=
  if s.mbx.busy.isSome then s
  else if s.fwState = 3 ∧ s.mbx.degr ≠ 0 then s.setFw 4 1
  else if s.fwState = 4 ∧ s.mbx.degr = 0 then s.setFw 3 2
  else s

/-- Berent reports each change of a degrading condition and follows it (R364). -/
def State.watch (s : State) : State :=
  if !s.berentRuns then s
  else
    let now := s.degrading
    let old := s.mbx.degr
    if now = old then s
    else
      let s := { s with mbx := { s.mbx with degr := now } }
      let s : State := (List.range 6).foldl (fun s k =>
        if now.testBit k = old.testBit k then s
        else s.postEvent 0x0003 0 (leBytes 1 (b2n (now.testBit k)) ++ leBytes 1 k)) s
      s.stateFollow

/-! ## Messages and answers -/

/-- The BAR2 offset of slot `k` of ring `r` (R370). -/
def slotAddr (r k : Nat) : Nat := r * 0x40000 + k * 0x1000

/-- A message header with its payload, the CRC computed over it with the CRC field as zero (R372). -/
def messageBytes (opcode tag flags status : Nat) (payload : List Byte) : List Byte :=
  let head := leBytes 2 opcode ++ leBytes 2 tag ++ leBytes 4 payload.length ++ leBytes 2 flags ++ leBytes 2 status
  head ++ leBytes 4 (crc32c (head ++ leBytes 4 0 ++ payload)) ++ payload

/-- Berent writes the answer to a taken command over its slot, counts it in ANSWERED and raises the ring's answer
interrupt, vector 2 + ring (R375). FLAGS carries ANS, PROG, OVL and the state in which the command ran (Table 13.3). -/
def State.answerIn (s : State) (c : Taken) (state status : Nat) (payload : List Byte) : State :=
  let flags := 1 + 2 * b2n c.prog + 4 * b2n c.ovl + 256 * state
  let s := s.putBar2 (slotAddr c.ring.val c.slot) (messageBytes c.opcode c.tag flags status payload)
  (s.add (Fld.MBX_CI_ANSWERED c.ring.val) 1).pulse (2 + c.ring.val)

/-- The answer to a taken command in the state in which it was taken. -/
def State.answer (s : State) (c : Taken) (status : Nat) (payload : List Byte) : State :=
  s.answerIn c c.state status payload

/-- The OK answer (Table 13.5). -/
def State.answerOk (s : State) (c : Taken) (payload : List Byte) : State := s.answer c 0x0000 payload

/-- The BAD_ARG answer: OFFSET of the offending payload byte, DETAIL, VALUE (Table 13.5). -/
def State.answerBad (s : State) (c : Taken) (offset detail value : Nat) : State :=
  s.answer c 0x0103 (leBytes 2 offset ++ leBytes 1 detail ++ leBytes 1 0 ++ leBytes 4 value)

/-- The STATE_REFUSED answer (Table 13.5). -/
def State.answerState (s : State) (c : Taken) : State := s.answer c 0x0102 []

/-- The NO_RESOURCE answer (Table 13.5). -/
def State.answerNoRes (s : State) (c : Taken) : State := s.answer c 0x0104 []

/-- The OP_ABORTED answer (Table 13.5). -/
def State.answerAborted (s : State) (c : Taken) : State := s.answer c 0x010A []

/-- The OP_FAILED answer with its reason (Table 13.5). -/
def State.answerFailed (s : State) (c : Taken) (reason : Nat) : State :=
  s.answer c 0x010B (leBytes 2 reason ++ leBytes 2 0)

end Sys2Proof.Machine
end

