-- ==== Sys2Proof/Machine/Acc.lean ====
section
/-! DEFINITION. The per-second accumulators of performance monitoring (R215 to R217): where a layer's and a flow's
records lie (Table 7.7) and how an event is counted in them. -/

namespace Sys2Proof.Machine

/-- BAR2 offset of the PM space of plane `p` (Table 7.7, Table 14.2). -/
def pmBase (p : Nat) : Nat := 0x2000000 + p * 0x800000

/-- PM record of layer `k` of line `n` in plane `p`. -/
def lineRec (p n k : Nat) : Nat := pmBase p + 0x640000 + n * 192 + k * 96

/-- PM record of flow `f` in plane `p`. -/
def flowRec (p f : Nat) : Nat := pmBase p + f * 96

/-- Flow PM word of flow `f` in plane `p` (Table 7.9). -/
def flowPmWord (p f : Nat) : Nat := pmBase p + 0x600000 + f * 4

/-- The planes that monitor line `n`: that of its half, in Twin both (R16, R225). -/
def State.linePlanes (s : State) (n : Nat) : List Nat :=
  (if s.twin then [0, 1] else [halfOf n]).filter (fun p => s.halfOn p && !(s.plane p).stopped)

/-- Errored blocks into the accumulator of the present parity of the record at `a`, saturating (R217). -/
def State.accBlocks (s : State) (p a ne fe : Nat) : State :=
  let a := a + 4 * (s.plane p).parity
  let w := s.bar2Num a 4
  let w := putBits w 0 14 (min 16383 (bitsOf w 0 14 + ne))
  s.putBar2Num a 4 (putBits w 14 14 (min 16383 (bitsOf w 14 14 + fe)))

/-- A defect second of the near or the far end (R217). -/
def State.accDefect (s : State) (p a : Nat) (near far : Bool) : State :=
  let a := a + 4 * (s.plane p).parity
  let w := s.bar2Num a 4
  let w := if near then setBit w 28 else w
  s.putBar2Num a 4 (if far then setBit w 29 else w)

/-- One block of layer `k` of line `n`: errored, far-end errored (R216). -/
def State.lineBlock (s : State) (n k : Nat) (ne fe : Bool) : State :=
  if ne || fe then (s.linePlanes n).foldl (fun s p => s.accBlocks p (lineRec p n k) (b2n ne) (b2n fe)) s else s

end Sys2Proof.Machine
end

