-- ==== Sys2Proof/Machine/Rec.lean ====
section
/-! DEFINITION. The records behind the indirect windows: fields of group records (Tables 8.9, 8.10) in the record space
of the protection engines, flow descriptors, flow state records and queue records (Tables 6.7 to 6.9) in the table
space, and the planes that an access in Twin configuration reaches (R187, R267). -/

namespace Sys2Proof.Machine

/-! ## Group records -/

/-- A field of a record: byte offset of its word, lowest bit, width. -/
structure RField where
  ofs : Nat
  lo : Nat
  len : Nat
  deriving DecidableEq, Repr

/-- Address of line group `g` of plane `p` in the record space (R259). -/
def lgAddr (p g : Nat) : Nat := p * 0x800000 + g * 32

/-- Address of merge group `g` of plane `p`. -/
def mgAddr (p g : Nat) : Nat := p * 0x800000 + 0x10000 + g * 64

/-- A field of the record at `a`. -/
def State.rget (s : State) (a : Nat) (f : RField) : Nat := bitsOf (s.recNum (a + f.ofs) 4) f.lo f.len

/-- The state with a field of the record at `a` holding `v` modulo its width. -/
def State.rset (s : State) (a : Nat) (f : RField) (v : Nat) : State :=
  s.putRec (a + f.ofs) 4 (putBits (s.recNum (a + f.ofs) 4) f.lo f.len v)

/-- The state with `k` added to a field, modulo its width. -/
def State.radd (s : State) (a : Nat) (f : RField) (k : Nat) : State := s.rset a f (s.rget a f + k)

namespace LG
def scheme : RField := ⟨0, 0, 2⟩
def arch : RField := ⟨0, 2, 1⟩
def bidir : RField := ⟨0, 3, 1⟩
def revert : RField := ⟨0, 4, 1⟩
def apsEn : RField := ⟨0, 5, 1⟩
def wLine : RField := ⟨0, 8, 7⟩
def pLine : RField := ⟨0, 16, 7⟩
def holdoff : RField := ⟨4, 0, 7⟩
def wtrS : RField := ⟨4, 16, 10⟩
def extCmd : RField := ⟨8, 0, 4⟩
def txReq : RField := ⟨12, 0, 4⟩
def rxReq : RField := ⟨12, 4, 4⟩
def sel : RField := ⟨12, 8, 1⟩
def bridged : RField := ⟨12, 9, 1⟩
def sfW : RField := ⟨12, 10, 1⟩
def sfP : RField := ⟨12, 11, 1⟩
def sdW : RField := ⟨12, 12, 1⟩
def sdP : RField := ⟨12, 13, 1⟩
def wtrRun : RField := ⟨12, 14, 1⟩
def fop : RField := ⟨12, 15, 1⟩
def uni : RField := ⟨12, 16, 1⟩
def wtrLeft : RField := ⟨16, 0, 10⟩
def switchCnt : RField := ⟨20, 0, 32⟩
def pvCnt : RField := ⟨24, 0, 32⟩
end LG

namespace MG
def valid : RField := ⟨0, 0, 1⟩
def wLine : RField := ⟨0, 1, 7⟩
def pLine : RField := ⟨0, 8, 7⟩
def depth : RField := ⟨0, 16, 10⟩
def wMask : RField := ⟨4, 0, 24⟩
def pMask : RField := ⟨8, 0, 24⟩
def pages : RField := ⟨12, 0, 8⟩
def realignS : RField := ⟨12, 8, 8⟩
def extCmd : RField := ⟨16, 0, 4⟩
def sel : RField := ⟨20, 0, 2⟩
def last : RField := ⟨20, 2, 1⟩
def ref : RField := ⟨20, 3, 1⟩
def wUse : RField := ⟨20, 4, 1⟩
def pUse : RField := ⟨20, 5, 1⟩
def outOver : RField := ⟨20, 6, 1⟩
def uni : RField := ⟨20, 7, 1⟩
def localReq : RField := ⟨20, 8, 4⟩
def farReq : RField := ⟨20, 12, 4⟩
def farBridge : RField := ⟨20, 16, 2⟩
def anchored : RField := ⟨20, 18, 1⟩
def diff : RField := ⟨24, 0, 24⟩
def outFsnLo : RField := ⟨28, 0, 32⟩
def outFsnHi : RField := ⟨32, 0, 8⟩
def fromP : RField := ⟨36, 0, 32⟩
def noneClean : RField := ⟨40, 0, 32⟩
def realignCnt : RField := ⟨44, 0, 32⟩
def hitFr : RField := ⟨48, 0, 32⟩
def pvCnt : RField := ⟨52, 0, 32⟩
end MG

/-- Line group `g` exists in plane `p`. -/
def State.lgExists (s : State) (p g : Nat) : Bool := decide (g < 48) && s.rget (lgAddr p g) LG.scheme != 0

/-- Merge group `g` exists in plane `p`. -/
def State.mgExists (s : State) (p g : Nat) : Bool := decide (g < 256) && s.rget (mgAddr p g) MG.valid == 1

/-! ## Planes -/

/-- Plane `p` works: its half is powered, it is past its start and not stopped; in Twin it is not OFF. -/
def State.planeRuns (s : State) (p : Nat) : Bool :=
  s.halfOn p && !(s.plane p).stopped && !(s.planeTw p).initDue && (!s.twin || s.planeState p != 0)

/-- The planes that a write to plane state of plane `p` reaches (R187, R228, R259, R267, R405). -/
def State.writePlanes (s : State) (p : Nat) : List Nat :=
  if s.twin then
    (if s.halfOn p && s.planeState p != 0 then [0, 1].filter (fun q => s.halfOn q && s.planeState q != 0) else [])
  else if s.halfOn p then [p] else []

/-- The plane has stalled: source 41 + 32p is live (Table 16.1). -/
def State.stalled (s : State) (p : Nat) : Bool := s.fcr.live.testBit (41 + 32 * p)

/-- The plane consumes the stream: in CATCHUP, in step, alone, or out of step (Table 9.4). -/
def State.consumes (s : State) (p : Nat) : Bool := s.planeRuns p && !s.stalled p && decide (3 ≤ s.planeState p)

/-- The blocks without those of the oldest of their frames. -/
def dropFrame (l : List StreamBlock) : List StreamBlock := (l.drop 1).dropWhile (fun b => b.kind != .frame)

/-- A block of the stream reaches plane `p` (R264): one that executes the stream consumes it, one in COPY keeps the blocks of
the two most recent frames, 2,048 at most (R287). -/
def State.deliverBlock (s : State) (b : StreamBlock) (p : Nat) : State :=
  if s.consumes p then s.modTw p (fun t => { t with last := some b, took := true })
  else if s.planeState p = 2 then
    s.modTw p (fun t =>
      let q := t.queue ++ [b]
      let q := if 2 < (q.filter (fun x => x.kind == .frame)).length then dropFrame q else q
      { t with queue := q.drop (q.length - 2048) })
  else s

/-- A marker or block enters the stream under the next global block number and is delivered to both planes (R264, R266). -/
def State.nextBlock (s : State) (k : BlockKind) (n : Nat) (ws : List Word64) : State :=
  let b : StreamBlock := ⟨k, n, ws, s.tw.gbn % 2 ^ 40⟩
  [0, 1].foldl (fun s p => s.deliverBlock b p) { s with tw := { s.tw with gbn := s.tw.gbn + 1 } }

/-- A write to plane state of plane `p` that reaches a plane enters the stream of a confirmed Twin configuration as a marker
(R264, R265, R267). -/
def State.planeMark (s : State) (k : BlockKind) (p : Nat) : State :=
  if s.twin && s.confirmed && !(s.writePlanes p).isEmpty then s.nextBlock k 0 [] else s

/-- A WRITE marker. -/
def State.writeMark (s : State) (p : Nat) : State := s.planeMark .write p

/-- Firmware writes plane state: its write too enters the stream (R267, log entry 100). -/
def State.firmMark (s : State) : State := s.writeMark (if s.planeState 0 = 0 then 1 else 0)

/-- Bytes are folded into the output signature of plane `p` (R269). -/
def State.sign (s : State) (p : Nat) (bs : List Byte) : State :=
  if s.twin then s.modTw p (fun t => { t with sig := crcBytes 64 0x42F0E1EBA9EA3693 false t.sig bs }) else s

/-- The signature of frame `k` starts: all ones, with the low 32 bits of the frame number ahead of the data (R269). -/
def State.signStart (s : State) (k p : Nat) : State :=
  (s.modTw p (fun t => { t with sig := 2 ^ 64 - 1 })).sign p (beBytes 4 (k % 2 ^ 32))

/-- A write of host software to plane state, in every plane that it reaches. -/
def State.onWrite (s : State) (p : Nat) (f : State → Nat → State) : State := (s.writePlanes p).foldl f (s.writeMark p)

/-- The other line of the merge pair of line `n` in plane `p` (R243). -/
def State.mergePartner (s : State) (p n : Nat) : Option Nat :=
  ((List.range 256).find? (fun g => s.mgExists p g && (s.rget (mgAddr p g) MG.wLine == n || s.rget (mgAddr p g) MG.pLine == n))).map
    (fun g => if s.rget (mgAddr p g) MG.wLine = n then s.rget (mgAddr p g) MG.pLine else s.rget (mgAddr p g) MG.wLine)

/-- The planes in which an event of plane `p` happens: in Twin every plane that executes the stream, from CATCHUP on
(Table 9.4). -/
def State.runPlanes (s : State) (p : Nat) : List Nat :=
  if s.twin then [0, 1].filter (fun q => s.planeRuns q && decide (3 ≤ s.planeState q))
  else if s.planeRuns p then [p] else []

/-- An event of plane `p` in every plane in which it happens. -/
def State.onPlanes (s : State) (p : Nat) (f : State → Nat → State) : State := (s.runPlanes p).foldl f s

/-- An event of line `n` in every plane that executes it. -/
def State.onLinePlanes (s : State) (n : Nat) (f : State → Nat → State) : State := (s.runPlanes (halfOf n)).foldl f s

/-! ## Flow descriptors -/

/-- BAR2 offset of the table space of plane `p` (Table 14.3). -/
def tblBase (p : Nat) : Nat := 0x1000000 + p * 0x800000

/-- BAR2 offset of the descriptor of flow `f` in epoch `e` (Table 6.6). -/
def descAddr (p e f : Nat) : Nat := tblBase p + e * 0x200000 + f * 32

/-- BAR2 offset of the state record of flow `f`. -/
def stateAddr (p f : Nat) : Nat := tblBase p + 0x400000 + f * 16

/-- BAR2 offset of trace set `k`. -/
def traceAddr (p k : Nat) : Nat := tblBase p + 0x500000 + k * 192

/-- BAR2 offset of the record of queue `q`. -/
def queueAddr (p q : Nat) : Nat := tblBase p + 0x560000 + q * 64

/-- A flow descriptor (Table 6.7). -/
structure Desc where
  srcCt : Nat
  dstCt : Nat
  valid : Bool
  struct : Bool
  srcPg : Bool
  bridge : Bool
  chg : Bool
  pfcs : Bool
  strip : Bool
  push : Bool
  tpid : Nat
  srcLine : Nat
  dstLine : Nat
  srcPos : Nat
  dstPos : Nat
  dst2Line : Nat
  dst2Pos : Nat
  arg : Nat
  traceIdx : Nat
  traceEn : Bool
  timMode : Nat
  pushVid : Nat
  deriving DecidableEq, Repr

/-- The descriptor that 32 bytes hold. -/
def descOf (bs : List Byte) : Desc :=
  let w := fun k => leNat ((bs.drop (4 * k)).take 4)
  { srcCt := bitsOf (w 0) 0 8, dstCt := bitsOf (w 0) 8 8, valid := bitOf (w 0) 16, struct := bitOf (w 0) 17
    srcPg := bitOf (w 0) 18, bridge := bitOf (w 0) 19, chg := bitOf (w 0) 20, pfcs := bitOf (w 0) 21
    strip := bitOf (w 0) 22, push := bitOf (w 0) 23, tpid := if bitOf (w 0) 24 then 0x88A8 else 0x8100
    srcLine := bitsOf (w 1) 0 16, dstLine := bitsOf (w 1) 16 16, srcPos := w 2, dstPos := w 3
    dst2Line := bitsOf (w 4) 0 16, dst2Pos := w 5, arg := bitsOf (w 6) 0 12, traceIdx := bitsOf (w 6) 16 11
    traceEn := bitOf (w 6) 27, timMode := bitsOf (w 6) 28 3, pushVid := bitsOf (w 7) 0 12 }

/-- The descriptor of flow `f` in epoch `e` of plane `p`. -/
def State.desc (s : State) (p e f : Nat) : Desc := descOf (s.bar2Bytes (descAddr p e f) 32)

/-- The valid flows of epoch `e` of plane `p`, in increasing order. -/
def State.flowsOf (s : State) (p e : Nat) : List Nat :=
  let base := descAddr p e 0
  (s.bar2.filter (fun c => decide (base ≤ c.1 ∧ c.1 < base + 0x200000) && (c.1 - base) % 32 == 2 && c.2.toNat.testBit 0)).map
    (fun c => (c.1 - base) / 32)

/-! ## State and queue records -/

/-- A field of the state record of flow `f` (Table 6.8). -/
def State.fget (s : State) (p f : Nat) (r : RField) : Nat := bitsOf (s.bar2Num (stateAddr p f + r.ofs) 4) r.lo r.len

/-- The state with a field of a flow's state record holding `v`. -/
def State.fset (s : State) (p f : Nat) (r : RField) (v : Nat) : State :=
  s.putBar2Num (stateAddr p f + r.ofs) 4 (putBits (s.bar2Num (stateAddr p f + r.ofs) 4) r.lo r.len v)

namespace FS
def rxPtr : RField := ⟨0, 0, 16⟩
def rxSt : RField := ⟨0, 16, 8⟩
def rxLabel : RField := ⟨0, 24, 8⟩
def txPtr : RField := ⟨4, 0, 16⟩
def txSt : RField := ⟨4, 16, 8⟩
def accCnt : RField := ⟨4, 24, 4⟩
def stage : RField := ⟨8, 0, 16⟩
end FS

/-- A word of a queue record (Table 6.9). -/
def State.qget (s : State) (p q ofs : Nat) : Nat := s.bar2Num (queueAddr p q + ofs) 4

/-- The state with a word of a queue record holding `v`. -/
def State.qset (s : State) (p q ofs v : Nat) : State := s.putBar2Num (queueAddr p q + ofs) 4 v

/-- The state with `k` added to a 48-bit counter of a queue record. -/
def State.qcount (s : State) (p q ofs k : Nat) : State :=
  s.putBar2Num (queueAddr p q + ofs) 8 ((s.bar2Num (queueAddr p q + ofs) 8 + k) % 2 ^ 48)

/-- The context of flow `f` in plane `p`. -/
def State.flow (s : State) (p f : Nat) : FlowCtx := Sparse.get flowDefault (s.plane p).flows f

/-- The state with the context of a flow changed. -/
def State.modFlow (s : State) (p f : Nat) (g : FlowCtx → FlowCtx) : State :=
  s.modPlane p (fun pl => { pl with flows := Sparse.set flowDefault pl.flows f (g (Sparse.get flowDefault pl.flows f)) })

/-! ## Epochs -/

/-- ACTIVE of plane `p`. -/
def State.active (s : State) (p : Nat) : Nat := s.get (Fld.MAP_EPOCH_STATUS_ACTIVE p)

/-- A commit is in progress in plane `p`. -/
def State.committing (s : State) (p : Nat) : Bool := s.flag (Fld.MAP_EPOCH_STATUS_COMMIT_BUSY p)

/-- The epoch of the receive side of line `n` in plane `p` (R192). -/
def State.rxEpoch (s : State) (p n : Nat) : Nat :=
  if s.committing p && !(s.plane p).rxDone.testBit n then 1 - s.active p else s.active p

/-- The epoch of the transmit side of line `n` in plane `p`. -/
def State.txEpoch (s : State) (p n : Nat) : Nat :=
  if s.committing p && !(s.plane p).txDone.testBit n then 1 - s.active p else s.active p

/-- The line that a flow's source is on: with SRC_PG the member that the selector has chosen (R231). -/
def State.srcLineOf (s : State) (p : Nat) (d : Desc) : Nat :=
  if !d.srcPg then d.srcLine
  else if 0x100 ≤ d.srcLine then
    let a := lgAddr p (d.srcLine - 0x100)
    if s.rget a LG.sel = 1 then s.rget a LG.pLine else s.rget a LG.wLine
  else
    let a := mgAddr p d.srcLine
    if s.rget a MG.last = 1 then s.rget a MG.pLine else s.rget a MG.wLine

/-- The position that a flow's source has on the line it is on: of a merge group whose P copy is chosen the slots of the P mask
(R231). -/
def State.srcPosOf (s : State) (p : Nat) (d : Desc) : Nat :=
  let a := mgAddr p d.srcLine
  if d.srcPg ∧ d.srcLine < 0x100 ∧ s.rget a MG.last = 1 then d.srcPos / 2 ^ 24 * 2 ^ 24 + s.rget a MG.pMask % 2 ^ 24 else d.srcPos

/-- A group's slot words of a frame's payload: the words of the slots of the mask, in order (R246). -/
def slotWords (mask : Nat) (pay : List Word64) : List Word64 :=
  (List.range pay.length).filterMap (fun i => if mask.testBit (i % 24) then pay[i]? else none)

/-- A packet flow's type code: anything but the circuit types (R157). -/
def isPacketCt (ct : Nat) : Bool :=
  ct == 0x30 || ct == 0x40 || ct == 0x41 || (decide (0x82 ≤ ct) && decide (ct ≤ 0x86)) || ct == 0x90 || ct == 0x91

/-- A valid packet flow. -/
def Desc.isPacket (d : Desc) : Bool := d.valid && isPacketCt d.srcCt

/-- The source of flow `f` as plane `p` receives it: descriptor and line. -/
def State.rxSide (s : State) (p f : Nat) : Desc × Nat :=
  let n := s.srcLineOf p (s.desc p (s.active p) f)
  let d := s.desc p (s.rxEpoch p n) f
  (d, s.srcLineOf p d)

/-- Queue `q` of plane `p` is active (R178). -/
def State.queueActive (s : State) (p q : Nat) : Bool :=
  decide (q < 4096) && ((s.desc p (s.active p) q).isPacket || (s.committing p && (s.desc p (1 - s.active p) q).isPacket))

/-- A descriptor names line `n` at one of its ends, protection groups by their members (R190). -/
def State.names (s : State) (p : Nat) (d : Desc) (n : Nat) : Bool :=
  d.valid && (d.dstLine == n || (d.bridge && d.dst2Line == n) || (!d.srcPg && d.srcLine == n)
    || (d.srcPg && decide (0x100 ≤ d.srcLine) && (s.rget (lgAddr p (d.srcLine - 0x100)) LG.wLine == n
          || s.rget (lgAddr p (d.srcLine - 0x100)) LG.pLine == n))
    || (d.srcPg && decide (d.srcLine < 0x100) && (s.rget (mgAddr p d.srcLine) MG.wLine == n
          || s.rget (mgAddr p d.srcLine) MG.pLine == n)))

/-- A flow of epoch `e` of plane `p` names line `n`. -/
def State.epochNames (s : State) (p e n : Nat) : Bool := (s.flowsOf p e).any (fun f => s.names p (s.desc p e f) n)

/-- A change of format, doze state, FEC setting or Through pair of line `n` clears CHECKED of an inactive epoch that names
it (R190). -/
def State.uncheck (s : State) (n : Nat) : State :=
  [0, 1].foldl (fun s p =>
    if s.flag (Fld.MAP_EPOCH_STATUS_CHECKED p) && s.epochNames p (1 - s.active p) n then
      s.setB (Fld.MAP_EPOCH_STATUS_CHECKED p) false
    else s) s

/-- The placement of a container type that carries GFP-F is that of the plain container (Table 6.1). -/
def baseCt (ct : Nat) : Nat := if 0x80 ≤ ct then ct - 0x80 else ct

/-- A container that is a VC. -/
def isVc (ct : Nat) : Bool := decide (1 ≤ baseCt ct) && decide (baseCt ct ≤ 6)

end Sys2Proof.Machine
end

