-- ==== Sys2Proof/Machine/Tables.lean ====
section
/-! DEFINITION. The table space (R183 to R188, R200): writes to descriptors, trace sets and queue records, through the
flow table window and through MAP_TBL_DATA, and the flush of a client packet queue (R181). -/

namespace Sys2Proof.Machine

/-- FLUSH of a queue record. -/
def State.flushing (s : State) (p q : Nat) : Bool := (s.qget p q 0).testBit 24

/-- The flush takes effect: the read pointer moves to the commit mark, and the packets discarded are counted (R181). -/
def State.flushNow (s : State) (p q : Nat) : State :=
  let s := s.qcount p q 0x38 (s.flow p q).queue.length
  let s := (s.qset p q 0x10 (s.qget p q 0x0C)).qset p q 0 (clearBit (s.qget p q 0) 24)
  s.modFlow p q (fun c => { c with queue := [] })

/-- A flush request: at once where the consumer is idle; a second one while one is pending has no effect (R181). -/
def State.flushRequest (s : State) (p q : Nat) : State :=
  if s.flushing p q then s
  else
    let s := s.qset p q 0 (setBit (s.qget p q 0) 24)
    if s.qget p q 0x10 = s.qget p q 0x0C then s.flushNow p q else s

/-- An ignored table write (R186, R188). -/
def State.tableIgnored (s : State) (p : Nat) : State := s.raise (Fld.MAP_EPOCH_STATUS_WR_IGN_EV p)

/-- A write of word 0 of a queue record: BASE and SIZE of an active queue stay (R186); FLUSH requests a flush. -/
def State.queueWord (s : State) (p q : Nat) (v : Nat) : State :=
  let old := s.qget p q 0
  let place := v % 2 ^ 23
  let s :=
    if s.queueActive p q then s.tableIgnored p
    else s.qset p q 0 (putBits old 0 23 place)
  if v.testBit 24 then s.flushRequest p q else s

/-- The bits of a word of a descriptor that Table 6.7 defines; the others read 0 (R11). -/
def descMask (o : Nat) : Nat :=
  match o with
  | 0x00 => 0x01FFFFFF
  | 0x10 => 0xFFFF
  | 0x18 => 0x7FFF0FFF
  | 0x1C => 0xFFF
  | _ => 0xFFFFFFFF

/-- A descriptor as it is stored: without reserved bits, and without CHG, which the compile step writes (R184). -/
def descStored (bs : List Byte) : List Byte :=
  (List.range 8).flatMap (fun k =>
    leBytes 4 ((leNat ((bs.drop (4 * k)).take 4)) &&& (if k = 0 then 0x01EFFFFF else descMask (4 * k))))

/-- A 4-byte write at sub-offset `o` of the table space of plane `p` (Table 6.6). -/
def State.tableWord (s : State) (p o v : Nat) : State :=
  if o < 0x400000 then
    if o / 0x200000 = s.active p ∨ s.committing p then s.tableIgnored p
    else
      let a := tblBase p + o
      let v := v &&& descMask (o % 32)
      let v := if o % 32 = 0 then putBits v 20 1 (bitsOf (s.bar2Num a 4) 20 1) else v
      (s.putBar2Num a 4 v).setB (Fld.MAP_EPOCH_STATUS_CHECKED p) false
  else if 0x500000 ≤ o ∧ o < 0x560000 then
    if (o - 0x500000) % 192 < 64 then s else s.putBar2Num (tblBase p + o) 4 v
  else if 0x560000 ≤ o ∧ o < 0x5A0000 then
    if o % 64 = 0 then s.queueWord p ((o - 0x560000) / 64) v else s
  else s

/-- The words of a 4- or 8-byte write, from address `a` on. -/
def wordsOf (a : Nat) (bs : List Byte) : List (Nat × Nat) :=
  (List.range (bs.length / 4)).map (fun k => (a + 4 * k, leNat ((bs.drop (4 * k)).take 4)))

/-- A write to table address `a` in every plane that it reaches. -/
def State.tableWrite (s : State) (a : Nat) (bs : List Byte) : State :=
  s.onWrite (a / 0x800000) fun s p => (wordsOf (a % 0x800000) bs).foldl (fun s w => s.tableWord p w.1 w.2) s

/-- TABLE_WRITE: accesses are 4 or 8 bytes long and naturally aligned; any other is ignored (R183). -/
def State.tableAccess (s : State) (a : Nat) (bs : List Byte) : State :=
  s.onSpine fun s => s.when ((bs.length == 4 || bs.length == 8) && a % bs.length == 0) fun s => s.tableWrite a bs

/-- An access to MAP_TBL_DATA: a read, or a write of a word at ADDR; with AUTOINC the address moves on (R200). -/
def State.mapTblData (s : State) (w : Option Word) : State :=
  s.onSpine fun s =>
    let a := s.get Fld.MAP_TBL_ADDR_ADDR / 4 * 4
    let s := match w with
      | some v => s.tableWrite a (leBytes 4 v.toNat)
      | none => s
    if s.flag Fld.MAP_TBL_ADDR_AUTOINC then s.set Fld.MAP_TBL_ADDR_ADDR (s.get Fld.MAP_TBL_ADDR_ADDR + 4) else s

/-- QUEUE_FLUSH in every plane that a table write reaches. -/
def State.queueFlush (s : State) (p q : Nat) : State := s.onWrite p fun s p => s.flushRequest p q

/-- A pending flush takes effect at the consumer's packet boundary (R181). -/
def State.queueFlushApply (s : State) (p q : Nat) : State :=
  s.onPlanes p fun s p => s.when (s.flushing p q) fun s => s.flushNow p q

/-! ## Meanings -/

/-- TABLE_WRITE (R188). -/
def execTableWrite (a : BitVec 24) (bytes : List Byte) (s : State) : Host.Outcome State Fault Refusal :=
  done (s.tableAccess a.toNat bytes)

/-- MAP_TBL_DATA_ACCESS (R200): a read, or a write of a word. -/
def execMapTblDataAccess (w : Option Word) (s : State) : Host.Outcome State Fault Refusal := done (s.mapTblData w)

/-- QUEUE_FLUSH (R181). -/
def execQueueFlush (p : PlaneNo) (q : Fin 4096) (s : State) : Host.Outcome State Fault Refusal := done (s.queueFlush p.val q.val)

/-- QUEUE_FLUSH_APPLY (R181). -/
def execQueueFlushApply (p : PlaneNo) (q : Fin 4096) (s : State) : Host.Outcome State Fault Refusal :=
  done (s.queueFlushApply p.val q.val)

end Sys2Proof.Machine
end

