-- ==== Sys2Proof/Machine/Compile.lean ====
section
/-! DEFINITION. The compile of an epoch (R174, R189): the rules of Table 6.4 over every valid flow, the CHG bits and the
check value of the compiled epoch. -/

namespace Sys2Proof.Machine

/-- One present end of a flow: direction (true is a destination), type, line, position. -/
structure FlowEnd where
  dst : Bool
  ct : Nat
  line : Nat
  pos : Nat
  deriving DecidableEq, Repr

/-- A plain container type of a circuit flow (R157). -/
def isCircuitCt (ct : Nat) : Bool := (decide (1 ≤ ct) && decide (ct ≤ 6)) || ct == 0x10 || ct == 0x11

/-- Rule 0x01: the types and the presence of the ends (R157, R184). -/
def rule01 (d : Desc) : Bool :=
  if d.struct then
    (d.srcCt == 3 && d.dstCt == 0 && d.dstLine == 0xFFFF) || (d.srcCt == 0 && d.srcLine == 0xFFFF && d.dstCt == 3)
  else
    (isCircuitCt d.srcCt && d.srcCt == d.dstCt) || (isPacketCt d.srcCt && isPacketCt d.dstCt && d.dstCt != 0x41)

/-- The line whose structure an end's source position is read in: W of a group (R231). -/
def State.srcHome (s : State) (p : Nat) (d : Desc) : Nat :=
  if !d.srcPg then d.srcLine
  else if 0x100 ≤ d.srcLine then s.rget (lgAddr p (d.srcLine - 0x100)) LG.wLine
  else s.rget (mgAddr p d.srcLine) MG.wLine

/-- The protection group of a descriptor exists. -/
def State.pgDefined (s : State) (p : Nat) (d : Desc) : Bool :=
  if 0x100 ≤ d.srcLine then s.lgExists p (d.srcLine - 0x100) else s.mgExists p d.srcLine

/-- The ends of a flow that are present and can be placed. The second destination of a packet flow or a structured end, which rule
0x0A forbids, is none. -/
def State.endsOf (s : State) (p : Nat) (d : Desc) : List FlowEnd :=
  (if d.srcCt = 0 ∨ (d.srcPg ∧ !s.pgDefined p d) then [] else [⟨false, d.srcCt, s.srcHome p d, d.srcPos⟩])
    ++ (if d.dstCt = 0 then [] else [⟨true, d.dstCt, d.dstLine, d.dstPos⟩])
    ++ (if d.bridge ∧ !d.struct ∧ !d.isPacket then [⟨true, d.dstCt, d.dst2Line, d.dst2Pos⟩] else [])

/-- The format carries the type (rule 0x02). -/
def carries (fmt ct : Nat) : Bool :=
  let b := baseCt ct
  if ct = 0x40 ∨ ct = 0x41 then isEth fmt
  else if ct = 0x30 then isMxf fmt
  else if b = 0x10 ∨ b = 0x11 then fmt == 0x0B || isMxf fmt
  else (isStm fmt || isMxf fmt) && decide (1 ≤ b ∧ b ≤ 6)

/-- Number of AU-4 of an STM-N format. -/
def auCount (fmt : Nat) : Nat :=
  match fmt with
  | 6 => 1
  | 7 => 4
  | 8 => 16
  | 9 => 64
  | _ => 0

/-- AU-4s that a VC-4 or VC-4-nc takes. -/
def auWidth (ct : Nat) : Nat :=
  match baseCt ct with
  | 4 => 4
  | 5 => 16
  | 6 => 64
  | _ => 1

/-- L, M and T of a position (Table 6.2). -/
def lmtOf (fmt pos : Nat) : Nat × Nat × Nat :=
  if isMxf fmt then (bitsOf pos 24 2, bitsOf pos 26 3, bitsOf pos 29 2) else (bitsOf pos 7 2, bitsOf pos 9 3, bitsOf pos 12 2)

/-- Rule 0x03: the position lies inside the line's structure (R158, R159, R164, R165). -/
def posOk (fmt ct pos : Nat) : Bool :=
  let b := baseCt ct
  let (l, m, t) := lmtOf fmt pos
  let lmt :=
    if b = 1 then l != 0 && m != 0 && t != 0
    else if b = 2 then m == 0 && t == 0 && (isMxf fmt || l != 0)
    else l == 0 && m == 0 && t == 0
  if isStm fmt then
    let k := pos % 128
    lmt && decide (pos < 2 ^ 14) && decide (1 ≤ k) && decide (k - 1 + auWidth ct ≤ auCount fmt) && (k - 1) % auWidth ct == 0
  else if isMxf fmt then lmt && decide (pos < 2 ^ 31) && decide (pos % 2 ^ 24 ≠ 0)
  else if fmt = 0x0B then decide (pos < 2 ^ 11) && decide (pos % 256 ≠ 0) && (b != 0x10 || popCount 8 pos == 1)
  else pos == 0

/-- A TU position inside a VC-4. -/
def isLower (fmt ct pos : Nat) : Bool := (baseCt ct == 1 || baseCt ct == 2) && decide (0 < (lmtOf fmt pos).1)

/-- The AU-4 or the slot group that a lower position lies in. -/
def upperOf (fmt pos : Nat) : Nat := if isMxf fmt then pos % 2 ^ 24 else pos % 128

/-- Two ends of one line and direction take the same position, slot or tributary slot, or mix TU-3 and TUG-2 in one TUG-3
(rule 0x04). -/
def clash (fmt : Nat) (a b : FlowEnd) : Bool :=
  if isEth fmt then !a.dst && (a.ct == 0x40 && b.ct == 0x40)
  else
    let la := isLower fmt a.ct a.pos
    let lb := isLower fmt b.ct b.pos
    if la && lb then
      upperOf fmt a.pos == upperOf fmt b.pos && (lmtOf fmt a.pos).1 == (lmtOf fmt b.pos).1 &&
        (baseCt a.ct != baseCt b.ct || (lmtOf fmt a.pos) == (lmtOf fmt b.pos))
    else if la || lb then false
    else if isStm fmt then
      let ka := a.pos % 128
      let kb := b.pos % 128
      decide (ka < kb + auWidth b.ct ∧ kb < ka + auWidth a.ct)
    else if isMxf fmt then decide ((a.pos % 2 ^ 24) &&& (b.pos % 2 ^ 24) ≠ 0)
    else decide ((a.pos % 256) &&& (b.pos % 256) ≠ 0)

/-- Line `n` is the P line of a line protection group of plane `p` (R232). -/
def State.isPLine (s : State) (p n : Nat) : Bool :=
  (List.range 48).any (fun g => s.lgExists p g && s.rget (lgAddr p g) LG.pLine == n)

/-- Rate of a container in bit/s, with its tolerance in ppm (Table 6.3, R164, R168). -/
def containerRate (ct arg : Nat) : Nat × Nat :=
  match baseCt ct with
  | 2 => (48960000, 20)
  | 3 => (150336000, 20)
  | 4 => (601344000, 20)
  | 5 => (2405376000, 20)
  | 6 => (9621504000, 20)
  | 0x10 => (1244160000, 20)
  | 0x11 => (arg * 1249177230, 100)
  | _ => (0, 0)

/-- Line rate of an MXF format in bit/s. -/
def mxfRate (fmt : Nat) : Nat :=
  match fmt with
  | 0x0D => 2500000000
  | 0x0E => 5000000000
  | 0x0F => 10000000000
  | _ => 25000000000

/-- R168: (k S - B / 2,048) (1 - 100 ppm) is at least the client rate with its tolerance, S being 85 / 2,048 of B. -/
def groupFits (fmt ct arg k : Nat) : Bool :=
  let (c, tol) := containerRate ct arg
  decide (c * (1000000 + tol) * 2048 * 10000 ≤ (85 * k - 1) * mxfRate fmt * 9999 * 1000000)

/-- Rule 0x05: group sizes, ODUflex slot counts, slots 22 and 23 under FEC. -/
def State.sizeOk (s : State) (d : Desc) (e : FlowEnd) : Bool :=
  let fmt := s.format e.line
  let flexOk := baseCt e.ct != 0x11 || decide (1 ≤ d.arg ∧ d.arg ≤ 8)
  if isMxf fmt then
    flexOk && (e.ct == 0x30 || isLower fmt e.ct e.pos || groupFits fmt e.ct d.arg (popCount 24 e.pos))
      && (!s.flag (Fld.LCH_MXF_CFG_FEC e.line) || bitsOf e.pos 22 2 == 0)
  else if fmt = 0x0B then flexOk && (baseCt e.ct != 0x11 || popCount 8 e.pos == d.arg)
  else true

/-- Line `n` is in a Through pair, as output or as input (R142). -/
def State.inThrough (s : State) (n : Nat) : Bool :=
  s.flag (Fld.LCH_OHP_THRU_CFG_ENABLE n) ||
    (List.range 96).any (fun j => s.flag (Fld.LCH_OHP_THRU_CFG_ENABLE j) && s.get (Fld.LCH_OHP_THRU_CFG_SRC_LINE j) == n) ||
    (s.line n).own.thru.isSome || (List.range 96).any (fun j => (s.line j).own.thru == some n)

/-- A structured end of the given direction at the AU-4 or slot group of a lower position (rule 0x08). -/
def State.hasStruct (s : State) (p ep : Nat) (l : List Nat) (e : FlowEnd) : Bool :=
  let fmt := s.format e.line
  l.any (fun f =>
    let d := s.desc p ep f
    d.struct && (if e.dst then d.dstCt == 3 && d.dstLine == e.line && upperOf fmt d.dstPos == upperOf fmt e.pos
      else d.srcCt == 3 && s.srcHome p d == e.line && upperOf fmt d.srcPos == upperOf fmt e.pos))

/-- BASE and SIZE of queue `q`, in units of 2 KiB. -/
def State.queuePlace (s : State) (p q : Nat) : Nat × Nat := (bitsOf (s.qget p q 0) 0 13, bitsOf (s.qget p q 0) 13 10)

/-- Two queues overlap. -/
def queuesMeet (a b : Nat × Nat) : Bool := decide (a.1 < b.1 + b.2 ∧ b.1 < a.1 + a.2)

/-- Rule 0x09 for flow `f`: queue index and place, port or VLAN-split, VIDs and TPIDs of a line. -/
def State.packetOk (s : State) (p ep f : Nat) (l other : List Nat) : Bool :=
  let d := s.desc p ep f
  let q := s.queuePlace p f
  let own := decide (f < 4096) && decide (1 ≤ q.2 ∧ q.2 ≤ 512) && decide (q.1 + q.2 ≤ 8192)
    && !(l ++ other).any (fun g => g != f && decide (g < 4096)
        && ((s.desc p ep g).isPacket || (s.desc p (1 - ep) g).isPacket) && queuesMeet q (s.queuePlace p g))
  let ethLine := fun (d : Desc) (n : Nat) =>
    ((d.srcCt == 0x40 || d.srcCt == 0x41) && d.srcLine == n) || (d.dstCt == 0x40 && d.dstLine == n)
  let same := l.all (fun g =>
    let x := s.desc p ep g
    decide (f ≤ g) ||
      (!(d.srcLine == x.srcLine && ((d.srcCt == 0x40 && x.srcCt == 0x41) || (d.srcCt == 0x41 && x.srcCt == 0x40)))
        && !(d.srcCt == 0x41 && x.srcCt == 0x41 && d.srcLine == x.srcLine && d.arg == x.arg)
        && !((List.range 96).any (fun n => ethLine d n && ethLine x n) && d.tpid != x.tpid)))
  !d.isPacket || (own && same)

/-- The code of the first rule of Table 6.4 that flow `f` of epoch `ep` breaks, 0 where it keeps them all. A rule over
two flows is broken by the later one. -/
def State.flowRule (s : State) (p ep : Nat) (l other : List Nat) (f : Nat) : Nat :=
  let d := s.desc p ep f
  let es := s.endsOf p d
  let earlier := (l.filter (· < f)).flatMap (fun g => s.endsOf p (s.desc p ep g))
  let hasEarlier := fun (e : FlowEnd) (r : List FlowEnd) =>
    r.any (fun x => x.dst == e.dst && x.line == e.line && clash (s.format e.line) x e)
  if !rule01 d then 0x01
  else if es.any (fun e => decide (96 ≤ e.line) || !s.hasLine e.line || !carries (s.format e.line) e.ct) then 0x02
  else if es.any (fun e => !posOk (s.format e.line) e.ct e.pos)
      || (d.srcPg && decide (d.srcLine < 0x100) && s.pgDefined p d && d.srcPos % 2 ^ 24 != s.rget (mgAddr p d.srcLine) MG.wMask) then 0x03
  else if es.any (fun e => hasEarlier e earlier) || (d.bridge && !d.struct && !d.isPacket && hasEarlier ⟨true, d.dstCt, d.dst2Line, d.dst2Pos⟩ [⟨true, d.dstCt, d.dstLine, d.dstPos⟩])
      || es.any (fun e => e.dst && s.isPLine p e.line) then 0x04
  else if es.any (fun e => !s.sizeOk d e) then 0x05
  else if !s.twin && es.any (fun e => halfOf e.line != p) then 0x06
  else if es.any (fun e => s.inThrough e.line || s.lineDozes e.line) then 0x07
  else if es.any (fun e => isLower (s.format e.line) e.ct e.pos && !s.hasStruct p ep l e) then 0x08
  else if !s.packetOk p ep f l other then 0x09
  else if (d.srcPg && !s.pgDefined p d) || (d.bridge && (d.struct || d.isPacket)) then 0x0A
  else if d.traceEn && (l.filter (· < f)).any (fun g => (s.desc p ep g).traceEn && (s.desc p ep g).traceIdx == d.traceIdx) then 0x0B
  else if d.struct && decide (1024 ≤ ((l.filter (· < f)).filter (fun g => (s.desc p ep g).struct)).length) then 0x0C
  else 0

/-- The first flow of the inactive epoch that breaks a rule, with the code. -/
def State.compileFail (s : State) (p : Nat) : Option (Nat × Nat) :=
  let ep := 1 - s.active p
  let l := s.flowsOf p ep
  let other := s.flowsOf p (s.active p)
  (l.map (fun f => (f, s.flowRule p ep l other f))).find? (fun x => x.2 != 0)

/-- A descriptor without CHG, TRACE_IDX, TRACE_EN and TIM_MODE, which make no difference (R184). -/
def descKey (bs : List Byte) : List Byte :=
  let b2 := clearBit (byteAt' bs 2) 4
  putAt (putAt (putAt bs 2 (BitVec.ofNat 8 b2)) 26 0) 27 (BitVec.ofNat 8 (byteAt' bs 27 / 128 * 128))
where
  /-- Byte `i` of a descriptor. -/
  byteAt' (bs : List Byte) (i : Nat) : Nat := (bs.getD i 0).toNat

/-- The flows that have a nonzero byte in either epoch. -/
def State.describedFlows (s : State) (p : Nat) : List Nat :=
  ((s.bar2.filter (fun c => decide (tblBase p ≤ c.1 ∧ c.1 < tblBase p + 0x400000))).map
    (fun c => ((c.1 - tblBase p) % 0x200000) / 32)).eraseDups

/-- CHG of every descriptor of the inactive epoch (R184, R189). -/
def State.writeChg (s : State) (p : Nat) : State :=
  let ep := 1 - s.active p
  (s.describedFlows p).foldl (fun s f =>
    let a := s.bar2Bytes (descAddr p ep f) 32
    let b := s.bar2Bytes (descAddr p (1 - ep) f) 32
    let w := s.bar2Num (descAddr p ep f) 4
    s.putBar2Num (descAddr p ep f) 4 (putBits w 20 1 (b2n (descKey a != descKey b)))) s

/-- CRC-32C over every descriptor of epoch `e` with its flow index ahead of it (R198). -/
def State.epochCrc (s : State) (p e : Nat) : Nat :=
  crcResult 32 true 0xFFFFFFFF ((List.range 65536).foldl (fun r f =>
    crcBytes 32 0x1EDC6F41 true r (leBytes 4 f ++ s.bar2Bytes (descAddr p e f) 32)) 0xFFFFFFFF)

/-- The compile of the inactive epoch of plane `p` (R189): the flow and code that failed, if one did. -/
def State.compile (s : State) (p : Nat) : State × Option (Nat × Nat) :=
  match s.compileFail p with
  | some (f, c) =>
    ((s.set (Fld.MAP_EPOCH_FAIL_FLOW p) f).set (Fld.MAP_EPOCH_FAIL_CODE p) c |>.setB (Fld.MAP_EPOCH_STATUS_CHECKED p) false,
      some (f, c))
  | none =>
    let s := s.writeChg p
    let s := s.set (Fld.MAP_EPOCH_CRC_CRC p) (s.epochCrc p (1 - s.active p))
    let s := (s.set (Fld.MAP_EPOCH_FAIL_FLOW p) 0).set (Fld.MAP_EPOCH_FAIL_CODE p) 0
    (s.raise (Fld.MAP_EPOCH_STATUS_CHECKED p), none)

end Sys2Proof.Machine
end

