-- ==== Sys2Proof/Machine/Rs.lean ====
section
/-! DEFINITION. The forward error correction codes of Table 3.7: the Reed-Solomon codes RS(255,239) of ITU-T G.709 Annex A,
its shortening RS(192,176) of R114 and RS(528,514) of IEEE 802.3 Clause 108, and the shortened cyclic code of Clause 74.
Field polynomials, generators and the places of the Ethernet error marks are those of the governing documents (log entry
103). -/

namespace Sys2Proof.Machine

/-! ## Galois fields -/

/-- A field GF(2^w) by its reduction polynomial. -/
structure Gf where
  w : Nat
  poly : Nat
  deriving DecidableEq, Repr

/-- The field of G.709 Annex A. -/
def gf256 : Gf := ⟨8, 0x11D⟩

/-- The field of Clause 108. -/
def gf1024 : Gf := ⟨10, 0x409⟩

/-- Multiplication by the primitive element. -/
def Gf.double (g : Gf) (a : Nat) : Nat :=
  let v := a * 2
  if v < 2 ^ g.w then v else (v ^^^ g.poly) % 2 ^ g.w

/-- The product over `k` bits of the second factor. -/
def Gf.mulBits (g : Gf) : Nat → Nat → Nat → Nat
  | 0, _, _ => 0
  | k + 1, a, b => (if b % 2 = 1 then a else 0) ^^^ g.mulBits k (g.double a) (b / 2)

/-- Product. -/
def Gf.mul (g : Gf) (a b : Nat) : Nat := g.mulBits g.w a b

/-- The power `e`, by repeated squaring over `k` bits of the exponent. -/
def Gf.powBits (g : Gf) : Nat → Nat → Nat → Nat
  | 0, _, _ => 1
  | k + 1, a, e => g.mul (if e % 2 = 1 then a else 1) (g.powBits k (g.mul a a) (e / 2))

/-- Inverse; that of 0 is 0. -/
def Gf.inv (g : Gf) (a : Nat) : Nat := g.powBits g.w a (2 ^ g.w - 2)

/-- The power `e` of the primitive element. -/
def Gf.exp (g : Gf) (e : Nat) : Nat := g.powBits g.w 2 (e % (2 ^ g.w - 1))

/-- The value at `x` of a polynomial given lowest coefficient first. -/
def Gf.eval (g : Gf) (l : List Nat) (x : Nat) : Nat := l.foldr (fun c v => c ^^^ g.mul v x) 0

/-- A polynomial, highest coefficient first, times (x + r). -/
def Gf.times (g : Gf) (l : List Nat) (r : Nat) : List Nat :=
  (List.range (l.length + 1)).map (fun i => l.getD i 0 ^^^ (if i = 0 then 0 else g.mul (l.getD (i - 1) 0) r))

/-! ## Encoding -/

/-- The generator of the 16 parity symbols, roots α^0 to α^15, highest coefficient first. -/
def rsGen : List Nat :=
  ((List.range 16).foldl (fun (x : List Nat × Nat) _ => (gf256.times x.1 x.2, gf256.double x.2)) ([1], 1)).1

/-- One symbol into the parity register, highest-order symbol first. -/
def rsStep (gen : List Nat) (reg : List Byte) (b : Byte) : List Byte :=
  let f := (reg.headD 0 ^^^ b).toNat
  (List.range 16).map (fun i => reg.getD (i + 1) 0 ^^^ BitVec.ofNat 8 (gf256.mul f (gen.getD (i + 1) 0)))

/-- The 16 parity symbols of a codeword's information symbols (R114). -/
def rsParity (bs : List Byte) : List Byte := bs.foldl (rsStep rsGen) (List.replicate 16 0)

/-! ## Decoding -/

/-- The syndromes of a word, highest-order symbol first, at α^0 to α^(r - 1). -/
def Gf.syndromes (g : Gf) (r : Nat) (word : List Nat) : List Nat :=
  (List.range r).map (fun i => let a := g.exp i; word.foldl (fun v c => g.mul v a ^^^ c) 0)

/-- What the Berlekamp-Massey recursion carries: the locator and its predecessor, lowest coefficient first, the number of
errors, the shift and the last discrepancy. -/
structure RsLoc where
  c : List Nat
  b : List Nat
  l : Nat
  m : Nat
  d : Nat

/-- One step of the recursion at syndrome `n`. -/
def RsLoc.step (g : Gf) (syn : List Nat) (x : RsLoc) (n : Nat) : RsLoc :=
  let d := (List.range x.l).foldl (fun v i => v ^^^ g.mul (x.c.getD (i + 1) 0) (syn.getD (n - (i + 1)) 0)) (syn.getD n 0)
  if d = 0 then { x with m := x.m + 1 }
  else
    let k := g.mul d (g.inv x.d)
    let c := (List.range (max x.c.length (x.b.length + x.m))).map (fun i =>
      x.c.getD i 0 ^^^ (if i < x.m then 0 else g.mul k (x.b.getD (i - x.m) 0)))
    if 2 * x.l ≤ n then ⟨c, x.c, n + 1 - x.l, 1, d⟩ else ⟨c, x.b, x.l, x.m + 1, x.d⟩

/-- The corrections of a word of `n` symbols from its `r` syndromes: place and value of each symbol error, or none where more
than r / 2 symbols are in error. -/
def Gf.errors (g : Gf) (r n : Nat) (syn : List Nat) : Option (List (Nat × Nat)) :=
  let loc := (List.range r).foldl (RsLoc.step g syn) ⟨[1], [1], 0, 1, 1⟩
  let omega := (List.range r).map (fun k => (List.range (k + 1)).foldl (fun v i => v ^^^ g.mul (loc.c.getD i 0) (syn.getD (k - i) 0)) 0)
  let odd := (List.range loc.c.length).map (fun i => if i % 2 = 0 then loc.c.getD (i + 1) 0 else 0)
  let errs := (List.range n).filterMap (fun j =>
    let e := n - 1 - j
    let xi := g.exp (2 ^ g.w - 1 - e)
    if g.eval loc.c xi = 0 then some (j, g.mul (g.mul (g.exp e) (g.eval omega xi)) (g.inv (g.eval odd xi))) else none)
  if loc.l ≤ r / 2 ∧ errs.length = loc.l then some errs else none

/-- A word decoded: the corrections it takes, none where it is uncorrectable. -/
def Gf.decode (g : Gf) (r : Nat) (word : List Nat) : Option (List (Nat × Nat)) :=
  let syn := g.syndromes r word
  if syn.all (fun x => x == 0) then some [] else g.errors r word.length syn

/-- A word with corrections made. -/
def rsFix (word : List Nat) (errs : List (Nat × Nat)) : List Nat := errs.foldl (fun l e => modAt l e.1 (fun x => x ^^^ e.2)) word

/-- Bytes of a codeword of the code of G.709 Annex A, or of its shortening (R114). -/
def rsDecode (bs : List Byte) : Option (List (Nat × Nat)) := gf256.decode 16 (bs.map (fun b => b.toNat))

/-- Bytes with corrections made. -/
def rsApply (bs : List Byte) (errs : List (Nat × Nat)) : List Byte :=
  errs.foldl (fun l e => modAt l e.1 (fun x => x ^^^ BitVec.ofNat 8 e.2)) bs

/-! ## Clause 74 -/

/-- The generator of the (2112,2080) code, x^32 + x^23 + x^21 + x^11 + x^2 + 1. -/
def cl74Gen : Nat := 2 ^ 32 + 2 ^ 23 + 2 ^ 21 + 2 ^ 11 + 2 ^ 2 + 1

/-- The remainder of a polynomial of `k` bits, highest first, by the generator. -/
def cl74Rem : Nat → Nat → Nat → Nat
  | 0, _, r => r
  | k + 1, v, r =>
    let r := r * 2 + b2n (v.testBit k)
    cl74Rem k v (if 2 ^ 32 ≤ r then r ^^^ cl74Gen else r)

/-- The burst of at most 11 bits with the syndrome `s`, tried from place `j` on over `k` places. -/
def cl74Burst : Nat → Nat → Nat → Option Nat
  | 0, _, _ => none
  | k + 1, j, s =>
    if s < 2 ^ 11 then (if s * 2 ^ j < 2 ^ 2112 then some (s * 2 ^ j) else none)
    else cl74Burst k (j + 1) ((if s % 2 = 1 then s ^^^ cl74Gen else s) / 2)

/-- The bits of a block that are in error, none where it is uncorrectable. -/
def cl74Decode (block : Nat) : Option Nat :=
  let s := cl74Rem 2112 block 0
  if s = 0 then some 0 else cl74Burst 2112 0 s

/-- The PN-2112 sequence of a block: x^58 + x^39 + 1 from alternating bits. -/
def pn2112 : Nat → Nat → Nat → Nat
  | 0, acc, _ => acc
  | k + 1, acc, st =>
    let b := b2n (st.testBit 57 != st.testBit 38)
    pn2112 k (acc * 2 + b) ((st * 2 + b) % 2 ^ 58)

/-- The register at the start of a block: its oldest bit is 1 and bits alternate. -/
def pn2112Seed : Nat := (2 ^ 58 - 1) / 3 * 2

/-! ## One codeword or block (R86) -/

/-- How the symbols or bits of a codeword come out: for a corrected one what FEC_CORR counts (Table 3.7). A Clause 74 block has
its PN-2112 sequence removed unless `bypass` (Table 3.6). -/
def fecOutcome (b : FecBlock) (bypass : Bool) : FecOutcome :=
  let of := fun (k : Nat) => if k = 0 then FecOutcome.clean else .corrected k
  match b with
  | .otu bs => match rsDecode bs with
    | some errs => of ((errs.map (fun e => popCount 8 e.2)).foldl (· + ·) 0)
    | none => .uncorrectable
  | .mxf bs => match rsDecode bs with
    | some errs => of errs.length
    | none => .uncorrectable
  | .cl74 v => match cl74Decode (v.toNat ^^^ (if bypass then 0 else pn2112 2112 0 pn2112Seed)) with
    | some e => of (popCount 2112 e)
    | none => .uncorrectable
  | .cl108 ws _ => match gf1024.decode 14 (ws.map (fun w => w.toNat)) with
    | some errs => of errs.length
    | none => .uncorrectable

/-- Whether the sync headers of the blocks that a codeword gives are valid (Table 3.3): as decoded, those of an uncorrectable one
that is marked being made invalid at the places that Clauses 74 and 108 name. -/
def fecHeaders (b : FecBlock) (marked : Bool) : List Bool :=
  match b with
  | .cl74 _ => (List.range 32).map (fun i => !(marked && (i % 8 == 0 || i == 31)))
  | .cl108 _ hs => (List.range hs.length).map (fun i => hs.getD i true && !(marked && (i % 8 == 0 || i + 1 == hs.length)))
  | _ => []

end Sys2Proof.Machine
end

