-- ==== Sys2Proof/Machine/Sdh.lean ====
section
/-! DEFINITION. The structure of STM-N signals (ITU-T G.707, log entry 24): places of the section overhead bytes, the
frame-synchronous scrambler (R85), BIP-8 and BIP-24N, AU-4 columns, VC frames and the TUG structure of a VC-4. -/

namespace Sys2Proof.Machine

/-! ## Lists of bytes -/

/-- XOR of bytes. -/
def xorBytes (l : List Byte) : Byte := l.foldl (fun a b => a ^^^ b) 0

/-- Bytes XORed place by place; the shorter string counts as zeros. -/
def xorZip : List Byte → List Byte → List Byte
  | [], b => b
  | a, [] => a
  | x :: a, y :: b => (x ^^^ y) :: xorZip a b

/-- The XOR of `n` consecutive strings of `k` bytes. -/
def xorChunks (k : Nat) : Nat → List Byte → List Byte → List Byte
  | 0, _, acc => acc
  | n + 1, l, acc => xorChunks k n (l.drop k) (xorZip acc (l.take k))

/-- The elements of a list after the first `j`, one in `k`. -/
def every {α : Type} (k : Nat) : Nat → List α → List α
  | _, [] => []
  | 0, x :: t => x :: every k (k - 1) t
  | j + 1, _ :: t => every k j t

/-- Of `n` consecutive strings of `k` bytes, bytes `lo` to `lo + len - 1` of each. -/
def pickChunks (k lo len : Nat) : Nat → List Byte → List Byte
  | 0, _ => []
  | n + 1, l => (l.drop lo).take len ++ pickChunks k lo len n (l.drop k)

/-- Byte strings interleaved `n` times, each giving as many bytes at a time as it names. -/
def weave : Nat → List (Nat × List Byte) → List Byte
  | 0, _ => []
  | n + 1, ls => ls.flatMap (fun x => x.2.take x.1) ++ weave n (ls.map (fun x => (x.1, x.2.drop x.1)))

/-- The first `n` words of a byte string, byte 0 at bits [63:56]. -/
def wordsOfBytes : Nat → List Byte → List Word64
  | 0, _ => []
  | n + 1, bs => BitVec.ofNat 64 (beNat (bs.take 8)) :: wordsOfBytes n (bs.drop 8)

/-- A byte string in which the places that `held` names come from another one, and are ones where that one has ended. -/
def spliceBytes (held : Nat → Bool) : Nat → List Byte → List Byte → List Byte
  | _, [], _ => []
  | i, a :: t, b => (if held i then b.headD 0xFF else a) :: spliceBytes held (i + 1) t (b.drop 1)

/-! ## The STM-N frame -/

/-- Number of STM-1 in the format. -/
def stmN (fmt : Nat) : Nat :=
  match fmt with
  | 6 => 1
  | 7 => 4
  | 8 => 16
  | _ => 64

/-- Bytes of an STM-N frame: nine rows of 270 N. -/
def stmBytes (k : Nat) : Nat := 2430 * k

/-- Place of the byte in row `r`, column `c`, both from 0. -/
def stmAt (k r c : Nat) : Nat := r * 270 * k + c

/-- The section overhead of one STM-N frame (Table 5.3). -/
structure SdhOh where
  j0 : Byte
  b1 : Byte
  e1 : Byte
  f1 : Byte
  dccR : List Byte
  b2 : List Byte
  k1 : Byte
  k2 : Byte
  dccM : List Byte
  s1 : Byte
  m0 : Byte
  m1 : Byte
  e2 : Byte
  deriving DecidableEq, Repr

/-- Column of M1; M0 lies in the column of [9,4,2] at STM-64 (G.707). -/
def m1Col (k : Nat) : Nat := if k = 1 then 5 else 3 * k + 2

/-- The section overhead that a descrambled frame carries. -/
def sdhOh (k : Nat) (f : List Byte) : SdhOh :=
  let b := fun (r c : Nat) => f.getD (stmAt k r c) 0
  { j0 := b 0 (6 * k), b1 := b 1 0, e1 := b 1 (3 * k), f1 := b 1 (6 * k), dccR := [b 2 0, b 2 (3 * k), b 2 (6 * k)]
    b2 := (f.drop (stmAt k 4 0)).take (3 * k), k1 := b 4 (3 * k), k2 := b 4 (6 * k)
    dccM := [b 5 0, b 5 (3 * k), b 5 (6 * k), b 6 0, b 6 (3 * k), b 6 (6 * k), b 7 0, b 7 (3 * k), b 7 (6 * k)]
    s1 := b 8 0, m0 := if k = 64 then b 8 (3 * k + 1) else 0, m1 := b 8 (m1Col k), e2 := b 8 (6 * k) }

/-- The bytes of one overhead row: the first byte of each listed column, zero elsewhere. -/
def ohRow (n : Nat) (l : List (Nat × Byte)) : List Byte :=
  l.foldl (fun r x => putAt r x.1 x.2) (List.replicate n 0)

/-- The nine overhead rows of a frame, 9 N bytes each, from its overhead and its row of AU pointers: every byte that Table 5.3
marks G or I in its place, all others zero (Z). -/
def sdhRows (k : Nat) (o : SdhOh) (ptrs : List Byte) : List (List Byte) :=
  let row := ohRow (9 * k)
  let d := fun i => o.dccM.getD i 0
  [List.replicate (3 * k) 0xF6 ++ List.replicate (3 * k) 0x28 ++ (o.j0 :: List.replicate (3 * k - 1) 0)
  , row [(0, o.b1), (3 * k, o.e1), (6 * k, o.f1)]
  , row [(0, o.dccR.getD 0 0), (3 * k, o.dccR.getD 1 0), (6 * k, o.dccR.getD 2 0)]
  , ptrs
  , o.b2 ++ (row [(3 * k, o.k1), (6 * k, o.k2)]).drop (3 * k)
  , row [(0, d 0), (3 * k, d 1), (6 * k, d 2)]
  , row [(0, d 3), (3 * k, d 4), (6 * k, d 5)]
  , row [(0, d 6), (3 * k, d 7), (6 * k, d 8)]
  , row ([(0, o.s1)] ++ (if k = 64 then [(3 * k + 1, o.m0)] else []) ++ [(m1Col k, o.m1), (6 * k, o.e2)])]

/-- The first `n` bytes of a string, zeros where it is shorter. -/
def fitBytes (n : Nat) (l : List Byte) : List Byte := l.take n ++ List.replicate (n - l.length) 0

/-- A frame from its overhead rows of 9 N bytes and its payload rows of 261 N bytes. -/
def sdhJoin (soh : List (List Byte)) (pay : List Byte) (k : Nat) : List Byte :=
  (List.range 9).flatMap (fun r => fitBytes (9 * k) (soh.getD r []) ++ fitBytes (261 * k) (pay.drop (261 * k * r)))

/-- The payload rows of a frame. -/
def sdhPay (k : Nat) (f : List Byte) : List Byte := pickChunks (270 * k) (9 * k) (261 * k) 9 f

/-! ## Scrambler and parities -/

/-- One byte of the section scrambler 1 + x^6 + x^7: the byte and the register after it. -/
def sdhScrByte : Nat → Nat → Nat → Nat × Nat
  | 0, acc, st => (acc, st)
  | k + 1, acc, st =>
    let b := st / 64 % 2
    sdhScrByte k (acc * 2 + b) ((st * 2 + b2n (st.testBit 6 != st.testBit 5)) % 128)

/-- Bytes through the section scrambler from a register. -/
def sdhScrFrom : Nat → List Byte → List Byte
  | _, [] => []
  | st, b :: t =>
    let (x, st) := sdhScrByte 8 0 st
    (b ^^^ BitVec.ofNat 8 x) :: sdhScrFrom st t

/-- A frame scrambled, or descrambled: the first 9 N bytes are not; the register restarts with ones after them (Table 3.6). -/
def sdhScr (k : Nat) (f : List Byte) : List Byte := f.take (9 * k) ++ sdhScrFrom 127 (f.drop (9 * k))

/-- BIP-24N over a descrambled frame without its regenerator section overhead (B2): byte i covers the columns that are i modulo
3 N. -/
def sdhBip24 (k : Nat) (f : List Byte) : List Byte :=
  let zero := List.replicate (3 * k) (0 : Byte)
  let top := pickChunks (270 * k) (9 * k) (261 * k) 3 f
  xorChunks (3 * k) 540 (f.drop (810 * k)) (xorChunks (3 * k) 261 top zero)

/-! ## AU-4 and AU-4-nc -/

/-- The bytes of the `n` AU-4s from number `c` + 1 on in the rows of a frame's payload. -/
def auPay (k c n : Nat) (pay : List Byte) : List Byte := pickChunks k c n (9 * 261) pay

/-- The pointer words of the `n` AU-4s from number `c` + 1 on, and their H3 bytes. -/
def auPtrs (k c n : Nat) (f : List Byte) : List Nat × List Byte :=
  let row := f.drop (stmAt k 3 0)
  ((List.range n).map (fun i => (row.getD (c + i) 0).toNat * 256 + (row.getD (3 * k + c + i) 0).toNat),
    pickChunks k c n 3 (row.drop (6 * k)))

/-- What one AU-4 or AU-4-nc puts into a frame: its first AU-4 from 0 and its width, the pointer words, the H3 bytes, and nine
payload rows. -/
structure AuOut where
  first : Nat
  width : Nat
  ptrs : List Nat
  h3 : List Byte
  pay : List Byte
  deriving DecidableEq, Repr

/-- The AU pointer row of a frame: H1, Y, Y, H2, ones, ones, H3; Y is 1001 SS 11 with SS 10. The AU-4s are in order. -/
def auRow (k : Nat) (l : List AuOut) (ais : Bool) : List Byte :=
  if ais then List.replicate (9 * k) 0xFF
  else
    let ptrs := l.flatMap (fun a => a.ptrs)
    let y := ptrs.map (fun w => if w = 0xFFFF then (0xFF : Byte) else 0x9B)
    ptrs.map (fun w => BitVec.ofNat 8 (w / 256)) ++ y ++ y ++ ptrs.map (fun w => BitVec.ofNat 8 w)
      ++ List.replicate (2 * k) 0xFF ++ weave 3 (l.map (fun a => (a.width, a.h3)))

/-- The payload rows of a frame from its AU-4s in order. -/
def auWeave (l : List AuOut) : List Byte := weave (9 * 261) (l.map (fun a => (a.width, a.pay)))

/-- The word of a concatenation indication: NDF enabled, SS 10, ten ones. -/
def concWord : Nat := 0x9BFF

/-! ## VC frames -/

/-- The place of an overhead byte of a VC-4, VC-3 or VC-4-nc frame in its nine rows of `w` columns: J1, B3, C2, G1, F2, H4, F3,
K3, N1 stand in the first column. -/
def pohAt (w r : Nat) : Nat := r * w

/-- Columns of a VC frame by its container type. -/
def vcCols (ct : Nat) : Nat :=
  match ct with
  | 2 => 85
  | 4 => 1044
  | 5 => 4176
  | 6 => 16704
  | _ => 261

/-- A VC frame of nine rows: its overhead column and the other columns row by row. -/
def vcJoin (w : Nat) (poh rest : List Byte) : List Byte :=
  (List.range 9).flatMap (fun r => poh.getD r 0 :: (rest.drop ((w - 1) * r)).take (w - 1))

/-! ## TUGs of a VC-4 -/

/-- The 86 columns of TUG-3 number `l` + 1 in the 258 columns after the overhead and two fixed stuff columns of a VC-4 frame. -/
def tug3Of (l : Nat) (vc : List Byte) : List Byte := pickChunks 3 l 1 (86 * 9) (pickChunks 261 3 258 9 vc)

/-- The columns of a VC-4 frame after the overhead, from its three TUG-3s: two fixed stuff columns and the TUG-3s interleaved. -/
def tug3Join (ls : List (List Byte)) : List Byte :=
  let w := weave (86 * 9) (ls.map (fun l => (1, l)))
  (List.range 9).flatMap (fun r => [0, 0] ++ (w.drop (258 * r)).take 258)

/-- The pointer bytes and the H3 byte of the TU-3 in a TUG-3, and its 85 payload columns. -/
def tu3Of (t : List Byte) : Nat × Byte × List Byte :=
  ((t.getD 0 0).toNat * 256 + (t.getD 86 0).toNat, t.getD 172 0, pickChunks 86 1 85 9 t)

/-- A TUG-3 from the pointer word, the H3 byte and the payload of its TU-3; the first column's other bytes are fixed stuff. -/
def tu3Join (w : Nat) (h3 : Byte) (pay : List Byte) : List Byte :=
  let first : List Byte := [BitVec.ofNat 8 (w / 256), BitVec.ofNat 8 w, h3] ++ List.replicate 6 0
  (List.range 9).flatMap (fun r => first.getD r 0 :: (pay.drop (85 * r)).take 85)

/-- The 36 bytes of TU-12 number `t` + 1 of TUG-2 number `m` + 1 in a TUG-3, whose first two columns are stuff. -/
def tu12Of (m t : Nat) (tug : List Byte) : List Byte :=
  pickChunks 3 t 1 36 (pickChunks 7 m 1 (12 * 9) (pickChunks 86 2 84 9 tug))

/-- A TUG-3 from its 21 TU-12s, three for each TUG-2 in turn: the null pointer indication 1001 SS 11 1110 0000 and fixed stuff
in the first two columns. -/
def tu12Join (tus : List (List Byte)) : List Byte :=
  let tug2 := (List.range 7).map (fun m => weave 36 (((tus.drop (3 * m)).take 3).map (fun l => (1, l))))
  let body := weave (12 * 9) (tug2.map (fun l => (1, l)))
  let npi : List Byte := [0x9B, 0xE0]
  (List.range 9).flatMap (fun r => [npi.getD r 0, 0] ++ (body.drop (84 * r)).take 84)

end Sys2Proof.Machine
end

