-- ==== Sys2Proof/Machine/Otn.lean ====
section
/-! DEFINITION. The structure of OTUk signals (ITU-T G.709, log entry 24): places of the overhead fields, scrambler (R85) and FEC
of a frame, the ODU frame in a tributary slot, and the GMP of ODTU2.ts (R164). -/

namespace Sys2Proof.Machine

/-! ## The OTUk frame -/

/-- Bytes of a row of an OTUk frame, and of an ODU frame. -/
def otuCols : Nat := 4080
def oduCols : Nat := 3824

/-- The three overhead bytes of the SM field, the PM field or a TCM level of one OTUk frame: the TTI byte, the BIP-8
and the byte that carries BEI or BIAE, BDI and IAE or STAT (Table 5.5). -/
structure OduLevel where
  tti : Byte
  bip : Byte
  st : Byte
  deriving DecidableEq, Repr

/-- The overhead of one OTUk frame (Table 5.5). -/
structure OtuOh where
  mfas : Byte
  sm : OduLevel
  gcc0 : List Byte
  tcm : List OduLevel
  pm : OduLevel
  gcc1 : List Byte
  gcc2 : List Byte
  aps : List Byte
  psi : Byte
  deriving DecidableEq, Repr

/-- First byte of TCM level `i` + 1 in rows of `w` bytes. -/
def tcmAt (w i : Nat) : Nat :=
  match i with
  | 0 => 2 * w + 6
  | 1 => 2 * w + 3
  | 2 => 2 * w
  | 3 => w + 10
  | 4 => w + 7
  | _ => w + 4

/-- The three bytes of SM, PM or a TCM level. -/
def oduLevel (f : List Byte) (i : Nat) : OduLevel := ⟨f.getD i 0, f.getD (i + 1) 0, f.getD (i + 2) 0⟩

/-- The bytes of a level in transmission order. -/
def OduLevel.bytes (l : OduLevel) : List Byte := [l.tti, l.bip, l.st]

/-- The overhead that a descrambled and decoded frame carries, in rows of `w` bytes. -/
def otuOh (w : Nat) (f : List Byte) : OtuOh :=
  { mfas := f.getD 6 0, sm := oduLevel f 7, gcc0 := (f.drop 10).take 2
    tcm := (List.range 6).map (fun i => oduLevel f (tcmAt w i)), pm := oduLevel f (2 * w + 9)
    gcc1 := (f.drop (3 * w)).take 2, gcc2 := (f.drop (3 * w + 2)).take 2, aps := (f.drop (3 * w + 4)).take 4
    psi := f.getD (3 * w + 14) 0 }

/-- The BIP-8 over the OPU of a frame: columns 15 to 3824 of its rows of `w` bytes. -/
def opuBip (w : Nat) (f : List Byte) : Byte := xorBytes (pickChunks w 14 3810 4 f)

/-- The frame alignment signal. -/
def otuFas : List Byte := [0xF6, 0xF6, 0xF6, 0x28, 0x28, 0x28]

/-- The four overhead rows of 14 bytes (Table 5.5): what it marks G or I in its place, all else zero. -/
def otuRows (o : OtuOh) : List (List Byte) :=
  let t := fun i => (o.tcm.getD i ⟨0, 0, 0⟩).bytes
  [otuFas ++ [o.mfas] ++ o.sm.bytes ++ o.gcc0 ++ [0, 0]
  , [0, 0, 0, 0] ++ t 5 ++ t 4 ++ t 3 ++ [0]
  , t 2 ++ t 1 ++ t 0 ++ o.pm.bytes ++ [0, 0]
  , o.gcc1 ++ o.gcc2 ++ o.aps ++ List.replicate 6 0]

/-- The columns of a frame that belong to the OPU, 3,810 bytes in each of four rows. -/
def opuOf (w : Nat) (f : List Byte) : List Byte := pickChunks w 14 3810 4 f

/-- The four rows of 3,824 bytes of a frame from its overhead and its OPU. -/
def oduJoin (o : OtuOh) (opu : List Byte) : List Byte :=
  (List.range 4).flatMap (fun r => fitBytes 14 ((otuRows o).getD r []) ++ fitBytes 3810 (opu.drop (3810 * r)))

/-! ## Scrambler and FEC -/

/-- The register of 1 + x + x^3 + x^12 + x^16, output at bit 15. -/
def otuScrByte : Nat → Nat → Nat → Nat × Nat
  | 0, acc, st => (acc, st)
  | k + 1, acc, st =>
    let b := st.testBit 15
    let fb := ((b != st.testBit 11) != st.testBit 2) != st.testBit 0
    otuScrByte k (acc * 2 + b2n b) ((st * 2 + b2n fb) % 65536)

/-- Bytes through the scrambler from a register. -/
def otuScrFrom : Nat → List Byte → List Byte
  | _, [] => []
  | st, b :: t =>
    let (x, st) := otuScrByte 8 0 st
    (b ^^^ BitVec.ofNat 8 x) :: otuScrFrom st t

/-- A frame scrambled, or descrambled: all but the FAS, from 0xFFFF at the MFAS byte (Table 3.6). -/
def otuScr (f : List Byte) : List Byte := f.take 6 ++ otuScrFrom 65535 (f.drop 6)

/-- The 16 codewords of a row of 4,080 bytes, byte-interleaved. -/
def otuWords (row : List Byte) : List (List Byte) := (List.range 16).map (fun j => every 16 j row)

/-- One codeword as the decoder leaves it in a mode (R86). -/
def otuFix (mode : Nat) (w : List Byte) : List Byte :=
  if mode ≠ 0 then w
  else match rsDecode w with
  | some errs => rsApply w errs
  | none => w

/-- A frame after decoding, each of its 64 codewords in its mode. -/
def otuDecode (mode : Nat → Nat) (f : List Byte) : List Byte :=
  (List.range 4).flatMap (fun r =>
    let ws := otuWords ((f.drop (otuCols * r)).take otuCols)
    weave 255 ((List.range 16).map (fun j => (1, otuFix (mode (16 * r + j)) (ws.getD j [])))))

/-- A row of 3,824 bytes with the parity of its 16 codewords. -/
def otuParity (row : List Byte) : List Byte :=
  row ++ weave 16 ((List.range 16).map (fun j => (1, rsParity (every 16 j row))))

/-- A frame as on the line from its four rows of 3,824 bytes. -/
def otuSend (odu : List Byte) : List Byte :=
  otuScr ((List.range 4).flatMap (fun r => otuParity ((odu.drop (oduCols * r)).take oduCols)))

/-! ## Tributary slots of an OPU2 with payload type 0x21 -/

/-- The bytes of the tributary slots of a mask in the payload of an OPU2, in transmission order. -/
def slotBytes (mask : Nat) (opu : List Byte) : List Byte :=
  let pay := pickChunks 3810 2 3808 4 opu
  (List.range (476 * 4)).flatMap (fun i => (bitList 8 mask).map (fun t => pay.getD (8 * i + t) 0))

/-- The payload of an OPU2 frame, row by row, from the bytes of its tributary slots: `n` times one byte of each slot. -/
def slotWeave (slots : List (List Byte)) : List Byte := weave (476 * 4) (slots.map (fun l => (1, l)))

/-- An OPU from its two overhead columns and its payload. -/
def opuJoin (oh pay : List Byte) : List Byte :=
  (List.range 4).flatMap (fun r => (oh.drop (2 * r)).take 2 ++ (pay.drop (3808 * r)).take 3808)

/-! ## GMP into ODTU2.ts -/

/-- Words of `ts` bytes in the payload of an ODTU2.ts multiframe. -/
def odtuWords : Nat := 15232

/-- The words of a multiframe, word `j` of 1 to 15,232 carrying the next client word where (j × Cm) mod 15,232 < Cm, else
stuff. -/
def odtuPlace (ts cm : Nat) : Nat → Nat → List Byte → List Byte
  | 0, _, _ => []
  | n + 1, j, bs =>
    if (j * cm) % odtuWords < cm then bs.take ts ++ odtuPlace ts cm n (j + 1) (bs.drop ts)
    else List.replicate ts 0 ++ odtuPlace ts cm n (j + 1) bs

/-- The client bytes of a multiframe's payload. -/
def odtuTake (ts cm : Nat) : Nat → Nat → List Byte → List Byte
  | 0, _, _ => []
  | n + 1, j, bs =>
    (if (j * cm) % odtuWords < cm then bs.take ts else []) ++ odtuTake ts cm n (j + 1) (bs.drop ts)

/-- The inversion mask of the 14 bits C1 to C14, C1 the highest, with II and DI, for a change of Cm: 0, 1, -1, 2, -2; a new
value with both set. -/
def cmChange (old new : Nat) : Nat × Nat :=
  if new = old then (0, 0)
  else if new = old + 1 then (0x2AAA, 2)
  else if new + 1 = old then (0x1555, 1)
  else if new = old + 2 then (0x1999, 2)
  else if new + 2 = old then (0x2666, 1)
  else (0, 3)

/-- CRC-8 over JC1 and JC2, x^8 + x^3 + x^2 + 1, and CRC-5 over the data of JC4 and JC5, x^5 + x + 1. -/
def jcCrc8 (bs : List Byte) : Nat := crcBytes 8 0x0D false 0 bs
def jcCrc5 (d : Nat) : Nat := (List.range 10).foldl (fun r i => crcBit 5 0x03 r (d.testBit (9 - i))) 0

/-- JC1, JC2, JC3 and JC4, JC5, JC6 for a Cm that follows another, and the sum of CnD. -/
def jcBytes (old cm cnd : Nat) : List Byte × List Byte :=
  let (inv, ind) := cmChange old cm
  let c := if ind = 3 then cm % 16384 else (old ^^^ inv) % 16384
  let v := c * 4 + ind
  let jc12 := beBytes 2 v
  let d := cnd % 1024
  (jc12 ++ [BitVec.ofNat 8 (jcCrc8 jc12)], [BitVec.ofNat 8 (d / 32), BitVec.ofNat 8 (d % 32), BitVec.ofNat 8 (jcCrc5 d)])

/-- The Cm that JC1 to JC3 give from the last one; none where the check fails or the pattern is none of G.709's. -/
def cmOf (old : Nat) (jc : List Byte) : Option Nat :=
  let jc12 := jc.take 2
  let v := beNat jc12
  let c := v / 4
  if jcCrc8 jc12 ≠ (jc.getD 2 0).toNat then none
  else match v % 4 with
  | 3 => some c
  | 0 => if c = old then some old else none
  | 2 => if c = old ^^^ 0x2AAA then some (old + 1) else if c = old ^^^ 0x1999 then some (old + 2) else none
  | _ => if c = old ^^^ 0x1555 then some (old - 1) else if c = old ^^^ 0x2666 then some (old - 2) else none

/-! ## The ODU of a tributary slot or slot group, with its frame alignment -/

/-- Bytes of an ODU frame. -/
def oduBytes : Nat := 4 * oduCols

/-- The ODU-AIS of a tributary: all ones but the alignment bytes, the OTU overhead area and FTFL. -/
def oduAis (mfas : Nat) : List Byte :=
  let ones := List.replicate (oduCols - 14) (0xFF : Byte)
  otuFas ++ [BitVec.ofNat 8 mfas] ++ List.replicate 7 0 ++ ones
    ++ List.replicate 13 0xFF ++ [0] ++ ones ++ List.replicate (2 * oduCols) 0xFF

end Sys2Proof.Machine
end

