-- ==== Sys2Proof/Machine/Ohp.lean ====
section
/-! DEFINITION. The receive overhead processor of a line (chapter 5): frames taken while the line is in frame (R120),
trace stores (R130 to R134), capture and insertion channels (R135 to R139), acceptance of labels and APS bytes, ESMC
frames (R128, R138). -/

namespace Sys2Proof.Machine

/-- The overhead processor of line `n`. -/
def State.ohp (s : State) (n : Nat) : Ohp := (s.line n).ohp

/-- The line is in IN_FRAME or MISSING (R120). -/
def State.inFrame (s : State) (n : Nat) : Bool :=
  s.get (Fld.LCH_FAU_STATUS_STATE n) == 3 || s.get (Fld.LCH_FAU_STATUS_STATE n) == 4

/-! ## Capture and insertion channels -/

/-- BAR2 offset and size of capture channel `c` of line `n` (Table 5.8). -/
def capRing (n c : Nat) : Nat × Nat :=
  let base := 0x3000000 + n * 0x8000
  match c with
  | 0 => (base, 2048)
  | 1 => (base + 0x800, 4096)
  | 2 => (base + 0x1800, 2048)
  | _ => (base + 0x2000, 8192)

/-- BAR2 offset and size of insertion channel `c` of line `n` (Table 5.8). -/
def insRing (n c : Nat) : Nat × Nat := (0x3000000 + n * 0x8000 + 0x4000 + c * 0x800, 2048)

/-- The state with bytes written to a ring from byte count `p` on (R136). -/
def State.ringPut (s : State) (ring : Nat × Nat) (p : Nat) : List Byte → State
  | [] => s
  | b :: t => State.ringPut (s.putBar2 (ring.1 + p % ring.2) [b]) ring (p + 1) t

/-- `k` bytes of a ring from byte count `p` on. -/
def State.ringGet (s : State) (ring : Nat × Nat) (p k : Nat) : List Byte :=
  (List.range k).map (fun i => s.bar2Byte (ring.1 + (p + i) % ring.2))

/-- Fill of a ring: write pointer less read pointer modulo 2^32 (R136). -/
def ringFill (wr rd : Nat) : Nat := (wr + 2 ^ 32 - rd) % 2 ^ 32

/-- A channel's bit of a four-bit event field. -/
def State.raiseBit (s : State) (f : FRef) (c : Nat) : State := s.orBits f (2 ^ c)

/-- A group or record written whole to capture channel `c`, or dropped whole (R137). CAP_THR_EV is set at every write that
leaves the fill at THR or above, not only at the one that crosses it (DESIGN CHOICE, log entry 118). -/
def State.capWrite (s : State) (n c : Nat) (bs : List Byte) : State :=
  if !s.flag (Fld.LCH_OHP_CAP_CFG_EN n c) || bs.isEmpty then s
  else
    let wr := s.get (Fld.LCH_OHP_CAP_WR_V n c)
    let fill := ringFill wr (s.get (Fld.LCH_OHP_CAP_RD_V n c)) + bs.length
    if (capRing n c).2 < fill then
      (s.add (Fld.LCH_OHP_CAP_DROP_V n c) 1).raiseBit (Fld.LCH_OHP_RX_STATUS_CAP_OVF_EV n) c
    else
      let s := (s.ringPut (capRing n c) wr bs).set (Fld.LCH_OHP_CAP_WR_V n c) (wr + bs.length)
      let thr := s.get (Fld.LCH_OHP_CAP_CFG_THR n c)
      if thr ≠ 0 ∧ thr ≤ fill then s.raiseBit (Fld.LCH_OHP_RX_STATUS_CAP_THR_EV n) c else s

/-- The `k` bytes that insertion channel `c` supplies to a frame: a whole group, or FILL (R139). -/
def State.insRead (s : State) (n c k fillByte : Nat) : List Byte × State :=
  let rd := s.get (Fld.LCH_OHP_INS_RD_V n c)
  let none' := List.replicate k (BitVec.ofNat 8 fillByte)
  if !s.flag (Fld.LCH_OHP_INS_CFG_EN n c) then (none', s)
  else if k ≤ ringFill (s.get (Fld.LCH_OHP_INS_WR_V n c)) rd then
    (s.ringGet (insRing n c) rd k, s.set (Fld.LCH_OHP_INS_RD_V n c) (rd + k))
  else (none', s.add (Fld.LCH_OHP_INS_UNDER_V n c) 1)

/-- The group that insertion channel `c` supplies, with the channel's own FILL. -/
def State.insGroup (s : State) (n c k : Nat) : List Byte × State :=
  s.insRead n c k (s.get (Fld.LCH_OHP_INS_CFG_FILL n c))

/-- A write of a capture read pointer: ignored where the fill would exceed the ring (R136). -/
def State.capRdWrite (s : State) (n c : Nat) (v : Word) : State :=
  s.onLine n fun s =>
    if (capRing n c).2 < ringFill (s.get (Fld.LCH_OHP_CAP_WR_V n c)) v.toNat then
      s.raise (Fld.LCH_OHP_RX_STATUS_PTR_ERR_EV n)
    else s.set (Fld.LCH_OHP_CAP_RD_V n c) v.toNat

/-- A write of an insertion write pointer: ignored where the fill would exceed the ring (R136). -/
def State.insWrWrite (s : State) (n c : Nat) (v : Word) : State :=
  s.onLine n fun s =>
    if (insRing n c).2 < ringFill v.toNat (s.get (Fld.LCH_OHP_INS_RD_V n c)) then
      s.raise (Fld.LCH_OHP_RX_STATUS_PTR_ERR_EV n)
    else s.set (Fld.LCH_OHP_INS_WR_V n c) v.toNat

/-! ## Trace stores -/

/-- The 16 words of a trace store from the register of its first word. -/
def State.traceBytes (s : State) (reg : Nat → Nat → Nat) (n t : Nat) : List Byte :=
  (List.range 16).flatMap (fun k => leBytes 4 (s.reg (reg n (16 * t + k))).toNat)

/-- The accepted trace store `t` holds the listed bytes, padded with zeros to 64 (R153). -/
def State.setTraceAcc (s : State) (n t : Nat) (bs : List Byte) : State :=
  let b := (bs ++ List.replicate 64 0).take 64
  (List.range 16).foldl (fun s k =>
    s.setReg (Reg.LCH_OHP_TRACE_ACC n (16 * t + k)) (BitVec.ofNat 32 (leNat ((b.drop (4 * k)).take 4)))) s

/-- J0_MODE 2 and 3 are treated as 1: the length of an SDH section trace. -/
def j0Len (cfg : Nat) : Nat := if cfg % 4 = 0 then 1 else 16

/-- Bytes of the trace of store `t` of the line's format (Table 5.7). -/
def State.traceLen (s : State) (n : Nat) : Nat := if isStm (s.format n) then j0Len (s.ohp n).rxCfg else 64

/-- The byte ranges that a MODE of TIM_CFG compares (R132). -/
def timRanges (fmt len mode : Nat) : List (Nat × Nat) :=
  if isOtu fmt then
    (if mode.testBit 0 then [(0, 16)] else []) ++ (if mode.testBit 1 then [(16, 16)] else [])
      ++ (if mode.testBit 2 then [(32, 32)] else [])
  else if mode.testBit 0 then [(0, len)] else []

/-- TIM of store `t` follows the mode in force, the expected and the accepted trace (R132). -/
def State.timUpdate (s : State) (n t : Nat) : State :=
  let mode := bitsOf (s.ohp n).timCfg (3 * t) 3
  let acc := s.traceBytes Reg.LCH_OHP_TRACE_ACC n t
  let exp := s.traceBytes Reg.LCH_OHP_TRACE_EXP n t
  let differ := (timRanges (s.format n) (s.traceLen n) mode).any (fun r =>
    (acc.drop r.1).take r.2 != (exp.drop r.1).take r.2)
  let got := ((s.ohp n).traces.getD t Trace.reset).got
  let tim := s.get (Fld.LCH_OHP_RX_STATUS_TIM n)
  s.set (Fld.LCH_OHP_RX_STATUS_TIM n) (if got && differ then setBit tim t else clearBit tim t)

/-- The state with the receiver of store `t` changed. -/
def State.modTrace (s : State) (n t : Nat) (f : Trace → Trace) : State :=
  s.modOhp n (fun o => { o with traces := modD Trace.reset o.traces t f })

/-- A complete trace period: the run of identical values (R131). -/
def Trace.period (x : Trace) (bs : List Byte) : Trace :=
  { x with buf := [], last := bs, run := if x.last = bs then x.run + 1 else 1 }

/-- CRC-7 of a 16-byte trace with the CRC bits as zero: x^7 + x^3 + 1 (ITU-T G.707, log entry 24). -/
def crc7Of (bs : List Byte) : Nat := crcBytes 7 0x09 false 0 (0x80 :: bs.drop 1)

/-- One byte of J0 (R130, R131). -/
def State.takeJ0 (s : State) (n : Nat) (b : Byte) : State :=
  if j0Len (s.ohp n).rxCfg = 1 then s.modTrace n 0 (fun x => x.period [b])
  else
    let x := (s.ohp n).traces.getD 0 Trace.reset
    let buf := if b.toNat.testBit 7 then [b] else if x.buf.isEmpty then [] else x.buf ++ [b]
    if buf.length < 16 then s.modTrace n 0 (fun x => { x with buf := buf })
    else
      let crc := (buf.headD 0).toNat % 128
      let prev := (s.ohp n).crc7Prev.getD buf
      let s := s.modOhp n (fun o => { o with crc7Prev := some buf })
      if crc = crc7Of prev then s.modTrace n 0 (fun x => x.period buf)
      else
        let s := s.raise (Fld.LCH_OHP_RX_STATUS_CRC7_EV n)
        let s := s.modOhp n (fun o => { o with crc7 := o.crc7 + 1 })
        s.modTrace n 0 (fun x => { x with buf := [], run := 0, last := [] })

/-- One byte of an OTUk TTI in the frame of the given MFAS (R130). -/
def State.takeTti (s : State) (n t mfas : Nat) (b : Byte) : State :=
  let x := (s.ohp n).traces.getD t Trace.reset
  let i := mfas % 64
  let buf := if i = 0 then [b] else if x.buf.length = i then x.buf ++ [b] else []
  if buf.length < 64 then s.modTrace n t (fun x => { x with buf := buf })
  else s.modTrace n t (fun x => x.period buf)

/-- A trace that has arrived identical in 3 trace periods is accepted, while the line is in frame (R120, R131, R132). -/
def State.traceAccept (s : State) (n t : Nat) : State :=
  s.onLine n fun s =>
    let x := (s.ohp n).traces.getD t Trace.reset
    s.when (s.inFrame n && decide (3 ≤ x.run)) fun s =>
      let stored := (s.traceBytes Reg.LCH_OHP_TRACE_ACC n t).take x.last.length
      let s :=
        if stored = x.last then s
        else
          let f : FRef := ⟨Reg.LCH_OHP_RX_TRACE_STATUS n, 4 * t, 4⟩
          (s.setTraceAcc n t x.last).add f 1
      (s.modTrace n t (fun x => { x with got := true })).timUpdate n t

/-! ## Frames -/

/-- A value and its run: one more, or a new value. -/
def runOf (r : Nat × Nat) (v : Nat) : Nat × Nat := if r.1 = v ∧ r.2 ≠ 0 then (v, r.2 + 1) else (v, 1)

/-- The settings written since the last frame boundary take effect (R152). -/
def State.rxBoundary (s : State) (n : Nat) : State :=
  let tim := s.get (Fld.LCH_OHP_TIM_CFG_MODE n)
  let changed := (s.ohp n).timCfg != tim
  let s := s.modOhp n (fun o => { o with
    rxCfg := (s.reg (Reg.LCH_OHP_RX_CFG n)).toNat, timCfg := tim, tcmRx := s.get (Fld.LCH_OHP_TCM_CFG_TCM_MODE n) })
  if changed then (List.range 8).foldl (fun s t => s.timUpdate n t) s else s

/-- Bits in which two byte strings differ. -/
def bitErrors (a b : List Byte) : Nat :=
  ((List.range (max a.length b.length)).map (fun i => popCount 8 (a.getD i 0 ^^^ b.getD i 0).toNat)).foldl (· + ·) 0

/-- The count that M1, at STM-64 M0 and M1, carries (G.707; a value above the block count reads as 0). -/
def reiOf (n m0 m1 : Nat) : Nat :=
  let v := match n with
    | 64 => 256 * m0 + m1
    | 16 => m1
    | _ => m1 % 128
  if 24 * n < v then 0 else v

/-- EXC_EXP or DEG_EXP as it acts (LCH_DPM_CFG): values outside the range as 3, as 6. -/
def State.b2Exp (s : State) (n k : Nat) : Nat :=
  let v := if k = 0 then s.get (Fld.LCH_DPM_CFG_EXC_EXP n) else s.get (Fld.LCH_DPM_CFG_DEG_EXP n)
  if k = 0 then (if 3 ≤ v ∧ v ≤ 5 then v else 3) else if 5 ≤ v ∧ v ≤ 9 then v else 6

/-- Frames of the window over which a B2 error ratio of 10^-x is measured, the detection time of G.783 (log entry 119). -/
def b2Window (x : Nat) : Nat := 8000 * 10 ^ x / 100000

/-- The B2 violations of one frame in a window: at its end the ratio is compared with 10^-x and with 10^-(x + 1), over the bits
that B2 covers, 2,403 bytes for each STM-1. -/
def b2Step (k x v : Nat) (w : Nat × Nat × Bool × Bool) : Nat × Nat × Bool × Bool :=
  let frames := w.1 + 1
  let bad := w.2.1 + v
  if frames < b2Window x then (frames, bad, w.2.2)
  else
    let bits := frames * 2403 * 8 * k
    (0, 0, decide (bits < bad * 10 ^ x), decide (bad * 10 ^ (x + 1) < bits))

/-- One STM-N frame, descrambled, with its BIP-8 as received (Table 5.3). -/
def State.sdhRx (s : State) (n : Nat) (line f : List Byte) : State :=
  let k := stmN (s.format n)
  let o := s.ohp n
  let h := sdhOh k f
  let v1 := match o.par1 with
    | some p => popCount 8 (p ^^^ h.b1).toNat
    | none => 0
  let v2 := if o.par2.isEmpty then 0 else bitErrors o.par2 h.b2
  let rei := reiOf k h.m0.toNat h.m1.toNat
  let s := (((s.count (Reg.LCH_DPM_CNT0_LO n) v1).count (Reg.LCH_DPM_CNT1_LO n) v2).count (Reg.LCH_DPM_CNT2_LO n) rei).count
    (Reg.LCH_DPM_CNT3_LO n) (b2n (v1 != 0))
  let s := (s.lineBlock n 0 (v1 != 0) false).lineBlock n 1 (v2 != 0) (rei != 0)
  let s := s.set (Fld.LCH_OHP_RX_SNAP_SNAP n) (h.k1.toNat + 256 * h.k2.toNat + 65536 * h.s1.toNat + 2 ^ 24 * h.m1.toNat)
  let s := ((s.capWrite n 0 h.dccR).capWrite n 1 h.dccM).capWrite n 2 [h.e1, h.f1, h.e2]
  let s := s.takeJ0 n h.j0
  let s := s.modDpm n (fun d => { d with
    b2 := (List.range 2).map (fun j => b2Step k (s.b2Exp n j) v2 (d.b2.getD j (0, 0, false, false))) })
  s.modOhp n (fun o => { o with
    rx := some (.sdh f), frames := o.frames + 1, fresh := true, par1 := some (xorBytes line), par2 := sdhBip24 k f
    aps := runOf o.aps (h.k1.toNat + 256 * h.k2.toNat)
    apsAge := if 3 ≤ (runOf o.aps (h.k1.toNat + 256 * h.k2.toNat)).2 then 0 else o.apsAge + 1
    s1 := runOf o.s1 (h.s1.toNat % 16)
    reiDue := modD 0 o.reiDue 0 (· + v2) })

/-- BEI of a third overhead byte: values above 8 count as 0 (G.709). -/
def beiOf (b : Byte) : Nat := if b.toNat / 16 ≤ 8 then b.toNat / 16 else 0

/-- The mode of TCM level `i`, 0 to 5, in a TCM_MODE value; 3 is treated as 0 (R124). -/
def tcmMode (cfg i : Nat) : Nat := if bitsOf cfg (2 * i) 2 = 3 then 0 else bitsOf cfg (2 * i) 2

/-- The MSI byte of the multiframe in progress (R163): PSI bytes 2 to 9 (G.709, log entry 24). -/
def Ohp.takePsi (o : Ohp) (mfas : Nat) (b : Byte) : Ohp :=
  if mfas = 0 then { o with pt := runOf o.pt b.toNat, msiBuf := [] }
  else if 2 ≤ mfas ∧ mfas ≤ 9 then
    let buf := if o.msiBuf.length = mfas - 2 then o.msiBuf ++ [b] else []
    if buf.length = 8 then { o with msiBuf := [], msi := (buf, if o.msi.1 = buf then o.msi.2 + 1 else 1) }
    else { o with msiBuf := buf }
  else o

/-- MFAS of one received frame (R76): in multiframe lock it is compared with the value that follows from the last one
expected, out of it with the one that follows from the last one received. -/
def Fau.takeMfas (f : Fau) (locked : Bool) (m : Nat) : Fau :=
  let e := f.mfas.map (fun p => (p + 1) % 256)
  if locked then { f with mfas := some (e.getD m), mfBad := if e.getD m = m then 0 else f.mfBad + 1 }
  else { f with mfas := some m, mfGood := if e = some m then f.mfGood + 1 else 0, mfBad := 0 }

/-- One OTUk frame, descrambled and decoded (Table 5.5): the BIP-8 over the OPUk of frame i is carried in frame i + 2. -/
def State.otuRx (s : State) (n : Nat) (bytes : List Byte) : State :=
  let o := s.ohp n
  let f := otuOh otuCols bytes
  let bip := opuBip otuCols bytes
  let viol := fun (l : OduLevel) => if o.opuBips.length < 2 then 0 else popCount 8 (o.opuBips.headD 0 ^^^ l.bip).toNat
  let vs := viol f.sm
  let vp := viol f.pm
  let s := (((s.count (Reg.LCH_DPM_CNT0_LO n) vs).count (Reg.LCH_DPM_CNT1_LO n) (beiOf f.sm.st)).count
    (Reg.LCH_DPM_CNT2_LO n) vp).count (Reg.LCH_DPM_CNT3_LO n) (beiOf f.pm.st)
  let s := (s.lineBlock n 0 (vs != 0) (beiOf f.sm.st != 0)).lineBlock n 1 (vp != 0) (beiOf f.pm.st != 0)
  let s := ((s.capWrite n 0 f.gcc0).capWrite n 1 f.gcc1).capWrite n 2 f.gcc2
  let m := f.mfas.toNat
  let s := s.modFau n (fun g =>
    if s.get (Fld.LCH_FAU_STATUS_STATE n) = 3 then g.takeMfas (s.flag (Fld.LCH_FAU_STATUS_MF_LOCK n)) m else { g with mfas := some m })
  let s := (s.takeTti n 0 m f.sm.tti).takeTti n 1 m f.pm.tti
  let s : State := (List.range 6).foldl (fun s i =>
    if tcmMode o.tcmRx i = 0 then s else s.takeTti n (2 + i) m (f.tcm.getD i ⟨0, 0, 0⟩).tti) s
  let s := s.modOhp n (fun o =>
    let o := o.takePsi m f.psi
    { o with
      rx := some (.otu bytes)
      frames := o.frames + 1
      fresh := true
      opuBips := (o.opuBips ++ [bip]).drop ((o.opuBips ++ [bip]).length - 2)
      aps := if m % 8 = 0 then runOf o.aps (leNat f.aps) else o.aps
      apsAge := if m % 8 ≠ 0 then o.apsAge else if 3 ≤ (runOf o.aps (leNat f.aps)).2 then 0 else o.apsAge + 1
      reiDue := (List.range 8).map (fun k => o.reiDue.getD k 0 + (match k with
        | 0 => vs
        | 1 => vp
        | j + 2 => if tcmMode o.tcmRx j = 0 then 0 else viol (f.tcm.getD j ⟨0, 0, 0⟩))) })
  let s := s.modDpm n (fun d => { d with
    tcmEb := (List.range 6).map (fun i => d.tcmEb.getD i 0 +
      b2n (tcmMode o.tcmRx i != 0 && viol (f.tcm.getD i ⟨0, 0, 0⟩) != 0))
    tcmFe := (List.range 6).map (fun i => d.tcmFe.getD i 0 +
      b2n (tcmMode o.tcmRx i != 0 && beiOf (f.tcm.getD i ⟨0, 0, 0⟩).st != 0)) })
  let aps := if m % 8 = 0 then leNat (f.aps.take 2) else (s.get (Fld.LCH_OHP_RX_SNAP_SNAP n)) / 65536
  s.set (Fld.LCH_OHP_RX_SNAP_SNAP n)
    ((s.ohp n).ptAcc.getD 0 % 256 + 256 * (f.pm.st.toNat % 8) + 65536 * aps)

/-- The overhead of the last Mehrax frame that its OHCRC passed (R108, R125). -/
def State.mxfOhRx (s : State) (n : Nat) : State :=
  match (s.line n).mxf.oh with
  | none => s
  | some (snap, mcc) =>
    let s := s.set (Fld.LCH_OHP_RX_SNAP_SNAP n) snap
    let s := match mcc with
      | some bs => s.capWrite n 0 bs
      | none => s
    (s.modMxf n (fun m => { m with oh := none })).modOhp n (fun o => { o with rx := some .mxf, fresh := true })

/-! ## Ethernet -/

/-- The self-synchronising descrambler 1 + x^39 + x^58 over the `k` lowest bits of a word, the highest first: the bits, and the
last 58 received (Table 3.6). -/
def selfDescr : Nat → Nat → Nat → Nat → Nat × Nat
  | 0, _, acc, st => (acc, st)
  | k + 1, v, acc, st =>
    let b := v.testBit k
    selfDescr k v (acc * 2 + b2n ((b != st.testBit 38) != st.testBit 57)) ((st * 2 + b2n b) % 2 ^ 58)

/-- Octet `i` of the payload of a block: octets are sent lowest bit first. -/
def blockOctet (v i : Nat) : Nat := reflect 8 (bitsOf v (56 - 8 * i) 8)

/-- The block types of Clause 49. -/
def blockTypes : List Nat := [0x1E, 0x2D, 0x33, 0x66, 0x55, 0x78, 0x4B, 0x87, 0x99, 0xAA, 0xB4, 0xCC, 0xD2, 0xE1, 0xFF]

/-- The sequence ordered set of a control block (R127: block type 0x4B, O code 0): local fault 1, remote fault 2, link
interruption 3; 0 none. -/
def blockSet (v : Nat) : Nat :=
  if blockOctet v 0 = 0x4B ∧ blockOctet v 4 % 16 = 0 ∧ blockOctet v 1 = 0 ∧ blockOctet v 2 = 0 ∧ blockOctet v 3 ≤ 3 then blockOctet v 3
  else 0

/-- A block as received: whether its header is invalid, whether its type is, its ordered set. -/
def blockParts (header v : Nat) : Bool × Bool × Nat :=
  if header = 1 then (false, false, 0)
  else if header = 2 then (false, !blockTypes.contains (blockOctet v 0), blockSet v)
  else (true, false, 0)

/-- Blocks and invalid headers of the BER monitor: 125 µs at 10 Gbit/s, 2 ms at 25 Gbit/s (Clauses 49 and 107, log entry 120). -/
def berWindow (fmt : Nat) : Nat × Nat := if fmt = 4 then (781250, 97) else (19531, 16)

/-- One block into the BER monitor and the link fault state of Clause 46: two columns, the first of them an ordered set or not;
four equal sets, none 128 columns after the one before it, make the state, and 128 columns without one end it. -/
def EthRx.step (e : EthRx) (fmt : Nat) (bad : Bool) (set : Nat) : EthRx :=
  let w := berWindow fmt
  let blocks := e.blocks + 1
  let invalid := e.invalid + b2n bad
  let e := { e with
    blocks := if blocks = w.1 then 0 else blocks, invalid := if blocks = w.1 then 0 else invalid
    hiBer := if w.2 ≤ invalid then true else if blocks = w.1 then false else e.hiBer }
  if set ≠ 0 then
    let count := if e.last = set then e.count + 1 else 1
    { e with last := set, count := min 4 count, cols := 1, fault := if 4 ≤ count then set else e.fault }
  else if 127 < e.cols + 2 then { e with last := 0, count := 0, cols := 128, fault := 0 }
  else { e with cols := e.cols + 2 }

/-- One block of a 10GBASE-R or 25GBASE-R line, with the blocks to come: counters, the last ordered set (R127, Table 7.4). -/
def State.ethBlocks (s : State) (n : Nat) (bypass : Bool) : List (BitVec 66) → State
  | [] => s
  | b :: t =>
    let header := bitsOf b.toNat 64 2
    let line := bitsOf b.toNat 0 64
    let (plain, st) := selfDescr 64 line 0 (s.ohp n).eth.descr
    let (bad, typ, set) := blockParts header (if bypass then line else plain)
    let s := (s.count (Reg.LCH_DPM_CNT0_LO n) (b2n (bad || typ))).count (Reg.LCH_DPM_CNT2_LO n) (b2n (set != 0))
    let s := if set = 0 then s else s.set (Fld.LCH_OHP_RX_SNAP_SNAP n) set
    State.ethBlocks (s.modOhp n (fun o => { o with eth := { o.eth.step (s.format n) bad set with descr := st } })) n bypass t

/-- One frame into the receive overhead processor, while the line is in frame (R120), through the descrambler and the FEC decoder
of its format (R85, R86, Table 3.6); a frame of another format than the line's does not occur. -/
def State.ohpFrameRx (s : State) (n : Nat) (f : OhpFrame) : State :=
  s.onLine n fun s => s.when (s.inFrame n) fun s =>
    let s := s.rxBoundary n
    let fmt := s.format n
    let bypass := s.flag (Fld.LCH_FAU_HUNT_CFG_SCR_BYPASS n)
    match f with
    | .sdh bs => s.when (isStm fmt && bs.length == stmBytes (stmN fmt)) fun s =>
      s.sdhRx n bs (if bypass then bs else sdhScr (stmN fmt) bs)
    | .otu bs => s.when (isOtu fmt && bs.length == 4 * otuCols) fun s =>
      let x := (s.line n).fau
      let plain := if bypass then bs else otuScr bs
      (s.modFau n (fun x => { x with modes := [] })).otuRx n (otuDecode (fun i => x.modes.getD i x.fecMode) plain)
    | .mxf => s.when (isMxf fmt) fun s => s.mxfOhRx n
    | .eth bs => s.when (isEth fmt && fmt != 1) fun s => s.ethBlocks n bypass bs
    | .codes k => s.when (fmt == 1) fun s => s.count (Reg.LCH_DPM_CNT0_LO n) k

/-! ## Acceptance -/

/-- A payload type or an MSI that has arrived unchanged in 5 consecutive frames is accepted, while the line is in frame (R120, R205,
R163). -/
def State.lineLabelAccept (s : State) (n : Nat) : State :=
  s.onLine n fun s => s.when (s.inFrame n) fun s => s.modOhp n (fun o => { o with
    ptAcc := if 5 ≤ o.pt.2 then some o.pt.1 else o.ptAcc
    msiAcc := if 5 ≤ o.msi.2 then some o.msi.1 else o.msiAcc })

/-! ## ESMC -/

/-- Byte `i` of a frame. -/
def byteAt (bs : List Byte) (i : Nat) : Nat := (bs.getD i 0).toNat

/-- The frame carries an IEEE 802.1Q tag. -/
def isTagged (bs : List Byte) : Bool := byteAt bs 12 == 0x81 && byteAt bs 13 == 0

/-- The frame is an ESMC PDU (R128). -/
def isEsmc (bs : List Byte) : Bool :=
  let o := if isTagged bs then 16 else 12
  decide ((bs.take 6).map BitVec.toNat = [0x01, 0x80, 0xC2, 0, 0, 2])
    && decide (((bs.drop o).take 6).map BitVec.toNat = [0x88, 0x09, 0x0A, 0x00, 0x19, 0xA7])

/-- The record of a captured ESMC frame (R138). -/
def State.esmcRecord (s : State) (bs : List Byte) : List Byte :=
  leBytes 2 bs.length ++ leBytes 2 (b2n (isTagged bs)) ++ leBytes 4 0 ++ leBytes 4 s.tk.ns ++ leBytes 4 (s.tk.sec % 2 ^ 32)
    ++ bs ++ List.replicate ((8 - bs.length % 8) % 8) 0

/-- A complete frame of an Ethernet line, without its FCS (R128, R138): an ESMC PDU is copied to channel 3. -/
def State.esmcFrameRx (s : State) (n : Nat) (bs : List Byte) (fcsGood : Bool) : State :=
  s.onLine n fun s =>
    s.when (isEth (s.format n) && s.inFrame n && s.flag (Fld.LCH_OHP_RX_CFG_ESMC_EN n) && fcsGood && isEsmc bs) fun s =>
      if 1518 < bs.length then
        if s.flag (Fld.LCH_OHP_CAP_CFG_EN n 3) then
          (s.add (Fld.LCH_OHP_CAP_DROP_V n 3) 1).raiseBit (Fld.LCH_OHP_RX_STATUS_CAP_OVF_EV n) 3
        else s
      else s.capWrite n 3 (s.esmcRecord bs)

/-- The frame check sequence of an Ethernet frame (IEEE 802.3), in transmission order. -/
def fcsOf (bs : List Byte) : List Byte := leBytes 4 (crcResult 32 true 0xFFFFFFFF (crcBytes 32 0x04C11DB7 true 0xFFFFFFFF bs))

/-- A frame padded to 64 bytes with its FCS (R129). -/
def padFrame (bs : List Byte) : List Byte :=
  let b := bs ++ List.replicate (60 - bs.length) 0
  b ++ fcsOf b

/-- A control character: idle, terminate, error (IEEE 802.3 Clause 46); data characters have bit 8 clear. -/
def charIdle : BitVec 9 := 0x107
def charEnd : BitVec 9 := 0x1FD
def charError : BitVec 9 := 0x1FE

/-- A frame at an Ethernet port: preamble, start of frame delimiter, the frame, and a gap of 12 bytes, of which the terminate
character is the first (R171). -/
def portFrame (bs : List Byte) : List (BitVec 9) :=
  List.replicate 7 (0x055 : BitVec 9) ++ [0x0D5] ++ bs.map (fun b => b.setWidth 9) ++ [charEnd] ++ List.replicate 11 charIdle

/-- A frame goes out at the port of line `n`; during a hold the planes' words are discarded and idle is sent (R279, R280). -/
def State.portSend (s : State) (n : Nat) (bs : List Byte) : State :=
  if s.flag (Fld.LCH_FRB_STATUS_HOLD n) then s else s.modLine n (fun l => { l with portTx := portFrame bs })

/-- An ESMC record of insertion channel 3 is sent between two client packets (R129, R138). One with LEN above 1,518 is discarded
whole: what has not been written yet is discarded as it comes. -/
def State.esmcFrameTx (s : State) (n : Nat) : State :=
  s.onLine n fun s =>
    s.when (isEth (s.format n) && s.lineActive n && s.flag (Fld.LCH_OHP_INS_CFG_EN n 3)
        && !s.flag (Fld.LCH_OHP_THRU_CFG_ENABLE n)) fun s =>
      let rd := s.get (Fld.LCH_OHP_INS_RD_V n 3)
      let fill := ringFill (s.get (Fld.LCH_OHP_INS_WR_V n 3)) rd
      let skip := min fill (s.ohp n).esmcSkip
      if (s.ohp n).esmcSkip ≠ 0 then
        (s.set (Fld.LCH_OHP_INS_RD_V n 3) (rd + skip)).modOhp n (fun o => { o with esmcSkip := o.esmcSkip - skip })
      else if fill < 16 then s
      else
        let len := leNat (s.ringGet (insRing n 3) rd 2)
        let size := 16 + (len + 7) / 8 * 8
        if 1518 < len then
          let s := (s.set (Fld.LCH_OHP_INS_RD_V n 3) (rd + min fill size)).add (Fld.LCH_OHP_INS_UNDER_V n 3) 1
          s.modOhp n (fun o => { o with esmcSkip := size - min fill size })
        else if fill < size then s
        else
          let bs := s.ringGet (insRing n 3) (rd + 16) len
          ((s.set (Fld.LCH_OHP_INS_RD_V n 3) (rd + size)).modOhp n (fun o => { o with esmcTx := padFrame bs })).portSend n (padFrame bs)

/-! ## Transmit traces -/

/-- A write of COMMIT requests the transmit traces it names (R133). -/
def State.txTraceCommit (s : State) (n : Nat) (v : Byte) : State :=
  s.onLine n fun s => s.orBits (Fld.LCH_OHP_TX_TRACE_CTL_PEND n) v.toNat

/-- The J0 byte of the next STM-N frame (R130): of the trace in force, for a 16-byte trace bytes 1 to 15 under the marker
byte with the CRC-7 over the multiframe before (G.707). -/
def Ohp.j0Byte (o : Ohp) : Byte :=
  let b := o.txTraces.getD 0 []
  if j0Len o.txCfg = 1 then b.getD 0 0
  else if o.txPos % 16 = 0 then BitVec.ofNat 8 (0x80 + crc7Of ((o.txJ0Prev.getD b).take 16))
  else b.getD (o.txPos % 16) 0

/-- The transmitter after a frame: the position in the trace period moves on, and at the end of a multiframe its J0 trace is the
one that the next CRC-7 covers. -/
def Ohp.tracePos (o : Ohp) : Ohp :=
  { o with txPos := (o.txPos + 1) % 256, txJ0Prev := if o.txPos % 16 = 15 then o.txTraces.head? else o.txJ0Prev }

/-- Length of the transmit trace period of store `t`, in frames. -/
def State.txTraceLen (s : State) (n : Nat) : Nat := if isStm (s.format n) then j0Len (s.ohp n).txCfg else 64

/-- At the start of a trace period a committed trace is copied into the transmitter (R133). -/
def State.txTraceLoad (s : State) (n t : Nat) : State :=
  s.onLine n fun s =>
    let pend := s.get (Fld.LCH_OHP_TX_TRACE_CTL_PEND n)
    s.when (pend.testBit t && (s.ohp n).txPos % s.txTraceLen n == 0) fun s =>
      (s.set (Fld.LCH_OHP_TX_TRACE_CTL_PEND n) (clearBit pend t)).modOhp n (fun o => { o with
        txTraces := putD [] o.txTraces t (s.traceBytes Reg.LCH_OHP_TRACE_TX n t) })

/-! ## Meanings -/

/-- CAP_RD_WRITE (R136). -/
def execCapRdWrite (n : LineNo) (c : Fin 4) (v : Word) (s : State) : Host.Outcome State Fault Refusal :=
  done (s.capRdWrite n.val c.val v)

/-- INS_WR_WRITE (R136). -/
def execInsWrWrite (n : LineNo) (c : Fin 4) (v : Word) (s : State) : Host.Outcome State Fault Refusal :=
  done (s.insWrWrite n.val c.val v)

/-- ESMC_FRAME_RX (R128): the frame from its destination address to before its FCS. -/
def execEsmcFrameRx (n : LineNo) (bytes : List Byte) (fcsGood : Bool) (s : State) : Host.Outcome State Fault Refusal :=
  done (s.esmcFrameRx n.val bytes fcsGood)

/-- ESMC_FRAME_TX (R129). -/
def execEsmcFrameTx (n : LineNo) (s : State) : Host.Outcome State Fault Refusal := done (s.esmcFrameTx n.val)

/-- TX_TRACE_COMMIT (R133): the value written to COMMIT. -/
def execTxTraceCommit (n : LineNo) (v : Byte) (s : State) : Host.Outcome State Fault Refusal := done (s.txTraceCommit n.val v)

/-- TX_TRACE_LOAD (R133). -/
def execTxTraceLoad (n : LineNo) (t : Fin 8) (s : State) : Host.Outcome State Fault Refusal := done (s.txTraceLoad n.val t.val)

end Sys2Proof.Machine
end

