-- ==== Sys2Proof/Machine/Ssf.lean ====
section
/-! DEFINITION. Signal fail (R207): the unmasked defects of a line (Table 7.1, R203), ADMIN (R204), line SSF and flow
SSF, and the indications the consequent actions take from them (R208). -/

namespace Sys2Proof.Machine

/-- Defect `b` of line `n` is present: its bit of LCH_DPM_DEF. -/
def State.lineDef (s : State) (n b : Nat) : Bool := (s.get (Fld.LCH_DPM_DEF_DEF n)).testBit b

/-- The defects that mask defect `b` (Table 7.1). -/
def maskedBy (fmt b : Nat) : List Nat :=
  let loss := if isOtu fmt then [0, 1, 2] else [0, 1]
  match b with
  | 0 => []
  | 1 => [0]
  | 2 => [0, 1]
  | 3 | 4 | 5 => loss
  | 6 => [0, 1, 2, 3]
  | 7 | 10 | 13 | 14 => [0, 1, 2, 3, 4, 5]
  | 8 | 9 => [0, 1, 2]
  | 11 => [0, 1, 3]
  | 12 => if isStm fmt then [0, 1, 3] else [0, 1, 2, 3]
  | 15 => [0, 1, 2, 3, 4, 5, 14]
  | _ => [0, 1]

/-- Defect `b` of line `n` is present and no defect masks it (R203). -/
def State.unmasked (s : State) (n b : Nat) : Bool :=
  s.lineDef n b && !(maskedBy (s.format n) b).any (fun m => s.lineDef n m)

/-- The dLOS of a line that dozes is marked ADMIN (R204). -/
def State.lineAdmin (s : State) (n : Nat) : Bool := s.lineDef n 0 && s.get (Fld.LCH_LINE_STATUS_PWR_STATE n) != 0

/-- Line SSF (R207). -/
def State.lineSsf (s : State) (n : Nat) : Bool :=
  let fmt := s.format n
  (s.unmasked n 0 && !s.lineAdmin n) || [1, 2, 3, 4, 5, 14, 16].any (fun b => s.unmasked n b)
    || (isEth fmt && (s.unmasked n 17 || s.unmasked n 19))
    || (s.flag (Fld.LCH_DPM_CFG_TIM_AIS n) && (s.unmasked n 9 || s.unmasked n 10))

/-- LCH_DPM_DEF as it reads: the defects, ADMIN and line SSF. -/
def State.lineDefWord (s : State) (n : Nat) : Nat :=
  s.get (Fld.LCH_DPM_DEF_DEF n) % 2 ^ 20 + 2 ^ 20 * b2n (s.lineAdmin n) + 2 ^ 21 * b2n (s.lineSsf n)

/-- SF and SD of a line as the protection engine takes them (R213). -/
def State.lineSf (s : State) (n : Nat) : Bool := s.lineSsf n || s.unmasked n 11
def State.lineSd (s : State) (n : Nat) : Bool := s.unmasked n 12 || s.unmasked n 13

/-- The MSI that epoch `e` of plane `p` gives an OTU2 line in one direction: a used tributary slot carries its occupation
type and TPN, a free one reads unallocated (R163, G.709). -/
def State.msiOf (s : State) (p e n : Nat) (dst : Bool) : List Byte :=
  (List.range 8).map (fun i =>
    match (s.flowsOf p e).find? (fun f =>
      let d := s.desc p e f
      if dst then d.dstCt != 0 && ((d.dstLine == n && d.dstPos.testBit i) || (d.bridge && d.dst2Line == n && d.dst2Pos.testBit i))
      else d.srcCt != 0 && s.srcLineOf p d == n && d.srcPos.testBit i) with
    | some f =>
      let d := s.desc p e f
      let pos := if !dst then d.srcPos else if d.dstLine = n then d.dstPos else d.dst2Pos
      BitVec.ofNat 8 (0x80 + bitsOf pos 8 3)
    | none => 0xC0)

/-- The tributary slots of an OTU2 line whose accepted MSI differs from the active epoch, by bit (R163). -/
def State.msiWrong (s : State) (p n : Nat) : Nat :=
  match (s.ohp n).msiAcc with
  | none => 0
  | some m =>
    let x := s.msiOf p (s.rxEpoch p n) n false
    (List.range 8).foldl (fun v i => if m.getD i 0 = x.getD i 0 then v else setBit v i) 0

/-- Defect `b` (dAIS is 1) of flow `f`: its bit of DEF in the flow PM word (Table 7.9). -/
def State.flowDef (s : State) (p f b : Nat) : Bool := (s.bar2Num (flowPmWord p f) 4).testBit (16 + b)

/-- A flow defect takes a value; the group's bit of DPM_FLOW_SUM is set (R228). -/
def State.setFlowDef (s : State) (p f b : Nat) (v : Bool) : State :=
  let w := s.bar2Num (flowPmWord p f) 4
  let s := s.putBar2Num (flowPmWord p f) 4 (if v then setBit w (16 + b) else clearBit w (16 + b))
  let g := f / 1024
  if g < 32 then s.orBits (Fld.DPM_FLOW_SUM0_GRP p) (2 ^ g) else s.orBits (Fld.DPM_FLOW_SUM1_GRP p) (2 ^ (g - 32))

/-- The flow terminates its path at its sink: a structured end, or a packet end in a container (R157, R160). -/
def Desc.terminates (d : Desc) : Bool := (d.struct && d.srcCt == 3) || decide (0x82 ≤ d.srcCt)

/-- No copy of a merge group was taken for the frame: SEL reads 0b11 (R250). -/
def State.noCopy (s : State) (p : Nat) (d : Desc) : Bool :=
  d.srcPg && decide (d.srcLine < 0x100) && (s.rget (mgAddr p d.srcLine) MG.sel == 3 || s.rget (mgAddr p d.srcLine) MG.anchored == 0)

/-- Flow SSF (R207). -/
def State.flowSsf (s : State) (p f : Nat) : Bool :=
  let d := s.desc p (s.active p) f
  let n := s.srcLineOf p d
  d.valid && d.srcCt != 0 &&
    (s.lineSsf n || s.noCopy p d || [1, 2, 3, 4, 5, 11, 12, 14].any (fun b => s.flowDef p f b)
      || (d.terminates && (s.flowDef p f 6 || s.flowDef p f 7
            || (s.flowDef p f 8 && (s.bar2Num (flowPmWord p f) 4).testBit 6)))
      || (s.format n == 0x0B && s.unmasked n 15 && decide (s.msiWrong p n &&& (d.srcPos % 256) ≠ 0)))

/-- A flow PM word as it reads: with SSF at bit 16. -/
def State.flowWord (s : State) (p f : Nat) : Nat :=
  let w := s.bar2Num (flowPmWord p f) 4
  putBits w 16 1 (b2n (s.flowSsf p f))

/-- The slots of line `n` for which SLOT_RDI is sent: the source masks of flows with SSF (R106, Table 7.3). -/
def State.slotRdiOut (s : State) (p n : Nat) : Nat :=
  let e := s.rxEpoch p n
  (s.flowsOf p e).foldl (fun m f =>
    let d := s.desc p e f
    if d.srcCt ≠ 0 ∧ s.srcLineOf p d = n ∧ s.flowSsf p f then m ||| s.srcPosOf p d % 2 ^ 24 else m) 0

/-- Every slot of line `n` that the epoch of its transmit side assigns to a group (R105, R281). -/
def State.slotUsedOut (s : State) (p n : Nat) : Nat :=
  let e := s.txEpoch p n
  (s.flowsOf p e).foldl (fun m f =>
    let d := s.desc p e f
    let m := if d.dstCt ≠ 0 ∧ d.dstLine = n then m ||| d.dstPos % 2 ^ 24 else m
    if d.dstCt ≠ 0 ∧ d.bridge ∧ d.dst2Line = n then m ||| d.dst2Pos % 2 ^ 24 else m) 0

end Sys2Proof.Machine
end

