-- ==== Sys2Proof/Machine/Flow.lean ====
section
/-! DEFINITION. What flows carry (chapter 6): client packets and their queues (R170, R171, R178 to R182), GFP-F (R172,
R173), and the destinations of flows with the tags of their units (R155, R192, R193). -/

namespace Sys2Proof.Machine

/-! ## Destinations -/

/-- Line and position of destination `k` of a descriptor: 0 the destination, 1 that of a bridge (R155). -/
def Desc.dest (d : Desc) (k : Nat) : Nat × Nat := if k = 0 then (d.dstLine, d.dstPos) else (d.dst2Line, d.dst2Pos)

/-- The destinations that a descriptor has. -/
def Desc.dests (d : Desc) : List Nat := if d.dstCt = 0 then [] else if d.bridge then [0, 1] else [0]

/-- A destination of a flow: flow, number of its source (twice the epoch, and 1 more for that of a bridge), descriptor, line and
position. -/
structure Dest where
  flow : Nat
  k : Nat
  d : Desc
  line : Nat
  pos : Nat
  deriving DecidableEq, Repr

/-- The destinations of flow `f` by its descriptor in epoch `e`. -/
def State.destsIn (s : State) (p e f : Nat) : List Dest :=
  let d := s.desc p e f
  if d.valid then d.dests.map (fun k => ⟨f, 2 * e + k, d, (d.dest k).1, (d.dest k).2⟩) else []

/-- The destinations that epoch `e` has on line `n`. -/
def State.lineDestsIn (s : State) (p e n : Nat) : List Dest :=
  (s.flowsOf p e).flatMap (fun f => (s.destsIn p e f).filter (fun x => x.line == n))

/-- The destinations that lie on line `n` as its transmit side sees them. -/
def State.lineDests (s : State) (p n : Nat) : List Dest := s.lineDestsIn p (s.txEpoch p n) n

/-- The destinations of flow `f`, each as the transmit side of its line sees it: during a commit those of the old epoch on lines
that have not switched, and those of the new one on lines that have (R192). -/
def State.flowDests (s : State) (p f : Nat) : List Dest :=
  (if s.committing p then [1 - s.active p, s.active p] else [s.active p]).flatMap (fun e =>
    (s.destsIn p e f).filter (fun x => s.txEpoch p x.line == e))

/-- A destination on line `n` takes the units of flow `f` that carry a tag: the tags are equal, or the flow is unchanged (R193). -/
def State.takesAt (s : State) (p f tag n : Nat) : Bool := tag == s.txEpoch p n || !(s.desc p (s.active p) f).chg

/-- The tag of the units that the source of flow `f` delivers now: the epoch of the receive side of its line, for a protected
source that of the member from which the selector takes them (R193). -/
def State.unitTag (s : State) (p f : Nat) : Nat := s.rxEpoch p (s.srcLineOf p (s.desc p (s.active p) f))

/-- Source `k` of a flow. -/
def State.gen (s : State) (p f k : Nat) : Gen := (s.flow p f).gens.getD k Gen.reset

/-- STAGE, TX_PTR and TX_ST of a flow's state record follow a source (Table 6.8). -/
def State.showGen (s : State) (p f : Nat) (g : Gen) : State :=
  ((s.fset p f FS.txSt (if g.wait then 2 else g.st)).fset p f FS.txPtr g.val).fset p f FS.stage g.stage.length

/-- The state with source `k` of a flow changed. -/
def State.modGen (s : State) (p f k : Nat) (h : Gen → Gen) : State :=
  let s := s.modFlow p f (fun c => { c with gens := modD Gen.reset c.gens k h })
  if k % 2 = 0 then s.showGen p f (s.gen p f k) else s

/-! ## Client packet queues -/

/-- Bytes that a packet takes in its queue: the length header and the bytes rounded up to a multiple of 8 (R178). -/
def packetRoom (len : Nat) : Nat := 8 + (len + 7) / 8 * 8

/-- A packet arrives at queue `q` with its epoch tag; `good` says that all its checks pass (R179, R180). A write that
would reach the read pointer is an overflow, one that alone exceeds the queue is oversize. -/
def State.queueIn (s : State) (p q tag : Nat) (bytes : List Byte) (good : Bool) : State :=
  if !s.queueActive p q then s
  else
    let size := bitsOf (s.qget p q 0) 13 10 * 2048
    let room := packetRoom bytes.length
    let cm := s.qget p q 0x0C
    if size < room then s.qcount p q 0x30 1
    else if size < (cm + 2 ^ 32 - s.qget p q 0x10) % 2 ^ 32 + room then s.qcount p q 0x28 1
    else if !good then s.qcount p q 0x20 1
    else
      let s := ((s.qset p q 0x08 (cm + room)).qset p q 0x0C (cm + room)).qcount p q 0x18 1
      s.modFlow p q (fun c => { c with queue := c.queue ++ [⟨tag, bytes⟩] })

/-- The frame, FCS included, carries a good FCS. -/
def fcsGood (bs : List Byte) : Bool := decide (4 ≤ bs.length) && fcsOf (bs.take (bs.length - 4)) == bs.drop (bs.length - 4)

/-- The outer tag of a frame is of the given TPID; its VID. -/
def vidOf (tpid : Nat) (bs : List Byte) : Nat :=
  if byteAt bs 12 * 256 + byteAt bs 13 = tpid then (byteAt bs 14 % 16) * 256 + byteAt bs 15 else 0

/-- The flow of an Ethernet line that takes a frame in plane `p`, with its descriptor (R170). -/
def State.packetFlow (s : State) (p n : Nat) (bs : List Byte) : Option (Nat × Desc) :=
  let e := s.rxEpoch p n
  ((s.flowsOf p e).map (fun f => (f, s.desc p e f))).find? (fun x =>
    !x.2.srcPg && x.2.srcLine == n &&
      (x.2.srcCt == 0x40 || (x.2.srcCt == 0x41 && x.2.arg == vidOf x.2.tpid bs && x.2.arg != 4095)))

/-- STRIP removes the outer tag and recomputes the FCS (R170). -/
def stripTag (d : Desc) (bs : List Byte) : List Byte :=
  if d.strip && byteAt bs 12 * 256 + byteAt bs 13 == d.tpid then
    let b := bs.take 12 ++ (bs.take (bs.length - 4)).drop 16
    b ++ fcsOf b
  else bs

/-- PUSH inserts an outer tag and recomputes the FCS (R171). -/
def pushTag (d : Desc) (bs : List Byte) : List Byte :=
  if d.push then
    let b := bs.take 12 ++ beBytes 2 d.tpid ++ beBytes 2 d.pushVid ++ (bs.take (bs.length - 4)).drop 12
    b ++ fcsOf b
  else bs

/-- A client frame of an Ethernet line, from its destination address to its FCS; `cut` where its source was lost while
it arrived (R170, R179). An ESMC PDU that is removed never reaches the queue (R128); with ESMC_EN = 0 none is removed
(DESIGN CHOICE, log entry 128). -/
def State.clientPacketRx (s : State) (n : Nat) (bs : List Byte) (cut : Bool) : State :=
  s.onLine n fun s => s.when (isEth (s.format n)) fun s =>
    if s.flag (Fld.LCH_OHP_RX_CFG_ESMC_EN n) && s.flag (Fld.LCH_OHP_RX_CFG_ESMC_REMOVE n) && isEsmc bs && fcsGood bs then s
    else
      let s := if (s.runPlanes (halfOf n)).any (fun p => (s.packetFlow p n bs).isNone
          && (s.flowsOf p (s.rxEpoch p n)).any (fun f => (s.desc p (s.rxEpoch p n) f).srcCt == 0x41
            && (s.desc p (s.rxEpoch p n) f).srcLine == n))
        then { s with lines := modD LineState.reset s.lines n (fun l => { l with unkVid := l.unkVid + 1 }) } else s
      s.onLinePlanes n fun s p =>
        match s.packetFlow p n bs with
        | none => s
        | some (f, d) =>
          let good := !cut && fcsGood bs && decide (64 ≤ bs.length) && decide (bs.length ≤ 16000)
          s.queueIn p f (s.rxEpoch p n) (if good then stripTag d bs else bs) good

/-! ## Sending packets -/

/-- CRC-16 of the GFP headers, x^16 + x^12 + x^5 + 1 (G.7041). -/
def hecOf (bs : List Byte) : Nat := crcBytes 16 0x1021 false 0 bs

/-- One byte through the self-synchronous x^43 + 1 scrambler (R172). -/
def scr43 (st : Nat) (b : Byte) : Byte × Nat :=
  (List.range 8).foldl (fun (x : Byte × Nat) i =>
    let o := (b.toNat.testBit (7 - i)) != (x.2.testBit 42)
    (BitVec.ofNat 8 (x.1.toNat * 2 + b2n o), (x.2 * 2 + b2n o) % 2 ^ 43)) (0, st)

/-- A byte string through the scrambler. -/
def scrBytes : Nat → List Byte → List Byte × Nat
  | st, [] => ([], st)
  | st, b :: t =>
    let (o, st) := scr43 st b
    let (r, st) := scrBytes st t
    (o :: r, st)

/-- A GFP-F frame around a payload (R172): the core header, then the payload area through the scrambler. -/
def gfpFrame (st pti : Nat) (pfcs : Bool) (upi : Nat) (client : List Byte) : List Byte × Nat :=
  let ty := beBytes 2 (pti * 2 ^ 13 + b2n pfcs * 2 ^ 12 + upi)
  let fcs := if pfcs then beBytes 4 (crcResult 32 false 0xFFFFFFFF (crcBytes 32 0x04C11DB7 false 0xFFFFFFFF client)) else []
  let area := ty ++ beBytes 2 (hecOf ty) ++ client ++ fcs
  let pli := beBytes 2 area.length
  let core := beBytes 4 ((beNat (pli ++ beBytes 2 (hecOf pli))) ^^^ 0xB6AB31E0)
  let (scr, st) := scrBytes st area
  (core ++ scr, st)

/-- The packets of the old tag that a changed flow's destination meets after its switch are discarded (R196). -/
def staleDrop (tag : Nat) : List Packet → List Packet × Nat
  | [] => ([], 0)
  | x :: t => if x.tag = tag then (x :: t, 0) else let (r, k) := staleDrop tag t; (r, k + packetRoom x.bytes.length)

/-- The destination at which flow `f` sends packets next: of a changed flow the one of the old epoch while the queue's first packet
has its tag, else that of the new epoch (R193, R196). -/
def State.packetDest (s : State) (p f : Nat) : Option Dest :=
  let xs := s.flowDests p f
  if !(s.desc p (s.active p) f).chg then xs.head?
  else match xs.find? (fun x => (s.flow p f).queue.head?.any (fun q => q.tag == x.k / 2)) with
    | some x => some x
    | none => xs.find? (fun x => x.k / 2 == s.active p)

/-- The queue as destination `x` finds it: from its switch on it discards the packets of the old tag of a changed flow; with the
room that they took (R196). -/
def State.queueAt (s : State) (p : Nat) (x : Dest) : List Packet × Nat :=
  let q := (s.flow p x.flow).queue
  if (s.desc p (s.active p) x.flow).chg then staleDrop (x.k / 2) q else (q, 0)

/-- Destination `x` has a packet to send: none of a flow with SSF, none of the new tag before its switch (R196, R208). -/
def State.canSend (s : State) (p : Nat) (x : Dest) : Bool :=
  !s.flowSsf p x.flow && !(s.queueAt p x).1.isEmpty && s.packetDest p x.flow == some x

/-- The ordered sets that flows and defects of a port call for (R210): 0 data, 1 local fault, 2 remote fault, 3 idle in place of
data; 1000BASE-X takes no action. -/
def State.portSets (s : State) (p n : Nat) : Nat :=
  let xs := s.lineDests p n
  if s.format n = 1 then 0
  else if !xs.isEmpty && xs.all (fun x => s.flowSsf p x.flow) then 1
  else if s.flag (Fld.LCH_DPM_CFG_ETH_RF_EN n) && (s.lineDef n 0 || s.lineDef n 1 || s.lineDef n 19 || s.lineDef n 17) then 2
  else if s.unmasked n 18 then 3
  else 0

/-- The flow that an Ethernet port sends from next: round-robin in increasing flow order among the flows that have a packet to
send (R171). -/
def State.portNext (s : State) (p n last : Nat) : Option Nat :=
  let l := ((s.lineDests p n).filter (fun x => x.d.dstCt == 0x40 && s.canSend p x)).map (fun x => x.flow)
  match l.find? (fun f => decide (last < f)) with
  | some f => some f
  | none => l.head?

/-- Destination `x` takes the next committed packet of its flow's queue and sends it whole: at its port, or as a GFP frame for its
container (R171, R172, R182, R194, R196). -/
def State.sendPacket (s : State) (p : Nat) (x : Dest) : State :=
  let f := x.flow
  let s := if s.flushing p f then s.flushNow p f else s
  let (q, room) := s.queueAt p x
  let s := (s.qset p f 0x10 (s.qget p f 0x10 + room)).modFlow p f (fun c => { c with queue := q })
  match q with
  | [] => s
  | y :: t =>
    let s := s.qset p f 0x10 (s.qget p f 0x10 + packetRoom y.bytes.length)
    let s := (s.modFlow p f (fun c => { c with queue := t })).modGen p f x.k (fun g => { g with wait := false, st := 1 })
    if x.d.dstCt = 0x40 then
      let bs := pushTag x.d y.bytes
      if 16000 < bs.length then s.qcount p f 0x30 1
      else ((s.modFlow p f (fun c => { c with sent := bs })).modLine x.line (fun l => { l with portLast := f })).portSend x.line bs
    else
      s.modFlow p f (fun c =>
        let (bs, st) := gfpFrame c.scr 0 x.d.pfcs 1 y.bytes
        { c with sent := bs, scr := st, gfpOut := c.gfpOut ++ bs })

/-- CLIENT_PACKET_TX: flow `f` of plane `p` sends its next packet; at an Ethernet port it must be the flow whose turn it
is and the port must send data, into a container the last frame must have gone (R175, R210). -/
def State.clientPacketTx (s : State) (p f : Nat) : State :=
  let last := fun n => (s.line n).portLast
  s.onPlanes p fun s p =>
    match s.packetDest p f with
    | none => s
    | some x =>
      s.when (x.d.isPacket && s.lineOn x.line && s.lineActive x.line && s.canSend p x
        && (if x.d.dstCt = 0x40 then s.portNext p x.line (last x.line) == some f && s.portSets p x.line == 0
          else (s.flow p f).gfpOut.isEmpty)) fun s => s.sendPacket p x

/-- A removed flow's queue is emptied, without counting, once both its ends have switched (R196). -/
def State.removedQueueEmpty (s : State) (p q : Nat) : State :=
  s.onPlanes p fun s p =>
    let d := s.desc p (1 - s.active p) q
    let gone := !s.committing p || ((s.plane p).rxDone.testBit (s.srcLineOf p d) && (s.plane p).txDone.testBit d.dstLine)
    s.when ((s.plane p).removed.contains q && gone) fun s =>
      let s := s.qset p q 0x10 (s.qget p q 0x0C)
      (s.modFlow p q (fun c => { c with queue := [] })).modPlane p (fun pl => { pl with removed := pl.removed.filter (· != q) })

/-! ## GFP-F sink -/

/-- A GFP-F sink sees a core header: what it makes of the delineation (R173, DELTA = 1). -/
def gfpNext (st : Nat) (h : HecResult) : Option Nat :=
  match st, h with
  | 0, .good => some 1
  | 0, _ => none
  | 1, .good => some 2
  | 1, _ => some 0
  | _, .bad => some 0
  | _, _ => none

/-- A GFP frame at the sink of packet flow `f` (R173): in SYNC a client data frame that passes its checks goes to the
queue, client signal fail frames go to defect monitoring, all else is discarded and counted. -/
def State.gfpFrameRx (s : State) (p f : Nat) (g : GfpFrame) : State :=
  s.onPlanes p fun s p =>
    let (d, n) := s.rxSide p f
    s.when (d.isPacket && d.srcCt != 0x40 && d.srcCt != 0x41 && s.inFrame n) fun s =>
      let st := (s.flow p f).gfp
      let s := s.modFlow p f (fun c => { c with gfpDue := gfpNext st g.cHec })
      if st ≠ 2 ∨ g.cHec = .bad then s
      else if g.pti = 0 ∧ g.upi = 1 ∧ g.exi = 0 then
        let good := !g.cut && g.tHec != .bad && (!g.pfi || g.pfcsGood) && fcsGood g.client && decide (g.client.length ≤ 16000)
        let s := s.queueIn p f (s.rxEpoch p n) g.client good
        if good then s.modFlow p f (fun c => { c with csf := false }) else s
      else if g.pti = 4 ∧ (g.upi = 1 ∨ g.upi = 2) ∧ g.tHec ≠ .bad then s.modFlow p f (fun c => { c with csf := true })
      else s.modFlow p f (fun c => { c with gfpDisc := c.gfpDisc + 1 })

/-- The delineation takes the state that the last core header calls for (R173). -/
def State.gfpDelineationChange (s : State) (p f : Nat) : State :=
  s.onPlanes p fun s p =>
    match (s.flow p f).gfpDue with
    | none => s
    | some st => (s.fset p f FS.rxSt st).modFlow p f (fun c => { c with gfpDue := none, gfp := st })

/-- The GFP-F streams whose source is line `n` meet a repeated frame: its bytes are discarded and delineation returns to
HUNT (R167). -/
def State.streamsHunt (s : State) (n : Nat) : State :=
  s.onLinePlanes n fun s p =>
    ((s.flowsOf p (s.rxEpoch p n)).filter (fun f =>
      (s.desc p (s.rxEpoch p n) f).srcCt == 0x30 && s.srcLineOf p (s.desc p (s.rxEpoch p n) f) == n)).foldl
      (fun s f => (s.fset p f FS.rxSt 0).modFlow p f (fun c => { c with gfpDue := none, gfp := 0 })) s

/-! ## Meanings -/

/-- CLIENT_PACKET_RX (R179): the frame from its destination address to its FCS. -/
def execClientPacketRx (n : LineNo) (bytes : List Byte) (cut : Bool) (s : State) : Host.Outcome State Fault Refusal :=
  done (s.clientPacketRx n.val bytes cut)

/-- CLIENT_PACKET_TX (R182). -/
def execClientPacketTx (p : PlaneNo) (f : Fin 4096) (s : State) : Host.Outcome State Fault Refusal :=
  done (s.clientPacketTx p.val f.val)

/-- REMOVED_QUEUE_EMPTY (R196). -/
def execRemovedQueueEmpty (p : PlaneNo) (q : Fin 4096) (s : State) : Host.Outcome State Fault Refusal :=
  done (s.removedQueueEmpty p.val q.val)

/-- GFP_FRAME_RX (R173). -/
def execGfpFrameRx (p : PlaneNo) (f : Fin 4096) (g : GfpFrame) (s : State) : Host.Outcome State Fault Refusal :=
  done (s.gfpFrameRx p.val f.val g)

/-- GFP_DELINEATION_CHANGE (R173). -/
def execGfpDelineationChange (p : PlaneNo) (f : Fin 4096) (s : State) : Host.Outcome State Fault Refusal :=
  done (s.gfpDelineationChange p.val f.val)

end Sys2Proof.Machine
end

