-- ==== Sys2Proof/Machine/Tmg.lean ====
section
/-! DEFINITION. Candidates, quality levels, selection and the DPLLs (R295 to R312): what a candidate's signal, quality and
frequency give, what each DPLL selects from them, and the quality that a line transmits (R314). -/

namespace Sys2Proof.Machine

/-- Candidate `c` beside its registers. -/
def State.cand (s : State) (c : Nat) : CandUnit := s.tmg.cands.getD c CandUnit.reset
def State.modCand (s : State) (c : Nat) (f : CandUnit → CandUnit) : State :=
  { s with tmg := { s.tmg with cands := modD CandUnit.reset s.tmg.cands c f } }

/-- DPLL `d` beside its registers. -/
def State.dpll (s : State) (d : Nat) : DpllUnit := s.tmg.dplls.getD d DpllUnit.reset
def State.modDpll (s : State) (d : Nat) (f : DpllUnit → DpllUnit) : State :=
  { s with tmg := { s.tmg with dplls := modD DpllUnit.reset s.tmg.dplls d f } }

/-! ## Quality levels -/

/-- QL_OPT, 3 as 0 (TMG_GLB_CFG). -/
def State.qlOpt (s : State) : Nat := let v := s.get Fld.TMG_GLB_CFG_QL_OPT; if v = 3 then 0 else v

/-- The codes of an option in rank order (Table 10.2). -/
def qlCodes (opt : Nat) : List Nat :=
  match opt with
  | 0 => [0x2, 0x4, 0x8, 0xB]
  | 1 => [0x1, 0x0, 0x7, 0x4, 0xD, 0xA, 0xC, 0xE]
  | _ => [0x0, 0xB]

/-- Rank of a code, 1 the best; none for do not use and invalid (R297). -/
def qlRank (opt code : Nat) : Option Nat := ((qlCodes opt).findIdx? (fun c => c == code)).map (fun i => i + 1)

/-- The quality of a candidate as its source gives it: code, and whether it is unknown (R298). -/
def State.candQl (s : State) (c : Nat) : Nat × Bool :=
  let static := (s.get (Fld.TMG_CAND_CFG_QL_STATIC c), false)
  match s.get (Fld.TMG_CAND_CFG_QL_SRC c) with
  | 1 =>
    if c < 8 then (0, true)
    else
      let n := s.get (Fld.TMG_CAND_CFG_LINE c)
      let fmt := s.format n
      if isOtu fmt then static
      else if isStm fmt then
        match (s.ohp n).s1Acc with
        | some q => (q, false)
        | none => (0, true)
      else if isMxf fmt then
        match (s.line n).mxf.qlAcc with
        | some (o, q) => (q, o != s.qlOpt)
        | none => (0, true)
      else (0, true)
  | 2 => (s.get (Fld.TMG_CAND_QLFW_QL_FW c), false)
  | _ => static

/-! ## Candidates -/

/-- A line candidate's recovered clock runs: its line is powered, does not doze, and has SD and CDR lock (R296; log entry 67). -/
def State.candClock (s : State) (c : Nat) : Bool :=
  let n := s.get (Fld.TMG_CAND_CFG_LINE c)
  decide (n < 96) && s.lineOn n && s.flag (Fld.LCH_LINE_STATUS_SD n) && s.flag (Fld.LCH_LINE_STATUS_CDR_LOCK n) && !s.lineDozes n

/-- Signal fail of a candidate (R296). -/
def State.candSf (s : State) (c : Nat) : Bool :=
  if c < 8 then !s.flag (Fld.TMG_CAND_STATUS_ACT c) else !s.candClock c || s.lineSsf (s.get (Fld.TMG_CAND_CFG_LINE c))

/-- Candidate `c` is selected by some DPLL (R302). -/
def State.followed (s : State) (c : Nat) : Bool := (List.range 8).any (fun d => s.get (Fld.TMG_DPLL_STATUS_SEL d) == c)

/-- DPLL `d` has candidate `c` selected and waits out its hold-off (R302). -/
def State.holdsFor (s : State) (d c : Nat) : Bool :=
  s.get (Fld.TMG_DPLL_STATUS_SEL d) == c && s.flag (Fld.TMG_CAND_STATUS_HOLDOFF_RUN c)

/-- Effective rank of a candidate: none while it is failed, unknown, invalid or do not use (R297, R298). -/
def State.candRank (s : State) (c : Nat) : Option Nat :=
  if s.flag (Fld.TMG_CAND_STATUS_QL_FAILED c) || (s.cand c).unknown then none
  else qlRank s.qlOpt (s.get (Fld.TMG_CAND_STATUS_QL c))

/-- The rank of a candidate as DPLL `d` sees it: in the hold-off of its own candidate, the one from before the signal failed
(R302, log entry 129). -/
def State.rankFor (s : State) (d c : Nat) : Option Nat := if s.holdsFor d c then (s.cand c).rank else s.candRank c

/-- Selectable under R297 for DPLL `d` in QL-enabled mode: no worse than QL_MIN. -/
def State.qlAdmits (s : State) (d c : Nat) : Bool :=
  match s.rankFor d c, qlRank s.qlOpt (s.get (Fld.TMG_DPLL_QLCFG_QL_MIN d)) with
  | some r, some m => decide (r ≤ m)
  | some _, none => true
  | none, _ => false

/-- Candidate `c` may take part in the selection of DPLL `d`: in its mask, enabled, not locked out (R295, R301, R303). -/
def State.candOpen (s : State) (d c : Nat) : Bool :=
  (s.get (Fld.TMG_DPLL_MASK_CAND_MASK d)).testBit c && s.flag (Fld.TMG_CAND_CFG_EN c) && !s.flag (Fld.TMG_CAND_CFG_LOCKOUT c)

/-- PRIO, 0 as 15. -/
def State.candPrio (s : State) (c : Nat) : Nat := let v := s.get (Fld.TMG_CAND_CFG_PRIO c); if v = 0 then 15 else v

/-- Whether candidate `a` is better than `b` for DPLL `d`: rank, PRIO, number (R303). -/
def State.candBetter (s : State) (d : Nat) (ql : Bool) (a b : Nat) : Bool :=
  let ra := if ql then (s.rankFor d a).getD 99 else 0
  let rb := if ql then (s.rankFor d b).getD 99 else 0
  if ra ≠ rb then decide (ra < rb)
  else if s.candPrio a ≠ s.candPrio b then decide (s.candPrio a < s.candPrio b) else decide (a < b)

/-- What DPLL `d` selects (R303). The candidate whose hold-off it waits out counts as active (R302). -/
def State.selChoice (s : State) (d : Nat) : Option Nat :=
  let ql := s.flag (Fld.TMG_DPLL_CFG_QL_EN d)
  let target := s.get (Fld.TMG_DPLL_CFG_CMD_CAND d)
  let cmd := s.get (Fld.TMG_DPLL_CFG_CMD d)
  let fit := fun c => s.candOpen d c && s.get (Fld.TMG_CAND_STATUS_STATE c) == 2 && (!ql || s.qlAdmits d c)
  let best := ((List.range 24).filter fit).foldl (fun v c => match v with
    | none => some c
    | some b => if s.candBetter d ql c b then some c else some b) none
  if cmd = 2 then
    if decide (target < 24) && s.candOpen d target && (s.flag (Fld.TMG_CAND_STATUS_ACT target) || s.holdsFor d target) then some target else none
  else if cmd = 1 ∧ target < 24 ∧ fit target then
    match best with
    | some b => if ql && decide ((s.rankFor d b).getD 99 < (s.rankFor d target).getD 99) then some b else some target
    | none => some target
  else best

/-! ## DPLL states -/

/-- STATE of DPLL `d` takes a value; a change sets STATE_EV, entry into FREE_RUN clears HO_VALID (R309). -/
def State.setDpllState (s : State) (d v : Nat) : State :=
  if s.get (Fld.TMG_DPLL_STATUS_STATE d) = v then s
  else
    let s := (s.set (Fld.TMG_DPLL_STATUS_STATE d) v).raise (Fld.TMG_DPLL_STATUS_STATE_EV d)
    let s := s.modDpll d (fun x => { x with lockedMs := 0 })
    if v = 0 then s.setB (Fld.TMG_DPLL_STATUS_HO_VALID d) false else s

/-- The output QL of DPLL `d` (Table 10.4). -/
def State.dpllQlOf (s : State) (d : Nat) : Nat :=
  let sel := s.get (Fld.TMG_DPLL_STATUS_SEL d)
  match s.get (Fld.TMG_DPLL_STATUS_STATE d) with
  | 0 => s.get (Fld.TMG_DPLL_QLCFG_FR_QL d)
  | 1 | 2 => if sel < 24 then s.get (Fld.TMG_CAND_STATUS_QL sel) else s.get (Fld.TMG_DPLL_STATUS_QL d)
  | 4 => s.get (Fld.TMG_DPLL_STATUS_QL d)
  | _ => s.get (Fld.TMG_DPLL_QLCFG_HO_QL d)

/-- The output QL field follows. -/
def State.dpllQl (s : State) (d : Nat) : State := s.set (Fld.TMG_DPLL_STATUS_QL d) (s.dpllQlOf d)

/-- The DCO of DPLL `d` takes an offset in ppt; TMG_DPLL_FREQ shows it for DPLL2 to DPLL7 in units of 100 ppt. -/
def State.setDco (s : State) (d : Nat) (v : Int) : State :=
  let s := s.modDpll d (fun x => { x with dco := v })
  if d < 2 then s else s.set (Fld.TMG_DPLL_FREQ_V d) (unsignedOf 32 ((v + 50) / 100))

/-- The loop bandwidth of DPLL `d` in units of 0.1 Hz (R308): by BW; ten times that, at most 100 Hz, in ACQUIRING. -/
def State.loopBandwidth (s : State) (d : Nat) : Nat :=
  let bw := [1, 5, 10, 30, 100, 250, 500, 1000].getD (s.get (Fld.TMG_DPLL_CFG_BW d)) 10
  if s.get (Fld.TMG_DPLL_STATUS_STATE d) = 1 then min 1000 (10 * bw) else bw

/-- HO_AVG: 1 to 60 s, others as 10 (Table 10.8). -/
def State.hoAvg (s : State) (d : Nat) : Nat :=
  let v := s.get (Fld.TMG_DPLL_QLCFG_HO_AVG d)
  if 1 ≤ v ∧ v ≤ 60 then v else 10

/-- HOLDOVER: the DCO is frozen at the mean of the HO_AVG seconds that end 1 s before entry, within 2 ppb (R309); the slot's
direct-current blocking freezes. Without that history the frequency is a free value. -/
def State.enterHoldover (s : State) (d : Nat) : State :=
  if s.get (Fld.TMG_DPLL_STATUS_STATE d) = 3 then s
  else
    let l := ((s.dpll d).hist.drop 1000).take (1000 * s.hoAvg d)
    let (v, s) := s.free
    let mean : Int := if l.isEmpty then signedOf 30 v else l.foldl (· + ·) 0 / (l.length : Int) + ((v % 4001 : Nat) : Int) - 2000
    ((s.setDpllState d 3).setDco d mean).modDpll d (fun x => { x with frozen := true })

/-- No candidate is chosen: holdover where HO_VALID = 1, else free-run (R303). -/
def State.loseRef (s : State) (d : Nat) : State :=
  let s := s.set (Fld.TMG_DPLL_STATUS_SEL d) 31
  if s.flag (Fld.TMG_DPLL_STATUS_HO_VALID d) then s.enterHoldover d
  else if s.get (Fld.TMG_DPLL_STATUS_STATE d) = 0 then s
  else (s.setDpllState d 0).setDco d 0

/-- A reference switch starts: STATE = SWITCHING, the DCO holds, SEL names the target (R305). -/
def State.startSwitch (s : State) (d c : Nat) : State := (s.setDpllState d 4).set (Fld.TMG_DPLL_STATUS_SEL d) c

/-- MODE 3 opens the loop: FREQ_WORD or PPT_ADJ takes the loop's frequency (R310, R311, Table 10.5). -/
def State.openLoop (s : State) (d : Nat) : State :=
  let v := (s.dpll d).dco
  let s := if d < 2 then s.set (Fld.TMG_DPLL_PPT_RD_V d) (unsignedOf 32 v) else s.setDco d ((v + 50) / 100 * 100)
  (s.modDpll d (fun x => { x with swHeld := false })).setDpllState d 5

/-- Selection of DPLL `d` is evaluated (R303, R304, R307, R310). During a switch it waits (R306); while selection stays with a
candidate in hold-off, the frequency is held (R302). -/
def State.dpllEval (s : State) (d : Nat) : State :=
  let st := s.get (Fld.TMG_DPLL_STATUS_STATE d)
  let sel := s.get (Fld.TMG_DPLL_STATUS_SEL d)
  let s := if st = 4 then s
    else match s.get (Fld.TMG_DPLL_CFG_MODE d) with
    | 1 => (s.set (Fld.TMG_DPLL_STATUS_SEL d) 31).enterHoldover d
    | 2 => ((s.set (Fld.TMG_DPLL_STATUS_SEL d) 31).setDpllState d 0).setDco d 0
    | 3 => (if st = 5 || (s.dpll d).swHeld then s else s.openLoop d).set (Fld.TMG_DPLL_STATUS_SEL d) ((s.selChoice d).getD 31)
    | _ =>
      match s.selChoice d with
      | none => s.loseRef d
      | some c =>
        if s.holdsFor d c then s.enterHoldover d
        else if sel = c ∧ (st = 1 ∨ st = 2) then s
        else s.startSwitch d c
  s.dpllQl d

/-- Selection of every DPLL (R304). -/
def State.selectAll (s : State) : State := (List.range 8).foldl (fun s d => s.dpllEval d) s

/-! ## Following a candidate -/

/-- NOM_HZ lies in the range of Table 10.1. -/
def State.nomOk (s : State) (c : Nat) : Bool :=
  decide (1000 ≤ s.get (Fld.TMG_CAND_FREQ_NOM_HZ c)) && decide (s.get (Fld.TMG_CAND_FREQ_NOM_HZ c) ≤ 800000000)

/-- The measurement of a candidate is complete (R299): ten updates of 100 ms. -/
def State.measured (s : State) (c : Nat) : Bool := decide (10 ≤ (s.cand c).updates)

/-- HOLDOFF in 100 ms: 1 and 2 as 3, above 18 as 18 (R302). -/
def State.candHoldoff (s : State) (c : Nat) : Nat :=
  let v := s.get (Fld.TMG_CAND_CFG_HOLDOFF c)
  if v = 0 then 0 else if v < 3 then 3 else min v 18

/-- WTR_S, larger values as 720. -/
def State.candWtr (s : State) (c : Nat) : Nat := min 720 (s.get (Fld.TMG_CAND_LIM2_WTR_S c))

/-- Signal, effective quality and state of candidate `c` follow what they depend on (R296 to R302). The quality that a
failed candidate shows is a free value. -/
def State.candFollow (s : State) (c : Nat) : State :=
  let en := s.flag (Fld.TMG_CAND_CFG_EN c)
  let s := if c < 8 then
      let bad := en && !s.nomOk c
      (s.setB (Fld.TMG_CAND_STATUS_NOM_BAD c) bad).setB (Fld.TMG_CAND_STATUS_ACT c) ((s.cand c).pin && s.nomOk c)
    else s
  let sf := s.candSf c
  let was := s.flag (Fld.TMG_CAND_STATUS_SF c)
  let s := if c < 8 then s else s.setB (Fld.TMG_CAND_STATUS_ACT c) (s.candClock c)
  let s := s.setB (Fld.TMG_CAND_STATUS_SF c) sf
  let hold := s.flag (Fld.TMG_CAND_STATUS_HOLDOFF_RUN c)
  let start := sf && !was && !hold && s.candHoldoff c != 0 && s.followed c
  let hold := (hold || start) && sf
  let s := s.setB (Fld.TMG_CAND_STATUS_HOLDOFF_RUN c) hold
  let s := if !en || (!s.flag (Fld.TMG_CAND_STATUS_ACT c) && !hold) then (s.modCand c (fun x => { x with updates := 0 })).set (Fld.TMG_CAND_FOFS_V c) 0 else s
  let fail := sf || (s.get (Fld.TMG_CAND_CFG_QL_SRC c) == 2 && s.flag (Fld.TMG_CAND_STATUS_QL_TMO c))
  let (q, unk) := s.candQl c
  let s := s.modCand c (fun x => { x with unknown := unk })
  let s := if fail then
      if s.flag (Fld.TMG_CAND_STATUS_QL_FAILED c) then s
      else
        let (v, s) := s.free
        (s.raise (Fld.TMG_CAND_STATUS_QL_FAILED c)).set (Fld.TMG_CAND_STATUS_QL c) v
    else (s.setB (Fld.TMG_CAND_STATUS_QL_FAILED c) false).set (Fld.TMG_CAND_STATUS_QL c) q
  let s := if fail then s else s.modCand c (fun x => { x with rank := if unk then none else qlRank s.qlOpt q })
  let st := s.get (Fld.TMG_CAND_STATUS_STATE c)
  -- hold-off keeps a qualified candidate qualified; one that waits to restore goes back (R301, R302)
  let bad := (sf && !(hold && st == 2)) || s.flag (Fld.TMG_CAND_STATUS_HARD_FL c) || !s.measured c || !en
  if bad then
    if st = 0 then s
    else ((s.set (Fld.TMG_CAND_STATUS_STATE c) 0).set (Fld.TMG_CAND_STATUS_WTR_LEFT c) 0).raise (Fld.TMG_CAND_STATUS_DISQ_EV c)
  else if st = 0 then
    if s.candWtr c = 0 then (s.set (Fld.TMG_CAND_STATUS_STATE c) 2).raise (Fld.TMG_CAND_STATUS_QUAL_EV c)
    else (s.set (Fld.TMG_CAND_STATUS_STATE c) 1).set (Fld.TMG_CAND_STATUS_WTR_LEFT c) (s.candWtr c)
  else s

/-- Every enabled candidate and every selection follow a change of the configuration. -/
def State.timingFollow (s : State) : State :=
  ((List.range 24).foldl (fun s c =>
    if s.flag (Fld.TMG_CAND_CFG_EN c) || s.get (Fld.TMG_CAND_STATUS_STATE c) != 0 || (s.cand c).updates != 0 then s.candFollow c
    else s) s).selectAll

/-- The line candidates that name line `n` follow it; then selection (R296, R304). -/
def State.lineTiming (s : State) (n : Nat) : State :=
  let cs := ((List.range 24).drop 8).filter (fun c => s.get (Fld.TMG_CAND_CFG_LINE c) == n)
  if cs.isEmpty || !s.spineOn then s else (cs.foldl State.candFollow s).selectAll

/-! ## What a line's transmitter is timed from, and the quality it sends -/

/-- A source of a line's transmit clock CK_LTX (R143, R313). -/
inductive LtxSource where
  | dpll (d : Nat)
  | ownClock
  | oscIn
  | inputClock (line : Nat)
  deriving DecidableEq, Repr

/-- The source of the transmit clock of line `n`: the input's recovered clock while a Through pair times it, else what SRC names
(R143, R313). -/
def State.ltxSource (s : State) (n : Nat) : LtxSource :=
  let src := s.get (Fld.TMG_LINE_TXT_SRC n)
  if s.flag (Fld.LCH_OHP_THRU_STATUS_TX_TIMING n) then .inputClock (s.get (Fld.LCH_OHP_THRU_CFG_SRC_LINE n))
  else if src < 8 then .dpll src
  else if src = 8 then .ownClock
  else .oscIn

/-- The QL that line `n` transmits (R314). -/
def State.txQl (s : State) (n : Nat) : Nat :=
  let src := s.get (Fld.TMG_LINE_TXT_SRC n)
  if src < 8 then
    let c := s.get (Fld.TMG_DPLL_STATUS_SEL src)
    if 8 ≤ c ∧ c < 24 ∧ s.get (Fld.TMG_CAND_CFG_LINE c) = n then 0xF else s.dpllQlOf src
  else if src = 8 then 0xF
  else s.get (Fld.TMG_DPLL_QLCFG_FR_QL 0)

end Sys2Proof.Machine
end

