-- ==== Sys2Proof/Machine/Fau.lean ====
section
/-! DEFINITION. Finding frames (chapter 3): the all-offset hunt of FAU_WORD with its two-word pipeline (R69 to R72),
lock and loss (R73 to R80, R499), the CDR events (R84, R500), the decoder mode and the FEC counters (R86). -/

namespace Sys2Proof.Machine

/-! ## What the registers and the format select -/

/-- IF_CNT as treated (LCH_FAU_HUNT_CFG). -/
def State.ifCnt (s : State) (n : Nat) : Nat :=
  let v := s.get (Fld.LCH_FAU_HUNT_CFG_IF_CNT n)
  if 1 ≤ v ∧ v ≤ 4 then v else 2

/-- OOF_CNT as treated. -/
def State.oofCnt (s : State) (n : Nat) : Nat :=
  let v := s.get (Fld.LCH_FAU_HUNT_CFG_OOF_CNT n)
  if 2 ≤ v ∧ v ≤ 8 then v else 5

/-- BLK_LOCK_CNT as treated. -/
def State.blkCnt (s : State) (n : Nat) : Nat :=
  let v := s.get (Fld.LCH_FAU_HUNT_CFG_BLK_LOCK_CNT n)
  if 32 ≤ v ∧ v ≤ 64 then v else 64

/-- STM-N, OTUk and MXF: the formats whose counts of R75 are configurable. -/
def isFramed (f : Nat) : Bool := isStm f || isOtu f || isMxf f

/-- 64b/66b without FEC. -/
def isBlk66 (f : Nat) : Bool := f == 2 || f == 4

/-- NONSTD: a permitted deviation is in use (R77). -/
def State.nonstd (s : State) (n : Nat) : Bool :=
  let f := s.format n
  (isFramed f && (s.ifCnt n != 2 || s.oofCnt n != 5))
    || (isBlk66 f && decide (s.blkCnt n < 64))
    || (isFramed f && s.flag (Fld.LCH_FAU_HUNT_CFG_SLIP_FOLLOW n) && s.oofCnt n != 2)

/-- Bits of a frame, marker period, FEC block, 66-bit block or code-group: the modulus of a position (R70, R71). -/
def frameBits (f : Nat) : Nat :=
  match f with
  | 1 => 10
  | 2 | 4 => 66
  | 3 => 2112
  | 5 => 5406720
  | 6 => 19440
  | 7 => 77760
  | 8 => 311040
  | 9 => 1244160
  | 0x0A | 0x0B | 0x0C => 130560
  | 0x0D | 0x0E | 0x0F | 0x10 => 131072
  | _ => 1

/-- The 48-bit lock pattern (R69): A1 A1 A1 A2 A2 A2, or the MXF alignment pattern. -/
def lockPattern (f : Nat) : Nat := if isMxf f then 0xB4E271C80D9A else 0xF6F6F6282828

/-- Finds that put the line in lock (Table 3.3). -/
def State.needFinds (s : State) (n : Nat) : Nat :=
  let f := s.format n
  if isFramed f then s.ifCnt n else if f == 3 then 4 else if f == 5 then 2 else s.blkCnt n

/-- Consecutive misses that end lock (Table 3.3); the Clause 108 rule lies outside the manual. -/
def State.lossMisses (s : State) (n : Nat) : Nat := if s.format n == 3 then 8 else s.oofCnt n

/-- Line `n` is the input of a Through pair. -/
def State.feedsThru (s : State) (n : Nat) : Bool :=
  (List.range 96).any (fun j => s.lineOn j && s.flag (Fld.LCH_OHP_THRU_CFG_ENABLE j) && s.get (Fld.LCH_OHP_THRU_CFG_SRC_LINE j) == n)

/-- The decoder mode MODE selects for the line's format (R86); that of a Through input only detects (R146). -/
def State.fecModeSet (s : State) (n : Nat) : Nat :=
  let f := s.format n
  if s.feedsThru n then 1 else match s.get (Fld.LCH_FAU_FEC_CFG_MODE n) with
  | 1 => 1
  | 2 => if f == 3 || f == 5 then 1 else 2
  | _ => 0

/-! ## States -/

/-- STATE of Table 3.2. -/
def State.fauState (s : State) (n : Nat) : Nat := s.get (Fld.LCH_FAU_STATUS_STATE n)

/-- IN_FRAME or MISSING. -/
def State.fauLocked (s : State) (n : Nat) : Bool := s.fauState n == 3 || s.fauState n == 4

/-- A condition of R73 holds the FAU in IDLE. -/
def State.fauIdleCond (s : State) (n : Nat) : Bool :=
  !s.lineActive n || !s.flag (Fld.LCH_LINE_STATUS_CDR_LOCK n) || s.format n == 0 || s.format n == 0x11

/-- The multiframe lock ends (R76). -/
def State.mfDrop (s : State) (n : Nat) : State :=
  if s.flag (Fld.LCH_FAU_STATUS_MF_LOCK n) then
    (s.setB (Fld.LCH_FAU_STATUS_MF_LOCK n) false).raise (Fld.LCH_FAU_STATUS_MF_LOSS_EV n)
  else s

/-- MFAS of the last OTUk frame received. -/
def State.lastMfas (s : State) (n : Nat) : Option Nat :=
  match (s.line n).ohp.rx with
  | some (.otu f) => some (f.getD 6 0).toNat
  | _ => none

/-- The multiframe lock ends while the line is locked: the counts of R76 begin anew. -/
def State.mfLost (s : State) (n : Nat) : State :=
  (s.mfDrop n).modFau n (fun f => { f with mfas := s.lastMfas n, mfGood := 0, mfBad := 0 })

/-- A check result goes to the position of frame `f` in a merge copy, while it has none (R248). -/
def MergeCopy.tag (c : MergeCopy) (f : Nat) (clean : Bool) : MergeCopy :=
  { c with buf := c.buf.map (fun x => if x.fsn = f ∧ x.result.isNone then { x with result := some clean } else x) }

/-- Frame `f` of line `n` is errored in the merge copies that hold it (R101, R248). -/
def State.mergeErrored (s : State) (n f : Nat) : State :=
  s.onLinePlanes n fun s p => (List.range 256).foldl (fun s g =>
    let w := s.mgExists p g && s.rget (mgAddr p g) MG.wLine == n
    let q := s.mgExists p g && s.rget (mgAddr p g) MG.pLine == n
    if w || q then
      s.modPlane p (fun pl => { pl with mgs := modD MGroup.reset pl.mgs g (fun m =>
        { m with w := if w then m.w.tag f false else m.w, p := if q then m.p.tag f false else m.p }) })
    else s) s

/-- What the Mehrax receiver does when the line leaves lock: a frame that awaits its check result is errored (R101),
and no reliable message counts as last accepted (R111). -/
def State.mxfLeave (s : State) (n : Nat) : State :=
  let m := (s.line n).mxf
  let s := match m.prev with
    | some p =>
      let s := (s.count (Reg.LCH_DPM_CNT2_LO n) 1).lineBlock n 0 true false
      let s := match p.fsn with
        | some f => s.mergeErrored n f
        | none => s
      s.modMxf n (fun m => { m with prev := none, result := some (p.fsn, false) })
    | none => s
  s.modMxf n (fun m => { m with expFsn := none, newSeq := none, ackSeq := 0, rxMsg := none, peer := none, frameUnc := false })

/-- What the overhead processor forgets when the line leaves lock: checks over past frames and runs of equal values, so that no
frame before the gap counts with one after it. Extracted and accepted values stay (R120, log entry 117). -/
def Ohp.lost (o : Ohp) : Ohp :=
  { o with
    par1 := none, par2 := [], opuBips := [], crc7Prev := none, msiBuf := [], eth := EthRx.reset
    traces := o.traces.map (fun x => { x with buf := [], last := [], run := 0 })
    aps := (o.aps.1, 0), s1 := (o.s1.1, 0), pt := (o.pt.1, 0), msi := (o.msi.1, 0) }

/-- The exit from lock: a loss event (R73, R75). -/
def State.leaveLock (s : State) (n : Nat) : State :=
  if s.fauLocked n then
    let s := (s.raise (Fld.LCH_FAU_STATUS_LOSS_EV n)).count (Reg.LCH_FAU_LOSS_CNT_LO n) 1
    let s := (s.mfDrop n).setB (Fld.LCH_FAU_STATUS_FEC_LOCK n) false
    let s := s.modFau n (fun f => { f with
        lock := none, miss := 0, lossDue := false, mfas := none, mfGood := 0, mfBad := 0, modes := [], relock := none })
    let s := s.modLine n (fun l => { l with ohp := l.ohp.lost })
    if isMxf (s.format n) then s.mxfLeave n else s
  else s

/-- Entry into IDLE: all trackers are cleared (R73). -/
def State.fauIdle (s : State) (n : Nat) : State :=
  let s := s.leaveLock n
  let s := (s.set (Fld.LCH_FAU_STATUS_STATE n) 0).set (Fld.LCH_FAU_STATUS_CAND n) 0
  let s := s.setB (Fld.LCH_FAU_HUNT_CFG_RESTART n) false
  s.modFau n (fun f => { Fau.idle with fecMode := f.fecMode })

/-- The IDLE condition has ended: HUNT in the next word period (R73). -/
def State.fauHunt (s : State) (n : Nat) : State :=
  if s.fauState n == 0 && !s.fauIdleCond n then s.set (Fld.LCH_FAU_STATUS_STATE n) 1 else s

/-! ## Tests of a word (R69) -/

/-- Code of a class of code-group. -/
def groupCode : CodeGroup → Nat
  | .comma => 0
  | .data => 1
  | .invalid => 2

/-- The positions of a word at which the format's test passes: position modulo the frame length, and bit offset in the
word, offset 0 being the bit received first. For 1000BASE-X: offset modulo 10 and class of each code-group. -/
def wordFinds (fmt : Nat) (f : Fau) (w : RxWord) : List (Nat × Nat) :=
  let win := f.prev * 2 ^ 64 + w.word.toNat
  let len := frameBits fmt
  let at' := fun o => ((f.pos + o) % len, o)
  if isFramed fmt then
    ((List.range 64).filter (fun o => (f.havePrev || decide (47 ≤ o)) && bitsOf win (63 - o) 48 == lockPattern fmt)).map at'
  else if isBlk66 fmt then
    ((List.range 64).filter (fun o => (f.havePrev || decide (1 ≤ o)) &&
      (bitsOf win (63 - o) 2 == 1 || bitsOf win (63 - o) 2 == 2))).map at'
  else if fmt == 3 || fmt == 5 then
    ((List.range 64).filter (fun o => w.marks.any (fun m => m.val == o))).map at'
  else if fmt == 1 then w.groups.map (fun g => (g.1.val, groupCode g.2))
  else []

/-! ## Trackers -/

/-- Position `p` lies in the 64 positions from `base` on. -/
def inSpan (len base p : Nat) : Bool := decide ((p + len - base) % len < 64)

/-- The tracker a further find may replace: the fewest finds, of equal ones the newest (R70). -/
def victim (l : List Tracker) : Option Tracker :=
  l.foldl (fun v t => match v with
    | none => some t
    | some u => if t.count < u.count ∨ (t.count = u.count ∧ u.born < t.born) then some t else some u) none

/-- One find handled as R70 states. -/
def Fau.takeFind (f : Fau) (x : Nat × Nat) : Fau :=
  let fresh : Tracker := ⟨x.1, 1, x.2, f.opened, f.passes, 0⟩
  if f.lock = some x.1 then f
  else if f.trackers.any (fun t => t.pos == x.1) then
    { f with trackers := f.trackers.map (fun t =>
        if t.pos = x.1 then { t with count := t.count + 1, ofs := x.2, frPrev := t.fr, fr := f.passes } else t) }
  else if f.trackers.length < 4 then { f with trackers := f.trackers ++ [fresh], opened := f.opened + 1 }
  else
    match victim f.trackers with
    | some v =>
      if v.count = 1 then
        { f with trackers := f.trackers.filter (fun t => t.pos != v.pos) ++ [fresh], opened := f.opened + 1 }
      else f
    | none => f

/-- Trackers whose expected position passed in the last word without a find are closed (R70). -/
def Fau.closeTrackers (f : Fau) (len : Nat) : Fau :=
  { f with trackers := f.trackers.filter (fun t => !inSpan len f.lastBase t.pos || f.finds.any (fun x => x.1 == t.pos)) }

/-- The locked position after the last word: a find or a miss of the expected pattern (R70, R75, R80). -/
def Fau.countLock (f : Fau) (len limit : Nat) : Fau :=
  match f.lock with
  | none => f
  | some p =>
    if !inSpan len f.lastBase p then f
    else if f.finds.any (fun x => x.1 == p) then { f with miss := 0, passes := f.passes + 1, lossDue := false }
    else { f with miss := f.miss + 1, passes := f.passes + 1, lossDue := decide (limit ≤ f.miss + 1) }

/-- TRACKER_UPDATE for the formats with trackers: the finds of the last word are registered (R70). -/
def Fau.registerFramed (f : Fau) (len limit : Nat) : Fau :=
  let g := (f.finds.foldl Fau.takeFind f).closeTrackers len
  g.countLock len limit

/-- One sync header of 64b/66b at block offset `b`: the run of valid headers, and at the locked offset the window of
64 headers with 16 invalid (R71, Table 3.3). -/
def Fau.header (f : Fau) (b : Nat) (valid : Bool) : Fau :=
  let f := { f with hdr := modD 0 f.hdr b (fun c => if valid then c + 1 else 0) }
  if f.lock = some b then
    let bad := f.winBad + b2n (!valid)
    let f := { f with miss := if valid then 0 else f.miss + 1, lossDue := f.lossDue || decide (16 ≤ bad) }
    if f.win + 1 = 64 then { f with win := 0, winBad := 0 } else { f with win := f.win + 1, winBad := bad }
  else f

/-- TRACKER_UPDATE for 64b/66b: the 64 headers of the last word. -/
def Fau.registerBlk (f : Fau) : Fau :=
  (List.range 64).foldl (fun g o => g.header ((f.lastBase + o + 65) % 66) (f.finds.any (fun x => x.2 == o))) f

/-- One code-group into a Clause 36 synchronization state machine: 0 LOSS_OF_SYNC, 1 to 5 the acquisition states,
6 SYNC_ACQUIRED_1, then 2, 2A, 3, 3A, 4, 4A (PRESUMED: IEEE 802.3 Clause 36, log entry 21). -/
def Cl36.next (c : Cl36) (g : Nat) : Cl36 :=
  let comma := g == 0
  let bad := g == 2 || (comma && c.even)
  let flip := !c.even
  match c.st with
  | 0 => if comma then ⟨1, 0, true⟩ else ⟨0, 0, c.even⟩
  | 1 => if g == 1 then ⟨2, 0, flip⟩ else ⟨0, 0, flip⟩
  | 2 => if bad then ⟨0, 0, flip⟩ else if comma then ⟨3, 0, true⟩ else ⟨2, 0, flip⟩
  | 3 => if g == 1 then ⟨4, 0, flip⟩ else ⟨0, 0, flip⟩
  | 4 => if bad then ⟨0, 0, flip⟩ else if comma then ⟨5, 0, true⟩ else ⟨4, 0, flip⟩
  | 5 => if g == 1 then ⟨6, 0, flip⟩ else ⟨0, 0, flip⟩
  | 6 => if bad then ⟨7, 0, flip⟩ else ⟨6, 0, flip⟩
  | 7 => if bad then ⟨9, 0, flip⟩ else ⟨8, 1, flip⟩
  | 8 => if bad then ⟨9, 0, flip⟩ else if c.good = 3 then ⟨6, 0, flip⟩ else ⟨8, c.good + 1, flip⟩
  | 9 => if bad then ⟨11, 0, flip⟩ else ⟨10, 1, flip⟩
  | 10 => if bad then ⟨11, 0, flip⟩ else if c.good = 3 then ⟨7, 0, flip⟩ else ⟨10, c.good + 1, flip⟩
  | 11 => if bad then ⟨0, 0, flip⟩ else ⟨12, 1, flip⟩
  | _ => if bad then ⟨0, 0, flip⟩ else if c.good = 3 then ⟨9, 0, flip⟩ else ⟨12, c.good + 1, flip⟩

/-- TRACKER_UPDATE for 1000BASE-X: the code-groups of the last word. -/
def Fau.registerCl36 (f : Fau) : Fau :=
  f.finds.foldl (fun g x =>
    let c := (g.cl36.getD x.1 ⟨0, 0, false⟩).next x.2
    let g := { g with cl36 := putD ⟨0, 0, false⟩ g.cl36 x.1 c }
    if g.lock = some x.1 then { g with miss := if c.st = 6 then 0 else 1, lossDue := g.lossDue || c.st == 0 } else g) f

/-- TRACKER_UPDATE by the line's format. -/
def Fau.register (f : Fau) (fmt limit : Nat) : Fau :=
  if isBlk66 fmt then f.registerBlk
  else if fmt == 1 then f.registerCl36
  else f.registerFramed (frameBits fmt) limit

/-- Errored patterns at the locked position that the finds of the last word hold (R82, Table 3.8). -/
def Fau.lockErrors (f : Fau) (fmt : Nat) : Nat :=
  match f.lock with
  | none => 0
  | some p =>
    if isBlk66 fmt then
      ((List.range 64).filter (fun o => (f.lastBase + o + 65) % 66 == p && !f.finds.any (fun x => x.2 == o))).length
    else if fmt == 1 then (f.finds.filter (fun x => x.1 == p && x.2 == 2)).length
    else b2n (inSpan (frameBits fmt) f.lastBase p && !f.finds.any (fun x => x.1 == p))

/-- CAND: open trackers, or trackers with a nonzero count, saturating at 7. -/
def Fau.cand (f : Fau) (fmt : Nat) : Nat :=
  if isBlk66 fmt then min 7 (f.hdr.filter (fun c => c != 0)).length
  else if fmt == 1 then min 7 (f.cl36.filter (fun c => c.st != 0)).length
  else f.trackers.length

/-- STATE of a running FAU from what has been registered (Table 3.2). -/
def Fau.stateOf (f : Fau) (fmt : Nat) : Nat :=
  match f.lock with
  | some _ => if f.miss = 0 then 3 else 4
  | none => if (isFramed fmt || fmt == 5) && !f.trackers.isEmpty then 2 else 1

/-- STATE and CAND follow what was registered one word period ago (R69); MF_LOCK is 0 outside IN_FRAME (R76). -/
def State.fauShow (s : State) (n : Nat) : State :=
  let f := (s.line n).fau
  let fmt := s.format n
  let s := (s.set (Fld.LCH_FAU_STATUS_STATE n) (f.stateOf fmt)).set (Fld.LCH_FAU_STATUS_CAND n) (f.cand fmt)
  if isOtu fmt && f.stateOf fmt != 3 then s.mfLost n else s

/-- The word itself: its finds wait for registration, and it becomes the predecessor. -/
def Fau.shift (f : Fau) (fmt : Nat) (w : RxWord) : Fau :=
  { f with
      finds := wordFinds fmt f w, lastBase := f.pos, pos := (f.pos + 64) % frameBits fmt, prev := w.word.toNat,
      havePrev := true }

/-! ## Entry into lock -/

/-- The tracker that sets the lock: the most finds, of equal ones the lower bit offset (R499). -/
def bestTracker (need : Nat) (l : List Tracker) : Option Tracker :=
  (l.filter (fun t => decide (need ≤ t.count))).foldl (fun v t => match v with
    | none => some t
    | some u => if u.count < t.count ∨ (t.count = u.count ∧ t.ofs < u.ofs) then some t else some u) none

/-- The position and the BIT_OFS of the lock that the trackers now give (R71, R75, R499). -/
def State.lockChoice (s : State) (n : Nat) : Option (Nat × Nat) :=
  let f := (s.line n).fau
  let fmt := s.format n
  if isBlk66 fmt then
    ((List.range 66).find? (fun b => decide (s.blkCnt n ≤ f.hdr.getD b 0))).map (fun b => (b, b))
  else if fmt == 1 then
    ((List.range 10).find? (fun b => decide (6 ≤ (f.cl36.getD b ⟨0, 0, false⟩).st))).map (fun b => (b, b))
  else (bestTracker (s.needFinds n) f.trackers).map (fun t => (t.pos, if fmt == 3 then t.pos % 66 else t.ofs))

/-- FEC_LOCK while the line is locked. -/
def State.fecLockOf (s : State) (n : Nat) : Bool :=
  let fmt := s.format n
  fmt == 3 || fmt == 5 || (isMxf fmt && s.flag (Fld.LCH_MXF_CFG_FEC n))

/-- The FAU enters IN_FRAME at a position (R75); the decoder starts in the mode that MODE then selects (R86). -/
def State.enterLock (s : State) (n : Nat) (p : Nat × Nat) : State :=
  let s := s.modFau n (fun f => { f with
      lock := some p.1, miss := 0, win := 0, winBad := 0, lossDue := false, passes := 0, relock := none,
      fecMode := s.fecModeSet n, modes := [],
      trackers := f.trackers.filter (fun t => t.pos != p.1) })
  let s := (s.set (Fld.LCH_FAU_STATUS_STATE n) 3).set (Fld.LCH_FAU_STATUS_BIT_OFS n) p.2
  let s := (s.raise (Fld.LCH_FAU_STATUS_IF_EV n)).setB (Fld.LCH_FAU_STATUS_FEC_LOCK n) (s.fecLockOf n)
  let s := s.modMxf n (fun m => { m with fecRx := s.flag (Fld.LCH_MXF_CFG_FEC n) })
  s.set (Fld.LCH_FAU_STATUS_CAND n) ((s.line n).fau.cand (s.format n))

/-! ## The lane's words -/

/-- A word with every bit inverted, or as it is (R47). -/
def invert (inv : Bool) (w : Word64) : Word64 := if inv then ~~~w else w

/-- The word that the transmitter drives in this word period: the next of the frame in transmission, else the one given. -/
def State.drivenWord (s : State) (n : Nat) (sent : Word64) : Word64 := (s.line n).lane.words.headD sent

/-- The word at the receive parallel interface (R47, R48): the received word with RX_INV; in a serial near-end loopback what the
transmitter drives, through both inverters; in a parallel one the transmit word itself. -/
def State.laneWord (s : State) (n : Nat) (pins sent : Word64) : Word64 :=
  let rx := s.flag (Fld.LCH_LINE_CFG_RX_INV n)
  match (s.line n).lane.loopback with
  | 1 => invert rx (invert (s.flag (Fld.LCH_LINE_CFG_TX_INV n)) (s.drivenWord n sent))
  | 3 => s.drivenWord n sent
  | _ => invert rx pins

/-- A word period has passed: a near-end loopback has taken a transmitted word, a far-end one retransmits the received word (R48). -/
def State.laneStep (s : State) (n : Nat) (w : Word64) : State :=
  s.modLane n (fun l => match l.loopback with
    | 0 => l
    | 2 => { l with looped := some w }
    | _ => { l with words := l.words.drop 1 })

/-- A tracker that met the criterion at the loss of lock takes the line back into lock one word period later (R78). -/
def State.fauResume (s : State) (n : Nat) : State :=
  match (s.line n).fau.relock with
  | some p => s.enterLock n p
  | none => s

/-- One word period of the FAU (R69): the state machine acts on what was registered, the finds of the last word are
registered, the new word is tested. A pattern test holds the line out of frame (R395). -/
def State.fauWord (s : State) (n : Nat) (w : RxWord) : State :=
  s.onLine n fun s =>
    let v := s.laneWord n w.word w.sent
    let s := s.laneStep n v
    s.when (!s.fauIdleCond n && !s.flag (Fld.LCH_PRBS_CFG_CHK_EN n)) fun s =>
    let s := ((s.fauHunt n).fauResume n).fauShow n
    let fmt := s.format n
    let f := (s.line n).fau
    let s := s.count (Reg.LCH_FAU_FAS_ERR_LO n) (f.lockErrors fmt)
    let s := s.modFau n (fun f => (f.register fmt (s.lossMisses n)).shift fmt { w with word := v })
    if s.fauLocked n && s.twin && s.confirmed then
      s.modLine n (fun l => { l with frb := { l.frb with words := l.frb.words ++ [v] } })
    else s

/-! ## Lock, loss, slip -/

/-- The FAU hunts or confirms. -/
def State.fauHunts (s : State) (n : Nat) : Bool := s.fauState n == 1 || s.fauState n == 2

def State.fauLockAcquire (s : State) (n : Nat) : State :=
  s.onLine n fun s => s.when (s.fauHunts n) fun s =>
    match s.lockChoice n with
    | some p => s.enterLock n p
    | none => s

/-- The loss criterion of Table 3.3 is met; the Clause 108 criterion is the event itself. -/
def State.lossMet (s : State) (n : Nat) : Bool := s.fauLocked n && ((s.line n).fau.lossDue || s.format n == 5)

/-- FAU_LOCK_LOSS: the line leaves lock for HUNT; a tracker that already meets the in-frame criterion is noted in the same word
period (R75, R78). -/
def State.fauLockLoss (s : State) (n : Nat) : State :=
  s.onLine n fun s => s.when (s.lossMet n) fun s =>
    let s := (s.leaveLock n).set (Fld.LCH_FAU_STATUS_STATE n) 1
    s.modFau n (fun f => { f with relock := if isFramed (s.format n) then s.lockChoice n else none })

/-- The trackers that found the pattern in both missed frames (R79). -/
def Fau.followers (f : Fau) : List Tracker :=
  f.trackers.filter (fun t => decide (2 ≤ t.count ∧ t.fr + 1 = f.passes ∧ t.frPrev + 2 = f.passes))

/-- SLIP_FOLLOW has an effect on the line (R79). -/
def State.slipFollows (s : State) (n : Nat) : Bool :=
  isFramed (s.format n) && s.flag (Fld.LCH_FAU_HUNT_CFG_SLIP_FOLLOW n) && s.oofCnt n != 2

def State.fauSlipMove (s : State) (n : Nat) : State :=
  s.onLine n fun s => s.when (s.fauLocked n && s.slipFollows n && (s.line n).fau.miss == 2) fun s =>
    match (s.line n).fau.followers with
    | [t] =>
      let s := s.modFau n (fun f => { f with
          lock := some t.pos, miss := 0, lossDue := false,
          trackers := f.trackers.filter (fun u => u.pos != t.pos) })
      let s := (s.set (Fld.LCH_FAU_STATUS_STATE n) 3).set (Fld.LCH_FAU_STATUS_BIT_OFS n) t.ofs
      let s := (s.raise (Fld.LCH_FAU_STATUS_SLIP_EV n)).count (Reg.LCH_FAU_SLIP_CNT_LO n) 1
      s.set (Fld.LCH_FAU_STATUS_CAND n) ((s.line n).fau.trackers.length)
    | _ => s

/-- MF_LOCK follows the MFAS counts of the received frames (R76). -/
def State.mfLockChange (s : State) (n : Nat) : State :=
  s.onLine n fun s => s.when (isOtu (s.format n) && s.fauState n == 3) fun s =>
    let f := (s.line n).fau
    if !s.flag (Fld.LCH_FAU_STATUS_MF_LOCK n) ∧ 2 ≤ f.mfGood then
      (s.raise (Fld.LCH_FAU_STATUS_MF_LOCK n)).modFau n (fun f => { f with mfBad := 0 })
    else if s.flag (Fld.LCH_FAU_STATUS_MF_LOCK n) ∧ 5 ≤ f.mfBad then
      s.mfLost n
    else s

/-! ## Register writes -/

/-- A write of LCH_FAU_HUNT_CFG (R80, R88); RESTART forces IDLE and a new hunt (R73). -/
def State.huntCfgWrite (s : State) (n : Nat) (v : Word) : State :=
  s.onLine n fun s =>
    let s := (s.writeByCode (Reg.LCH_FAU_HUNT_CFG n) v).setB (Fld.LCH_FAU_HUNT_CFG_RESTART n) false
    if v.toNat.testBit 16 then s.fauIdle n else s

/-- RESTART written 1 with the register's other fields as they are (R73). -/
def State.fauRestart (s : State) (n : Nat) : State := s.onLine n fun s => s.fauIdle n

/-- A write of LCH_FAU_FEC_CFG: MODE acts from the next codeword boundary (R86). -/
def State.fecCfgWrite (s : State) (n : Nat) (v : Word) : State :=
  s.onLine n fun s => s.writeByCode (Reg.LCH_FAU_FEC_CFG n) v

/-! ## FEC (R86, R87, Table 3.7) -/

/-- A FEC decoder runs on the line. -/
def State.fecRuns (s : State) (n : Nat) : Bool :=
  let f := s.format n
  s.fauLocked n && (isOtu f || f == 3 || f == 5 || (isMxf f && (s.line n).mxf.fecRx))

/-- The sync headers of the decoded blocks of an Ethernet FEC format under the Clause 49 loss rule (Table 3.3). -/
def Fau.decodedHeaders (f : Fau) (hs : List Bool) : Fau :=
  hs.foldl (fun f ok =>
    let bad := f.winBad + b2n (!ok)
    let f := { f with lossDue := f.lossDue || decide (16 ≤ bad) }
    if f.win + 1 = 64 then { f with win := 0, winBad := 0 } else { f with win := f.win + 1, winBad := bad }) f

/-- The format's codewords are of the kind of `c`. -/
def fecSuits (c : FecBlock) (fmt : Nat) : Bool :=
  match c with
  | .otu bs => isOtu fmt && bs.length == 255
  | .mxf bs => isMxf fmt && bs.length == 192
  | .cl74 _ => fmt == 3
  | .cl108 ws _ => fmt == 5 && ws.length == 528

/-- What a codeword's outcome counts in a mode (R86, R87). -/
def State.fecCount (s : State) (n mode : Nat) (o : FecOutcome) : State :=
  if mode == 2 then s
  else match o with
    | .clean => s
    | .corrected k =>
      (s.count (Reg.LCH_FAU_FEC_CORR_LO n) k).count (Reg.LCH_FAU_FEC_CORR_CW_LO n) (if k = 0 then 0 else 1)
    | .uncorrectable => (s.count (Reg.LCH_FAU_FEC_UNC_CW_LO n) 1).raise (Fld.LCH_FAU_STATUS_FEC_UNC_EV n)

/-- One codeword or block: decoded and counted in the mode in force, which then takes the mode written (R86). The sync headers of
its blocks meet the Clause 49 loss rule, an uncorrectable block's being marked under UNC_MARK (Table 3.7). -/
def State.fecCodeword (s : State) (n : Nat) (c : FecBlock) : State :=
  s.onLine n fun s => s.when (s.fecRuns n && fecSuits c (s.format n)) fun s =>
    let mode := (s.line n).fau.fecMode
    let o := fecOutcome c (s.flag (Fld.LCH_FAU_HUNT_CFG_SCR_BYPASS n))
    let s := s.fecCount n mode o
    let marked := mode != 2 && o == FecOutcome.uncorrectable && s.flag (Fld.LCH_FAU_FEC_CFG_UNC_MARK n)
    s.modFau n (fun f => { f.decodedHeaders (fecHeaders c marked) with fecMode := s.fecModeSet n, modes := f.modes ++ [mode] })

/-! ## CDR (R44, R73, R84, R500) -/

/-- The line reports CDR lock: ADAPT_DONE follows in frozen and manual mode (R44), and the FAU hunts. -/
def State.cdrRise (s : State) (n : Nat) : State :=
  let s := s.raise (Fld.LCH_LINE_STATUS_CDR_LOCK n)
  let s := if s.get (Fld.LCH_RX_EQ_CFG_MODE n) == 0 then s else s.raise (Fld.LCH_LINE_STATUS_ADAPT_DONE n)
  s.fauHunt n

/-- CDR_LOCK falls; CDR_LOSS is set while the line is active, and the FAU enters IDLE (R84). -/
def State.cdrFall (s : State) (n : Nat) : State :=
  let s := s.setB (Fld.LCH_LINE_STATUS_CDR_LOCK n) false
  let s := if s.lineActive n then s.raise (Fld.LCH_LINE_STATUS_CDR_LOSS n) else s
  s.fauIdle n

def State.cdrLockRise (s : State) (n : Nat) : State :=
  s.onLine n fun s => s.when (s.lineActive n && s.format n != 0 && !s.flag (Fld.LCH_LINE_STATUS_CDR_LOCK n)) fun s =>
    s.cdrRise n

def State.cdrLockFall (s : State) (n : Nat) : State :=
  s.onLine n fun s => s.when (s.flag (Fld.LCH_LINE_STATUS_CDR_LOCK n)) fun s => s.cdrFall n

/-- Whether the CDR loses lock on a replaced signal is left open; the event says which (R500). -/
def State.signalReplaced (s : State) (n : Nat) (cdrFalls : Bool) : State :=
  s.onLine n fun s => s.when (cdrFalls && s.flag (Fld.LCH_LINE_STATUS_CDR_LOCK n)) fun s => s.cdrFall n

/-! ## Meanings -/

/-- FAU_WORD (R69 to R72, R82). -/
def execFauWord (n : LineNo) (w : RxWord) (s : State) : Host.Outcome State Fault Refusal := done (s.fauWord n.val w)

/-- FAU_LOCK_ACQUIRE (R75, R499). -/
def execFauLockAcquire (n : LineNo) (s : State) : Host.Outcome State Fault Refusal := done (s.fauLockAcquire n.val)

/-- FAU_LOCK_LOSS (R75, R78). -/
def execFauLockLoss (n : LineNo) (s : State) : Host.Outcome State Fault Refusal := done (s.fauLockLoss n.val)

/-- FAU_SLIP_MOVE (R79). -/
def execFauSlipMove (n : LineNo) (s : State) : Host.Outcome State Fault Refusal := done (s.fauSlipMove n.val)

/-- MF_LOCK_CHANGE (R76). -/
def execMfLockChange (n : LineNo) (s : State) : Host.Outcome State Fault Refusal := done (s.mfLockChange n.val)

/-- FAU_RESTART (R73). -/
def execFauRestart (n : LineNo) (s : State) : Host.Outcome State Fault Refusal := done (s.fauRestart n.val)

/-- FAU_HUNT_CFG_WRITE (R88). -/
def execFauHuntCfgWrite (n : LineNo) (v : Word) (s : State) : Host.Outcome State Fault Refusal :=
  done (s.huntCfgWrite n.val v)

/-- FEC_CFG_WRITE (R86). -/
def execFecCfgWrite (n : LineNo) (v : Word) (s : State) : Host.Outcome State Fault Refusal :=
  done (s.fecCfgWrite n.val v)

/-- FEC_CODEWORD (R86). -/
def execFecCodeword (n : LineNo) (c : FecBlock) (s : State) : Host.Outcome State Fault Refusal := done (s.fecCodeword n.val c)

/-- CDR_LOCK_RISE (R73). -/
def execCdrLockRise (n : LineNo) (s : State) : Host.Outcome State Fault Refusal := done ((s.cdrLockRise n.val).lineTiming n.val)

/-- CDR_LOCK_FALL (R84). -/
def execCdrLockFall (n : LineNo) (s : State) : Host.Outcome State Fault Refusal := done ((s.cdrLockFall n.val).lineTiming n.val)

/-- SIGNAL_REPLACED (R500). -/
def execSignalReplaced (n : LineNo) (cdrFalls : Bool) (s : State) : Host.Outcome State Fault Refusal :=
  done ((s.signalReplaced n.val cdrFalls).lineTiming n.val)

end Sys2Proof.Machine
end

