-- ==== Sys2Proof/Machine/Lane.lean ====
section
/-! DEFINITION. The lane of a line (chapter 2): configuration writes, signal presence, the equaliser, line doze and
format changes (R42 to R55, R501). -/

namespace Sys2Proof.Machine

/-! ## Transmitter start and stop of a Mehrax line -/

/-- A reliable message is dropped unacknowledged (R112). -/
def State.pmcDrop (s : State) (n k : Nat) : State :=
  if k = 0 then s else (s.raise (Fld.LCH_MXF_STATUS_PMC_UNACK_EV n)).count (Reg.LCH_MXF_PMC_UNACK_LO n) k

/-- The line's transmitter stops: every outstanding or waiting reliable message is dropped (R112). -/
def State.mxfTxStop (s : State) (n : Nat) : State :=
  let m := (s.line n).mxf
  let s := s.pmcDrop n (b2n m.out.isSome + m.waiting.length)
  (s.setB (Fld.LCH_MXF_STATUS_PMC_BUSY n) false).modMxf n (fun m => { m with
    out := none, waiting := []
    dropped := m.dropped ++ ((m.out.map (fun o => o.msg)).toList ++ m.waiting).filter (fun x => x.typ == 0x91) })

/-- The FSN at which the transmitter of line `n` starts: 0, or the next count of a merge partner that runs (R96, R244). -/
def State.startFsn (s : State) (n : Nat) : Nat :=
  match s.mergePartner ((s.linePlanes n).headD (halfOf n)) n with
  | some q => if s.lineOn q && isMxf (s.format q) && s.lineActive q then (s.line q).mxf.txFsn else 0
  | none => 0

/-- The line's transmitter starts: its FSN, reliable messages from 1, nothing accepted (R96, R111). -/
def State.mxfTxStart (s : State) (n : Nat) : State :=
  s.modMxf n (fun m => { m with
    txFsn := s.startFsn n, txFirst := true, txBuf := [], txPcrc := 0, txBip := 0, nextSeq := 1, ackSeq := 0, out := none, waiting := [],
    changed := [], cycle := 0, fecTx := s.flag (Fld.LCH_MXF_CFG_FEC n) })

/-! ## Doze transitions -/

/-- A stored format, FEC and raw rate take effect (R42, R44). -/
def State.takeFormat (s : State) (n : Nat) : State :=
  match (s.line n).lane.newFormat with
  | none => s
  | some (f, fec, kbaud) =>
    let s := ((s.uncheck n).set (Fld.LCH_LINE_CFG_FORMAT n) f).setB (Fld.LCH_MXF_CFG_FEC n) (fec && isMxf f)
    let s := (s.setB (Fld.LCH_LINE_STATUS_ADAPT_DONE n) false).fauIdle n
    let s := if isMxf f then s else s.setReg (Reg.LCH_MXF_STATUS n) 0
    (s.modMxf n (fun _ => Mxf.reset)).modLane n (fun l => { l with newFormat := none, rawKbaud := kbaud })

/-- Doze entry begins (R52): the line is in transition, its FAU idle, its transmitter completing its frame. -/
def State.beginEntry (s : State) (n : Nat) (deep : Bool) : State :=
  let s := ((s.uncheck n).set (Fld.LCH_LINE_STATUS_PWR_STATE n) 3).setB (Fld.LCH_LINE_STATUS_ADAPT_DONE n) false
  let s := (s.fauIdle n).mxfTxStop n
  let s := s.setB (Fld.LCH_FRB_STATUS_FULL n) false
  let s := (s.modOhp n (fun o => { o with tx := [], txHold := [] })).modMxf n (fun m => { m with txFrame := [], txBuf := [] })
  (s.modLine n (fun l => { l with portTx := [] })).modLane n (fun l => { l with trans := .entry deep, words := [], odd := [] })

/-- Exit from doze begins; a stored format is taken up (R42, R53). -/
def State.beginExit (s : State) (n : Nat) : State :=
  let deep := s.get (Fld.LCH_LINE_STATUS_PWR_STATE n) == 2
  let s := ((s.uncheck n).takeFormat n).set (Fld.LCH_LINE_STATUS_PWR_STATE n) 3
  s.modLane n (fun l => { l with trans := .exit, fromDeep := deep, dozeCmd := false })

/-- A move between the two dozes begins (R501). -/
def State.beginMove (s : State) (n : Nat) (deep : Bool) : State :=
  ((s.uncheck n).set (Fld.LCH_LINE_STATUS_PWR_STATE n) 3).modLane n (fun l => { l with trans := .move deep, fromDeep := !deep })

/-- A line leaves a doze that no command asks for: with a stored change of format it passes through deep doze, without format it
stays there (R42, R53). -/
def State.leaveDoze (s : State) (n : Nat) : State :=
  if s.get (Fld.LCH_LINE_STATUS_PWR_STATE n) == 1 && (s.line n).lane.newFormat.isSome then s.beginMove n true
  else if s.targetFormat n != 0 then s.beginExit n
  else s.takeFormat n

/-- What a line in no transition does on a request (R51, R55, R501); one that names the present state does nothing. A
line without format stays in deep doze. -/
def State.startRequest (s : State) (n : Nat) (r : LineReq) : State :=
  match r with
  | .wake =>
    let s := s.modLane n (fun l => { l with dozeCmd := false })
    if s.lineDozes n then s.leaveDoze n else s
  | .light =>
    let s := s.modLane n (fun l => { l with dozeCmd := true })
    if s.lineActive n then s.beginEntry n false
    else if s.get (Fld.LCH_LINE_STATUS_PWR_STATE n) == 2 && s.format n != 0 then s.beginMove n false
    else s
  | .deep =>
    let s := s.modLane n (fun l => { l with dozeCmd := true })
    if s.lineActive n then s.beginEntry n true
    else if s.get (Fld.LCH_LINE_STATUS_PWR_STATE n) == 1 then s.beginMove n true
    else s

/-- A wake or doze request: held during a transition, a later one replacing it (R55). -/
def State.request (s : State) (n : Nat) (r : LineReq) : State :=
  if (s.line n).lane.trans = .none then s.startRequest n r
  else (s.raise (Fld.LCH_LINE_STATUS_WAKE_PEND n)).modLane n (fun l => { l with held := some r })

/-- The transition has ended: the held request is applied, then a format change that waits (R42, R55). -/
def State.transitionEnd (s : State) (n : Nat) : State :=
  let held := (s.line n).lane.held
  let s := s.setB (Fld.LCH_LINE_STATUS_WAKE_PEND n) false
  let s := s.modLane n (fun l => { l with trans := .none, held := none })
  let s := match held with
    | some r => s.startRequest n r
    | none => s
  let l := (s.line n).lane
  if l.trans ≠ .none then s
  else if s.lineActive n then (if l.newFormat.isSome then s.beginEntry n true else s)
  else if l.dozeCmd then s
  else s.leaveDoze n

/-- Firmware sets a line's format (R42): through deep doze from ACTIVE, stored in commanded doze and in transitions, at
once on a line that dozed for want of a format. -/
def State.setFormat (s : State) (n f : Nat) (fec : Bool) (kbaud : Nat) : State :=
  let s := s.modLane n (fun l => { l with newFormat := some (f, fec, kbaud) })
  let l := (s.line n).lane
  if l.trans ≠ .none then s
  else if s.lineActive n then s.beginEntry n true
  else if l.dozeCmd then s
  else s.leaveDoze n

/-- Doze entry ends (R52): the CDR is off, the lane PLL stays in light doze. -/
def State.dozeEntryComplete (s : State) (n : Nat) : State :=
  s.onLine n fun s =>
    match (s.line n).lane.trans with
    | .entry deep =>
      let s := (s.set (Fld.LCH_LINE_STATUS_PWR_STATE n) (if deep then 2 else 1)).setB (Fld.LCH_LINE_STATUS_CDR_LOCK n) false
      let s := s.setB (Fld.LCH_LINE_STATUS_PLL_LOCK n) (!deep)
      s.transitionEnd n
    | _ => s

/-- Exit ends (R53): the transmitter runs, the loopback written in doze is in force (R48), and with a signal the CDR has
locked and frame acquisition starts. -/
def State.dozeExitComplete (s : State) (n : Nat) (cdrLocked : Bool) : State :=
  s.onLine n fun s =>
    match (s.line n).lane.trans with
    | .exit =>
      let s := (s.set (Fld.LCH_LINE_STATUS_PWR_STATE n) 0).raise (Fld.LCH_LINE_STATUS_PLL_LOCK n)
      let s := s.modLane n (fun l => { l with loopback := s.get (Fld.LCH_LINE_CFG_LOOPBACK n) })
      let s := if isMxf (s.format n) then s.mxfTxStart n else s
      let s := if cdrLocked then s.cdrRise n else s
      s.transitionEnd n
    | _ => s

/-- A move between the dozes ends (R501). -/
def State.dozeMoveComplete (s : State) (n : Nat) : State :=
  s.onLine n fun s =>
    match (s.line n).lane.trans with
    | .move deep =>
      let s := (s.set (Fld.LCH_LINE_STATUS_PWR_STATE n) (if deep then 2 else 1)).setB (Fld.LCH_LINE_STATUS_PLL_LOCK n) (!deep)
      s.transitionEnd n
    | _ => s

/-! ## Register writes -/

/-- A write of LCH_LINE_CFG: FORMAT is firmware's; a loopback change is an interruption of the FAU's input, or waits for
the wake (R47 to R50). -/
def State.lineCfgWrite (s : State) (n : Nat) (v : Word) : State :=
  s.onLine n fun s =>
    let s := s.writeByCode (Reg.LCH_LINE_CFG n) v
    let new := s.get (Fld.LCH_LINE_CFG_LOOPBACK n)
    if s.lineActive n && (s.line n).lane.loopback != new then
      (s.fauIdle n).modLane n (fun l => { l with loopback := new })
    else s

/-- The manual equaliser values are in use (R43). -/
def State.useManual (s : State) (n : Nat) : State :=
  let s := s.set (Fld.LCH_RX_EQ_STATUS_CTLE n) (s.get (Fld.LCH_RX_EQ_CFG_CTLE n))
  let s := s.set (Fld.LCH_RX_EQ_STATUS_DFE1 n) (s.get (Fld.LCH_RX_EQ_CFG_DFE1 n))
  let s := s.set (Fld.LCH_RX_EQ_STATUS_DFE2 n) (s.get (Fld.LCH_RX_EQ_CFG_DFE2 n))
  let s := s.set (Fld.LCH_RX_EQ_STATUS_DFE3 n) (s.get (Fld.LCH_RX_EQ_CFG_DFE3 n))
  let s := s.set (Fld.LCH_RX_EQ_STATUS_DFE4 n) (s.get (Fld.LCH_RX_EQ_CFG_DFE4 n))
  s.set (Fld.LCH_RX_EQ_STATUS_DFE5 n) (s.get (Fld.LCH_RX_EQ_CFG_DFE5 n))

/-- Adapted equaliser values are in use (R43). -/
def State.useValues (s : State) (n : Nat) (v : EqValues) : State :=
  let s := s.set (Fld.LCH_RX_EQ_STATUS_CTLE n) v.ctle.toNat
  let s := s.set (Fld.LCH_RX_EQ_STATUS_DFE1 n) v.dfe1.toNat
  let s := s.set (Fld.LCH_RX_EQ_STATUS_DFE2 n) v.dfe2.toNat
  let s := s.set (Fld.LCH_RX_EQ_STATUS_DFE3 n) v.dfe3.toNat
  let s := s.set (Fld.LCH_RX_EQ_STATUS_DFE4 n) v.dfe4.toNat
  s.set (Fld.LCH_RX_EQ_STATUS_DFE5 n) v.dfe5.toNat

/-- A write of LCH_RX_EQ_CFG (R43, R44); MODE 3 is treated as frozen. -/
def State.rxEqCfgWrite (s : State) (n : Nat) (v : Word) : State :=
  s.onLine n fun s =>
    let mode := fun (s : State) => min 2 (if s.get (Fld.LCH_RX_EQ_CFG_MODE n) = 3 then 1 else s.get (Fld.LCH_RX_EQ_CFG_MODE n))
    let old := mode s
    let s := s.writeByCode (Reg.LCH_RX_EQ_CFG n) v
    let new := mode s
    let s := if new = 2 then s.useManual n else s
    if new = old then s
    else if new = 0 then s.setB (Fld.LCH_LINE_STATUS_ADAPT_DONE n) false
    else if s.flag (Fld.LCH_LINE_STATUS_CDR_LOCK n) then s.raise (Fld.LCH_LINE_STATUS_ADAPT_DONE n)
    else s

/-- The equaliser values have settled (R43, R44): adapted ones while SD is asserted; without SD the lane holds those in use. -/
def State.eqAdaptDone (s : State) (n : Nat) (v : EqValues) : State :=
  s.onLine n fun s => s.when (s.get (Fld.LCH_RX_EQ_CFG_MODE n) == 0 && s.flag (Fld.LCH_LINE_STATUS_CDR_LOCK n)) fun s =>
    let s := if s.flag (Fld.LCH_LINE_STATUS_SD n) then s.useValues n v else s
    s.raise (Fld.LCH_LINE_STATUS_ADAPT_DONE n)

/-- The post-cursor the lane applies (R45). -/
def appliedPost (pre post : Nat) : Nat := if pre + post > 40 then 40 - pre else post

/-- A write of LCH_TX_DRV_CFG: the register keeps the pair as written, TX_CLAMP says that it is clamped (R45). -/
def State.txDrvCfgWrite (s : State) (n : Nat) (v : Word) : State :=
  s.onLine n fun s =>
    let s := s.writeByCode (Reg.LCH_TX_DRV_CFG n) v
    s.setB (Fld.LCH_LINE_STATUS_TX_CLAMP n)
      (decide (40 < s.get (Fld.LCH_TX_DRV_CFG_PRE n) + s.get (Fld.LCH_TX_DRV_CFG_POST n)))

/-! ## Signal presence -/

/-- SD takes a value; every change sets SD_EDGE (R50). -/
def State.setSd (s : State) (n : Nat) (sd : Bool) : State :=
  if s.flag (Fld.LCH_LINE_STATUS_SD n) = sd then s
  else (s.setB (Fld.LCH_LINE_STATUS_SD n) sd).raise (Fld.LCH_LINE_STATUS_SD_EDGE n)

/-- The signal-presence comparator changes (R50). -/
def State.sdChange (s : State) (n : Nat) (sd : Bool) : State := s.onLine n fun s => s.setSd n sd

/-! ## Faults -/

/-- A block that meets a full line queue is dropped and reported, source 98 + 4n; frame acquisition and monitoring record it as
a received error, which a locked line's FAS_ERR and an errored block of its first layer are (R31, log entry 104). A Mehrax
frame that has lost words is errored. -/
def State.lineQueueDrop (s : State) (n : Nat) : State :=
  s.onLine n fun s =>
    let s := s.happen (98 + 4 * n)
    s.when (s.fauLocked n) fun s =>
      let s := s.count (Reg.LCH_FAU_FAS_ERR_LO n) 1
      if isMxf (s.format n) then s.modMxf n (fun m => { m with frameUnc := true }) else s.lineBlock n 0 true false

/-! ## The transmit pins -/

/-- The transmit pins are in electrical idle (R49, R52, R262, R472). -/
def State.txIdle (s : State) (n : Nat) : Bool :=
  !s.lineOn n || !s.lineActive n || s.flag (Fld.LCH_LINE_CFG_TX_SQUELCH n) || !s.confirmed || decide (s.power.sleep ≠ .awake)

/-- The words at the transmit pins: what a far-end loopback retransmits, or the frame in transmission, with the polarity of
TX_INV; nothing in electrical idle (R47 to R49). -/
def State.pinWords (s : State) (n : Nat) : List Word64 :=
  if s.txIdle n then []
  else
    let l := (s.line n).lane
    (if l.loopback = 2 then l.looped.toList else l.words).map (invert (s.flag (Fld.LCH_LINE_CFG_TX_INV n)))

/-! ## Meanings -/

/-- LINE_CFG_WRITE (R47 to R50). -/
def execLineCfgWrite (n : LineNo) (v : Word) (s : State) : Host.Outcome State Fault Refusal := done (s.lineCfgWrite n.val v)

/-- RX_EQ_CFG_WRITE (R43, R44). -/
def execRxEqCfgWrite (n : LineNo) (v : Word) (s : State) : Host.Outcome State Fault Refusal := done (s.rxEqCfgWrite n.val v)

/-- EQ_ADAPT_DONE (R44). -/
def execEqAdaptDone (n : LineNo) (v : EqValues) (s : State) : Host.Outcome State Fault Refusal := done (s.eqAdaptDone n.val v)

/-- TX_DRV_CFG_WRITE (R45, R46). -/
def execTxDrvCfgWrite (n : LineNo) (v : Word) (s : State) : Host.Outcome State Fault Refusal := done (s.txDrvCfgWrite n.val v)

/-- SD_CHANGE (R50). -/
def execSdChange (n : LineNo) (sd : Bool) (s : State) : Host.Outcome State Fault Refusal := done ((s.sdChange n.val sd).lineTiming n.val)

/-- DOZE_EXIT_COMPLETE (R53): `cdrLocked` says whether a signal is present and the CDR has locked on it. -/
def execDozeExitComplete (n : LineNo) (cdrLocked : Bool) (s : State) : Host.Outcome State Fault Refusal :=
  done ((s.dozeExitComplete n.val cdrLocked).lineTiming n.val)

/-- DOZE_MOVE_COMPLETE (R501). -/
def execDozeMoveComplete (n : LineNo) (s : State) : Host.Outcome State Fault Refusal := done ((s.dozeMoveComplete n.val).lineTiming n.val)

/-- LINE_QUEUE_DROP (R31). -/
def execLineQueueDrop (n : LineNo) (s : State) : Host.Outcome State Fault Refusal := done (s.lineQueueDrop n.val)

end Sys2Proof.Machine
end

