-- ==== Sys2Proof/Machine/Pmc.lean ====
section
/-! DEFINITION. Reliable messages of the peer message channel (R111, R112): requests, the outstanding message, its
acknowledgement, resending and dropping. -/

namespace Sys2Proof.Machine

/-- Line `n` sends Mehrax frames: an ACTIVE line of an MXF format. -/
def State.mxfSends (s : State) (n : Nat) : Bool := s.lineOn n && isMxf (s.format n) && s.lineActive n

/-- The first waiting message becomes the outstanding one under the next number, 1 to 255 (R111, R112). -/
def State.pmcNext (s : State) (n : Nat) : State :=
  let m := (s.line n).mxf
  match m.out, m.waiting with
  | none, x :: t =>
    (s.setB (Fld.LCH_MXF_STATUS_PMC_BUSY n) true).modMxf n (fun m => { m with
      out := some ⟨{ x with txSeq := m.nextSeq }, 0, 0, true⟩, waiting := t, nextSeq := if m.nextSeq = 255 then 1 else m.nextSeq + 1 })
  | none, [] => s.setB (Fld.LCH_MXF_STATUS_PMC_BUSY n) false
  | _, _ => s

/-- Whether line `n` takes a reliable message: at most 17 are held (R112). -/
def State.pmcAccepts (s : State) (n : Nat) : Bool :=
  let m := (s.line n).mxf
  s.mxfSends n && decide (b2n m.out.isSome + m.waiting.length < 17)

/-- A reliable message is queued on line `n`, or an 18th is refused with NO_RESOURCE (R112). -/
def State.pmcRequest (s : State) (n : Nat) (x : PeerMsg) : State :=
  if s.pmcAccepts n then (s.modMxf n (fun m => { m with waiting := m.waiting ++ [x], reqStatus := 0 })).pmcNext n
  else if s.mxfSends n then s.modMxf n (fun m => { m with reqStatus := 0x0104 })
  else s

/-- The wait for an acknowledgement in transmit frames: PMC_TIMEOUT, values below 8 as 8. -/
def State.pmcTimeout (s : State) (n : Nat) : Nat := max 8 (s.get (Fld.LCH_MXF_CFG_PMC_TIMEOUT n))

/-- A message that leaves line `n` is the merge command in hand of its group, none newer of it waits: only such a one counts as
acknowledged or dropped (R241, class 6). -/
def Mxf.inHand (m : Mxf) (x : PeerMsg) : Bool := x.typ == 0x91 && !m.waiting.any (fun y => y.typ == 0x91 && y.index == x.index)

/-- PMC_TIMEOUT frames have passed: the message is due again, or after PMC_RETRIES resends it is dropped (R112). -/
def State.pmcAckTimeout (s : State) (n : Nat) : State :=
  s.onLine n fun s =>
    match (s.line n).mxf.out with
    | none => s
    | some o =>
      s.when (s.mxfSends n && !o.due && decide (s.pmcTimeout n ≤ o.waited)) fun s =>
        if o.resends < s.get (Fld.LCH_MXF_CFG_PMC_RETRIES n) then
          s.modMxf n (fun m => { m with out := some { o with resends := o.resends + 1, due := true } })
        else
          let s := s.pmcDrop n 1
          (s.modMxf n (fun m => { m with
            out := none, dropped := if m.inHand o.msg then m.dropped ++ [o.msg] else m.dropped })).pmcNext n

/-- A frame with a good OHCRC and RPT = 0 acknowledges the outstanding message (R112). -/
def State.pmcAck (s : State) (n ack : Nat) : State :=
  match (s.line n).mxf.out with
  | none => s
  | some o =>
    if ack = o.msg.txSeq ∧ (!o.due || decide (0 < o.resends)) then
      (s.modMxf n (fun m => { m with
        out := none, acked := if m.inHand o.msg then m.acked ++ [o.msg] else m.acked })).pmcNext n
    else s

/-- PMC_SEND_REQUEST (R112). -/
def execPmcSendRequest (n : LineNo) (m : PeerMsg) (s : State) : Host.Outcome State Fault Refusal :=
  done (s.onLine n.val fun s => s.when (decide (0x80 ≤ m.typ ∧ m.typ < 256)) fun s => s.pmcRequest n.val m)

/-- PMC_ACK_TIMEOUT (R112). -/
def execPmcAckTimeout (n : LineNo) (s : State) : Host.Outcome State Fault Refusal := done (s.pmcAckTimeout n.val)

end Sys2Proof.Machine
end

