-- ==== Sys2Proof/Machine/Epoch.lean ====
section
/-! DEFINITION. The commit of an epoch (R191 to R199): acceptance, the switch of each side of each line, completion, the
SLOT_MAP messages (R169). -/

namespace Sys2Proof.Machine

/-- The lines of plane `p`: all in Twin, those of its half in Wide, as far as the variant has them. -/
def State.planeLines (s : State) (p : Nat) : List Nat :=
  (List.range 96).filter (fun n => s.hasLine n && (s.twin || halfOf n == p))

/-- A bit for every line of a list. -/
def lineMask (l : List Nat) : Nat := l.foldl (fun m n => setBit m n) 0

/-- SUSPECT in the current bins of a flow (R223). -/
def State.flowSuspect (s : State) (p f : Nat) : State :=
  let a := flowRec p f
  let s := s.putBar2Num (a + 0x18) 8 (setBit (s.bar2Num (a + 0x18) 8) 61)
  s.putBar2Num (a + 0x38) 8 (setBit (s.bar2Num (a + 0x38) 8) 52)

/-- The flows of either epoch that the commit to the active epoch changes, adds or removes. -/
def State.changedFlows (s : State) (p : Nat) : List Nat :=
  ((s.flowsOf p 0 ++ s.flowsOf p 1).eraseDups).filter (fun f => (s.desc p (s.active p) f).chg)

/-- The line and epoch tags with which a flow's source end is named: in the old or in the new epoch. -/
def State.sourceOn (s : State) (p f n : Nat) : Bool :=
  [0, 1].any (fun e => let d := s.desc p e f; d.valid && d.srcCt != 0 && s.srcLineOf p d == n)

/-- What the receive switch of line `n` does to the flows from it that change: their defects clear and what their sinks
have learned starts afresh (R194, R206). -/
def State.flowsFresh (s : State) (p n : Nat) : State :=
  ((s.changedFlows p).filter (fun f => s.sourceOn p f n)).foldl (fun s f =>
    let s : State := (List.range 15).foldl (fun s b => if s.flowDef p f (b + 1) then s.setFlowDef p f (b + 1) false else s) s
    let s := (s.fset p f FS.rxSt 0).fset p f FS.rxLabel 0
    s.modFlow p f (fun c => { FlowCtx.reset with unread := c.unread, queue := c.queue, sent := c.sent, scr := c.scr, gens := c.gens, gfpOut := c.gfpOut })) s

/-- What the transmit switch of line `n` does: a source that the new epoch has there starts afresh and waits for a unit of the new
tag, or goes on where its flow is unchanged (R193, R194); one that the old epoch has there ends, and a packet flow with it the
frame in its container. -/
def State.flowsWait (s : State) (p n : Nat) : State :=
  let a := s.active p
  let s : State := (s.lineDestsIn p (1 - a) n).foldl (fun s x =>
    if (s.desc p a x.flow).chg then
      (s.modGen p x.flow x.k (fun _ => Gen.reset)).modFlow p x.flow (fun c => { c with gfpOut := [] })
    else s) s
  (s.lineDestsIn p a n).foldl (fun s x =>
    let old := 2 * (1 - a) + x.k % 2
    if x.d.chg then s.modGen p x.flow x.k (fun _ => { Gen.reset with
      st := if x.d.isPacket || x.d.struct then 0 else 2, wait := x.d.isPacket, newPtr := true })
    else
      let g := s.gen p x.flow old
      (s.modGen p x.flow old (fun _ => Gen.reset)).modGen p x.flow x.k (fun _ => g)) s

/-- One side of line `n` switches (R192). -/
def State.switchSide (s : State) (p n : Nat) (d : Side) : State :=
  match d with
  | .receive =>
    if (s.plane p).rxDone.testBit n then s
    else (s.flowsFresh p n).modPlane p (fun pl => { pl with rxDone := setBit pl.rxDone n })
  | .transmit =>
    if (s.plane p).txDone.testBit n then s
    else (s.flowsWait p n).modPlane p (fun pl => { pl with txDone := setBit pl.txDone n })

/-- A slot group that a flow of an epoch transmits on line `n`: mask, type, flow (R169). -/
def State.slotGroups (s : State) (p e n : Nat) : List (Nat × Nat × Nat) :=
  (s.flowsOf p e).flatMap (fun f =>
    let d := s.desc p e f
    let fmt := s.format n
    let one : Nat → Nat → List (Nat × Nat × Nat) := fun l pos => if l = n ∧ d.dstCt ≠ 0 ∧ !isLower fmt d.dstCt pos then [(pos % 2 ^ 24, d.dstCt, f)] else []
    one d.dstLine d.dstPos ++ (if d.bridge then one d.dst2Line d.dst2Pos else []))

/-- The lowest slot of a mask. -/
def lowSlot (m : Nat) : Nat := ((bitList 24 m).head?).getD 0

/-- The SLOT_MAP messages that a commit of plane `p` calls for on line `n`: groups new or changed, and slots freed. -/
def State.slotMaps (s : State) (p n : Nat) : List PeerMsg :=
  let new := s.slotGroups p (s.active p) n
  let old := s.slotGroups p (1 - s.active p) n
  let used := new.foldl (fun m g => m ||| g.1) 0
  let freed := (old.map (fun g => g.1 - (g.1 &&& used))).filter (· != 0)
  freed.map (fun m => ⟨0xA0, 0, lowSlot m, m, 0⟩)
    ++ (new.filter (fun g => !old.contains g)).map (fun g => ⟨0xA0, 0, lowSlot g.1, g.1 + g.2.1 * 2 ^ 24, g.2.2 * 2 ^ 32⟩)

/-- After a commit firmware sends the SLOT_MAP messages of every Mehrax line (R169). -/
def State.sendSlotMaps (s : State) (p : Nat) : State :=
  if !s.berentDuty then s
  else ((s.planeLines p).filter (fun n => isMxf (s.format n))).foldl (fun s n => (s.slotMaps p n).foldl (fun s m => s.pmcRequest n m) s) s

/-- The commit completes (R195); firmware acts once, in Twin for the plane with the lower number that runs. -/
def State.commitDone (s : State) (p : Nat) : State :=
  let s := (s.setB (Fld.MAP_EPOCH_STATUS_COMMIT_BUSY p) false).raise (Fld.MAP_EPOCH_STATUS_DONE_EV p)
  let s := (s.add (Fld.MAP_EPOCH_STATUS_COMMIT_CNT p) 1).modPlane p (fun pl => { pl with committed := true })
  if s.twin && p != (s.runPlanes 0).headD 0 then s else s.sendSlotMaps p

/-- The commit completes once every side of every line of the plane has switched (R195). -/
def State.commitCheck (s : State) (p : Nat) : State :=
  let all := s.planeLines p
  if s.committing p && all.all (fun n => (s.plane p).rxDone.testBit n && (s.plane p).txDone.testBit n) then s.commitDone p else s

/-- A commit request in plane `p`: accepted while CHECKED = 1 and no commit is in progress, else refused (R191). Lines
that doze or have no format switch at once (R192). -/
def State.commitPlane (s : State) (p : Nat) : State :=
  if !s.flag (Fld.MAP_EPOCH_STATUS_CHECKED p) || s.committing p then s.raise (Fld.MAP_EPOCH_STATUS_COMMIT_REF_EV p)
  else
    let old := s.active p
    let before := s.flowsOf p old
    let s := (s.set (Fld.MAP_EPOCH_STATUS_ACTIVE p) (1 - old)).raise (Fld.MAP_EPOCH_STATUS_COMMIT_BUSY p)
    let s := s.setB (Fld.MAP_EPOCH_STATUS_CHECKED p) false
    let s : State := [0, 1, 2].foldl (fun s r => s.set (Fld.MAP_EPOCH_FORCED_LINES p r) 0) s
    let added := (s.flowsOf p (1 - old)).filter (fun f => (s.desc p (1 - old) f).isPacket && !(s.desc p old f).isPacket)
    let s : State := added.foldl (fun s q =>
      (((s.qset p q 0x08 0).qset p q 0x0C 0).qset p q 0x10 0).modFlow p q (fun c => { c with queue := [] })) s
    let s := s.modPlane p (fun pl => { pl with
      rxDone := 0, txDone := 0, crcActive := s.get (Fld.MAP_EPOCH_CRC_CRC p)
      removed := before.filter (fun f => (s.desc p old f).isPacket && !(s.desc p (1 - old) f).isPacket) })
    let s : State := (s.changedFlows p).foldl (fun s f => s.flowSuspect p f) s
    let s : State := ((s.planeLines p).filter (fun n => s.format n == 0 || s.lineDozes n)).foldl (fun s n =>
      (s.switchSide p n .receive).switchSide p n .transmit) s
    s.commitCheck p

/-- EPOCH_COMMIT: in Twin a pair written to the set of a plane that is not OFF commits both planes (R197, R200); an accepted one
enters the stream as a COMMIT marker (R265). -/
def State.epochCommit (s : State) (p : Nat) : State :=
  s.onSpine fun s =>
    let taken := s.flag (Fld.MAP_EPOCH_STATUS_CHECKED p) && !s.committing p
    (s.writePlanes p).foldl State.commitPlane (s.planeMark (if taken then .commit else .write) p)

/-- EPOCH_SIDE_SWITCH: a side reaches its boundary (R192). -/
def State.sideSwitch (s : State) (n : Nat) (d : Side) : State :=
  s.onLinePlanes n fun s p => s.when (s.committing p) fun s => (s.switchSide p n d).commitCheck p

/-- 256 µs after acceptance every side that has not switched switches (R195). -/
def State.forceSides (s : State) (p : Nat) : State :=
  let late := (s.planeLines p).filter (fun n => !((s.plane p).rxDone.testBit n && (s.plane p).txDone.testBit n))
  let s : State := late.foldl (fun s n =>
    let s := s.orBits (Fld.MAP_EPOCH_FORCED_LINES p (n / 32)) (2 ^ (n % 32))
    ((s.switchSide p n .receive).switchSide p n .transmit).raise (Fld.MAP_EPOCH_STATUS_FORCED_EV p)) s
  s.commitDone p

/-- EPOCH_COMMIT_FORCE. -/
def State.commitForce (s : State) (p : Nat) : State :=
  s.onPlanes p fun s p => s.when (s.committing p) fun s => s.forceSides p

/-- A line that comes to doze during a commit switches at once (R192, R199). -/
def State.dozeSwitch (s : State) (n : Nat) : State :=
  if !s.lineDozes n then s
  else s.onLinePlanes n fun s p => s.when (s.committing p) fun s =>
    ((s.switchSide p n .receive).switchSide p n .transmit).commitCheck p

/-- EPOCH_COMMIT (R191): a completed guarded pair to MAP_EPOCH_COMMIT of plane `p`. -/
def execEpochCommit (p : PlaneNo) (s : State) : Host.Outcome State Fault Refusal := done (s.epochCommit p.val)

/-- EPOCH_SIDE_SWITCH (R192). -/
def execEpochSideSwitch (n : LineNo) (d : Side) (s : State) : Host.Outcome State Fault Refusal := done (s.sideSwitch n.val d)

/-- EPOCH_COMMIT_FORCE (R195). -/
def execEpochCommitForce (p : PlaneNo) (s : State) : Host.Outcome State Fault Refusal := done (s.commitForce p.val)

/-- DOZE_ENTRY_COMPLETE (R52, R192). -/
def execDozeEntryComplete (n : LineNo) (s : State) : Host.Outcome State Fault Refusal :=
  done (((s.dozeEntryComplete n.val).dozeSwitch n.val).lineTiming n.val)

end Sys2Proof.Machine
end

