-- ==== Sys2Proof/Machine/Bar2.lean ====
section
/-! DEFINITION. The BAR2 spaces as an access meets them (R403, R405): what a read shows, what a write changes, and the accesses
that fit no rule (R406). -/

namespace Sys2Proof.Machine

/-- The plane or half that a BAR2 address belongs to, where it is one that can lose its power. -/
def bar2Half (a : Nat) : Option Nat :=
  if 0x1000000 ≤ a ∧ a < 0x3000000 then some (a / 0x800000 % 2)
  else if 0x3000000 ≤ a ∧ a < 0x3300000 then some (halfOf ((a - 0x3000000) / 0x8000))
  else none

/-- The address lies in a window of Table 14.3, outside its reserved ranges (R135, R183, R225). -/
def bar2Known (a : Nat) : Bool :=
  if a < 0x100000 then true
  else if a < 0x1000000 then false
  else if a < 0x2000000 then decide (a % 0x800000 < 0x5A0000)
  else if a < 0x3000000 then
    let o := a % 0x800000
    decide (o < 0x644800) || decide (0x650000 ≤ o ∧ o < 0x650800) || decide (0x660000 ≤ o ∧ o < 0x670000)
  else if a < 0x3300000 then decide (a % 0x8000 < 0x6000)
  else decide (a < 0x3340000)

/-- The byte that a read of a BAR2 address shows (R403, R405, R469): all ones during the 100 µs of a chip reset and for an unpowered
half, zero for one that the variant lacks and for reserved locations; a flow PM word with its SSF. -/
def State.bar2See (s : State) (a : Nat) : Byte :=
  if !s.spineOn then 0xFF
  else if !bar2Known a then 0
  else if (bar2Half a).any (fun p => !s.hasHalf p) then 0
  else if (bar2Half a).any (fun p => !s.halfOn p) then 0xFF
  else if 0x2000000 ≤ a ∧ a < 0x3000000 ∧ 0x600000 ≤ a % 0x800000 ∧ a % 0x800000 < 0x640000 then
    let o := a % 0x800000 - 0x600000
    BitVec.ofNat 8 (s.flowWord (a / 0x800000 % 2) (o / 4) / 256 ^ (o % 4))
  else s.bar2Byte a

/-- A word written to the PM space at sub-offset `o` of plane `p` (Tables 7.7, 7.9, 7.11). -/
def State.pmWord (s : State) (p o v : Nat) : State :=
  let a := pmBase p + o
  if 0x600000 ≤ o ∧ o < 0x640000 then s.putBar2Num a 4 (putBits (s.bar2Num a 4) 0 7 v)
  else if 0x650000 ≤ o ∧ o < 0x650800 then
    let k := o % 128
    if k < 0x40 then s.putBar2Num a 4 v
    else if k = 0x40 then s.putBar2Num a 4 (putBits (putBits 0 0 7 v) 8 4 (v / 256))
    else s
  else s

/-- A write of whole words to the PM space, in every plane that it reaches (R225). -/
def State.pmWrite (s : State) (a : Nat) (bs : List Byte) : State :=
  s.onWrite (a / 0x800000 % 2) fun s p => (wordsOf (a % 0x800000) bs).foldl (fun s w => s.pmWord p w.1 w.2) s

/-- A write to the capture window: the insertion buffers of powered lines take it (R135, R136). -/
def State.captureWrite (s : State) (a : Nat) (bs : List Byte) : State :=
  let n := (a - 0x3000000) / 0x8000
  if a < 0x3300000 ∧ 0x4000 ≤ a % 0x8000 ∧ a % 0x8000 + bs.length ≤ 0x6000 then s.onLine n fun s => s.putBar2 a bs else s

/-- A write of bytes that a window accepts (R403). -/
def State.bar2Write (s : State) (a : Nat) (bs : List Byte) : State :=
  if a + bs.length ≤ 0x100000 then s.putBar2 a bs
  else if 0x1000000 ≤ a ∧ a < 0x2000000 then s.tableWrite (a - 0x1000000) bs
  else if 0x2000000 ≤ a ∧ a < 0x3000000 then s.pmWrite a bs
  else if 0x3000000 ≤ a ∧ a < 0x3400000 then s.captureWrite a bs
  else s

/-- The sizes and alignments that Table 14.3 allows at a BAR2 address; reserved ranges take any. -/
def bar2SizeOk (a n : Nat) : Bool :=
  if a < 0x100000 then decide (1 ≤ n ∧ n ≤ 256 ∧ a % 0x1000 + n ≤ 0x1000)
  else if (0x1000000 ≤ a ∧ a < 0x3400000) then (n == 4 || n == 8) && a % n == 0
  else true

/-- An access that fits no rule of size or alignment: counted, recorded, without effect (R406). -/
def State.badAccess (s : State) (bar2 : Bool) (offset : Nat) (write : Bool) (size : Nat) : State :=
  let s := (s.add Fld.GLB_ACC_STATUS_ACC_CNT 1).raise Fld.GLB_ACC_STATUS_BAD_ACC_EV
  let s := (s.set Fld.GLB_ACC_LAST_OFFSET offset).setB Fld.GLB_ACC_LAST_BAR2 bar2
  ((s.setB Fld.GLB_ACC_LAST_WRITE write).set Fld.GLB_ACC_LAST_SIZE (min size 15)).happen 601

end Sys2Proof.Machine
end

