-- ==== Sys2Proof/Machine/LongOp.lean ====
section
/-! DEFINITION. Long operations (R388 to R390): the MBX_OP table, progress, the end of an operation. -/

namespace Sys2Proof.Machine

/-- The operation in entry `k`. -/
def State.op (s : State) (k : Nat) : Option LongOp := s.mbx.ops.getD k none

/-- The state with an entry replaced. -/
def State.putOp (s : State) (k : Nat) (o : Option LongOp) : State := { s with mbx := { s.mbx with ops := putD none s.mbx.ops k o } }

/-- The entries whose operation has an opcode. -/
def State.opsOf (s : State) (opcode : Nat) : List Nat :=
  (List.range 8).filter (fun k => (s.op k).any (fun o => o.cmd.opcode == opcode))

/-- The first free entry. -/
def State.opFree (s : State) : Option Nat := (List.range 8).find? (fun k => (s.op k).isNone)

/-- An operation starts in entry `k` (R388). -/
def State.opStart (s : State) (k : Nat) (o : LongOp) : State :=
  let s := ((s.putOp k (some o)).set (Fld.MBX_OP_ID_OPCODE k) o.cmd.opcode).set (Fld.MBX_OP_ID_TAG k) o.cmd.tag
  let s := (s.set (Fld.MBX_OP_PROG_PCT k) 0).set (Fld.MBX_OP_PROG_RING k) o.cmd.ring.val
  ((s.set (Fld.MBX_OP_PROG_SLOT k) o.cmd.slot).set (Fld.MBX_OP_POS_V k) 0).raise (Fld.MBX_OP_PROG_ACTIVE k)

/-- A PROGRESS event of entry `k` (Table 13.7), for a command that asked for it. -/
def State.opEvent (s : State) (k : Nat) (o : LongOp) : State :=
  if o.auto || !o.cmd.prog then s
  else
    let pct := s.get (Fld.MBX_OP_PROG_PCT k)
    let s := s.putOp k (some { o with lastPct := pct })
    s.postEvent 0x0002 o.cmd.tag (leBytes 2 o.cmd.opcode ++ leBytes 1 k ++ leBytes 1 0 ++ leBytes 2 pct ++ leBytes 2 0
      ++ leBytes 4 (s.get (Fld.MBX_OP_POS_V k)))

/-- An operation advances to `pct` and `pos`; a PROGRESS event follows once PCT has advanced by 100 (R388). -/
def State.opAdvance (s : State) (k pct pos : Nat) : State :=
  match s.op k with
  | none => s
  | some o =>
    let s := (s.set (Fld.MBX_OP_PROG_PCT k) pct).set (Fld.MBX_OP_POS_V k) pos
    if o.lastPct + 100 ≤ pct then s.opEvent k o else s

/-- An operation ends: the last PROGRESS event, the answer in its slot, then ACTIVE clears (R388). -/
def State.opEnd (s : State) (k status : Nat) (payload : List Byte) : State :=
  match s.op k with
  | none => s
  | some o =>
    let s := s.opEvent k o
    let s := if o.auto then s else s.answer o.cmd status payload
    (s.putOp k none).setB (Fld.MBX_OP_PROG_ACTIVE k) false

end Sys2Proof.Machine
end

