-- ==== Sys2Proof/Machine/Map.lean ====
section
/-! DEFINITION. The sinks of containers (chapter 6): pointers (R161), the TUs of a structured VC-4 (R160), Mehrax GMP
(R166, R167), the GMP of ODTU2.ts (R164), and the way of their bytes to the destinations of a flow (R155, R193). -/

namespace Sys2Proof.Machine

/-! ## Delivery -/

/-- Container bytes reach the staging stores of the destinations that take them; `ahead` bytes follow before the next frame of
the container starts. -/
def State.deliver (s : State) (p f : Nat) (bytes : List Byte) (ahead : Nat) : State :=
  ((s.flowDests p f).filter (fun x => s.takesAt p f (s.unitTag p f) x.line)).foldl (fun s x =>
    s.modGen p f x.k (fun g => { g with stage := g.stage ++ bytes, ahead := ahead })) s

/-! ## Sources of a flow's bytes -/

/-- The structured sink whose VC-4 holds the source position of a flow on line `n` (R160). -/
def State.structSink (s : State) (p n : Nat) (d : Desc) : Option Nat :=
  let fmt := s.format n
  (s.flowsOf p (s.rxEpoch p n)).find? (fun g =>
    let x := s.desc p (s.rxEpoch p n) g
    x.struct && x.srcCt == 3 && s.srcLineOf p x == n && upperOf fmt (s.srcPosOf p x) == upperOf fmt (s.srcPosOf p d))

/-! ## Pointers -/

/-- The largest value of a pointer by its container: AU-4, TU-3, TU-12 (G.707). -/
def ptrMax (ct : Nat) : Nat := if ct = 1 then 139 else if ct = 2 then 764 else 782

/-- NDF of a pointer word enabled, or normal: 1001 or 0110 in at least 3 of 4 bits (G.783). -/
def ndfEnabled (w : Nat) : Bool := decide (popCount 4 ((w / 4096) ^^^ 9) ≤ 1)
def ndfNormal (w : Nat) : Bool := decide (popCount 4 ((w / 4096) ^^^ 6) ≤ 1)

/-- Inversion of the I bits, or of the D bits, in at least 8 of the 10 bits (R161). -/
def isInc (cur v : Nat) : Bool := decide (popCount 10 ((cur ^^^ v) ^^^ 0x2AA) ≤ 2)
def isDec (cur v : Nat) : Bool := decide (popCount 10 ((cur ^^^ v) ^^^ 0x155) ≤ 2)

/-- An invalid pointer or indication. -/
def PtrCtx.invalid (c : PtrCtx) : PtrCtx :=
  let k := c.inv + 1
  { c with inv := k, ndf := 0, due := if 8 ≤ k ∧ c.st ≠ 2 then some 2 else none }

/-- An AIS pointer or indication. -/
def PtrCtx.takeAis (c : PtrCtx) : PtrCtx :=
  let k := c.ais + 1
  { c with ais := k, eqRun := 0, inv := 0, ndf := 0, due := if 3 ≤ k ∧ c.st ≠ 1 then some 1 else none }

/-- One received pointer into the interpreter (R161, G.783). An adjustment counts only where none and no NDF lies in the three
frames before it. -/
def PtrCtx.take (c : PtrCtx) (mx w : Nat) : PtrCtx :=
  let v := w % 1024
  let st := c.st
  let free := decide (4 ≤ c.since + 1)
  let c := { c with due := none, adj := 0, since := min 4 (c.since + 1) }
  if w = 0xFFFF then c.takeAis
  else
    let c := { c with ais := 0 }
    if ndfEnabled w ∧ v ≤ mx then
      let k := c.ndf + 1
      let c := { c with val := v, ndf := k, inv := 0, eqRun := 0, since := 0 }
      if 8 ≤ k ∧ st ≠ 2 then { c with due := some 2 } else if st = 1 then { c with due := some 0 } else c
    else if ndfNormal w ∧ v ≤ mx ∧ v = c.val ∧ st = 0 then { c with eqRun := 0, inv := 0, ndf := 0 }
    else
      let run := if ndfNormal w ∧ v ≤ mx then (if c.eqVal = v ∧ c.eqRun ≠ 0 then c.eqRun + 1 else 1) else 0
      let c := { c with eqVal := v, eqRun := run }
      if 3 ≤ run then
        { c with val := v, inv := 0, ndf := 0, eqRun := 0, due := if st = 0 then none else some 0 }
      else if st = 0 ∧ free ∧ ndfNormal w ∧ isInc c.val v then
        { c with val := if c.val = mx then 0 else c.val + 1, inv := 0, ndf := 0, adj := 1, since := 0 }
      else if st = 0 ∧ free ∧ ndfNormal w ∧ isDec c.val v then
        { c with val := if c.val = 0 then mx else c.val - 1, inv := 0, ndf := 0, adj := 2, since := 0 }
      else c.invalid

/-- One concatenation indication into its own interpreter, whose NORM is the concatenated state (G.783). -/
def PtrCtx.takeConc (c : PtrCtx) (w : Nat) : PtrCtx :=
  let c := { c with due := none }
  if w = 0xFFFF then c.takeAis
  else
    let c := { c with ais := 0 }
    if ndfEnabled w ∧ w % 1024 = 1023 then
      let k := c.eqRun + 1
      { c with eqRun := k, inv := 0, due := if 3 ≤ k ∧ c.st ≠ 0 then some 0 else none }
    else { c with eqRun := 0 }.invalid

/-- A state change that the counts of an interpreter call for. -/
def PtrCtx.move (c : PtrCtx) : PtrCtx :=
  match c.due with
  | none => c
  | some st => { c with st := st, due := none, inv := 0, ndf := 0, ais := 0, eqRun := 0 }

/-- The state of an AU-4-nc from its pointer and its concatenation indications: NORM or AIS where all agree, else LOP (G.783). -/
def ptrState (c : PtrCtx) (l : List PtrCtx) : Nat :=
  if l.all (fun x => x.st == c.st) then c.st else 2

/-- How the bytes of a container lie around its pointer: bytes of a frame, of them those before the point that a pointer counts
from and before the opportunity for justification, the justification unit, the largest pointer value (G.707). -/
structure PtrDims where
  len : Nat
  ref : Nat
  opp : Nat
  unit : Nat
  mx : Nat
  deriving DecidableEq, Repr

/-- The dimensions by the container type: AU-4 or AU-4-nc, TU-3, TU-12 over its multiframe. -/
def ptrDims (ct : Nat) : PtrDims :=
  match baseCt ct with
  | 1 => ⟨140, 35, 70, 1, 139⟩
  | 2 => ⟨765, 170, 170, 1, 764⟩
  | _ => let w := auWidth ct; ⟨2349 * w, 783 * w, 783 * w, 3 * w, 782⟩

/-- The container bytes of a frame by the adjustment of its pointer, and the bytes from their end to the next container frame. -/
def ptrBytes (x : PtrDims) (c : PtrCtx) (h3 pay : List Byte) : List Byte × Nat :=
  let pre := pay.take x.opp
  let post := pay.drop x.opp
  let bytes := if c.adj = 1 then pre ++ post.drop x.unit else if c.adj = 2 then pre ++ h3 ++ post else pre ++ post
  let old := if c.adj = 1 then (c.val + x.mx) % (x.mx + 1) else if c.adj = 2 then (c.val + 1) % (x.mx + 1) else c.val
  (bytes, (old * x.unit + 2 * x.len - (bytes.length - x.ref)) % x.len)

/-- The pointer or GMP state of a flow's sink. RX_ST shows it, but at a GFP-F sink the delineation state (log entry 36). -/
def State.setSt (s : State) (p f st : Nat) (d : Desc) : State :=
  let s := s.modFlow p f (fun c => { c with st := st })
  if d.isPacket then s else s.fset p f FS.rxSt st

/-- Bytes of the VC-4 that a structured sink terminates (R160): the frame that they complete, with the H4 of the frame before
it. -/
def FlowCtx.takeVc4 (c : FlowCtx) (bytes : List Byte) (ahead : Nat) : FlowCtx :=
  let all := c.vcBuf ++ bytes
  let part := (2349 - ahead % 2349) % 2349
  let cut := all.length - part
  if cut < 2349 ∨ all.length < part then { c with vcBuf := all.drop (all.length - 2349 - part) }
  else { c with
    vcBuf := all.drop cut, vcFrame := (all.drop (cut - 2349)).take 2349, frames := c.frames + 1
    h4 := (c.vcFrame.getD (5 * 261) 0).toNat }

/-- Container bytes of flow `f` at its sink: a structured sink takes the VC-4 apart, a circuit flow carries them to its
destinations; a packet end terminates the container, whose GFP frames come with GFP_FRAME_RX. -/
def State.containerIn (s : State) (p f : Nat) (d : Desc) (bytes : List Byte) (ahead : Nat) : State :=
  if d.struct then s.modFlow p f (fun c => c.takeVc4 bytes ahead)
  else if d.isPacket then s
  else s.deliver p f bytes ahead

/-- A pointer with the container bytes of its frame at the sink of flow `f`. -/
def State.ptrIn (s : State) (p f : Nat) (d : Desc) (words : List Nat) (h3 pay : List Byte) : State :=
  let x := ptrDims d.srcCt
  let s := s.modFlow p f (fun c => { c with
    ptr := c.ptr.take x.mx (words.headD 0)
    conc := (List.range (words.length - 1)).map (fun i => (c.conc.getD i PtrCtx.reset).takeConc (words.getD (i + 1) 0)) })
  let c := s.flow p f
  let s := s.fset p f FS.rxPtr c.ptr.val
  if c.st = 0 then
    let r := ptrBytes x c.ptr h3 pay
    s.containerIn p f d r.1 r.2
  else s

/-- One TU-12 unit of 36 bytes, the byte V1 to V4 first; with the fourth of a multiframe the pointer V1, V2 is interpreted. -/
def State.tu12In (s : State) (p f : Nat) (d : Desc) (phase : Nat) (u : List Byte) : State :=
  let old := (s.flow p f).v1
  let buf := if phase = 0 then u else if old.length = 36 * phase then old ++ u else []
  if buf.length < 144 then s.modFlow p f (fun c => { c with v1 := buf })
  else
    let v := fun i => (buf.getD (36 * i) 0).toNat
    (s.modFlow p f (fun c => { c with v1 := [] })).ptrIn p f d [v 0 * 256 + v 1] [buf.getD 72 0] (pickChunks 36 1 35 4 buf)

/-- POINTER_RX (R161): the pointer at flow `f`'s source position, with the container bytes of the frame, in the last frame of its
line, or of its VC-4, that the sink has not taken. -/
def State.pointerRx (s : State) (p f : Nat) : State :=
  s.onPlanes p fun s p =>
    let (d, n) := s.rxSide p f
    let fmt := s.format n
    let pos := s.srcPosOf p d
    s.when (d.valid && isVc d.srcCt && s.inFrame n) fun s =>
      if isLower fmt d.srcCt pos then
        match s.structSink p n d with
        | none => s
        | some g =>
          let x := s.flow p g
          let (l, m, t) := lmtOf fmt pos
          let tug := tug3Of (l - 1) x.vcFrame
          s.when (x.frames != (s.flow p f).seen) fun s =>
            let s := s.modFlow p f (fun c => { c with seen := x.frames })
            if baseCt d.srcCt = 2 then
              let (w, h3, pay) := tu3Of tug
              s.ptrIn p f d [w] [h3] pay
            else s.tu12In p f d (x.h4 % 4) (tu12Of (m - 1) (t - 1) tug)
      else match (s.ohp n).rx with
        | some (.sdh fr) => s.when (isStm fmt && (s.ohp n).frames != (s.flow p f).seen) fun s =>
          let s := s.modFlow p f (fun c => { c with seen := (s.ohp n).frames })
          let k := stmN fmt
          let (ptrs, h3) := auPtrs k (pos % 128 - 1) (auWidth d.srcCt) fr
          s.ptrIn p f d ptrs h3 (auPay k (pos % 128 - 1) (auWidth d.srcCt) (sdhPay k fr))
        | _ => s

/-- The interpreters take the states that their counts call for; a source that leaves AIS or LOP starts a new pointer at the
destinations (R161, R162). -/
def State.pointerStateChange (s : State) (p f : Nat) : State :=
  s.onPlanes p fun s p =>
    s.when ((s.flow p f).ptr.due.isSome || (s.flow p f).conc.any (fun c => c.due.isSome)) fun s =>
      let s := s.modFlow p f (fun c => { c with ptr := c.ptr.move, conc := c.conc.map PtrCtx.move })
      let c := s.flow p f
      let st := ptrState c.ptr c.conc
      if st = c.st then s
      else
        let s := s.setSt p f st (s.rxSide p f).1
        if st = 0 then s.modFlow p f (fun c => { c with gens := c.gens.map (fun g => { g with newPtr := true }) })
        else s

/-! ## Mehrax GMP sink -/

/-- Client positions of a k-slot group, P = 8 × (85k − 1) (R166). -/
def gmpP (k : Nat) : Nat := 8 * (85 * k - 1)

/-- Position j carries a client byte: (j × C8) mod P < C8 (R166). -/
def gmpIsClient (p c8 j : Nat) : Bool := decide ((j * c8) % p < c8)

/-- Slots of a position's mask. -/
def maskSlots (pos : Nat) : Nat := popCount 24 pos

/-- The client bytes that the positions of a frame carry, from position `j` on. -/
def gmpTake (p c8 : Nat) : Nat → List Byte → List Byte
  | _, [] => []
  | j, b :: t => if gmpIsClient p c8 j then b :: gmpTake p c8 (j + 1) t else gmpTake p c8 (j + 1) t

/-- The positions of a frame filled from client bytes, a stuff byte 0x00 elsewhere. -/
def gmpPlace (p c8 j : Nat) : Nat → List Byte → List Byte
  | 0, _ => []
  | n + 1, bs =>
    if gmpIsClient p c8 j then bs.headD 0 :: gmpPlace p c8 (j + 1) n (bs.drop 1) else 0 :: gmpPlace p c8 (j + 1) n bs

/-- Bytes of a VC frame; of an ODU frame. -/
def vcFrame (ct : Nat) : Nat :=
  match baseCt ct with
  | 1 => 140
  | 2 => 765
  | 3 => 2349
  | 4 => 4 * 2349
  | 5 => 16 * 2349
  | 6 => 64 * 2349
  | _ => oduBytes

/-- The next VC frame start after a frame of `c8` bytes, from a start at `v` (R167). -/
def carryStart (len c8 v : Nat) : Nat := if c8 ≤ v then v - c8 else (len - (c8 - v) % len) % len

/-- The words of the slot group that is the source of a flow, in the order of R104, from the last frame of its line, or from the
last output frame of its merge group; whether that frame repeats; its count; whether words of it are errored. A slot that
SLOT_USED does not mark is ignored (R105). -/
def State.groupIn (s : State) (p n : Nat) (d : Desc) : List Word64 × Bool × Nat × Bool :=
  let mask := s.srcPosOf p d % 2 ^ 24
  let m := (s.line n).mxf
  if d.srcPg ∧ d.srcLine < 0x100 then
    let g := (s.plane p).mgs.getD d.srcLine MGroup.reset
    (g.output, false, g.frames, g.bad)
  else (if m.slotUsed &&& mask = mask then slotWords mask m.payload else [], m.prev.any (fun x => x.rpt), m.frames, m.marked != 0)

/-- The bytes of an ODU through the alignment, its PM field generated anew (R123): TTI, BIP-8 and the third byte. -/
def OduCtx.byte (c : OduCtx) (tti : Nat → Option Byte) (st : Byte) (b : Byte) : Byte × OduCtx :=
  let tail := (c.tail ++ [b]).drop ((c.tail ++ [b]).length - 6)
  match c.pos with
  | none => (b, { c with tail := tail, pos := if tail = otuFas then some 6 else none, bad := 0, run := 0, bips := [] })
  | some i =>
    let col := i % oduCols
    let new := if i = 2 * oduCols + 9 then (tti (c.mfas % 64)).getD b
      else if i = 2 * oduCols + 10 then c.bips.headD b
      else if i = 2 * oduCols + 11 then st
      else b
    let bad := if i ≠ 5 then c.bad else if tail = otuFas then 0 else c.bad + 1
    let run := if 14 ≤ col then c.run ^^^ new else c.run
    let c := { c with tail := tail, bad := bad, mfas := if i = 6 then b.toNat else c.mfas, run := run }
    if 5 ≤ bad then (b, { c with pos := none })
    else if i + 1 < oduBytes then (new, { c with pos := some (i + 1) })
    else (new, { c with pos := some 0, run := 0, bips := (c.bips ++ [run]).drop ((c.bips ++ [run]).length - 2) })

/-- A string of an ODU's bytes. -/
def OduCtx.bytes (tti : Nat → Option Byte) (st : Byte) : OduCtx → List Byte → List Byte × OduCtx
  | c, [] => ([], c)
  | c, b :: t =>
    let (x, c) := c.byte tti st b
    let (xs, c) := OduCtx.bytes tti st c t
    (x :: xs, c)

/-- The third byte of a PM, SM or TCM field: BEI, BDI, and STAT in bits 2 to 0. -/
def oduStat (bei : Nat) (bdi : Bool) (stat : Nat) : Byte := BitVec.ofNat 8 (bei * 16 + b2n bdi * 8 + stat)

/-- The flow whose sink lies where a destination lies: line and position are the same (R208). -/
def State.backFlow (s : State) (p n pos : Nat) : Option Nat :=
  (s.flowsOf p (s.rxEpoch p n)).find? (fun g =>
    let x := s.desc p (s.rxEpoch p n) g
    x.srcCt != 0 && s.srcLineOf p x == n && s.srcPosOf p x == pos)

/-- RDI that a source at a destination sends: its sink terminates or monitors the path there and has SSF (R208). -/
def State.pathRdi (s : State) (p n pos : Nat) : Bool :=
  (s.backFlow p n pos).any (fun g =>
    let d := (s.rxSide p g).1
    (d.terminates || baseCt d.srcCt == 0x10 || baseCt d.srcCt == 0x11) && s.flowSsf p g)

/-- REI or BEI that a source sends, at most `cap`: violations of its sink's path not yet sent (R212). -/
def State.takeRei (s : State) (p n pos cap : Nat) : Nat × State :=
  match s.backFlow p n pos with
  | none => (0, s)
  | some g =>
    let v := min cap (s.flow p g).reiDue
    (v, s.modFlow p g (fun c => { c with reiDue := c.reiDue - v }))

/-- The transmit trace of a flow's trace set (R183), empty where the flow uses none. -/
def State.pathTrace (s : State) (p : Nat) (d : Desc) : List Byte :=
  if d.traceEn then s.bar2Bytes (traceAddr p d.traceIdx + 128) 64 else []

/-- Bytes of an ODU reach the destinations with the PM field of each flow's source (R123, R164). -/
def State.oduIn (s : State) (p f : Nat) (d : Desc) (bytes : List Byte) : State :=
  match (s.flowDests p f).head? with
  | none => s
  | some x =>
    let (bei, s) := s.takeRei p x.line x.pos 8
    let tr := s.pathTrace p d
    let (out, c) := OduCtx.bytes (fun i => tr[i]?) (oduStat bei (s.pathRdi p x.line x.pos) 1) (s.flow p f).odu bytes
    (s.modFlow p f (fun z => { z with odu := c })).deliver p f out (match c.pos with
      | some i => (oduBytes - i) % oduBytes
      | none => 0)

/-- A received error of flow `f`: an errored block of its path (R36, R248, Table 3.7). -/
def State.flowErrored (s : State) (p f : Nat) : State := s.accBlocks p (flowRec p f) 1 0

/-- Client bytes at a sink that finds them by GMP. -/
def State.clientIn (s : State) (p f : Nat) (d : Desc) (bytes : List Byte) (ahead : Nat) : State :=
  let s := s.modFlow p f (fun c => { c with client := bytes })
  if isVc d.srcCt || d.isPacket then s.containerIn p f d bytes ahead else s.oduIn p f d bytes

/-- GMP_CONTROL_WORD_RX: the group that is flow `f`'s source in the last frame that its sink has not taken; nothing is taken
from a frame with RPT = 1 (R167). -/
def State.gmpRx (s : State) (p f : Nat) : State :=
  s.onPlanes p fun s p =>
    let (d, n) := s.rxSide p f
    let k := maskSlots (s.srcPosOf p d)
    let pp := gmpP k
    let (words, rpt, count, bad) := s.groupIn p n d
    let bs := words.flatMap wordBytes
    s.when (d.valid && d.srcCt != 0x30 && isMxf (s.format n) && !isLower (s.format n) d.srcCt d.srcPos && s.inFrame n
        && bs.length == pp + 8 && count != (s.flow p f).seen) fun s =>
      let s := s.modFlow p f (fun c => { c with seen := count })
      let s := if bad then s.flowErrored p f else s
      if rpt then s.modFlow p f (fun c => { c with client := [] })
      else
        let cw := bs.take 8
        let c8 := beNat (cw.take 2)
        let vcp := beNat ((cw.drop 2).take 2)
        let len := vcFrame d.srcCt
        if crc8Of (cw.take 7) = (byteAt cw 7) ∧ c8 ≤ pp then
          let s := (s.fset p f FS.rxPtr c8).setSt p f 0 d
          let s := s.modFlow p f (fun c => { c with
            c8 := c8, cwRun := 0
            vcNext := if vcp = 0xFFFF then c.vcNext.map (carryStart len c8) else some (carryStart len c8 vcp) })
          s.clientIn p f d (gmpTake pp c8 1 (bs.drop 8)) ((s.flow p f).vcNext.getD 0)
        else
          let s := s.modFlow p f (fun c => { c with
            cwRun := c.cwRun + 1, cwErrs := c.cwErrs + 1, vcNext := c.vcNext.map (carryStart len c.c8) })
          if (s.flow p f).st = 1 then s.modFlow p f (fun c => { c with client := [] })
          else s.clientIn p f d (gmpTake pp (s.flow p f).c8 1 (bs.drop 8)) ((s.flow p f).vcNext.getD 0)

/-! ## ODTU2.ts sink -/

/-- The last tributary slot of a mask. -/
def lastSlot (mask : Nat) : Nat := ((bitList 8 mask).getLast?).getD 0

/-- One OTU2 frame at the sink of an ODU flow in tributary slots (R164): payload of the slots by the multiframe, the justification
control in the overhead of the last slot, and at the end of the multiframe its client bytes. -/
def State.slotsIn (s : State) (p f : Nat) (d : Desc) (fr : List Byte) : State :=
  let mask := s.srcPosOf p d % 256
  let ts := popCount 8 mask
  let opu := opuOf otuCols fr
  let i := (fr.getD 6 0).toNat % 8
  let jc := [opu.getD 1 0, opu.getD 3811 0, opu.getD 7621 0]
  let s := s.modFlow p f (fun c =>
    let buf := slotBytes mask opu
    let cm := if i = lastSlot mask then (cmOf c.cm jc).getD c.cm else c.cmNext
    { c with slots := if i = 0 then buf else if c.slots.length = 1904 * ts * i then c.slots ++ buf else [], cmNext := cm })
  if i ≠ 7 then s
  else
    let c := s.flow p f
    let s := (s.modFlow p f (fun c => { c with slots := [], cm := c.cmNext })).fset p f FS.rxPtr c.cmNext
    if c.slots.length = 15232 * ts then s.clientIn p f d (odtuTake ts c.cm 15232 1 c.slots) 0 else s

/-- The ODU flows that an OTU2 line carries take its last frame. -/
def State.slotsRx (s : State) (n : Nat) : State :=
  match (s.ohp n).rx with
  | some (.otu fr) => s.when (s.format n == 0x0B && s.inFrame n) fun s =>
    s.onLinePlanes n fun s p =>
      ((s.flowsOf p (s.rxEpoch p n)).filter (fun f =>
        let d := s.desc p (s.rxEpoch p n) f
        d.srcCt != 0 && s.srcLineOf p d == n)).foldl (fun s f =>
          if (s.flow p f).seen = (s.ohp n).frames then s
          else (s.modFlow p f (fun c => { c with seen := (s.ohp n).frames })).slotsIn p f (s.desc p (s.rxEpoch p n) f) fr) s
  | _ => s

/-! ## Meanings -/

/-- OHP_FRAME_RX (R120): overhead of the frame, then what its tributary slots carry. -/
def execOhpFrameRx (n : LineNo) (f : OhpFrame) (s : State) : Host.Outcome State Fault Refusal :=
  done ((s.ohpFrameRx n.val f).slotsRx n.val)

/-- POINTER_RX (R161). -/
def execPointerRx (p : PlaneNo) (f : FlowNo) (s : State) : Host.Outcome State Fault Refusal := done (s.pointerRx p.val f.val)

/-- POINTER_STATE_CHANGE (R161). -/
def execPointerStateChange (p : PlaneNo) (f : FlowNo) (s : State) : Host.Outcome State Fault Refusal :=
  done (s.pointerStateChange p.val f.val)

/-- GMP_CONTROL_WORD_RX (R167). -/
def execGmpControlWordRx (p : PlaneNo) (f : FlowNo) (s : State) : Host.Outcome State Fault Refusal := done (s.gmpRx p.val f.val)

/-- GMP_LOSS_OF_SYNC (R167): three consecutive control-word errors have been counted. -/
def execGmpLossOfSync (p : PlaneNo) (f : FlowNo) (s : State) : Host.Outcome State Fault Refusal :=
  done (s.onPlanes p.val fun s p => s.when (decide (3 ≤ (s.flow p f.val).cwRun)) fun s =>
    (s.setSt p f.val 1 (s.rxSide p f.val).1).modFlow p f.val (fun c => { c with client := [] }))

end Sys2Proof.Machine
end

