-- ==== Sys2Proof/Machine/Source.lean ====
section
/-! DEFINITION. The sources of containers at the destinations of flows (chapter 6): the adaptation of packets into VCs and ODUs
(R122, R164, R172), structured VC-4s with their TUs (R160), pointer generation (R162), Mehrax GMP (R166) and the GMP of
ODTU2.ts (R164), with the free-position signals of R194 and the AIS of Table 7.3. -/

namespace Sys2Proof.Machine

/-! ## GFP streams -/

/-- A GFP idle frame: the core header of PLI 0, XORed as R172 states. -/
def gfpIdle : List Byte := [0xB6, 0xAB, 0x31, 0xE0]

/-- `k` bytes of the GFP stream of flow `f`: the frames that wait, and idle frames while none does (R172). -/
def State.gfpTake (s : State) (p f k : Nat) : List Byte × State :=
  let q := (s.flow p f).gfpOut
  let q := q ++ (List.replicate ((k - q.length + 3) / 4) gfpIdle).flatten
  (q.take k, s.modFlow p f (fun c => { c with gfpOut := q.drop k }))

/-! ## Path overhead -/

/-- Trace period of a path: 64 frames for an ODU and for a VC-3 or VC-4 trace that ends in CR LF, else 16 (Table 5.7, log entry
121). -/
def pathPeriod (ct : Nat) (tr : List Byte) : Nat :=
  if baseCt ct = 0x10 ∨ baseCt ct = 0x11 ∨ (baseCt ct ≠ 1 ∧ byteAt tr 62 = 0x0D ∧ byteAt tr 63 = 0x0A) then 64 else 16

/-- At the start of a trace period the trace set's transmit trace is taken up (R183). -/
def Gen.loadTrace (g : Gen) (ct : Nat) (tr : List Byte) : Gen :=
  if g.count % pathPeriod ct g.trace = 0 then { g with trace := tr } else g

/-- The trace byte of the next container frame; a flow without trace set sends zeros. -/
def Gen.traceByte (g : Gen) (ct : Nat) : Byte :=
  if g.trace.isEmpty then 0
  else if pathPeriod ct g.trace = 64 then g.trace.getD (g.count % 64) 0
  else if g.count % 16 = 0 then BitVec.ofNat 8 (0x80 + crc7Of (g.trace.take 16))
  else g.trace.getD (g.count % 16) 0

/-- The overhead column of a VC-3, VC-4 or VC-4-nc that is generated here (Table 5.4): J1, B3 over the frame before, C2, G1 with
REI and RDI, H4; F2, F3, K3 and N1 are zero. -/
def Gen.poh (g : Gen) (ct c2 rei : Nat) (rdi : Bool) (h4 : Nat) : List Byte :=
  [g.traceByte ct, (g.bips.getLast?).getD 0, BitVec.ofNat 8 c2, BitVec.ofNat 8 (rei * 16 + b2n rdi * 8), 0, BitVec.ofNat 8 h4, 0, 0, 0]

/-- One more container frame of VC type has been made. -/
def Gen.made1 (g : Gen) (fr : List Byte) : Gen := { g with made := g.made ++ fr, count := g.count + 1, bips := [xorBytes fr] }

/-- A frame of the VC in which destination `x` sends GFP-F (R172; C2 = 0x1B). -/
def State.vcMake (s : State) (p : Nat) (x : Dest) : State :=
  let ct := baseCt x.d.dstCt
  let w := vcCols ct
  let n := auWidth ct
  let (rei, s) := s.takeRei p x.line x.pos 8
  let (pay, s) := s.gfpTake p x.flow (9 * (w - n))
  let g := (s.gen p x.flow x.k).loadTrace ct (s.pathTrace p x.d)
  let rest := (List.range 9).flatMap (fun r => List.replicate (n - 1) 0 ++ (pay.drop ((w - n) * r)).take (w - n))
  s.modGen p x.flow x.k (fun _ => g.made1 (vcJoin w (g.poh ct 0x1B rei (s.pathRdi p x.line x.pos) 0) rest))

/-- A frame of the ODU in which destination `x` sends GFP-F (R164): PT = 0x05, PM generated (R123), TCM zero. -/
def State.oduMake (s : State) (p : Nat) (x : Dest) : State :=
  let (bei, s) := s.takeRei p x.line x.pos 8
  let (pay, s) := s.gfpTake p x.flow 15232
  let g := (s.gen p x.flow x.k).loadTrace x.d.dstCt (s.pathTrace p x.d)
  let mfas := g.count % 256
  let zero : OduLevel := ⟨0, 0, 0⟩
  let oh : OtuOh := {
    mfas := BitVec.ofNat 8 mfas, sm := zero, gcc0 := [0, 0], tcm := List.replicate 6 zero
    pm := ⟨g.traceByte x.d.dstCt, if g.bips.length < 2 then 0 else g.bips.headD 0, oduStat bei (s.pathRdi p x.line x.pos) 1⟩
    gcc1 := [0, 0], gcc2 := [0, 0], aps := [0, 0, 0, 0], psi := 0 }
  let fr := oduJoin oh (opuJoin [0, 0, 0, 0, 0, 0, if mfas = 0 then 0x05 else 0, 0] pay)
  let b := opuBip oduCols fr
  s.modGen p x.flow x.k (fun _ => { g with
    made := g.made ++ fr, count := g.count + 1, bips := (g.bips ++ [b]).drop ((g.bips ++ [b]).length - 2) })

/-- A frame of the container in which a packet flow is sent. -/
def State.packetMake (s : State) (p : Nat) (x : Dest) : State := if isVc x.d.dstCt then s.vcMake p x else s.oduMake p x

/-- Frames made here go into the staging store. -/
def Gen.stock (g : Gen) : Gen := { g with stage := g.stage ++ g.made, made := [], ahead := 0 }

/-- Frames are made until the staging store of destination `x` holds `need` bytes. -/
def State.refill (p : Nat) (x : Dest) (need : Nat) (make : State → State) : Nat → State → State
  | 0, s => s
  | n + 1, s =>
    if need ≤ (s.gen p x.flow x.k).stage.length then s
    else State.refill p x need make n ((make s).modGen p x.flow x.k Gen.stock)

/-! ## Pointer generation -/

/-- A pointer word: NDF, SS 10 and the value. -/
def ptrWord (ndf : Bool) (v : Nat) : Nat := (if ndf then 0x9800 else 0x6800) + v % 1024

/-- What a position carries in the next frame. -/
def Gen.put (g : Gen) (ptr : Nat) (out : List Byte) : Gen := { g with ptrTx := ptr, out := out, ready := true }

/-- The unequipped container of a free position, under a valid pointer (R160, R194): all its bytes are zero. -/
def Gen.free (g : Gen) (x : PtrDims) : Gen :=
  g.put (ptrWord false ((x.len - x.ref) / x.unit)) (List.replicate (x.unit + x.len) 0)

/-- One frame, or TU-12 multiframe, of the pointer generator (R162): H3 and payload. `own` says that the container is made here,
at the rate of the frame; `pad` gives the bytes of a store that has run empty, which nothing fixes. -/
def Gen.run (g : Gen) (x : PtrDims) (own : Bool) (pad : Nat) : Gen :=
  let n := g.stage.length
  let start := fun (drop : Nat) => (g.ahead + n + 2 * x.len - drop - x.ref) % x.len
  if g.st ≠ 1 ∨ g.newPtr then
    if n < x.len + (if own then 0 else x.unit) then { g.free x with st := 2 }
    else
      let drop := if own then 0 else n - (x.len + x.unit)
      let drop := drop + start drop % x.unit
      let v := start drop / x.unit
      let out := (g.stage.drop drop).take x.len
      { g.put (ptrWord true v) (List.replicate x.unit 0 ++ out) with
        st := 1, val := v, newPtr := false, sinceAdj := 1, stage := g.stage.drop (drop + x.len) }
  else
    let v := start 0 / x.unit
    if n + x.unit < x.len then { g.put (ptrWord false g.val) (beBytes (x.unit + x.len) pad) with sinceAdj := min 4 (g.sinceAdj + 1) }
    else
      let adj := if own ∨ g.sinceAdj < 4 then 0 else if 2 * n < 2 * x.len + x.unit then 1 else if 2 * x.len + 3 * x.unit < 2 * n then 2 else 0
      let k := if adj = 1 then x.len - x.unit else if adj = 2 then x.len + x.unit else x.len
      let bytes := g.stage.take k ++ beBytes (k - n) pad
      let zero := List.replicate x.unit (0 : Byte)
      let out := if adj = 1 then zero ++ bytes.take x.opp ++ zero ++ bytes.drop x.opp
        else if adj = 2 then (bytes.drop x.opp).take x.unit ++ bytes.take x.opp ++ bytes.drop (x.opp + x.unit)
        else zero ++ bytes
      let word := if adj = 1 then v ^^^ 0x2AA else if adj = 2 then v ^^^ 0x155 else v
      { g.put (ptrWord false word) out with
        val := if adj = 1 then (v + 1) % (x.mx + 1) else if adj = 2 then (v + x.mx) % (x.mx + 1) else v
        sinceAdj := if adj = 0 then min 4 (g.sinceAdj + 1) else 1, stage := g.stage.drop k }

/-- Destination `x` sends the free-position signal: it may take no unit of its flow, or waits for the first one while the flow
has SSF (R194, R209). -/
def State.waits (s : State) (p : Nat) (x : Dest) : Bool :=
  !s.takesAt p x.flow (s.unitTag p x.flow) x.line || ((s.gen p x.flow x.k).st == 2 && s.flowSsf p x.flow)

/-- The pointer generator at destination `x` builds what its position carries next, if it has not: the free-position signal
while no unit may be taken (R194), all ones under SSF of a circuit flow (R208), else the container. -/
def State.ptrGen (s : State) (p pad : Nat) (x : Dest) : State :=
  let dims := ptrDims x.d.dstCt
  let own := x.d.isPacket || x.d.struct
  if (s.gen p x.flow x.k).ready then s
  else if !own && s.waits p x then
    s.modGen p x.flow x.k (fun g => { g.free dims with st := 2, stage := [] })
  else if !own && s.flowSsf p x.flow then
    s.modGen p x.flow x.k (fun g => { g.put 0xFFFF (List.replicate (dims.unit + dims.len) 0xFF) with stage := [] })
  else s.modGen p x.flow x.k (fun g => g.run dims own pad)

/-- What a position carries has been sent. -/
def State.sentOut (s : State) (p : Nat) (x : Dest) : State := s.modGen p x.flow x.k (fun g => { g with ready := false })

/-! ## The TUs of a structured VC-4 -/

/-- The container that a TU carries is ready to be sent: a packet flow's is made. -/
def State.tuGen (s : State) (p pad : Nat) (x : Dest) : State :=
  let s := if x.d.isPacket then State.refill p x 765 (fun s => s.packetMake p x) 4 s else s
  s.ptrGen p pad x

/-- The destinations in the VC-4 at an upper position of line `n`. -/
def State.tusOf (s : State) (p n upper : Nat) : List Dest :=
  (s.lineDests p n).filter (fun x => isLower (s.format n) x.d.dstCt x.pos && upperOf (s.format n) x.pos == upper)

/-- The 36 bytes of a TU-12 in frame `phase` of its multiframe: V1 and V2 of the pointer, V3, V4. -/
def tu12Unit (g : Gen) (phase : Nat) : List Byte :=
  let v := match phase with
    | 0 => BitVec.ofNat 8 (g.ptrTx / 256)
    | 1 => BitVec.ofNat 8 g.ptrTx
    | 2 => g.out.headD 0
    | _ => if g.ptrTx = 0xFFFF then 0xFF else 0
  v :: (g.out.drop (1 + 35 * phase)).take 35

/-- One TU-12 of a VC-4 frame: a tributary starts at its next multiframe, until then its position is free (R192). -/
def State.tu12Out (s : State) (p pad phase : Nat) (x : Option Dest) : List Byte × State :=
  let free := tu12Unit (Gen.reset.free (ptrDims 1)) phase
  match x with
  | none => (free, s)
  | some x =>
    let s := if phase = 0 then (s.tuGen p pad x).sentOut p x else s
    let g := s.gen p x.flow x.k
    (if g.out.isEmpty then free else tu12Unit g phase, s)

/-- One TUG-3 of a VC-4 frame: a TU-3, or 21 TU-12s; one with no flow carries an unequipped VC-3 (R160, log entry 122). -/
def State.tug3Out (s : State) (p pad phase fmt l : Nat) (xs : List Dest) : List Byte × State :=
  let xs := xs.filter (fun x => (lmtOf fmt x.pos).1 == l)
  match xs.find? (fun x => baseCt x.d.dstCt == 2) with
  | some x =>
    let s := (s.tuGen p pad x).sentOut p x
    let g := s.gen p x.flow x.k
    (tu3Join g.ptrTx (g.out.headD 0) (g.out.drop 1), s)
  | none =>
    if xs.isEmpty then
      let g := Gen.reset.free (ptrDims 2)
      (tu3Join g.ptrTx 0 (g.out.drop 1), s)
    else
      let r := (List.range 21).foldl (fun (r : List (List Byte) × State) i =>
        let (u, s) := r.2.tu12Out p pad phase (xs.find? (fun x => lmtOf fmt x.pos == (l, i / 3 + 1, i % 3 + 1)))
        (r.1 ++ [u], s)) ([], s)
      (tu12Join r.1, r.2)

/-- A frame of the VC-4 of a structured source end (R160): C2 = 0x02, the H4 multiframe, three TUG-3s. -/
def State.vc4Make (s : State) (p pad : Nat) (x : Dest) : State :=
  let fmt := s.format x.line
  let xs := s.tusOf p x.line (upperOf fmt x.pos)
  let phase := ((s.gen p x.flow x.k).count + 3) % 4
  let (a, s) := s.tug3Out p pad phase fmt 1 xs
  let (b, s) := s.tug3Out p pad phase fmt 2 xs
  let (c, s) := s.tug3Out p pad phase fmt 3 xs
  let (rei, s) := s.takeRei p x.line x.pos 8
  let g := (s.gen p x.flow x.k).loadTrace 3 (s.pathTrace p x.d)
  s.modGen p x.flow x.k (fun _ =>
    g.made1 (vcJoin 261 (g.poh 3 0x02 rei (s.pathRdi p x.line x.pos) (0xFC + g.count % 4)) (tug3Join [a, b, c])))

/-- A frame of the container that destination `x` makes: structured VC-4, packets, or the ODU-AIS of a circuit flow. -/
def State.frameMake (s : State) (p pad : Nat) (x : Dest) : State :=
  if x.d.struct then s.vc4Make p pad x
  else if x.d.isPacket then s.packetMake p x
  else s.modGen p x.flow x.k (fun g => { g with made := g.made ++ oduAis (g.count % 256), count := g.count + 1 })

/-! ## AU-4s of an STM-N line -/

/-- What the AU-4 or AU-4-nc of destination `x` carries is built. -/
def State.auGen (s : State) (p pad : Nat) (x : Dest) : State :=
  let own := x.d.isPacket || x.d.struct
  let s := if own && !(s.gen p x.flow x.k).ready then
    State.refill p x (ptrDims x.d.dstCt).len (fun s => s.frameMake p pad x) 4 s else s
  s.ptrGen p pad x

/-- An AU as it stands in the frame: AU-4s after the first carry concatenation indications, under AIS ones (R159). -/
def auOutOf (first width : Nat) (g : Gen) : AuOut :=
  let more := if g.ptrTx = 0xFFFF then 0xFFFF else concWord
  ⟨first, width, g.ptrTx :: List.replicate (width - 1) more, g.out.take (3 * width), g.out.drop (3 * width)⟩

/-- The AU-4s of the next frame of STM-N line `n`, in order, where no flow lies unequipped (R194). -/
def State.auList (s : State) (p pad n : Nat) : List AuOut × State :=
  let fmt := s.format n
  let xs := (s.lineDests p n).filter (fun x => isVc x.d.dstCt && !isLower fmt x.d.dstCt x.pos)
  let r := (List.range (stmN fmt)).foldl (fun (r : List AuOut × Nat × State) c =>
    if c < r.2.1 then r
    else match xs.find? (fun x => x.pos % 128 == c + 1) with
      | none => (r.1 ++ [auOutOf c 1 (Gen.reset.free (ptrDims 3))], c + 1, r.2.2)
      | some x =>
        let s := (r.2.2.auGen p pad x).sentOut p x
        (r.1 ++ [auOutOf c (auWidth x.d.dstCt) (s.gen p x.flow x.k)], c + auWidth x.d.dstCt, s)) ([], 0, s)
  (r.1, r.2.2)

/-- POINTER_GENERATE: the pointer generators of flow `f` send the pointers of the next frame, at each of its destinations on an
STM-N line or in a structured VC-4 (R155, R162). What their positions then carry goes out with that frame. -/
def State.pointerGenerate (s : State) (p f : Nat) : State :=
  let (pad, s) := s.free
  s.onPlanes p fun s p =>
    ((s.flowDests p f).filter (fun x => isVc x.d.dstCt && s.lineOn x.line && s.lineActive x.line
      && (isStm (s.format x.line) || isLower (s.format x.line) x.d.dstCt x.pos))).foldl (fun s x =>
        if isLower (s.format x.line) x.d.dstCt x.pos then s.tuGen p pad x else s.auGen p pad x) s

/-! ## Mehrax slot groups -/

/-- A locally made container reaches its staging store at the nominal rate: in a time in which `num` bytes of `den` would arrive
per bit/s of its rate (R166, log entry 123). -/
def State.arrive (s : State) (p pad num den : Nat) (x : Dest) : State :=
  let g := s.gen p x.flow x.k
  let acc := g.frac + (containerRate x.d.dstCt x.d.arg).1 * num
  let k := acc / den
  let s := (List.range 70).foldl (fun (s : State) _ =>
    if (s.gen p x.flow x.k).made.length < k then s.frameMake p pad x else s) s
  s.modGen p x.flow x.k (fun g => { g with
    stage := g.stage ++ g.made.take k, made := g.made.drop k, ahead := (g.made.length - k) % vcFrame x.d.dstCt, frac := acc % den })

/-- Mehrax GMP at destination `x` builds one frame of its group (R166): C8 is any value that leaves a staging fill of 16 to 48
bytes, within 0 to P. -/
def State.gmpGen (s : State) (p r : Nat) (x : Dest) : State :=
  let pp := gmpP (maskSlots x.pos)
  let own := x.d.isPacket || x.d.struct
  if (s.gen p x.flow x.k).ready then s
  else if !own && s.waits p x then
    s.modGen p x.flow x.k (fun g => { g.put g.ptrTx (List.replicate (pp + 8) 0) with st := 2, stage := [] })
  else if !own && s.flowSsf p x.flow then
    s.modGen p x.flow x.k (fun g => { g.put g.ptrTx (List.replicate (pp + 8) 0xFF) with stage := [] })
  else
    let s := if own then s.arrive p r 16384 (mxfRate (s.format x.line)) x else s
    s.modGen p x.flow x.k (fun g =>
      let n := g.stage.length
      if n = 0 ∧ g.st ≠ 1 then { g.put g.ptrTx (List.replicate (pp + 8) 0) with st := 2 }
      else
        let lo := min pp (n - 48)
        let hi := min pp (n - 16)
        let c8 := lo + r % (hi - lo + 1)
        let t := (g.ahead + n) % vcFrame x.d.dstCt
        let cw := beBytes 2 c8 ++ beBytes 2 (if isVc x.d.dstCt ∧ t < c8 then t else 0xFFFF) ++ [0, 0, 0]
        { g.put g.ptrTx (cw ++ [BitVec.ofNat 8 (crc8Of cw)] ++ gmpPlace pp c8 1 pp (g.stage.take c8)) with
          st := 1, val := c8, stage := g.stage.drop c8 })

/-- What the slot group of destination `x` carries in the next frame is built: a GFP-F stream fills every word (R165, R172). -/
def State.groupGen (s : State) (p r : Nat) (x : Dest) : State :=
  if x.d.dstCt ≠ 0x30 then s.gmpGen p r x
  else if (s.gen p x.flow x.k).ready then s
  else
    let (bs, s) := s.gfpTake p x.flow (680 * maskSlots x.pos)
    s.modGen p x.flow x.k (fun g => g.put g.ptrTx bs)

/-- The slot groups that Mehrax line `n` carries. -/
def State.groupDests (s : State) (p n : Nat) : List Dest :=
  (s.lineDests p n).filter (fun x => x.d.dstCt != 0x40 && !isLower (s.format n) x.d.dstCt x.pos)

/-- MEHRAX_GMP_TX: the slot groups of flow `f` are built for the next frame of their lines (R165, R166). -/
def State.gmpTx (s : State) (p f : Nat) : State :=
  let (r, s) := s.free
  s.onPlanes p fun s p =>
    ((s.flowDests p f).filter (fun x => x.d.dstCt != 0x40 && isMxf (s.format x.line) && s.lineOn x.line && s.lineActive x.line
      && !isLower (s.format x.line) x.d.dstCt x.pos)).foldl (fun s x => s.groupGen p r x) s

/-- Words placed in the slots of their groups, in row order and by increasing slot number within a row (R104). -/
def placeWords : Nat → Nat → List (Nat × List Word64) → List Word64
  | 0, _, _ => []
  | n + 1, i, gs =>
    let k := i % 24
    ((gs.find? (fun g => g.1.testBit k)).bind (fun g => g.2.head?)).getD 0
      :: placeWords n (i + 1) (gs.map (fun g => if g.1.testBit k then (g.1, g.2.drop 1) else g))

/-- The slots of line `n` for which SLOT_AIS is sent: those of circuit flows with SSF, but for a group that waits (Table 7.3,
R209). -/
def State.slotAisOut (s : State) (p n : Nat) : Nat :=
  (s.groupDests p n).foldl (fun m x =>
    if x.d.isPacket || x.d.struct || !s.flowSsf p x.flow || s.waits p x then m else m ||| x.pos % 2 ^ 24) 0

/-- The 2,040 payload words of the next frame of Mehrax line `n`, and the slots that carry a tributary: a group that waits for its
first unit is free (R105, R194). -/
def State.mxfPayload (s : State) (p r n : Nat) : List Word64 × Nat × State :=
  let res := (s.groupDests p n).foldl (fun (a : List (Nat × List Word64) × Nat × State) x =>
    let s := (a.2.2.groupGen p r x).sentOut p x
    let g := s.gen p x.flow x.k
    let m := x.pos % 2 ^ 24
    (a.1 ++ [(m, wordsOfBytes (85 * maskSlots m) g.out)], if g.st = 2 && !x.d.isPacket then a.2.1 else a.2.1 ||| m, s)) ([], 0, s)
  (placeWords 2040 0 res.1, res.2.1, res.2.2)

/-! ## Tributary slots of an OTU2 line -/

/-- At the start of an OPU2 multiframe the payload made in the last one is sent, and that of the next is made from the staging
store (R164): Cm is any number of words that leaves a fill of 16 to 48 bytes. -/
def State.odtuGen (s : State) (p r : Nat) (x : Dest) : State :=
  let ts := popCount 8 (x.pos % 256)
  let own := x.d.isPacket
  if !own && s.waits p x then
    s.modGen p x.flow x.k (fun g => { g with st := 2, stage := [], cur := [], next := [], cm := 0, cmNext := 0, cnd := 0 })
  else
    let ais := !own && s.flowSsf p x.flow
    let s := if ais then s.modGen p x.flow x.k (fun g => { g with stage := [] }) else s
    let s := if own || ais then s.arrive p r (15232 * 8) 9995276962 x else s
    s.modGen p x.flow x.k (fun g =>
      let n := g.stage.length
      let lo := min 15232 ((n - 48 + ts - 1) / ts)
      let hi := min 15232 ((n - 16) / ts)
      let c := if n = 0 then 0 else lo + r % (hi - lo + 1)
      { g with
        st := if n = 0 ∧ g.st ≠ 1 then 2 else 1, val := g.cmNext, cur := g.next, cm := g.cmNext, cmNext := c
        next := if n = 0 then [] else odtuPlace ts c 15232 1 (g.stage.take (c * ts)), stage := g.stage.drop (c * ts)
        cnd := (n - c * ts) % ts })

/-- The bytes of one tributary slot in frame `i` of the multiframe: the destination that has it, or zeros (R163, R194). -/
def slotOut (gs : List (Nat × Gen)) (i t : Nat) : List Byte :=
  match gs.find? (fun x => x.1.testBit t) with
  | none => List.replicate 1904 0
  | some (mask, g) =>
    let ts := popCount 8 mask
    let seg := (g.cur.drop (1904 * ts * i)).take (1904 * ts)
    if seg.isEmpty then List.replicate 1904 0 else every ts ((bitList 8 mask).findIdx (· == t)) seg

/-- The OPU2 of the next frame of OTU2 line `n`, at the given MFAS (R163, R164): PSI, the justification control of the slot
whose turn it is, and the eight slots. -/
def State.opuOut (s : State) (p r n mfas : Nat) (psi : Byte) : List Byte × State :=
  let xs := (s.lineDests p n).filter (fun x => baseCt x.d.dstCt == 0x10 || baseCt x.d.dstCt == 0x11)
  let i := mfas % 8
  let s : State := if i = 0 then xs.foldl (fun s x => s.odtuGen p r x) s else s
  let gs := xs.map (fun x => (x.pos % 256, s.gen p x.flow x.k))
  let jc := match gs.find? (fun g => lastSlot g.1 == i) with
    | some (_, g) => if g.next.isEmpty then ([0, 0, 0], [0, 0, 0]) else jcBytes g.cm g.cmNext g.cnd
    | none => ([0, 0, 0], [0, 0, 0])
  let oh := (List.range 3).flatMap (fun k => [jc.2.getD k 0, jc.1.getD k 0]) ++ [psi, 0]
  (opuJoin oh (slotWeave ((List.range 8).map (slotOut gs i))), s)

/-! ## Meanings -/

/-- POINTER_GENERATE (R162). -/
def execPointerGenerate (p : PlaneNo) (f : FlowNo) (s : State) : Host.Outcome State Fault Refusal :=
  done (s.pointerGenerate p.val f.val)

/-- MEHRAX_GMP_TX (R166). -/
def execMehraxGmpTx (p : PlaneNo) (f : FlowNo) (s : State) : Host.Outcome State Fault Refusal := done (s.gmpTx p.val f.val)

end Sys2Proof.Machine
end

