-- ==== Sys2Proof/Machine/Mxf.lean ====
section
/-! DEFINITION. The Mehrax receiver (chapter 4): scrambler (R95), checks and frame check results (R99 to R101), FSN
tracking (R98), the fields taken from a frame (R94, R105 to R109). -/

namespace Sys2Proof.Machine

/-! ## Scrambler -/

/-- The register of p(n) holds p(n) to p(n + 22), the oldest at bit 22; p(n + 23) is p(n + 5) XOR p(n) (R95). -/
def scrShift (st : Nat) : Nat := (st * 2 + b2n (st.testBit 17 != st.testBit 22)) % 2 ^ 23

/-- `k` bits of the sequence, the first the most significant, and the register after them. -/
def scrBits : Nat → Nat → Nat → Nat × Nat
  | 0, acc, st => (acc, st)
  | k + 1, acc, st => scrBits k (acc * 2 + b2n (st.testBit 22)) (scrShift st)

/-- Whole words through the additive scrambler. -/
def scrWords : Nat → List Word64 → List Word64
  | _, [] => []
  | st, w :: t =>
    let (x, st) := scrBits 64 0 st
    (w ^^^ BitVec.ofNat 64 x) :: scrWords st t

/-- A frame scrambled, or descrambled: every bit but the FAS; the sequence restarts with ones in every frame (R95). -/
def scrFrame : List Word64 → List Word64
  | [] => []
  | w :: t =>
    let (x, st) := scrBits 16 0 (2 ^ 23 - 1)
    (w ^^^ BitVec.ofNat 64 x) :: scrWords st t

/-! ## Fields -/

/-- Bits of word `k` of a frame. -/
def mxfField (ws : List Word64) (k lo len : Nat) : Nat := bitsOf (ws.getD k 0).toNat lo len

/-- The RATE code of an MXF format (Table 4.2). -/
def rateCode (fmt : Nat) : Nat := fmt - 0x0C

/-- The peer message that words 4 and 5 carry. -/
def peerMsgOf (ws : List Word64) : PeerMsg :=
  ⟨mxfField ws 4 56 8, mxfField ws 4 48 8, mxfField ws 4 32 8, mxfField ws 4 0 32, (ws.getD 5 0).toNat⟩

/-- FSN a is later than FSN b (R97). -/
def fsnLater (a b : Nat) : Bool :=
  let d := (a + 2 ^ 40 - b % 2 ^ 40) % 2 ^ 40
  decide (1 ≤ d ∧ d < 2 ^ 39)

/-! ## Check results and FSN -/

/-- The result of the previous frame's check becomes known with the successor's overhead (R100, R101). -/
def State.mxfResult (s : State) (n : Nat) (good : Bool) (pcrc bip : Nat) : State :=
  match (s.line n).mxf.prev with
  | none => s
  | some p =>
    let pcrcOk := pcrc == p.pcrc
    let clean := p.ohGood && !p.rpt && !p.unc && good && pcrcOk
    let v := if good then popCount 8 (bip ^^^ p.bip) else 0
    let s := if good && !pcrcOk then s.count (Reg.LCH_MXF_PCRC_ERR_LO n) 1 else s
    let s := (s.count (Reg.LCH_DPM_CNT0_LO n) v).count (Reg.LCH_DPM_CNT2_LO n) (b2n (!clean))
    (s.lineBlock n 0 (!clean) false).modMxf n (fun m => { m with
      result := some (p.fsn, clean), violations := m.violations + v, prev := none })

/-- The FSN that a frame is taken to carry, and the tracking after it (R98). -/
def Mxf.track (m : Mxf) (good : Bool) (fsn : Nat) : Mxf × Option Nat × Bool :=
  let seq := m.newSeq.map (fun x => (x.1, x.2 + 1))
  match m.expFsn with
  | none => if good then ({ m with expFsn := some ((fsn + 1) % 2 ^ 40), newSeq := none }, some fsn, false) else (m, none, false)
  | some e =>
    if !good then ({ m with expFsn := some ((e + 1) % 2 ^ 40), newSeq := seq }, some e, false)
    else if fsn = e then ({ m with expFsn := some ((e + 1) % 2 ^ 40), newSeq := none }, some e, false)
    else if seq.any (fun x => (x.1 + x.2) % 2 ^ 40 == fsn) then
      ({ m with expFsn := some ((fsn + 1) % 2 ^ 40), newSeq := none }, some fsn, false)
    else ({ m with expFsn := some ((e + 1) % 2 ^ 40), newSeq := some (fsn, 0) }, some e, true)

/-- The fields that only a frame with a good OHCRC gives (R94, R105 to R109). -/
def State.mxfFields (s : State) (n : Nat) (ws : List Word64) : State :=
  let rpt := mxfField ws 0 7 1 == 1
  let rate := mxfField ws 0 12 4
  let fec := mxfField ws 0 11 1
  let ver := mxfField ws 0 8 3
  let s := ((s.set (Fld.LCH_MXF_STATUS_RX_RATE n) rate).set (Fld.LCH_MXF_STATUS_RX_FEC n) fec).set (Fld.LCH_MXF_STATUS_RX_VER n) ver
  let s := s.setB (Fld.LCH_MXF_STATUS_RATE_MM n) (rate != rateCode (s.format n))
  let s := s.setB (Fld.LCH_MXF_STATUS_FEC_MM n) (fec != s.get (Fld.LCH_MXF_CFG_FEC n))
  let s := s.setB (Fld.LCH_MXF_STATUS_VER_MM n) (ver != 1)
  let rei := min 8 (mxfField ws 3 48 8)
  let s := (s.count (Reg.LCH_DPM_CNT1_LO n) rei).count (Reg.LCH_DPM_CNT3_LO n) (b2n rpt)
  let s := s.lineBlock n 0 false (rei != 0)
  let ql := mxfField ws 1 20 4
  let opt := mxfField ws 1 18 2
  let rdi := mxfField ws 3 63 1
  let snap := ql + 16 * opt + 64 * rdi + 256 * rei
  let s := s.modMxf n (fun m => { m with
    slotUsed := mxfField ws 2 40 24, slotAis := mxfField ws 2 16 24, slotRdi := mxfField ws 3 24 24, rdi := rdi == 1
    qlRun := if m.ql = ql ∧ m.qlOpt = opt then m.qlRun + 1 else 1, ql := ql, qlOpt := opt
    oh := some (snap, if rpt then none else some (wordBytes (ws.getD 6 0))) })
  if rpt then s.streamsHunt n
  else
    let s := s.pmcAck n (mxfField ws 4 40 8)
    s.modMxf n (fun m => { m with rxMsg := some (peerMsgOf ws), rxAck := some (mxfField ws 4 40 8) })

/-- A row as the decoder leaves it in a mode, and whether it is uncorrectable (R86, R114). -/
def mxfRow (mode : Nat) (row : List Word64) : List Word64 × Bool :=
  if mode = 2 then (row, false)
  else
    let bs := row.flatMap wordBytes
    match rsDecode bs with
    | none => (row, true)
    | some [] => (row, false)
    | some errs =>
      if mode = 1 then (row, false)
      else
        let fixed := rsApply bs errs
        ((List.range 24).map (fun i => BitVec.ofNat 64 (beNat ((fixed.drop (8 * i)).take 8))), false)

/-- The rows of a frame after decoding, each in the mode in which FEC_CODEWORD has taken it, else in the mode in force (R86). -/
def Fau.mxfRows (f : Fau) (pay : List Word64) : List (List Word64 × Bool) :=
  (List.range 85).map (fun r => mxfRow (f.modes.getD r f.fecMode) ((pay.drop (24 * r)).take 24))

/-- MXF_FRAME_RX: one frame as it is on the line (R95, R98 to R101, R114). -/
def State.mxfFrameRx (s : State) (n : Nat) (words : List Word64) : State :=
  s.onLine n fun s => s.when (isMxf (s.format n) && s.inFrame n && words.length == 2048) fun s =>
    let m := (s.line n).mxf
    let plain := if s.flag (Fld.LCH_FAU_HUNT_CFG_SCR_BYPASS n) then words else scrFrame words
    let rows := if m.fecRx then (s.line n).fau.mxfRows (plain.drop 8) else []
    let ws := if m.fecRx then plain.take 8 ++ rows.flatMap (fun r => r.1) else plain
    let unc := (List.range rows.length).filter (fun r => (rows.getD r ([], false)).2)
    let marked := if s.flag (Fld.LCH_FAU_FEC_CFG_UNC_MARK n) then unc.foldl (fun k r => k + 2 ^ r) 0 else 0
    let s := s.modFau n (fun f => { f with modes := [] })
    let good := ohcrcOf (ws.take 8) == mxfField ws 7 0 16
    let s := s.mxfResult n good (mxfField ws 7 32 32) (mxfField ws 7 24 8)
    let s := if good then s else (s.count (Reg.LCH_MXF_OHCRC_ERR_LO n) 1).raise (Fld.LCH_MXF_STATUS_OHCRC_EV n)
    let (m, fsn, jump) := (s.line n).mxf.track good (mxfField ws 1 24 40)
    let s := s.modMxf n (fun _ => m)
    let s := if jump then (s.count (Reg.LCH_MXF_FSN_JUMP_LO n) 1).raise (Fld.LCH_MXF_STATUS_FSN_JUMP_EV n) else s
    let s := if good then s.mxfFields n ws else s
    let pay := ws.drop 8
    let s := s.modMxf n (fun m => { m with
      payload := pay, frames := m.frames + 1, marked := marked
      prev := some ⟨fsn, good, good && mxfField ws 0 7 1 == 1, m.frameUnc || !unc.isEmpty, pcrcOf pay, bip8Of pay⟩
      frameUnc := false, fecRx := s.flag (Fld.LCH_MXF_CFG_FEC n) })
    s.setB (Fld.LCH_FAU_STATUS_FEC_LOCK n) (s.fecLockOf n)

/-- A QL value that has arrived unchanged in 3 frames with a good OHCRC is accepted; with QL_OPT 0b11 the quality is
unknown (R107). -/
def State.qlAccept (s : State) (n : Nat) : State :=
  s.onLine n fun s => s.when (isMxf (s.format n) && decide (3 ≤ (s.line n).mxf.qlRun)) fun s =>
    s.modMxf n (fun m => { m with qlAcc := if m.qlOpt = 3 then none else some (m.qlOpt, m.ql) })

/-- MXF_FRAME_RX (R98). -/
def execMxfFrameRx (n : LineNo) (words : List (BitVec 64)) (s : State) : Host.Outcome State Fault Refusal := done (s.mxfFrameRx n.val words)

end Sys2Proof.Machine
end

