-- ==== Sys2Proof/Machine/Hold.lean ====
section
/-! DEFINITION. The frame in transmission of a line and its frame-repeat hold buffer (R37, R53, R279 to R281): the frame as it
stands at the transmit interface, its parities, and what a hold makes of the frame that it interrupts. -/

namespace Sys2Proof.Machine

/-! ## The frame in transmission -/

/-- A frame of bytes goes to the transmit interface of line `n`, in words (R41). -/
def State.putLine (s : State) (n : Nat) (line : List Byte) : State :=
  s.modLane n (fun l =>
    let bs := l.odd ++ line
    let k := bs.length / 8
    { l with words := wordsOfBytes k bs, odd := bs.drop (8 * k) })

/-- What is still to be taken of the frame at the transmit interface changes to the end of another frame of its length. -/
def State.tailLine (s : State) (n : Nat) (line : List Byte) : State :=
  s.modLane n (fun l =>
    let old := l.words.flatMap wordBytes ++ l.odd
    let bs := old.take (old.length - line.length) ++ line.drop (line.length - old.length)
    { l with words := wordsOfBytes l.words.length bs, odd := bs.drop (8 * l.words.length) })

/-- The last two of a list. -/
def lastTwo {α : Type} (l : List α) : List α := l.drop (l.length - 2)

/-- An STM-N frame or the rows of an OTUk frame, before scrambling, are those in transmission, `again` in place of those that
were; `line` is the frame as it is on the line. -/
def State.sentTx (s : State) (n : Nat) (again : Bool) (plain line : List Byte) : State :=
  let stm := isStm (s.format n)
  s.modOhp n (fun o => { o with
    tx := plain, txPar1 := xorBytes line, txPar2 := if stm then sdhBip24 (stmN (s.format n)) plain else []
    txBips := if stm then [] else lastTwo ((if again then o.txBips.dropLast else o.txBips) ++ [opuBip oduCols plain]) })

/-- The frame as it is on the line. -/
def lineFrame (fmt : Nat) (plain : List Byte) : List Byte :=
  if isStm fmt then sdhScr (stmN fmt) plain else otuSend plain

/-- A frame that line `n` makes is in transmission. -/
def State.setTx (s : State) (n : Nat) (again : Bool) (plain : List Byte) : State :=
  let line := lineFrame (s.format n) plain
  (if again then s.tailLine n line else s.putLine n line).sentTx n again plain line

/-- The frame in transmission has been sent whole, and stands in the hold buffer (R53, R279). -/
def State.shiftFrame (s : State) (n : Nat) : State :=
  let full := if isMxf (s.format n) then !(s.line n).mxf.txFrame.isEmpty else !(s.ohp n).tx.isEmpty
  let s := if full then s.raise (Fld.LCH_FRB_STATUS_FULL n) else s
  if isMxf (s.format n) then s.modMxf n (fun m => { m with txBuf := m.txFrame })
  else s.modOhp n (fun o => { o with txHold := o.tx })

/-- A frame of the line's own begins; a hold leaves the buffer as it is (R279). -/
def State.keepFrame (s : State) (n : Nat) : State :=
  if s.flag (Fld.LCH_FRB_STATUS_HOLD n) then s else s.shiftFrame n

/-- The parity words of every row (R114). -/
def fecRows (ws : List Word64) : List Word64 :=
  (List.range 85).flatMap (fun r =>
    let row := (ws.drop (24 * r)).take 22
    let par := rsParity (row.flatMap wordBytes)
    row ++ [BitVec.ofNat 64 (beNat (par.take 8)), BitVec.ofNat 64 (beNat (par.drop 8))])

/-- A Mehrax frame as it is on the line is in transmission, `again` in place of the one that was. -/
def State.setMxf (s : State) (n : Nat) (again : Bool) (frame : List Word64) : State :=
  let body := (scrFrame frame).drop 8
  let s := s.modLane n (fun l => { l with
    words := if again then frame.drop (frame.length - l.words.length) else frame, odd := [] })
  s.modMxf n (fun m => { m with txFrame := frame, txPcrc := pcrcOf body, txBip := bip8Of body })

/-! ## The interrupted frame -/

/-- The places of an STM-N frame from position `pos` on that a hold fills: AU pointers and payload, or with the maintenance
signal all but the regenerator section overhead. -/
def stmHeld (k pos : Nat) (maint : Bool) (i : Nat) : Bool :=
  decide (pos ≤ i) && (decide (9 * k ≤ i % (270 * k)) || i / (270 * k) == 3 || (maint && decide (810 * k ≤ i)))

/-- The places of an OTUk frame that a hold fills: the OPU but for PSI, or with the maintenance signal the whole ODU. -/
def oduHeld (pos : Nat) (maint : Bool) (i : Nat) : Bool :=
  decide (pos ≤ i) && if maint then decide (14 ≤ i) else decide (14 ≤ i % oduCols) && i != 3 * oduCols + 14

/-- The frame that a hold interrupts at position `pos` goes on from the hold buffer, or where that is empty with the maintenance
signal (R279, R281). An STM-64 buffer is overwritten by position, so the frame as sent is what it then holds. -/
def State.cutFrame (s : State) (n pos : Nat) : State :=
  let fmt := s.format n
  let maint := !s.flag (Fld.LCH_FRB_STATUS_FULL n)
  let o := s.ohp n
  let m := (s.line n).mxf
  if isStm fmt then
    s.when (!o.tx.isEmpty) fun s =>
      let f := spliceBytes (stmHeld (stmN fmt) (pos % stmBytes (stmN fmt)) maint) 0 o.tx (if maint then [] else o.txHold)
      let s := s.setTx n true f
      if fmt = 9 then s.modOhp n (fun o => { o with txHold := f }) else s
  else if isOtu fmt then
    s.when (!o.tx.isEmpty) fun s => s.setTx n true
      (spliceBytes (oduHeld (pos % oduBytes) maint) 0 o.tx (if maint then oduAis (o.tx.getD 6 0).toNat else o.txHold))
  else
    s.when (isMxf fmt && !m.txFrame.isEmpty) fun s =>
      let old := scrFrame m.txBuf
      let ws := (List.range 2048).zipWith (fun i (w : Word64) =>
        if i < 8 ∨ i < pos % 2048 then w else if maint then BitVec.ofNat 64 (2 ^ 64 - 1) else old.getD i 0) (scrFrame m.txFrame)
      s.setMxf n true (scrFrame (ws.take 8 ++ (if m.fecTx then fecRows (ws.drop 8) else ws.drop 8)))

/-! ## Through outputs -/

/-- A forwarded frame of line `n` has been sent whole; its bytes are unscrambled, with the FEC parity of the format. -/
def State.thruClose (s : State) (n : Nat) (bs : List Byte) : State :=
  let fmt := s.format n
  let s := (s.shiftFrame n).modLine n (fun l => { l with thru := { l.thru with pos := 0, frame := [] } })
  if isMxf fmt then
    let ws := wordsOfBytes 2048 bs
    s.modMxf n (fun m => { m with
      txFrame := scrFrame ws, txPcrc := pcrcOf (ws.drop 8), txBip := bip8Of (ws.drop 8)
      txFsn := (mxfField ws 1 24 40 + 1) % 2 ^ 40, txFirst := false })
  else if isStm fmt then s.sentTx n false bs (sdhScr (stmN fmt) bs)
  else s.sentTx n false (pickChunks otuCols 0 oduCols 4 bs) (otuScr bs)

/-- The last frame sent, in the form of a forwarded one. -/
def State.lastForward (s : State) (n : Nat) : List Byte :=
  let fmt := s.format n
  let tx := (s.ohp n).tx
  if isMxf fmt then (scrFrame (s.line n).mxf.txFrame).flatMap wordBytes
  else if isStm fmt then tx
  else (List.range 4).flatMap (fun r => otuParity ((tx.drop (oduCols * r)).take oduCols))

/-- A hold interrupts a Through output: the frame in progress goes on from the last one sent (R150, R279). -/
def State.cutThru (s : State) (n : Nat) : State :=
  let t := (s.line n).thru
  if t.frame.isEmpty then s.shiftFrame n
  else
    let rest := (s.lastForward n).drop t.frame.length
    s.thruClose n (t.frame ++ if rest.isEmpty then List.replicate (t.size - t.frame.length) 0xFF else rest)

/-- A hold ends the packet in progress, of which `k` characters have gone, with an error character; idle follows (R280). -/
def State.cutPacket (s : State) (n k : Nat) : State :=
  s.modLine n (fun l => { l with portTx :=
    if l.portTx.isEmpty then [] else l.portTx.take (k % l.portTx.length) ++ [charError, charIdle] })

/-- What a hold makes of what line `n` is sending; where it begins nothing fixes (log entry 124). -/
def State.interrupt (s : State) (n : Nat) : State :=
  let (k, s) := s.free
  if isEth (s.format n) then s.cutPacket n k
  else if s.flag (Fld.LCH_OHP_THRU_STATUS_ACTIVE n) then s.cutThru n
  else s.cutFrame n k

end Sys2Proof.Machine
end

