-- ==== Sys2Proof/Machine/Trigger.lean ====
section
/-! DEFINITION. The channels of the DMA engine: who owns one, how a run starts, is triggered and halts (R423, R428, R430, R431,
R439). -/

namespace Sys2Proof.Machine

/-! ## Channels -/

/-- DMA channel `c`. -/
def State.dmaOf (s : State) (c : Nat) : DmaChan := s.dma.chans.getD c ⟨none, 0, none⟩

/-- The state with a channel changed. -/
def State.modDma (s : State) (c : Nat) (f : DmaChan → DmaChan) : State :=
  { s with dma := { s.dma with chans := modD ⟨none, 0, none⟩ s.dma.chans c f } }

/-- The state with the run of a channel changed. -/
def State.modRun (s : State) (c : Nat) (f : DmaRun → DmaRun) : State :=
  s.modDma c (fun x => { x with run := x.run.map f })

/-- Host software owns channel `c` (R423). -/
def State.dmaHost (s : State) (c : Nat) : Bool :=
  let own := s.get Fld.DMA_GLB_STATUS_OWN14_15
  !(c == 14 && bitOf own 0) && !(c == 15 && bitOf own 1)

/-- A write to a channel by one that may write it; another's sets RSV_WR_EV (R423). -/
def State.dmaBy (s : State) (by' : Agent) (c : Nat) (f : State → State) : State :=
  s.onSpine fun s =>
    if by' = .host ∧ !s.dmaHost c then s.raise Fld.DMA_GLB_STATUS_RSV_WR_EV else f s

/-- Host software owns unit `k` (Table 15.1). -/
def State.cvuHost (s : State) (k : Nat) : Bool :=
  if k = 12 ∨ k = 13 then !s.twin
  else if k = 15 then !bitOf (s.get Fld.DMA_GLB_STATUS_OWN14_15) 0
  else true

/-- Bytes are written by DMA for a command, if the function may write (R384). -/
def State.hostWrites (s : State) : Bool := s.pcie.linkUp && s.pcie.busMaster

/-! ## Runs and triggers -/

/-- A DMA channel halts with an error (R428, Table 15.3). -/
def State.dmaHalt (s : State) (c err : Nat) : State :=
  match (s.dmaOf c).run with
  | none => s
  | some r =>
    let s := s.modDma c (fun x => { x with run := none, passed := 0 })
    let s := ((s.set (Fld.DMA_CH_STATUS_STATE c) 2).set (Fld.DMA_CH_STATUS_ERR c) err).raise (Fld.DMA_CH_STATUS_ERR_EV c)
    let s := s.set (Fld.DMA_CH_STATUS_DESC_IDX c) r.idx
    let s := (s.set Fld.DMA_GLB_STATUS_BUSY (clearBit (s.get Fld.DMA_GLB_STATUS_BUSY) c)).happen (584 + c)
    let s := s.setB (Fld.DMA_CH_STATUS_PEND c) false
    if r.owns then s.setB (Fld.CVU_STATUS_DMA_OWNED (bitsOf r.cfg 14 4)) false else s

/-- A run of channel `c` starts with the registers of that moment (R430, R439). Without bus mastering it halts at once. -/
def State.dmaStart (s : State) (c : Nat) : State :=
  let cfg := (s.reg (Reg.DMA_CH_CFG c)).toNat
  let r : DmaRun := {
    -- a list in Mule SRAM only under a firmware or ROM owner (R425)
    cfg := if s.dmaHost c then putBits cfg 18 1 0 else cfg, list := s.get64 (Reg.DMA_CH_LIST_LO c) / 16 * 16
    hostBase := s.get64 (Reg.DMA_CH_HWIN_BASE_LO c), hostLim := s.get64 (Reg.DMA_CH_HWIN_LIM_LO c)
    devBase := s.get (Fld.DMA_CH_DWIN_BASE_V c), devLim := s.get (Fld.DMA_CH_DWIN_LIM_V c)
    ring := (s.reg (Reg.DMA_CH_RING_CFG c)).toNat
    idx := 0, desc := none, moved := 0, left := 0, fence := false, ended := false, owns := false }
  let s := s.modDma c (fun x => { x with run := some r, passed := 0 })
  let s := ((s.set (Fld.DMA_CH_STATUS_STATE c) 1).set (Fld.DMA_CH_STATUS_ERR c) 0).set (Fld.DMA_CH_STATUS_DESC_IDX c) 0
  let s := (s.set (Fld.DMA_CH_BYTES_V c) 0).set Fld.DMA_GLB_STATUS_BUSY (setBit (s.get Fld.DMA_GLB_STATUS_BUSY) c)
  if !s.hostWrites then s.dmaHalt c 7
  else if bitOf r.cfg 13 && s.dmaHost c && !s.cvuHost (bitsOf r.cfg 14 4) then s.dmaHalt c 8
  else s

/-- A trigger of channel `c`: a run, a held trigger, or TRIG_OVR_EV (R430). -/
def State.dmaTrigger (s : State) (c : Nat) : State :=
  if !s.flag (Fld.DMA_CH_CFG_EN c) || s.get (Fld.DMA_CH_STATUS_STATE c) == 2 then s
  else if (s.dmaOf c).run.isNone then s.dmaStart c
  else if s.flag (Fld.DMA_CH_STATUS_PEND c) then s.raise (Fld.DMA_CH_STATUS_TRIG_OVR_EV c)
  else s.raise (Fld.DMA_CH_STATUS_PEND c)

/-- The channels a timer tick or the end of a run triggers. -/
def State.dmaTriggerAll (s : State) (p : State → Nat → Bool) : State :=
  (List.range 16).foldl (fun s c => if p s c then s.dmaTrigger c else s) s

/-- DMA_TIMER_TICK: timer `t` triggers its channels, and takes up ALIGN as it stands (R431). -/
def State.dmaTick (s : State) (t : Nat) : State :=
  s.onSpine fun s => s.when (s.flag (Fld.DMA_TMR_CFG_EN t)) fun s =>
    let s := { s with dma := { s.dma with align := putD false s.dma.align t (s.flag (Fld.DMA_TMR_CFG_ALIGN t)) } }
    s.dmaTriggerAll (fun s c => s.get (Fld.DMA_CH_CFG_TRIG c) == 1 && s.get (Fld.DMA_CH_CFG_TMR c) == t)

/-- A rollover of the seconds: every aligned timer ticks (R431). -/
def State.dmaSecond (s : State) : State :=
  (List.range 8).foldl (fun s t => s.when (s.dma.align.getD t false) (fun s => s.dmaTick t)) s

end Sys2Proof.Machine
end

