-- ==== Sys2Proof/Machine/Defect.lean ====
section
/-! DEFINITION. Defects and failures (R201 to R206): how the criteria of Tables 7.1 and 7.2 are followed at each frame
boundary, and when a defect is raised or cleared. -/

namespace Sys2Proof.Machine

/-! ## Criteria of a line -/

/-- Third overhead byte of a level of the last OTUk frame: SM is 0, PM is 1, TCMi is i + 1. -/
def State.otuByte (s : State) (n k : Nat) : Nat :=
  match (s.ohp n).rx with
  | some (.otu f) =>
    let h := otuOh otuCols f
    (match k with
      | 0 => h.sm.st
      | 1 => h.pm.st
      | i + 2 => (h.tcm.getD i ⟨0, 0, 0⟩).st).toNat
  | _ => 0

/-- K2 bits 6 to 8 of the last STM-N frame. -/
def State.k2Low (s : State) (n : Nat) : Nat :=
  match (s.ohp n).rx with
  | some (.sdh f) => (sdhOh (stmN (s.format n)) f).k2.toNat % 8
  | _ => 0

/-- How a criterion is measured: in frames with the given counts to raise and to clear, in ns, in seconds of the monitoring, or
in a window of B2 violations (G.783). -/
inductive Measure where
  | frames (up down : Nat)
  | time (up down : Nat)
  | seconds (layer : Nat)
  | window (k : Nat)
  | absent
  deriving DecidableEq, Repr

/-- The measure of defect `b` by the line's format (Table 7.1). -/
def measureOf (fmt b : Nat) : Measure :=
  let o := isOtu fmt
  let sdh := isStm fmt
  let x := isMxf fmt
  match b with
  | 0 => .time 0 125000
  | 1 => if isEth fmt then .time 0 0 else if sdh || o || x then .time 3000000 3000000 else .absent
  | 2 => if o then .time 3000000 3000000 else .absent
  | 3 => if sdh || o then .frames 3 3 else .absent
  | 4 | 5 => if o then .frames 3 3 else .absent
  | 6 => if sdh || o || x then .frames 5 5 else .absent
  | 7 | 8 => if o then .frames 5 5 else .absent
  | 9 => if sdh || o || x then .time 0 0 else .absent
  | 10 => if o then .time 0 0 else .absent
  | 11 => if sdh then .window 0 else .absent
  | 12 => if sdh then .window 1 else if o || x then .seconds 0 else .absent
  | 13 => if o then .seconds 1 else .absent
  | 14 | 15 => if fmt == 0x0B then .time 0 0 else .absent
  | 16 => if x then .frames 8 8 else .absent
  | 17 | 18 => if fmt == 2 || fmt == 3 || fmt == 4 || fmt == 5 then .time 0 0 else .absent
  | 19 => if fmt == 2 || fmt == 3 || fmt == 4 then .time 0 0 else .absent
  | _ => .absent

/-- OTU2 line `n` carries flows in the active epoch. -/
def State.otuFlows (s : State) (n : Nat) : Bool :=
  (s.linePlanes n).any (fun p => (s.flowsOf p (s.active p)).any (fun f =>
    let d := s.desc p (s.active p) f
    d.srcCt != 0 && s.srcLineOf p d == n))

/-- The condition of defect `b` holds now; none where it is not being observed. -/
def State.lineRaw (s : State) (n b : Nat) : Option Bool :=
  let fmt := s.format n
  let tim := s.get (Fld.LCH_OHP_RX_STATUS_TIM n)
  match b with
  | 0 => some (!s.flag (Fld.LCH_LINE_STATUS_SD n) || !s.flag (Fld.LCH_LINE_STATUS_CDR_LOCK n))
  | 1 => some (!s.inFrame n)
  | 2 => if s.inFrame n then some (!s.flag (Fld.LCH_FAU_STATUS_MF_LOCK n)) else none
  | 3 => some (if isStm fmt then s.k2Low n == 7 else s.otuByte n 1 % 8 == 7)
  | 4 => some (s.otuByte n 1 % 8 == 6)
  | 5 => some (s.otuByte n 1 % 8 == 5)
  | 6 => some (if isStm fmt then s.k2Low n == 6 else if isOtu fmt then (s.otuByte n 0).testBit 3
      else (s.get (Fld.LCH_OHP_RX_SNAP_SNAP n)).testBit 6)
  | 7 => some ((s.otuByte n 1).testBit 3)
  | 8 => some ((s.otuByte n 0).testBit 2)
  | 9 => some (tim.testBit 0)
  | 10 => some (tim.testBit 1)
  | 14 => if s.otuFlows n then (s.ohp n).ptAcc.map (fun v => v != 0x21) else some false
  | 15 => some (s.otuFlows n && (s.linePlanes n).any (fun p => s.msiWrong p n != 0))
  | 16 => some (s.flag (Fld.LCH_MXF_STATUS_RATE_MM n) || s.flag (Fld.LCH_MXF_STATUS_FEC_MM n))
  | 17 => some ((s.ohp n).eth.fault == 1)
  | 18 => some ((s.ohp n).eth.fault == 2)
  | 19 => some (s.ohp n).eth.hiBer
  | _ => none

/-- Runs of a criterion after one more observation: held, or not held. A run begins with 1 and grows by `k`: by the frame, or by the
ns since the last observation, of which those before its first one do not count. -/
def runsStep (on off : List Nat) (b k : Nat) (raw : Bool) : List Nat × List Nat :=
  let grow := fun v => if v = 0 then 1 else v + k
  if raw then (modD 0 on b grow, putD 0 off b 0) else (putD 0 on b 0, modD 0 off b grow)

/-- One criterion of line `n` followed over `dt` ns; criteria in frames move only with a new frame. -/
def State.lineFollow (s : State) (n dt b : Nat) : State :=
  match s.lineRaw n b with
  | none => s
  | some raw =>
    let k := match measureOf (s.format n) b with
      | .time _ _ => dt
      | _ => 1
    let moves := match measureOf (s.format n) b with
      | .frames _ _ => (s.ohp n).fresh
      | .time _ _ => true
      | _ => false
    if moves then
      s.modDpm n (fun d => let r := runsStep d.on d.off b k raw; { d with on := r.1, off := r.2 })
    else s

/-- TCM level `i`: criterion `k` of AIS, OCI, LCK, LTC, TIM, BDI in the last frame (R202, R124). -/
def State.tcmRaw (s : State) (n i k : Nat) : Bool :=
  let st := s.otuByte n (i + 2)
  match k with
  | 0 => st % 8 == 7
  | 1 => st % 8 == 6
  | 2 => st % 8 == 5
  | 3 => st % 8 == 0
  | 4 => (s.get (Fld.LCH_OHP_RX_STATUS_TIM n)).testBit (2 + i)
  | _ => st.testBit 3

/-- The TCM levels that are monitored, followed over one frame. -/
def State.tcmFollow (s : State) (n : Nat) : State :=
  if isOtu (s.format n) && (s.ohp n).fresh then
    (List.range 6).foldl (fun s i =>
      if tcmMode (s.ohp n).tcmRx i = 0 then s
      else (List.range 6).foldl (fun s k =>
        s.modDpm n (fun d => let r := runsStep d.tcmOn d.tcmOff (7 * i + k) 1 (s.tcmRaw n i k); { d with tcmOn := r.1, tcmOff := r.2 })) s) s
  else s

/-- How long each defect has been there unmasked, and away (R204). -/
def State.presence (s : State) (n dt : Nat) : State :=
  (List.range 20).foldl (fun s b =>
    s.modDpm n (fun d => { d with
      here := if s.unmasked n b && !(b == 0 && s.lineAdmin n) then modD 0 d.here b (· + dt) else putD 0 d.here b 0
      gone := if s.lineDef n b then putD 0 d.gone b 0 else modD 0 d.gone b (· + dt) })) s

/-- Defect seconds of the layers of a line (R217): the conditions that give a layer SSF, and dRDI or dBDI at the far end. -/
def State.lineSeconds (s : State) (n : Nat) : State :=
  let fmt := s.format n
  let tim := s.flag (Fld.LCH_DPM_CFG_TIM_AIS n)
  let sect := (s.unmasked n 0 && !s.lineAdmin n) || s.unmasked n 1 || s.unmasked n 2 || (tim && s.unmasked n 9)
  let near0 := if isMxf fmt then s.lineSsf n else sect
  let far0 := !isStm fmt && s.unmasked n 6
  let far1 := if isStm fmt then s.unmasked n 6 else s.unmasked n 7
  (s.linePlanes n).foldl (fun s p =>
    let s := if near0 || far0 then s.accDefect p (lineRec p n 0) near0 far0 else s
    if !isMxf fmt && (s.lineSsf n || far1) then s.accDefect p (lineRec p n 1) (s.lineSsf n) far1 else s) s

/-- One frame boundary of line `n`, `dt` ns after the last: every integrator follows its criterion (R201). -/
def State.lineEvaluate (s : State) (n dt : Nat) : State :=
  s.onLine n fun s => s.when (s.format n != 0) fun s =>
    let s : State := (List.range 20).foldl (fun s b => s.lineFollow n dt b) s
    let s := (s.tcmFollow n).presence n dt
    let s := if isStm (s.format n) || isOtu (s.format n) || isMxf (s.format n) then s.lineSeconds n else s
    s.modOhp n (fun o => { o with fresh := false })

/-- DEGM of a threshold profile of plane `p` (Table 7.11). -/
def State.degm (s : State) (p prof : Nat) : Nat :=
  let v := bitsOf (s.bar2Num (pmBase p + 0x650000 + prof * 128 + 0x40) 4) 8 4
  if 2 ≤ v ∧ v ≤ 10 then v else 7

/-- A window of B2 violations of line `n`: the last complete one exceeded its ratio, fell below a tenth of it. -/
def State.b2Result (s : State) (n k : Nat) : Bool × Bool := ((s.line n).dpm.b2.getD k (0, 0, false, false)).2.2

/-- The criterion to raise defect `b` of line `n` is met. -/
def State.lineUp (s : State) (n b : Nat) : Bool :=
  let d := (s.line n).dpm
  match measureOf (s.format n) b with
  | .frames up _ => decide (up ≤ d.on.getD b 0)
  | .time up _ => s.lineRaw n b == some true && (up == 0 || decide (up < d.on.getD b 0))
  | .seconds k => (s.linePlanes n).any (fun p => decide (s.degm p (s.get (Fld.LCH_DPM_CFG_PROFILE n)) ≤ d.bad.getD k 0))
  | .window k => (s.b2Result n k).1
  | .absent => false

/-- The criterion to clear defect `b` of line `n` is met; a defect that the line's format does not have clears. -/
def State.lineDown (s : State) (n b : Nat) : Bool :=
  let d := (s.line n).dpm
  match measureOf (s.format n) b with
  | .frames _ down => decide (down ≤ d.off.getD b 0)
  | .time _ down => s.lineRaw n b == some false && (down == 0 || decide (down < d.off.getD b 0))
  | .seconds k => (s.linePlanes n).any (fun p => decide (s.degm p (s.get (Fld.LCH_DPM_CFG_PROFILE n)) ≤ d.good.getD k 0))
  | .window k => (s.b2Result n k).2
  | .absent => true

/-- Criterion `k` of TCM level `i` is met or has ended (R202). -/
def State.tcmUp (s : State) (n i k : Nat) : Bool :=
  let d := (s.line n).dpm
  let need := if k = 4 then 1 else if k = 5 then 5 else 3
  if k = 6 then (s.linePlanes n).any (fun p => decide (s.degm p (s.get (Fld.LCH_DPM_CFG_PROFILE n)) ≤ d.bad.getD (2 + i) 0))
  else decide (need ≤ d.tcmOn.getD (7 * i + k) 0)

def State.tcmDown (s : State) (n i k : Nat) : Bool :=
  let d := (s.line n).dpm
  let need := if k = 4 then 1 else if k = 5 then 5 else 3
  tcmMode (s.ohp n).tcmRx i = 0 ||
    (if k = 6 then (s.linePlanes n).any (fun p => decide (s.degm p (s.get (Fld.LCH_DPM_CFG_PROFILE n)) ≤ d.good.getD (2 + i) 0))
    else decide (need ≤ d.tcmOff.getD (7 * i + k) 0))

/-- LCH_DPM_TCM_DEF from the TCM defects: AIS, OCI or LCK; LTC; TIM; BDI; DEG per level. -/
def tcmWord (d : Nat) : Nat :=
  (List.range 6).foldl (fun v i =>
    let b := fun k => d.testBit (7 * i + k)
    v + (b2n (b 0 || b 1 || b 2) + 2 * b2n (b 3) + 4 * b2n (b 4) + 8 * b2n (b 5) + 16 * b2n (b 6)) * 2 ^ (5 * i)) 0

/-- A TCM defect of line `n` takes a value. -/
def State.setTcm (s : State) (n i k : Nat) (v : Bool) : State :=
  let s := s.modDpm n (fun d => { d with tcmDef := if v then setBit d.tcmDef (7 * i + k) else clearBit d.tcmDef (7 * i + k) })
  s.set (Fld.LCH_DPM_TCM_DEF_TCM n) (tcmWord (s.line n).dpm.tcmDef)

/-! ## Criteria of a flow -/

/-- The expected label of a terminating sink: of GFP-F in a VC 0x1B, of a structured VC-4 0x02, of GFP-F in an ODU 0x05
(Table 6.1, R160, R164). -/
def expectedLabel (d : Desc) : Nat := if d.struct then 0x02 else if d.srcCt = 0x90 ∨ d.srcCt = 0x91 then 0x05 else 0x1B

/-- An ODU container at the source. -/
def isOdu (ct : Nat) : Bool := baseCt ct == 0x10 || baseCt ct == 0x11

/-- The path trace of flow `f` mismatches its trace set under TIM_MODE (R132, R205). -/
def State.flowTim (s : State) (p f : Nat) (d : Desc) : Bool :=
  let len := if (s.flow p f).trace.last.isEmpty then 64 else (s.flow p f).trace.last.length
  let acc := s.bar2Bytes (traceAddr p d.traceIdx) 64
  let exp := s.bar2Bytes (traceAddr p d.traceIdx + 64) 64
  d.traceEn && (s.flow p f).trace.got
    && (timRanges (if isOdu d.srcCt then 0x0B else 6) len d.timMode).any (fun r => (acc.drop r.1).take r.2 != (exp.drop r.1).take r.2)

/-- The measure of flow defect `b` for a descriptor whose source is on a line of format `fmt` (Table 7.2). -/
def flowMeasure (fmt : Nat) (d : Desc) (b : Nat) : Measure :=
  let odu := isOdu d.srcCt
  let group := isMxf fmt && !isLower fmt d.srcCt d.srcPos
  let vc := isVc d.srcCt && !group
  match b with
  | 1 => if odu then .frames 3 3 else if vc then .time 0 0 else .absent
  | 2 | 3 => if odu then .frames 3 3 else .absent
  | 4 => if vc then .time 0 0 else .absent
  | 5 => if odu then .time 3000000 3000000 else .absent
  | 6 => if isVc d.srcCt && d.terminates then .time 0 0 else .absent
  | 7 => if d.terminates then .time 0 0 else .absent
  | 8 => if d.traceEn then .time 0 0 else .absent
  | 9 => if odu || (isVc d.srcCt && d.terminates) then .frames 5 5 else if group then .time 0 0 else .absent
  | 10 => if odu || isVc d.srcCt then .seconds 0 else .absent
  | 11 => if group && d.srcCt != 0x30 then .time 0 0 else .absent
  | 12 | 13 => if d.isPacket && d.srcCt != 0x40 && d.srcCt != 0x41 then .time 0 0 else .absent
  | 14 => if group then .time 0 0 else .absent
  | _ => .absent

/-- SLOT_RDI is received for a slot of the group that is the source of a flow (R106). -/
def State.slotRdiIn (s : State) (p : Nat) (d : Desc) (n : Nat) : Bool :=
  isMxf (s.format n) && !isLower (s.format n) d.srcCt d.srcPos && decide ((s.line n).mxf.slotRdi &&& (s.srcPosOf p d % 2 ^ 24) ≠ 0)

/-- The condition of flow defect `b`, with what the path shows. -/
def State.flowRaw (s : State) (p f : Nat) (d : Desc) (n : Nat) (x : PathFrame) (b : Nat) : Bool :=
  let c := s.flow p f
  let mask := s.srcPosOf p d % 2 ^ 24
  let label := s.fget p f FS.rxLabel
  match b with
  | 1 => if isOdu d.srcCt then x.stat == 7 else c.st == 1
  | 2 => x.stat == 6
  | 3 => x.stat == 5
  | 4 => c.st == 2
  | 5 => x.lom
  | 6 => c.labelled && label == 0
  | 7 => c.labelled && label != expectedLabel d && !(isVc d.srcCt && label == 1)
  | 8 => s.flowTim p f d
  | 9 => if isOdu d.srcCt || (isVc d.srcCt && d.terminates) then x.rdi else s.slotRdiIn p d n
  | 11 => c.st == 1
  | 12 => c.gfp != 2
  | 13 => c.csf
  | 14 => decide ((s.line n).mxf.slotAis &&& mask ≠ 0)
  | _ => false

/-- One byte of a path trace (R130, R131): an ODU TTI by its multiframe position; an SDH trace of 16 bytes from its marker
byte, or of 64 bytes ending in CR LF. -/
def Trace.pathByte (t : Trace) (odu : Bool) (pos : Nat) (b : Byte) : Trace :=
  if odu then
    let i := pos % 64
    let buf := if i = 0 then [b] else if t.buf.length = i then t.buf ++ [b] else []
    if buf.length = 64 then t.period buf else { t with buf := buf }
  else if b.toNat.testBit 7 then { t with buf := [b] }
  else
    let buf := t.buf ++ [b]
    if (buf.headD 0).toNat.testBit 7 then
      if buf.length = 16 then
        if (buf.headD 0).toNat % 128 = crc7Of buf then t.period buf else { t with buf := [], run := 0, last := [] }
      else { t with buf := buf }
    else if b = 0x0A ∧ (t.buf.getLast?).getD 0 = 0x0D then
      if buf.length = 64 then t.period buf else { t with buf := [] }
    else { t with buf := if 64 ≤ buf.length then buf.drop 1 else buf }

/-- A flow whose path monitoring applies: its source and container (R205). -/
def State.flowSource (s : State) (p f : Nat) : Option (Desc × Nat) :=
  let (d, n) := s.rxSide p f
  if d.valid && d.srcCt != 0 then some (d, n) else none

/-- One frame boundary of flow `f`, `dt` ns after the last (R201, R205): integrators, label, trace, blocks, seconds. -/
def State.flowEvaluate (s : State) (p f dt : Nat) (x : PathFrame) : State :=
  s.onPlanes p fun s p =>
    match s.flowSource p f with
    | none => s
    | some (d, n) =>
      let fmt := s.format n
      let path := isOdu d.srcCt || isVc d.srcCt
      let s := s.modFlow p f (fun c => { c with
        label := if path then runOf c.label x.label.toNat else c.label
        trace := if path then c.trace.pathByte (isOdu d.srcCt) x.pos x.trace else c.trace
        reiDue := if path then c.reiDue + x.viol else c.reiDue })
      let s : State := (List.range 15).foldl (fun s b =>
        match flowMeasure fmt d b with
        | .frames _ _ => s.modFlow p f (fun c =>
            let r := runsStep c.on c.off b 1 (s.flowRaw p f d n x b); { c with on := r.1, off := r.2 })
        | .time _ _ => s.modFlow p f (fun c =>
            let r := runsStep c.on c.off b dt (s.flowRaw p f d n x b); { c with on := r.1, off := r.2 })
        | _ => s) s
      let s : State := (List.range 15).foldl (fun s b => s.modFlow p f (fun c => { c with
        here := if s.flowDef p f b then modD 0 c.here b (· + dt) else putD 0 c.here b 0
        gone := if s.flowDef p f b then putD 0 c.gone b 0 else modD 0 c.gone b (· + dt) })) s
      let s := if path && (x.viol != 0 || x.rei != 0) then s.accBlocks p (flowRec p f) (b2n (x.viol != 0)) (b2n (x.rei != 0)) else s
      if s.flowSsf p f || s.flowDef p f 9 then s.accDefect p (flowRec p f) (s.flowSsf p f) (s.flowDef p f 9) else s

/-- DEGM of flow `f`. -/
def State.flowDegm (s : State) (p f : Nat) : Nat := s.degm p (bitsOf (s.bar2Num (flowPmWord p f) 4) 2 4)

/-- The criterion to raise, or to clear, flow defect `b` is met. -/
def State.flowUp (s : State) (p f b : Nat) : Bool :=
  match s.flowSource p f with
  | none => false
  | some (d, n) =>
    let c := s.flow p f
    match flowMeasure (s.format n) d b with
    | .frames up _ => decide (up ≤ c.on.getD b 0) || (b == 9 && s.slotRdiIn p d n)
    | .time up _ => decide (up < c.on.getD b 0)
    | .seconds _ => decide (s.flowDegm p f ≤ c.bad)
    | _ => false

def State.flowDown (s : State) (p f b : Nat) : Bool :=
  match s.flowSource p f with
  | none => true
  | some (d, n) =>
    let c := s.flow p f
    match flowMeasure (s.format n) d b with
    | .frames _ down => decide (down ≤ c.off.getD b 0) && !(b == 9 && s.slotRdiIn p d n)
    | .time _ down => decide (down < c.off.getD b 0)
    | .seconds _ => decide (s.flowDegm p f ≤ c.good)
    | _ => true

/-! ## Raising and clearing -/

/-- DEFECT_RAISE (R202, R205): a defect whose raise criterion is met. -/
def State.defectRaise (s : State) (x : DefectId) : State :=
  match x with
  | .line n b =>
    s.onLine n.val fun s => s.when (!s.lineDef n.val b.val && s.lineUp n.val b.val) fun s =>
      (s.orBits (Fld.LCH_DPM_DEF_DEF n.val) (2 ^ b.val)).orBits (Fld.LCH_DPM_DEF_EV_RISE n.val) (2 ^ b.val)
  | .tcm n i k =>
    s.onLine n.val fun s => s.when (isOtu (s.format n.val) && tcmMode (s.ohp n.val).tcmRx i.val != 0 && s.tcmUp n.val i.val k.val)
      fun s => s.setTcm n.val i.val k.val true
  | .flow p f b =>
    s.onPlanes p.val fun s p => s.when (b.val != 0 && !s.flowDef p f.val b.val && s.flowUp p f.val b.val) fun s =>
      s.setFlowDef p f.val b.val true

/-- DEFECT_CLEAR (R202, R205): a defect whose clear criterion is met. -/
def State.defectClear (s : State) (x : DefectId) : State :=
  match x with
  | .line n b =>
    s.onLine n.val fun s => s.when (s.lineDef n.val b.val && s.lineDown n.val b.val) fun s =>
      s.set (Fld.LCH_DPM_DEF_DEF n.val) (clearBit (s.get (Fld.LCH_DPM_DEF_DEF n.val)) b.val)
  | .tcm n i k =>
    s.onLine n.val fun s => s.when ((s.line n.val).dpm.tcmDef.testBit (7 * i.val + k.val) && s.tcmDown n.val i.val k.val)
      fun s => s.setTcm n.val i.val k.val false
  | .flow p f b =>
    s.onPlanes p.val fun s p => s.when (b.val != 0 && s.flowDef p f.val b.val && s.flowDown p f.val b.val) fun s =>
      s.setFlowDef p f.val b.val false

/-- FAILURE_DECLARE (R204): an unmasked defect present for 2.5 s; TCM defects have no failures. -/
def State.failureDeclare (s : State) (x : DefectId) : State :=
  match x with
  | .line n b =>
    s.onLine n.val fun s => s.when (s.unmasked n.val b.val && decide (2500000000 ≤ (s.line n.val).dpm.here.getD b.val 0)
        && !(b.val == 0 && s.lineAdmin n.val)) fun s => s.orBits (Fld.LCH_DPM_FAIL_FAIL n.val) (2 ^ b.val)
  | .tcm _ _ _ => s
  | .flow p f b =>
    s.onPlanes p.val fun s p => s.when (s.flowDef p f.val b.val && decide (2500000000 ≤ (s.flow p f.val).here.getD b.val 0))
      fun s => s.modFlow p f.val (fun c => { c with fail := setBit c.fail b.val })

/-- FAILURE_CLEAR (R204): a failure whose defect has been absent for 10 s. -/
def State.failureClear (s : State) (x : DefectId) : State :=
  match x with
  | .line n b =>
    s.onLine n.val fun s => s.when (!s.lineDef n.val b.val && decide (10000000000 ≤ (s.line n.val).dpm.gone.getD b.val 0)) fun s =>
      s.set (Fld.LCH_DPM_FAIL_FAIL n.val) (clearBit (s.get (Fld.LCH_DPM_FAIL_FAIL n.val)) b.val)
  | .tcm _ _ _ => s
  | .flow p f b =>
    s.onPlanes p.val fun s p => s.when (!s.flowDef p f.val b.val && decide (10000000000 ≤ (s.flow p f.val).gone.getD b.val 0))
      fun s => s.modFlow p f.val (fun c => { c with fail := clearBit c.fail b.val })

/-- 3 s without a client management frame clear dCSF (R205). -/
def State.dcsfTimeout (s : State) (p f : Nat) : State :=
  s.onPlanes p fun s p =>
    let s := s.modFlow p f (fun c => { c with csf := false, on := putD 0 c.on 13 0 })
    if s.flowDef p f 13 then s.setFlowDef p f 13 false else s

/-- A GFP-F destination whose flow has SSF sends a CSF client management frame: UPI 1 when the source line has dLOS, else 2
(R211). -/
def State.csfSend (s : State) (p f : Nat) : State :=
  s.onPlanes p fun s p =>
    match s.packetDest p f with
    | none => s
    | some x =>
      s.when (x.d.isPacket && x.d.dstCt != 0x40 && s.lineOn x.line && s.lineActive x.line && s.flowSsf p f) fun s =>
        let upi := if s.lineDef (s.srcLineOf p x.d) 0 then 1 else 2
        s.modFlow p f (fun c =>
          let (bs, st) := gfpFrame c.scr 4 false upi []
          { c with sent := bs, scr := st, gfpOut := c.gfpOut ++ bs })

/-! ## Acceptance -/

/-- A path label that has arrived unchanged in 5 consecutive frames is accepted (R205). -/
def State.labelAccept (s : State) (x : LabelAt) : State :=
  match x with
  | .line n => s.lineLabelAccept n.val
  | .flow p f =>
    s.onPlanes p.val fun s p => s.when (decide (5 ≤ (s.flow p f.val).label.2)) fun s =>
      (s.fset p f.val FS.rxLabel (s.flow p f.val).label.1).modFlow p f.val (fun c => { c with labelled := true })

/-- A trace that has arrived identical in 3 trace periods is accepted (R131), on a line or in a flow's trace set. -/
def State.storeAccept (s : State) (x : TraceStore) : State :=
  match x with
  | .line n t => s.traceAccept n.val t.val
  | .flow p f =>
    s.onPlanes p.val fun s p =>
      let (d, _) := s.rxSide p f.val
      let t := (s.flow p f.val).trace
      s.when (d.valid && d.traceEn && decide (3 ≤ t.run)) fun s =>
        let a := traceAddr p d.traceIdx
        let s :=
          if s.bar2Bytes a t.last.length = t.last then s
          else
            let s := s.putBar2 a ((t.last ++ List.replicate 64 0).take 64)
            s.fset p f.val FS.accCnt (s.fget p f.val FS.accCnt + 1)
        s.modFlow p f.val (fun c => { c with trace := { c.trace with got := true } })

/-! ## Meanings -/

/-- LABEL_ACCEPT (R205). -/
def execLabelAccept (x : LabelAt) (s : State) : Host.Outcome State Fault Refusal := done (s.labelAccept x)

/-- TRACE_ACCEPT (R131). -/
def execTraceAccept (x : TraceStore) (s : State) : Host.Outcome State Fault Refusal := done (s.storeAccept x)

/-- FAILURE_DECLARE (R204). -/
def execFailureDeclare (x : DefectId) (s : State) : Host.Outcome State Fault Refusal := done (s.failureDeclare x)

/-- FAILURE_CLEAR (R204). -/
def execFailureClear (x : DefectId) (s : State) : Host.Outcome State Fault Refusal := done (s.failureClear x)

/-- DCSF_TIMEOUT (R205). -/
def execDcsfTimeout (p : PlaneNo) (f : Fin 4096) (s : State) : Host.Outcome State Fault Refusal := done (s.dcsfTimeout p.val f.val)

/-- CSF_SEND (R211). -/
def execCsfSend (p : PlaneNo) (f : Fin 4096) (s : State) : Host.Outcome State Fault Refusal := done (s.csfSend p.val f.val)

end Sys2Proof.Machine
end

