-- ==== Sys2Proof/Machine/Pm.lean ====
section
/-! DEFINITION. The Hens (R215 to R226): the pass over the last second of every flow and line layer, the bins of Table
7.10, threshold crossing alerts. -/

namespace Sys2Proof.Machine

/-! ## Bins -/

/-- What a pass works on: the plane, the record's address, how its alerts name it (INDEX with LINE and LAYER, Table 7.12),
its profile, whether alerts are raised. -/
structure PmItem where
  plane : Nat
  addr : Nat
  index : Nat
  prof : Nat
  tca : Bool
  deriving DecidableEq, Repr

/-- Offset in the record of the current or previous bin of 15 minutes or 24 hours (Table 7.8). -/
def binOfs (day prev : Bool) : Nat :=
  match day, prev with
  | false, false => 0x10
  | false, true => 0x20
  | true, false => 0x30
  | true, true => 0x48

/-- Word offset, lowest bit and width of a parameter in a bin (Table 7.10): 0 ES, 1 SES, 2 UAS, 3 BBE. -/
def binField (day fe : Bool) (k : Nat) : Nat × Nat × Nat :=
  match day, k with
  | false, 3 => (0, if fe then 24 else 0, 24)
  | true, 3 => (0, if fe then 32 else 0, 32)
  | false, _ => (8, 10 * k + (if fe then 30 else 0), 10)
  | true, _ => (if fe then 16 else 8, 17 * k, 17)

/-- Bits OPEN and SUSPECT of a bin: word offset and bit. -/
def binFlag (day suspect : Bool) : Nat × Nat :=
  match day, suspect with
  | false, false => (8, 60)
  | false, true => (8, 61)
  | true, false => (8, 51)
  | true, true => (8, 52)

/-- A parameter of a bin. -/
def State.binGet (s : State) (a : Nat) (day prev fe : Bool) (k : Nat) : Nat :=
  let (o, lo, len) := binField day fe k
  bitsOf (s.bar2Num (a + binOfs day prev + o) 8) lo len

/-- A flag of a bin. -/
def State.binBit (s : State) (a : Nat) (day prev suspect : Bool) : Bool :=
  let (o, b) := binFlag day suspect
  (s.bar2Num (a + binOfs day prev + o) 8).testBit b

/-- The state with a flag of a bin set or cleared. -/
def State.setBinBit (s : State) (a : Nat) (day prev suspect v : Bool) : State :=
  let (o, b) := binFlag day suspect
  let w := s.bar2Num (a + binOfs day prev + o) 8
  s.putBar2Num (a + binOfs day prev + o) 8 (if v then setBit w b else clearBit w b)

/-- The threshold of a parameter in a profile (Table 7.11). -/
def State.threshold (s : State) (p prof : Nat) (day fe : Bool) (k : Nat) : Nat :=
  s.bar2Num (pmBase p + 0x650000 + prof * 128 + (if day then 0x20 else 0) + (if fe then 0x10 else 0) + 4 * k) 4

/-- Seconds at which the present or the previous interval of a plane starts (R222). -/
def State.intervalStart (s : State) (p : Nat) (day prev : Bool) : Nat :=
  let ofs := if s.get (Fld.DPM_PM_CFG_DAY_OFS p) < 96 then s.get (Fld.DPM_PM_CFG_DAY_OFS p) * 900 else 0
  let i := if day then (s.plane p).int24 else (s.plane p).int15
  if day then (i - b2n prev) * 86400 + ofs - 86400 else (i - b2n prev) * 900

/-- A threshold crossing alert is appended to the plane's ring, or dropped (R224). -/
def State.tcaPut (s : State) (x : PmItem) (day prev fe : Bool) (k v thr : Nat) : State :=
  let p := x.plane
  let wr := s.get (Fld.DPM_TCA_WR_WR p)
  if 4096 ≤ ringFill wr (s.get (Fld.DPM_TCA_RD_RD p)) then s.raise (Fld.DPM_PM_STATUS_TCA_DROP_EV p)
  else
    let w0 := x.index + 2 ^ 18 * b2n day + 2 ^ 19 * b2n fe + 2 ^ 20 * k + 2 ^ 22 * b2n prev
    let rec' := leBytes 4 w0 ++ leBytes 4 (s.intervalStart p day prev) ++ leBytes 4 v ++ leBytes 4 thr
    let s := (s.putBar2 (pmBase p + 0x660000 + (wr % 4096) * 16) rec').sign p rec'
    (s.add (Fld.DPM_TCA_WR_WR p) 1).raise (Fld.DPM_PM_STATUS_TCA_EV p)

/-- `k` more of a parameter in one bin, with an alert where it first reaches its threshold (R224). -/
def State.binAdd (s : State) (x : PmItem) (day prev fe : Bool) (par k : Nat) : State :=
  if k = 0 then s
  else
    let (o, lo, len) := binField day fe par
    let a := x.addr + binOfs day prev + o
    let old := s.binGet x.addr day prev fe par
    let s := s.putBar2Num a 8 (putBits (s.bar2Num a 8) lo len (old + k))
    let thr := s.threshold x.plane x.prof day fe par
    if x.tca ∧ thr ≠ 0 ∧ old < thr ∧ thr ≤ old + k ∧ (!prev ∨ s.binBit x.addr day true false) then
      s.tcaPut x day prev fe par (old + k) thr
    else s

/-- `pre` of a parameter to the previous interval and `cur` to the current one, in the bins of both lengths: only a bin
that is still open takes the former (R219, R222). -/
def State.binCommit (s : State) (x : PmItem) (fe : Bool) (par pre cur : Nat) : State :=
  [false, true].foldl (fun s day =>
    let opened := s.binBit x.addr day true false
    let s := if opened then s.binAdd x day true fe par pre else s.binAdd x day false fe par pre
    s.binAdd x day false fe par cur) s

/-! ## One end of one second -/

namespace PE
def unavail : RField := ⟨0, 0, 1⟩
def run : RField := ⟨0, 1, 4⟩
def pre : RField := ⟨0, 5, 4⟩
def esPend : RField := ⟨0, 9, 4⟩
def bbePend : RField := ⟨0, 13, 17⟩
end PE

/-- A field of the run state of an end: the word at 0x08 or 0x0C of the record. -/
def State.eget (s : State) (x : PmItem) (fe : Bool) (f : RField) : Nat :=
  bitsOf (s.bar2Num (x.addr + (if fe then 0x0C else 0x08)) 4) f.lo f.len

/-- The state with a field of the run state of an end holding `v`. -/
def State.eset (s : State) (x : PmItem) (fe : Bool) (f : RField) (v : Nat) : State :=
  let a := x.addr + (if fe then 0x0C else 0x08)
  s.putBar2Num a 4 (putBits (s.bar2Num a 4) f.lo f.len v)

/-- The pending run of an end is resolved. -/
def State.runEnd (s : State) (x : PmItem) (fe : Bool) : State :=
  (((s.eset x fe PE.run 0).eset x fe PE.pre 0).eset x fe PE.esPend 0).eset x fe PE.bbePend 0

/-- One classified second of one end: SES, ES and its background block errors (R219). -/
def State.endSecond (s : State) (x : PmItem) (fe ses es : Bool) (bbe : Nat) : State :=
  let run := s.eget x fe PE.run
  let pre := s.eget x fe PE.pre
  if s.eget x fe PE.unavail = 0 then
    if ses then
      if run + 1 = 10 then ((s.binCommit x fe 2 pre (10 - pre)).runEnd x fe).eset x fe PE.unavail 1
      else s.eset x fe PE.run (run + 1)
    else
      let s := ((s.binCommit x fe 1 pre (run - pre)).binCommit x fe 0 pre (run - pre)).runEnd x fe
      (s.binCommit x fe 0 0 (b2n es)).binCommit x fe 3 0 bbe
  else if ses then ((s.binCommit x fe 2 pre (run - pre)).runEnd x fe).binCommit x fe 2 0 1
  else
    let esP := s.eget x fe PE.esPend + b2n es
    let bbeP := s.eget x fe PE.bbePend + bbe
    if run + 1 = 10 then
      (((s.binCommit x fe 0 0 esP).binCommit x fe 3 0 bbeP).runEnd x fe).eset x fe PE.unavail 0
    else ((s.eset x fe PE.run (run + 1)).eset x fe PE.esPend esP).eset x fe PE.bbePend bbeP

/-- An open previous bin closes once neither end holds seconds of it (R222). -/
def State.closeOpen (s : State) (x : PmItem) : State :=
  if s.eget x false PE.pre = 0 ∧ s.eget x true PE.pre = 0 then
    (s.setBinBit x.addr false true false false).setBinBit x.addr true true false false
  else s

/-! ## Intervals -/

/-- The current bin of one length becomes the previous one, and a zeroed one starts; while a run holds seconds of the old
interval the previous bin is open (R222). -/
def State.newInterval (s : State) (x : PmItem) (day : Bool) : State :=
  let size := if day then 24 else 16
  let cur := s.bar2Bytes (x.addr + binOfs day false) size
  let s := (s.putBar2 (x.addr + binOfs day true) cur).putBar2 (x.addr + binOfs day false) (List.replicate size 0)
  let r0 := s.eget x false PE.run
  let r1 := s.eget x true PE.run
  let s := s.setBinBit x.addr day true false (r0 != 0 || r1 != 0)
  (s.eset x false PE.pre r0).eset x true PE.pre r1

/-- How a plane's pass goes: the parity consumed, new intervals, those of them that a time step entered (R223), and merged
accumulators (R221). -/
structure PassInfo where
  par : Nat
  new15 : Bool
  new24 : Bool
  stepped : Bool
  merged : Bool
  deriving DecidableEq, Repr

/-- SUSPECT in the current bins of a record (R223). -/
def State.suspect (s : State) (a : Nat) : State := (s.setBinBit a false false true true).setBinBit a true false true true

/-- The 15-minute bin moves first on its own; at a day's boundary both move. A new bin that a time step entered is suspect
(R223). -/
def State.intervals (s : State) (x : PmItem) (i : PassInfo) : State :=
  let move := fun (s : State) (new day : Bool) =>
    if !new then s
    else
      let s := s.newInterval x day
      if i.stepped then s.setBinBit x.addr day false true true else s
  move (move s i.new15 false) i.new24 true

/-! ## Layers -/

/-- Blocks per second as a fraction, and the SES threshold of a layer (Table 7.5). -/
structure BlockRate where
  num : Nat
  den : Nat
  ses : Nat
  deriving DecidableEq, Repr

/-- The block rate of a line layer by its format. -/
def lineBlocks (fmt : Nat) : BlockRate :=
  match fmt with
  | 0x0A => ⟨204201, 10, 3064⟩
  | 0x0B => ⟨820259, 10, 12304⟩
  | 0x0C => ⟨849857, 10, 12748⟩
  | 0x0D => ⟨mxfRate fmt, 131072, 954⟩
  | 0x0E => ⟨mxfRate fmt, 131072, 1908⟩
  | 0x0F => ⟨mxfRate fmt, 131072, 3815⟩
  | 0x10 => ⟨mxfRate fmt, 131072, 9537⟩
  | _ => ⟨8000, 1, 2400⟩

/-- The block rate of a flow's container, if it has one. -/
def flowBlocks (d : Desc) : Option BlockRate :=
  match baseCt d.srcCt with
  | 1 => some ⟨2000, 1, 600⟩
  | 2 | 3 | 4 | 5 | 6 => some ⟨8000, 1, 2400⟩
  | 0x10 => some ⟨101674, 10, 1526⟩
  | 0x11 => some ⟨d.arg * 1020837, 100, (d.arg * 15312555 + 9999) / 10000⟩
  | _ => none

/-- DEGTHR_PCT of a profile; values outside 1 to 100 as 15 (Table 7.11). -/
def State.degPct (s : State) (p prof : Nat) : Nat :=
  let v := bitsOf (s.bar2Num (pmBase p + 0x650000 + prof * 128 + 0x40) 4) 0 7
  if 1 ≤ v ∧ v ≤ 100 then v else 15

/-- One second of one record (R218): the accumulator of parity `par` is consumed, both ends are classified; answers
whether the near end's second was bad. The far end is not evaluated while the near end has DS = 1. -/
def State.second (s : State) (x : PmItem) (r : BlockRate) (par : Nat) (far : Bool) : State × Bool :=
  let w := s.bar2Num (x.addr + 4 * par) 4
  let s := s.putBar2Num (x.addr + 4 * par) 4 0
  let ne := bitsOf w 0 14
  let fe := bitsOf w 14 14
  let nds := bitOf w 28
  let fds := bitOf w 29
  let ses := nds || decide (r.ses ≤ ne)
  let s := s.endSecond x false ses (ses || ne != 0) (if ses then 0 else ne)
  let s :=
    if nds || !far then s
    else
      let fses := fds || decide (r.ses ≤ fe)
      s.endSecond x true fses (fses || fe != 0) (if fses then 0 else fe)
  (s.closeOpen x, nds || decide (s.degPct x.plane x.prof * r.num ≤ ne * 100 * r.den))

/-- Runs of bad and good seconds (R202, R205). -/
def degRun (bad good : Nat) (b : Bool) : Nat × Nat := if b then (bad + 1, 0) else (0, good + 1)

/-- SUSPECT in the current bins of plane `p` (R223). -/
def State.planeSuspect (s : State) (p : Nat) : State :=
  let s : State := (s.flowsOf p (s.active p)).foldl (fun s f => s.suspect (flowRec p f)) s
  (s.planeLines p).foldl (fun s n => (s.suspect (lineRec p n 0)).suspect (lineRec p n 1)) s

/-- The pass over one flow (R220); flows with PM_EN = 0 are skipped. An accumulator that a pass did not consume, of the whole
plane or of a flow skipped, is a merged one when its parity comes round again (R221). -/
def State.passFlow (s : State) (p f : Nat) (i : PassInfo) : State :=
  let w := s.bar2Num (flowPmWord p f) 4
  match flowBlocks (s.desc p (s.active p) f) with
  | none => s
  | some r =>
    if !w.testBit 0 then s.modFlow p f (fun c => { c with unread := setBit c.unread i.par })
    else
      let x : PmItem := ⟨p, flowRec p f, f, bitsOf w 2 4, w.testBit 1⟩
      let merged := i.merged || (s.flow p f).unread.testBit i.par
      let s := (s.intervals x i).modFlow p f (fun c => { c with unread := clearBit c.unread i.par })
      let s := if merged then (s.suspect x.addr).raise (Fld.DPM_PM_STATUS_OVERRUN_EV p) else s
      let (s, b) := s.second x r i.par true
      s.modFlow p f (fun c => let d := degRun c.bad c.good b; { c with bad := d.1, good := d.2 })

/-- The pass over layer `k` of line `n`; line layers always raise alerts. The first plane of the line keeps its count of
bad seconds. -/
def State.passLayer (s : State) (p n k : Nat) (i : PassInfo) : State :=
  let fmt := s.format n
  let x : PmItem := ⟨p, lineRec p n k, n + 2 ^ 16 + 2 ^ 17 * k, s.get (Fld.LCH_DPM_CFG_PROFILE n), true⟩
  let s := s.intervals x i
  let s := if i.merged then s.suspect x.addr else s
  let (s, b) := s.second x (lineBlocks fmt) i.par (!(isStm fmt && k == 0))
  if (s.linePlanes n).headD 2 = p then
    s.modDpm n (fun d =>
      let r := degRun (d.bad.getD k 0) (d.good.getD k 0) b
      { d with bad := putD 0 d.bad k r.1, good := putD 0 d.good k r.2 })
  else s

/-- Bad and good seconds of the TCM levels of an OTUk line (R202). -/
def State.tcmSecond (s : State) (p n : Nat) : State :=
  let r := lineBlocks (s.format n)
  let pct := s.degPct p (s.get (Fld.LCH_DPM_CFG_PROFILE n))
  if isOtu (s.format n) && (s.linePlanes n).headD 2 == p then
    s.modDpm n (fun d =>
      let d := (List.range 6).foldl (fun (d : Dpm) j =>
        let b := s.lineSsf n || decide (pct * r.num ≤ d.tcmEb.getD j 0 * 100 * r.den)
        let g := degRun (d.bad.getD (2 + j) 0) (d.good.getD (2 + j) 0) b
        { d with bad := putD 0 d.bad (2 + j) g.1, good := putD 0 d.good (2 + j) g.2 }) d
      { d with tcmEb := List.replicate 6 0, tcmFe := List.replicate 6 0 })
  else s

/-- The pass of the Hens of plane `p` over the second of parity `par` (R220). -/
def State.henPass (s : State) (p : Nat) (i : PassInfo) : State :=
  let s : State := (s.flowsOf p (s.active p)).foldl (fun s f => s.passFlow p f i) s
  ((s.planeLines p).filter (fun n => s.lineOn n)).foldl (fun s n =>
    let fmt := s.format n
    let s := if isStm fmt || isOtu fmt || isMxf fmt then s.passLayer p n 0 i else s
    let s := if isStm fmt || isOtu fmt then s.passLayer p n 1 i else s
    s.tcmSecond p n) s

/-- The 15-minute and 24-hour intervals of second `t` in plane `p` (R222); the latter counted one high. -/
def State.intervalsOf (s : State) (p t : Nat) : Nat × Nat :=
  let ofs := if s.get (Fld.DPM_PM_CFG_DAY_OFS p) < 96 then s.get (Fld.DPM_PM_CFG_DAY_OFS p) * 900 else 0
  (t / 900, (t + 86400 - ofs) / 86400)

/-- The seconds field of the time-keeper rolls over in plane `p`, second `t` has ended (R215, R220, R221): the parity
changes and a pass starts, unless the last one still runs. -/
def State.secondEnds (s : State) (p t : Nat) : State :=
  let par := (s.plane p).parity
  let s := s.modPlane p (fun pl => { pl with parity := 1 - par })
  if s.get (Fld.DPM_PM_SEQ_SEQ p) % 2 = 1 then s.modPlane p (fun pl => { pl with stale := setBit pl.stale par })
  else
    let (i15, i24) := s.intervalsOf p t
    let pl := s.plane p
    let i : PassInfo := ⟨par, decide (pl.int15 < i15), decide (pl.int24 < i24), pl.stepped, pl.stale.testBit par⟩
    let s := s.modPlane p (fun pl => { pl with
      stepped := false, stale := clearBit pl.stale par, int15 := max pl.int15 i15, int24 := max pl.int24 i24 })
    let s := if i.merged then s.raise (Fld.DPM_PM_STATUS_OVERRUN_EV p) else s
    (s.add (Fld.DPM_PM_SEQ_SEQ p) 1).henPass p i

/-- The rollover in every plane that runs. -/
def State.rollover (s : State) (t : Nat) : State :=
  ([0, 1].filter (fun p => s.planeRuns p && (!s.twin || decide (3 ≤ s.planeState p)))).foldl (fun s p => s.secondEnds p t) s

/-- HEN_PASS_END (R226): SEQ becomes even, PASS_US holds the duration, saturating. -/
def State.henPassEnd (s : State) (p us : Nat) : State :=
  s.when (s.planeRuns p && s.get (Fld.DPM_PM_SEQ_SEQ p) % 2 == 1) fun s =>
    (s.add (Fld.DPM_PM_SEQ_SEQ p) 1).set (Fld.DPM_PM_STATUS_PASS_US p) (min us 65535)

/-- The time-keeper was stepped (R223): TSTEP_EV, and SUSPECT in the current bins of every monitored record. -/
def State.stepSuspect (s : State) : State :=
  ([0, 1].filter (fun p => s.planeRuns p)).foldl (fun s p =>
    let s := s.raise (Fld.DPM_PM_STATUS_TSTEP_EV p)
    (s.planeSuspect p).modPlane p (fun pl => { pl with stepped := true })) s

/-- HEN_PASS_END (R226): `us` is the duration of the pass. -/
def execHenPassEnd (p : PlaneNo) (us : Nat) (s : State) : Host.Outcome State Fault Refusal := done (s.henPassEnd p.val us)

end Sys2Proof.Machine
end

