-- ==== Sys2Proof/Machine/LineProt.lean ====
section
/-! DEFINITION. Line protection groups (R229 to R242): APS requests (Table 8.2), the accepted far-end request (R237,
R238), selection (R235, R236, R239, R240), external commands and partner violations. -/

namespace Sys2Proof.Machine

/-- Line group `g` of plane `p`. -/
def State.lg (s : State) (p g : Nat) : LGroup := (s.plane p).lgs.getD g LGroup.reset

/-- The state with a line group changed. -/
def State.modLg (s : State) (p g : Nat) (f : LGroup → LGroup) : State :=
  s.modPlane p (fun pl => { pl with lgs := modD LGroup.reset pl.lgs g f })

/-- A field of a line group's record. -/
def State.lgGet (s : State) (p g : Nat) (f : RField) : Nat := s.rget (lgAddr p g) f
def State.lgSet (s : State) (p g : Nat) (f : RField) (v : Nat) : State := s.rset (lgAddr p g) f v

/-! ## Codes -/

/-- Code of a request: MSP K1 bits 1 to 4, or ODUk Request/State (Table 8.2). -/
def reqCode (msp : Bool) (r : ApsReq) : Nat :=
  match r.prio with
  | 1 => 0xF
  | 2 => if msp then 0xD else 0xE
  | 3 => if msp then 0xE else 0xD
  | 4 => if msp then 0xD else 0xB
  | 5 => if msp then 0xB else 0x9
  | 6 => if msp then 0x8 else 0x7
  | 7 => if msp then 0x6 else 0x5
  | 8 => 0x4
  | 9 => 0x2
  | 10 => 0x1
  | _ => 0x0

/-- The request that a received code with its channel stands for; none for an unused code (Table 8.2). -/
def reqOf (msp : Bool) (code chan : Nat) : Option ApsReq :=
  let r : Option Nat :=
    if msp then
      match code with
      | 0xF => some 1
      | 0xE => some 3
      | 0xD | 0xC => some (if chan = 0 then 2 else 4)
      | 0xB | 0xA => some 5
      | 0x8 => some 6
      | 0x6 => some 7
      | 0x4 => some 8
      | 0x2 => some 9
      | 0x1 => some 10
      | 0x0 => some 11
      | _ => none
    else
      match code with
      | 0xF => some 1
      | 0xE => some 2
      | 0xD => some 3
      | 0xB => some 4
      | 0x9 => some 5
      | 0x7 => some 6
      | 0x5 => some 7
      | 0x4 => some 8
      | 0x2 => some 9
      | 0x1 => some 10
      | 0x0 => some 11
      | _ => none
  r.map (fun p => ⟨p, chan⟩)

/-- The APS bytes that a group sends: K1 in [7:0] and K2 in [15:8] (R237), or APS bytes 1 to 4 (R238). -/
def State.apsOut (s : State) (p g : Nat) : Nat :=
  let msp := s.lgGet p g LG.scheme == 1
  let x := s.lg p g
  let arch := s.lgGet p g LG.arch
  let bidir := s.lgGet p g LG.bidir
  if msp then
    (reqCode true x.tx * 16 + x.tx.chan) + 256 * (x.txBridge * 16 + arch * 8 + (if bidir = 1 then 5 else 4))
  else if s.lgGet p g LG.apsEn = 0 then 0
  else
    (reqCode false x.tx * 16 + 8 + arch * 4 + bidir * 2 + s.lgGet p g LG.revert) + 256 * x.tx.chan + 65536 * x.txBridge

/-! ## Receiving APS -/

/-- A received APS value taken apart: code, requested and bridged channel, architecture and mode as configured. -/
structure ApsIn where
  code : Nat
  chan : Nat
  bridge : Nat
  arch : Bool
  mode : Bool
  deriving DecidableEq, Repr

/-- The parts of a received value (R237, R238). -/
def State.apsIn (s : State) (p g v : Nat) : ApsIn :=
  if s.lgGet p g LG.scheme = 1 then
    let k2 := v / 256
    { code := bitsOf v 4 4, chan := v % 16, bridge := bitsOf k2 4 4, arch := bitsOf k2 3 1 == s.lgGet p g LG.arch
      mode := decide (k2 % 8 = 6 ∨ k2 % 8 = 7) || k2 % 8 == (if s.lgGet p g LG.bidir = 1 then 5 else 4) }
  else
    { code := bitsOf v 4 4, chan := bitsOf v 8 8, bridge := bitsOf v 16 8, arch := bitsOf v 2 1 == s.lgGet p g LG.arch
      mode := bitsOf v 1 1 == s.lgGet p g LG.bidir }

/-- A member of a group has SF: line SF, or its input is missing from the sequencer (R213, R233). -/
def State.memberSf (s : State) (n : Nat) : Bool := !s.lineOn n || (s.twin && (s.line n).frb.absent) || s.lineSf n

/-- A value that has arrived unchanged in 3 APS frames on P is accepted, or refused as class 2 (R237, R238, R241). While P
has SF, and in 1+1 unidirectional without APS, received values are ignored. -/
def State.apsTake (s : State) (p g v : Nat) : State :=
  if s.lgGet p g LG.apsEn = 0 || s.memberSf (s.lgGet p g LG.pLine) then s
  else
    let a := s.apsIn p g v
    match reqOf (s.lgGet p g LG.scheme == 1) a.code a.chan with
    | some r =>
      if a.chan ≤ 1 ∧ a.bridge ≤ 1 ∧ a.arch ∧ a.mode then
        (s.lgSet p g LG.rxReq a.code).modLg p g (fun x => { x with rx := some (r, a.bridge), refused := none })
      else s.modLg p g (fun x => { x with refused := some (v, !a.arch || !a.mode) })
    | none => s.modLg p g (fun x => { x with refused := some (v, !a.arch || !a.mode) })

/-! ## Selection -/

/-- The conditions of the members after hold-off (R234): a condition that clears takes effect at once, one that begins at
once with HOLDOFF = 0. -/
def State.lgConditions (s : State) (p g : Nat) : State :=
  let w := s.lgGet p g LG.wLine
  let pl := s.lgGet p g LG.pLine
  let hold := s.lgGet p g LG.holdoff
  [(LG.sfW, s.memberSf w), (LG.sfP, s.memberSf pl), (LG.sdW, s.lineSd w), (LG.sdP, s.lineSd pl)].foldl (fun s c =>
    if !c.2 then s.lgSet p g c.1 0 else if hold = 0 then s.lgSet p g c.1 1 else s) s

/-- The local request of highest priority (R236): conditions, external command, WTR, DNR. -/
def State.localReq (s : State) (p g : Nat) : ApsReq :=
  let f := fun r => s.lgGet p g r == 1
  let ext := s.lgGet p g LG.extCmd
  let sdw := f LG.sdW
  let sdp := f LG.sdP
  if ext = 1 then ⟨1, 0⟩
  else if f LG.sfP then ⟨2, 0⟩
  else if ext = 2 then ⟨3, 1⟩
  else if f LG.sfW then ⟨4, 1⟩
  else if sdw || sdp then ⟨5, if sdw && sdp then s.lgGet p g LG.sel else b2n sdw⟩
  else if ext = 3 then ⟨6, 1⟩
  else if ext = 5 then ⟨6, 0⟩
  else if f LG.wtrRun then ⟨7, 1⟩
  else if ext = 4 then ⟨8, s.lgGet p g LG.sel⟩
  else if s.lgGet p g LG.revert == 0 && f LG.sel then ⟨10, 1⟩
  else ⟨11, 0⟩

/-- The far-end request that counts: in bidirectional operation, unless class 1 or 3 is answered (R239, R241). A reverse
request answers this end's own and asks for nothing itself (log entry 94). -/
def State.farReqOf (s : State) (p g : Nat) : ApsReq :=
  if s.lgGet p g LG.bidir = 1 ∧ s.lgGet p g LG.uni = 0 then
    match (s.lg p g).rx with
    | some (r, _) => if r.prio = 9 then ⟨11, 0⟩ else r
    | none => ⟨11, 0⟩
  else ⟨11, 0⟩

/-- Whether the local request is the effective one: of equal manual requests in opposite directions the one that was in
force first, in the same frame MS-W (R236). -/
def localWins (l f : ApsReq) (first : Nat) : Bool :=
  if l.prio = 6 ∧ f.prio = 6 ∧ l.chan ≠ f.chan then (if first = 1 then true else if first = 2 then false else l.chan == 0)
  else decide (l.prio ≤ f.prio)

/-- Where the selector goes on a request: W, P, or it stays (R235, R236). An exercise does not operate it: a revertive group
is on W as without a request, another one stays. -/
def wantSel (r : ApsReq) (sel : Nat) (both revert : Bool) : Nat :=
  match r.prio with
  | 1 | 2 => 0
  | 3 | 4 => 1
  | 5 => if both then sel else r.chan
  | 6 => r.chan
  | 7 | 9 | 10 => sel
  | 8 => if revert then 0 else sel
  | _ => 0

/-- PROT_SELECT (R239, R240): the decision of group `g` at a frame boundary. -/
def State.protSelect (s : State) (p g : Nat) : State :=
  if !s.lgExists p g then s
  else
    let s := s.lgConditions p g
    let sel := s.lgGet p g LG.sel
    let x := s.lg p g
    let quiet := s.lgGet p g LG.sfW == 0 && s.lgGet p g LG.sdW == 0
    let l0 := s.localReq p g
    let far := s.farReqOf p g
    -- WTR starts when W is free of its defect, and stops for any request of higher priority (R235)
    let start := s.lgGet p g LG.revert == 1 && sel == 1 && x.cause && quiet && s.lgGet p g LG.wtrRun == 0
      && decide (7 < l0.prio) && decide (7 < far.prio)
    let stop := s.lgGet p g LG.wtrRun == 1 && (decide (l0.prio < 7) || decide (far.prio < 7))
    let wtr := let v := s.lgGet p g LG.wtrS; if 10 ≤ v ∧ v ≤ 720 then v else 300
    let s := if start then (s.lgSet p g LG.wtrRun 1).lgSet p g LG.wtrLeft wtr
      else if stop then (s.lgSet p g LG.wtrRun 0).lgSet p g LG.wtrLeft 0 else s
    let l := s.localReq p g
    let first := if l.prio ≠ 6 ∧ far.prio ≠ 6 then 0
      else if l.prio = 6 ∧ far.prio ≠ 6 then 1
      else if l.prio ≠ 6 then 2
      else x.first
    let mine := localWins l far x.first
    let eff := if mine then l else far
    let both := s.lgGet p g LG.sdW == 1 && s.lgGet p g LG.sdP == 1
    let oneOne := s.lgGet p g LG.arch == 1
    let want := wantSel eff sel both (s.lgGet p g LG.revert == 1)
    let farBridged := match x.rx with
      | some (_, b) => b == 1
      | none => false
    -- an exercise of the far end does not operate the bridge (R236)
    let farWants := match x.rx with
      | some (r, _) => if r.prio = 8 then x.txBridge == 1 else r.chan == 1
      | none => false
    let class1 := x.pv.testBit 1 && oneOne
    let class3 := x.pv.testBit 3 && oneOne
    let sel' := if class1 then sel
      else if class3 then 0
      else if oneOne && want == 1 && mine && !farBridged then sel
      else want
    let bridged := if !oneOne then 1 else if class1 then s.lgGet p g LG.bridged else b2n farWants
    let tx : ApsReq := if mine || s.lgGet p g LG.bidir == 0 then l else ⟨9, far.chan⟩
    let s := ((s.lgSet p g LG.bridged bridged).lgSet p g LG.sel sel').lgSet p g LG.txReq (reqCode (s.lgGet p g LG.scheme == 1) tx)
    let s := if sel' = sel then s else (s.radd (lgAddr p g) LG.switchCnt 1).raise (Fld.PRT_STATUS_SWITCH_EV p)
    s.modLg p g (fun x => { x with
      tx := tx, txBridge := b2n farWants, first := first
      cause := if sel' = 0 then false else if mine && (eff.prio == 4 || (eff.prio == 5 && eff.chan == 1)) then true
        else if eff.prio ≤ 6 then false else x.cause })

/-- The line groups of plane `p` that have line `n` as a member. -/
def State.lgsOf (s : State) (p n : Nat) : List Nat :=
  (List.range 48).filter (fun g => s.lgExists p g && (s.lgGet p g LG.wLine == n || s.lgGet p g LG.pLine == n))

/-- The groups of a line decide at its frame boundary (R240). -/
def State.lineSelect (s : State) (n : Nat) : State :=
  s.onLinePlanes n fun s p => (s.lgsOf p n).foldl (fun s g => s.protSelect p g) s

/-- APS_ACCEPT (R237, R238): a value unchanged in 3 APS frames on line `n`; only P of a group is listened to. -/
def State.apsAccept (s : State) (n : Nat) : State :=
  s.onLine n fun s => s.when (decide (3 ≤ (s.ohp n).aps.2)) fun s =>
    s.onLinePlanes n fun s p => (s.lgsOf p n).foldl (fun s g =>
      if s.lgGet p g LG.pLine = n then (s.apsTake p g (s.ohp n).aps.1).protSelect p g else s) s

/-! ## Commands and timers -/

/-- Rank of an external command: LO, FS, manual, exercise. -/
def extRank (c : Nat) : Nat :=
  match c with
  | 1 => 1
  | 2 => 2
  | 3 | 5 => 3
  | 4 => 4
  | _ => 5

/-- An EXT_CMD write to a line group (R236): 0 clears; a command that ranks below the one in force is ignored. -/
def State.lgCommand (s : State) (p g c : Nat) : State :=
  s.onSpine fun s => s.onWrite p fun s p =>
    if !s.lgExists p g then s
    else if c = 0 then s.lgSet p g LG.extCmd 0
    else if c ≤ 5 ∧ extRank c ≤ extRank (s.lgGet p g LG.extCmd) then s.lgSet p g LG.extCmd c
    else s

/-- An SF or SD condition of group `g` has held for HOLDOFF and becomes a request (R234): SF on W, SF on P, SD on W, SD
on P by number. -/
def State.holdoffExpiry (s : State) (p g k : Nat) : State :=
  s.onPlanes p fun s p => s.when (s.lgExists p g) fun s =>
    let w := s.lgGet p g LG.wLine
    let q := s.lgGet p g LG.pLine
    let c : RField × Bool := match k with
      | 0 => (LG.sfW, s.memberSf w)
      | 1 => (LG.sfP, s.memberSf q)
      | 2 => (LG.sdW, s.lineSd w)
      | _ => (LG.sdP, s.lineSd q)
    if c.2 then (s.lgSet p g c.1 1).protSelect p g else s

/-- WTR expires: the selector returns to W (R235). -/
def State.wtrExpiry (s : State) (p g : Nat) : State :=
  s.onPlanes p fun s p => s.when (s.lgExists p g && s.lgGet p g LG.wtrRun == 1) fun s =>
    (((s.lgSet p g LG.wtrRun 0).lgSet p g LG.wtrLeft 0).modLg p g (fun x => { x with cause := false })).protSelect p g

/-! ## Partner violations of line groups -/

/-- The bridged channel received differs from the channel requested (class 1). -/
def State.lgChannel (s : State) (p g : Nat) : Bool :=
  let x := s.lg p g
  s.lgGet p g LG.bidir == 1 && (match x.rx with
    | some (_, b) => b != x.tx.chan
    | none => x.tx.chan != 0)

/-- The value refused last carries another architecture or mode (class 2). -/
def State.lgMismatch (s : State) (p g : Nat) : Bool := (s.lg p g).refused.any (fun r => r.2)

/-- The condition of a class of Table 8.4 on a line group, as far as the group's own state shows it; an architecture or mode
mismatch that lasts is answered as class 1. -/
def State.lgViolation (s : State) (p g c : Nat) : Bool :=
  let x := s.lg p g
  match c with
  | 1 => s.lgChannel p g || s.lgMismatch p g
  | 2 => x.refused.isSome
  | 3 => s.lgGet p g LG.bidir == 1 && decide (x.tx.prio ≤ 5) && (match x.rx with
      | some (r, _) => r.prio != 9 && r.prio != x.tx.prio
      | none => true)
  | 4 => decide (12 ≤ (s.ohp (s.lgGet p g LG.pLine)).apsAge)
  | _ => false

/-- A record of the partner-violation ring is written, or dropped while 256 are unread (R242, Table 8.5). -/
def State.pvRecord (s : State) (p cls merge group line info : Nat) : State :=
  let wr := s.get (Fld.PRT_PV_WR_WR p)
  if 256 ≤ ringFill wr (s.get (Fld.PRT_PV_RD_RD p)) then s.raise (Fld.PRT_STATUS_PV_DROP_EV p)
  else
    let a := p * 0x800000 + 0x20000 + (wr % 256) * 16
    let s := s.putRec a 4 (cls + 16 * merge + 64 * group + 2 ^ 14 * line)
    let s := ((s.putRec (a + 4) 4 s.tk.ns).putRec (a + 8) 4 s.tk.sec).putRec (a + 12) 4 info
    let s := s.sign p ([0, 4, 8, 12].flatMap (fun k => leBytes 4 (s.recNum (a + k) 4)))
    (s.add (Fld.PRT_PV_WR_WR p) 1).raise (Fld.PRT_STATUS_PV_EV p)

/-- FOP and UNI of a line group follow the classes whose episodes run (R241). -/
def State.lgAnswer (s : State) (p g : Nat) : State :=
  let pv := (s.lg p g).pv
  let mism := pv.testBit 2 && s.lgMismatch p g
  let fop := pv.testBit 1 || pv.testBit 3 || mism
  let oneOne := s.lgGet p g LG.arch == 1
  let uni := pv.testBit 3 || (pv.testBit 1 && !oneOne)
  ((s.lgSet p g LG.fop (b2n fop)).lgSet p g LG.uni (b2n uni)).protSelect p g

/-- A violation of class `c` is detected on a line group: an episode starts (R241, R242). An architecture or mode mismatch
that takes the answer of class 1 has its episode and record in class 2. -/
def State.lgViolate (s : State) (p g c : Nat) : State :=
  s.when (s.lgExists p g && s.lgViolation p g c && !(s.lg p g).pv.testBit c) fun s =>
    let s := s.modLg p g (fun x => { x with pv := setBit x.pv c })
    let line := s.lgGet p g LG.pLine
    let v := match (s.lg p g).refused with
      | some r => r.1
      | none => (s.ohp line).aps.1
    let info := if s.lgGet p g LG.scheme = 1 then v % 2 ^ 16 else v % 2 ^ 24
    if c = 1 ∧ !s.lgChannel p g then s.lgAnswer p g
    else (((s.radd (lgAddr p g) LG.pvCnt 1).pvRecord p c 0 g line info)).lgAnswer p g

/-- An episode of class `c` on a line group ends (R241). -/
def State.lgEpisodeEnd (s : State) (p g c : Nat) : State :=
  s.when (s.lgExists p g && (s.lg p g).pv.testBit c && !s.lgViolation p g c) fun s =>
    (s.modLg p g (fun x => { x with pv := clearBit x.pv c })).lgAnswer p g

/-! ## Meanings -/

/-- APS_ACCEPT (R237). -/
def execApsAccept (n : LineNo) (s : State) : Host.Outcome State Fault Refusal := done (s.apsAccept n.val)

/-- LG_CMD_CLEAR (R236). -/
def execLgCmdClear (p : PlaneNo) (g : Fin 48) (s : State) : Host.Outcome State Fault Refusal := done (s.lgCommand p.val g.val 0)

/-- LG_CMD_LOCKOUT (R236). -/
def execLgCmdLockout (p : PlaneNo) (g : Fin 48) (s : State) : Host.Outcome State Fault Refusal := done (s.lgCommand p.val g.val 1)

/-- LG_CMD_FORCED_SWITCH (R236). -/
def execLgCmdForcedSwitch (p : PlaneNo) (g : Fin 48) (s : State) : Host.Outcome State Fault Refusal :=
  done (s.lgCommand p.val g.val 2)

/-- LG_CMD_MANUAL_P (R236). -/
def execLgCmdManualP (p : PlaneNo) (g : Fin 48) (s : State) : Host.Outcome State Fault Refusal := done (s.lgCommand p.val g.val 3)

/-- LG_CMD_EXERCISE (R236). -/
def execLgCmdExercise (p : PlaneNo) (g : Fin 48) (s : State) : Host.Outcome State Fault Refusal := done (s.lgCommand p.val g.val 4)

/-- LG_CMD_MANUAL_W (R236). -/
def execLgCmdManualW (p : PlaneNo) (g : Fin 48) (s : State) : Host.Outcome State Fault Refusal := done (s.lgCommand p.val g.val 5)

/-- PROT_HOLDOFF_EXPIRY (R234): SF on W, SF on P, SD on W, SD on P by number. -/
def execProtHoldoffExpiry (p : PlaneNo) (g : Fin 48) (k : Fin 4) (s : State) : Host.Outcome State Fault Refusal :=
  done (s.holdoffExpiry p.val g.val k.val)

/-- WTR_EXPIRY (R235). -/
def execWtrExpiry (p : PlaneNo) (g : Fin 48) (s : State) : Host.Outcome State Fault Refusal := done (s.wtrExpiry p.val g.val)

end Sys2Proof.Machine
end

