-- ==== Sys2Proof/Machine/MergeProt.lean ====
section
/-! DEFINITION. Merge groups (R243 to R258): requests and far-end merge capability, the delay buffers, the output's
selection, anchoring and realignment, peer messages as they are received (R109 to R113), the record window (R259) and
partner violations (R241, R242). -/

namespace Sys2Proof.Machine

/-- Merge group `g` of plane `p`. -/
def State.mg (s : State) (p g : Nat) : MGroup := (s.plane p).mgs.getD g MGroup.reset

/-- The state with a merge group changed. -/
def State.modMg (s : State) (p g : Nat) (f : MGroup → MGroup) : State :=
  s.modPlane p (fun pl => { pl with mgs := modD MGroup.reset pl.mgs g f })

/-- A field of a merge group's record. -/
def State.mgGet (s : State) (p g : Nat) (f : RField) : Nat := s.rget (mgAddr p g) f
def State.mgSet (s : State) (p g : Nat) (f : RField) (v : Nat) : State := s.rset (mgAddr p g) f v

/-- The line of a copy: W, or P for true. -/
def State.mgLine (s : State) (p g : Nat) (b : Bool) : Nat := s.mgGet p g (if b then MG.pLine else MG.wLine)

/-- A copy of a group: W, or P for true. -/
def MGroup.copy (m : MGroup) (b : Bool) : MergeCopy := if b then m.p else m.w

/-- The state with a copy of a group changed. -/
def State.modCopy (s : State) (p g : Nat) (b : Bool) (f : MergeCopy → MergeCopy) : State :=
  s.modMg p g (fun m => if b then { m with p := f m.p } else { m with w := f m.w })

/-- The merge groups of plane `p` that have line `n` as a member. -/
def State.mgsOf (s : State) (p n : Nat) : List Nat :=
  (List.range 256).filter (fun g => s.mgExists p g && (s.mgLine p g false == n || s.mgLine p g true == n))

/-- The other line of the merge pair of line `n` in plane `p`. -/
def State.pairOf (s : State) (p n : Nat) : Option Nat :=
  (s.mgsOf p n).head?.map (fun g => if s.mgLine p g false = n then s.mgLine p g true else s.mgLine p g false)

/-! ## Requests -/

/-- The far end lacks the merge capability: the latest HELLO on either line of the pair since that line last gained lock
has the bit clear (R258). -/
def State.mgLacks (s : State) (p g : Nat) : Bool :=
  let hello := fun b => (s.line (s.mgLine p g b)).mxf.peer
  let fresh := fun b => (s.line (s.mgLine p g b)).mxf.peerNew
  let pick := match hello false, hello true with
    | some x, none => some x
    | none, some y => some y
    | some x, some y => if fresh true && !fresh false then some y else some x
    | none, none => none
  pick.any (fun x => !x.2.1.testBit 1)

/-- Rank of a request code: LO, FS, then the manual ones, then NR (R257). -/
def mergeRank (c : Nat) : Nat :=
  match c with
  | 0xF => 3
  | 0xD => 2
  | 0x6 | 0x7 => 1
  | _ => 0

/-- The effective request of a group (R257). -/
def State.mgRequest (s : State) (p g : Nat) : Nat :=
  let l := s.mgGet p g MG.localReq
  let f := s.mgGet p g MG.farReq
  if mergeRank f < mergeRank l then l
  else if mergeRank l < mergeRank f then f
  else if l = f then l
  else match (s.mg p g).first with
    | 1 => l
    | 2 => f
    | _ => 0x6

/-- Which manual request was in force first; neither was where the second comes in the frame of the first (R257). -/
def State.mgFirst (s : State) (p g : Nat) : State :=
  let l := mergeRank (s.mgGet p g MG.localReq) == 1
  let f := mergeRank (s.mgGet p g MG.farReq) == 1
  s.modMg p g (fun m =>
    let v := if l && f then (if m.fresh then 0 else m.first) else if l then 1 else if f then 2 else 0
    { m with first := v, fresh := v != 0 && (m.fresh || v != m.first) })

/-- A frame of the group ends: the requests that have come are older than those of the next one (R257). -/
def State.mgAge (s : State) (p g : Nat) : State := s.modMg p g (fun m => { m with fresh := false })

/-- FAR_REQ, FAR_BRIDGE and UNI as the state of the group calls for (R241, R257, R258). -/
def State.mgRefresh (s : State) (p g : Nat) : State :=
  let m := s.mg p g
  let lacks := s.mgLacks p g
  let s := s.mgSet p g MG.farReq (if lacks || m.incons then 0 else m.farKept)
  let s := s.mgSet p g MG.farBridge (if lacks then 3 else m.farBridge.getD 3)
  (s.mgSet p g MG.uni (b2n (lacks || m.pv.testBit 6))).mgFirst p g

/-- Bridge bits of a member: the active epoch holds a flow to that member at the group's mask, and its transmitter runs
(R256). -/
def State.mgBridge (s : State) (p g : Nat) (b : Bool) : Bool :=
  let n := s.mgLine p g b
  let mask := s.mgGet p g (if b then MG.pMask else MG.wMask)
  let e := s.active p
  s.mxfSends n && (s.flowsOf p e).any (fun f =>
    let d := s.desc p e f
    d.valid && ((d.dstLine == n && d.dstPos % 2 ^ 24 == mask) || (d.bridge && d.dst2Line == n && d.dst2Pos % 2 ^ 24 == mask)))

/-- PMC_ARG0 of the group's MERGE_STATUS: the request in force, selection, bridge (R256). -/
def State.mergeArg0 (s : State) (p g : Nat) : Nat :=
  s.mgRequest p g * 2 ^ 28 + s.mgGet p g MG.sel * 2 ^ 26 + (b2n (s.mgBridge p g false) + 2 * b2n (s.mgBridge p g true)) * 2 ^ 24

/-- OUT_FSN. -/
def State.outFsn (s : State) (p g : Nat) : Nat := s.mgGet p g MG.outFsnLo + 2 ^ 32 * s.mgGet p g MG.outFsnHi
def State.setOutFsn (s : State) (p g v : Nat) : State := (s.mgSet p g MG.outFsnLo v).mgSet p g MG.outFsnHi (v / 2 ^ 32)

/-- The LOCAL_REQ that an EXT_CMD value sets (Table 8.7, Table 8.10). -/
def localOf (c : Nat) : Nat :=
  match c with
  | 1 => 0xF
  | 2 => 0xD
  | 3 => 0x7
  | 4 => 0x6
  | _ => 0x0

/-- A merge command with group index `g`. -/
def isCmdOf (g : Nat) (x : PeerMsg) : Bool := x.typ == 0x91 && x.index == g

/-- MERGE_CMD of the present local request queued on both lines of the pair; a line that refuses it counts as having
dropped it (R258). -/
def State.mgSendCmd (s : State) (p g : Nat) : State :=
  if s.mgLacks p g then s
  else
    let x : PeerMsg := ⟨0x91, 0, g, s.mgGet p g MG.localReq * 2 ^ 28, 0⟩
    [false, true].foldl (fun s b =>
      let n := s.mgLine p g b
      let s := s.modMxf n (fun m => { m with
        dropped := m.dropped.filter (fun y => !isCmdOf g y), acked := m.acked.filter (fun y => !isCmdOf g y) })
      let no := !s.pmcAccepts n
      let s := s.modMg p g (fun m => if b then { m with refusedP := no } else { m with refusedW := no })
      s.pmcRequest n x) s

/-- An EXT_CMD write to a merge group (R258): in Twin both planes take it; the message is queued once. -/
def State.mgCommand (s : State) (p g c : Nat) : State :=
  s.onSpine fun s =>
    let ps := (s.writePlanes p).filter (fun q => s.mgExists q g)
    let s := s.writeMark p
    let s : State := ps.foldl (fun s q => ((s.mgSet q g MG.extCmd c).mgSet q g MG.localReq (localOf c)).mgFirst q g) s
    match ps with
    | [] => s
    | q :: t =>
      let s := s.mgSendCmd q g
      t.foldl (fun s r => s.modMg r g (fun m => { m with refusedW := (s.mg q g).refusedW, refusedP := (s.mg q g).refusedP })) s

/-- The MERGE_CMD in hand has been dropped on the line of copy `b` (R241, R258). -/
def State.mgDropped (s : State) (p g : Nat) (b : Bool) : Bool :=
  (if b then (s.mg p g).refusedP else (s.mg p g).refusedW) || (s.line (s.mgLine p g b)).mxf.dropped.any (isCmdOf g)

/-- The MERGE_CMD in hand has been acknowledged on either line. -/
def State.mgAcked (s : State) (p g : Nat) : Bool :=
  [false, true].any (fun b => !(if b then (s.mg p g).refusedP else (s.mg p g).refusedW)
    && (s.line (s.mgLine p g b)).mxf.acked.any (isCmdOf g))

/-- Class 6: dropped on both lines and acknowledged on none. -/
def State.mgUnacked (s : State) (p g : Nat) : Bool := s.mgDropped p g false && s.mgDropped p g true && !s.mgAcked p g

/-- MERGE_CMD_REQUEUE (R241, class 6). -/
def State.mergeRequeue (s : State) (p g : Nat) : State :=
  s.when (s.planeRuns p && s.mgExists p g && (s.mg p g).pv.testBit 6 && s.mgUnacked p g) fun s => s.mgSendCmd p g

/-! ## Delay buffers -/

/-- A copy is present: its line is in frame and delivers a valid FSN. -/
def State.mgPresent (s : State) (p g : Nat) (b : Bool) : Bool :=
  let n := s.mgLine p g b
  s.lineOn n && s.inFrame n && (s.line n).mxf.expFsn.isSome

/-- Group SF on a copy: its line has SSF, or a slot of its mask has SLOT_AIS (R234). -/
def State.mgSf (s : State) (p g : Nat) (b : Bool) : Bool :=
  let n := s.mgLine p g b
  s.lineSsf n || ((s.line n).mxf.slotAis &&& s.mgGet p g (if b then MG.pMask else MG.wMask)) != 0

/-- FSN a minus FSN b as a signed number; none when the two are unrelated (R97). -/
def fsnDiff (a b : Nat) : Option Int :=
  let d := (a + 2 ^ 40 - b % 2 ^ 40) % 2 ^ 40
  if d = 2 ^ 39 then none else some (signedOf 40 d)

/-- Arrival of P minus that of W in word periods, by the newest frames of the two copies; the FSN difference of P and W. -/
def MGroup.delay (m : MGroup) : Option (Option Int × Int) :=
  match m.w.buf.head?, m.p.buf.head? with
  | some x, some y => some (fsnDiff y.fsn x.fsn, (m.p.arrived : Int) - (m.w.arrived : Int))
  | _, _ => none

/-- Word periods in 4 ms at an MXF format (Table 4.1). -/
def words4ms (fmt : Nat) : Int :=
  match fmt with
  | 0x0D => 156250
  | 0x0E => 312500
  | 0x0F => 625000
  | _ => 1562500

/-- The FSN relation of class 7 (Table 8.4): unrelated, or a differential delay above 4 ms. -/
def State.mgSevenNow (s : State) (p g : Nat) : Bool :=
  s.mgPresent p g false && s.mgPresent p g true &&
    (match (s.mg p g).delay with
    | some (some d, t) => decide (words4ms (s.format (s.mgLine p g false)) < (t - d * 2048).natAbs)
    | some (none, _) => true
    | none => false)

/-- DIFF follows the newest frames of both copies, saturating; an unrelated pair leaves it (R251). -/
def State.mgDiff (s : State) (p g : Nat) : State :=
  match (s.mg p g).delay with
  | some (some d, t) => s.mgSet p g MG.diff (unsignedOf 24 (clampSigned 24 (t - d * 2048)))
  | _ => s

/-- The result of the previous frame of line `n` goes to its buffer position (R248). -/
def MergeCopy.takeResult (c : MergeCopy) (r : Option (Option Nat × Bool)) : MergeCopy :=
  match r with
  | some (some f, clean) => c.tag f clean
  | _ => c

/-- MERGE_COPY_WRITE: the frame that line `n` has just received, started at word period `t`, into the buffers of its groups
(R248). -/
def State.mergeCopyWrite (s : State) (n t : Nat) : State :=
  s.onLine n fun s => s.when (isMxf (s.format n) && s.inFrame n) fun s =>
    s.onLinePlanes n fun s p => (s.mgsOf p n).foldl (fun s g =>
      let b := s.mgLine p g true == n
      let m := (s.line n).mxf
      let s := s.modCopy p g b (fun c => c.takeResult m.result)
      let s : State := match m.prev with
        | some ⟨some f, _, _, _, _, _⟩ =>
          let x : MergePos := ⟨f, none, s.mgSf p g b, slotWords (s.mgGet p g (if b then MG.pMask else MG.wMask)) m.payload⟩
          s.modCopy p g b (fun c => { c with
            buf := (x :: c.buf).take (s.mgGet p g MG.depth), arrived := t, written := c.written + 1 })
        | _ => s
      let s := s.mgDiff p g
      if b then s
      else (s.mgAge p g).modMg p g (fun m => { m with sevenRun := if s.mgSevenNow p g then m.sevenRun + 1 else 0 })) s

/-! ## Output -/

/-- The usable position of frame `f` in copy `b` (R250, R257). -/
def State.mgUsable (s : State) (p g : Nat) (b : Bool) (f : Nat) : Option MergePos :=
  if (s.mgGet p g MG.farBridge).testBit (b2n b) then
    (((s.mg p g).copy b).buf.find? (fun x => x.fsn == f)).filter (fun x => x.result.isSome)
  else none

/-- The position is clean (R250). -/
def MergePos.clean (x : MergePos) : Bool := x.result == some true && !x.sf

/-- The copy that supplies a frame, P for true, and SEL (R250, R257): the effective request, the two usable positions and
the copy of the last frame. -/
def mergeChoice (req : Nat) (w p : Option MergePos) (src : Option Bool) : Option Bool × Nat :=
  let cw := w.any MergePos.clean
  let cp := p.any MergePos.clean
  let prefer := src.getD false
  let free : Option Bool :=
    if cw && cp then some prefer
    else if cw then some false
    else if cp then some true
    else if w.isSome && p.isSome then some prefer
    else if w.isSome then some false
    else if p.isSome then some true
    else none
  let auto := (free, if free.isNone then 3 else 0)
  match req with
  | 0xF => if w.isSome then (some false, 1) else (none, 3)
  | 0xD => if p.isSome then (some true, 2) else auto
  | 0x6 => if w.any (fun x => !x.sf) then (some false, 1) else auto
  | 0x7 => if p.any (fun x => !x.sf) then (some true, 2) else auto
  | _ => auto

/-- A copy that is present but not usable adds to its run; a usable one ends it and is no longer out of window (R254). -/
def MergeCopy.follow (c : MergeCopy) (present usable : Bool) : MergeCopy :=
  { c with unused := if present && !usable then c.unused + 1 else 0, out := c.out && (c.seven || !usable) }

/-- OVER follows the copies (R254). -/
def State.mgOver (s : State) (p g : Nat) : State := s.mgSet p g MG.outOver (b2n ((s.mg p g).w.out || (s.mg p g).p.out))

/-- MERGE_OUTPUT_READ (R250): the frame that the output of group `g` reads next. A word that the pool of plane `p` reads back
corrected is counted; with an uncorrectable one the frame is delivered marked, and no selection changes (R36, R248). -/
def State.mergeOutputRead (s : State) (p g : Nat) (r : MemRead) : State :=
  let own := p
  let s := s.onPlanes p fun s p => s.when (s.mgExists p g && s.mgGet p g MG.anchored == 1) fun s =>
    let s := ((s.mgRefresh p g).mgAge p g).modMg p g (fun m => { m with frames := m.frames + 1, bad := r == .uncorrectable && p == own })
    let m := s.mg p g
    if m.gap ≠ 0 then
      let s := ((s.mgSet p g MG.sel 3).mgSet p g MG.last 0).radd (mgAddr p g) MG.noneClean 1
      s.modMg p g (fun m => { m with gap := m.gap - 1, src := none, output := [] })
    else
      let w := s.mgUsable p g false m.next
      let q := s.mgUsable p g true m.next
      let (src, sel) := mergeChoice (s.mgRequest p g) w q m.src
      let s := ((((s.mgSet p g MG.sel sel).mgSet p g MG.last (b2n (src == some true))).mgSet p g MG.wUse (b2n w.isSome)).mgSet p g
        MG.pUse (b2n q.isSome)).setOutFsn p g m.next
      let s := if src = some true then s.radd (mgAddr p g) MG.fromP 1 else s
      let s := if w.any MergePos.clean || q.any MergePos.clean then s else s.radd (mgAddr p g) MG.noneClean 1
      let here := s.mgPresent p g false || s.mgPresent p g true
      let s := s.modMg p g (fun m => { m with
        next := (m.next + 1) % 2 ^ 40, src := src, dry := if here then 0 else m.dry + 1
        w := m.w.follow (s.mgPresent p g false) w.isSome, p := m.p.follow (s.mgPresent p g true) q.isSome
        output := match src with
          | some true => (q.map (fun x => x.words)).getD []
          | some false => (w.map (fun x => x.words)).getD []
          | none => [] })
      s.mgOver p g
  s.when (s.planeRuns p) fun s => match r with
    | .clean => s
    | .corrected => s.happen (34 + 32 * p)
    | .uncorrectable => s.happen (33 + 32 * p)

/-- MERGE_REF_MOVE (R251): the next frame of REF is overdue, or its FAU has left lock. -/
def State.mergeRefMove (s : State) (p g : Nat) (overdue : Bool) : State :=
  s.onPlanes p fun s p => s.when (s.mgExists p g && s.mgGet p g MG.anchored == 1) fun s =>
    let r := s.mgGet p g MG.ref == 1
    let n := s.mgLine p g r
    if overdue || !s.lineOn n || !s.inFrame n then s.mgSet p g MG.ref (b2n (!r)) else s

/-- MERGE_UNANCHOR (R251): DEPTH output frames without a copy present. -/
def State.mergeUnanchor (s : State) (p g : Nat) : State :=
  s.onPlanes p fun s p => s.when (s.mgExists p g && s.mgGet p g MG.anchored == 1
      && decide (s.mgGet p g MG.depth ≤ (s.mg p g).dry)) fun s =>
    (s.mgSet p g MG.anchored 0).modMg p g (fun m => { m with
      w := { m.w with buf := [], written := 0, unused := 0 }, p := { m.p with buf := [], written := 0, unused := 0 }
      src := none, gap := 0, dry := 0, output := [] })

/-- The earlier copy, P for true: the one whose newest FSN is later; of equal ones the one that arrived first; W where
neither is later. -/
def MGroup.earlier (m : MGroup) : Bool :=
  match m.w.buf.head?, m.p.buf.head? with
  | some x, some y => if x.fsn = y.fsn then decide (m.p.arrived < m.w.arrived) else fsnLater y.fsn x.fsn
  | none, some _ => true
  | _, none => false

/-- FSN of the frame that the output reads next while copy `b` times the read (R249). -/
def State.mgNextOf (s : State) (p g : Nat) (b : Bool) : Nat :=
  match ((s.mg p g).copy b).buf.head? with
  | some x => (x.fsn + 3 + 2 ^ 40 - s.mgGet p g MG.depth) % 2 ^ 40
  | none => (s.mg p g).next

/-- Copy `b` alone has written frames, has stopped, and was never DEPTH frames on: the oldest of them, with which the wait of
R252 began. -/
def State.mgLone (s : State) (p g : Nat) (b : Bool) : Option MergePos :=
  let m := s.mg p g
  if (m.copy !b).written = 0 ∧ (m.copy b).written < s.mgGet p g MG.depth ∧ !s.mgPresent p g b then (m.copy b).buf.getLast? else none

/-- The group anchors on its earlier copy (R252); the read times a copy that has stopped as if it had gone on. -/
def State.mgAnchor (s : State) (p g : Nat) : State :=
  let b := (s.mg p g).earlier
  let f := match s.mgLone p g b with
    | some x => (x.fsn + 2) % 2 ^ 40
    | none => s.mgNextOf p g b
  let s := ((s.mgSet p g MG.anchored 1).mgSet p g MG.ref (b2n b)).setOutFsn p g ((f + 2 ^ 40 - 1) % 2 ^ 40)
  let s := s.modMg p g (fun m => { m with
    next := f, gap := 0, src := none, dry := 0
    w := { m.w with unused := 0, out := m.w.seven }, p := { m.p with unused := 0, out := m.p.seven } })
  s.mgOver p g

/-- MERGE_ANCHOR (R252): both copies have written a frame, or DEPTH frame periods have passed since the first one did: a copy
that is still present has written DEPTH frames by then. -/
def State.mergeAnchor (s : State) (p g : Nat) : State :=
  s.onPlanes p fun s p =>
    let m := s.mg p g
    let d := s.mgGet p g MG.depth
    let waited := fun (b : Bool) => decide (d ≤ (m.copy b).written) || (s.mgLone p g b).isSome
    s.when (s.mgExists p g && s.mgGet p g MG.anchored == 0
      && ((decide (0 < m.w.written) && decide (0 < m.p.written)) || waited false || waited true))
      fun s => s.mgAnchor p g

/-- MERGE_OUT_OF_WINDOW (R254): copy `b` present and not usable for 8 frames. -/
def State.mergeOutOfWindow (s : State) (p g : Nat) (b : Bool) : State :=
  s.onPlanes p fun s p => s.when (s.mgExists p g && s.mgPresent p g b && decide (8 ≤ ((s.mg p g).copy b).unused)
      && !((s.mg p g).copy b).out) fun s =>
    ((s.modCopy p g b (fun c => { c with out := true })).mgOver p g).raise (Fld.PRT_STATUS_OVER_EV p)

/-- A copy out of window can be realigned: |DIFF| within the compensation, not class 7 (R255). -/
def State.mgCanRealign (s : State) (p g : Nat) : Bool :=
  let m := s.mg p g
  s.mgGet p g MG.anchored == 1 && (m.w.out || m.p.out) && !m.w.seven && !m.p.seven &&
    decide ((signedOf 24 (s.mgGet p g MG.diff)).natAbs ≤ (s.mgGet p g MG.depth - 3) * 2048)

/-- Re-anchoring: the earlier copy becomes REF, and the read moves by m frames (R255). -/
def State.mgRealign (s : State) (p g : Nat) : State :=
  let m := s.mg p g
  let b := m.earlier
  let f := s.mgNextOf p g b
  let d := (fsnDiff m.next f).getD 0
  let s := s.mgSet p g MG.ref (b2n b)
  let s := s.modMg p g (fun m => { m with
    gap := if 0 < d then d.toNat else 0, next := if 0 < d then m.next else f, src := none, dry := 0
    w := { m.w with unused := 0, out := false }, p := { m.p with unused := 0, out := false } })
  (((s.radd (mgAddr p g) MG.hitFr d.natAbs).radd (mgAddr p g) MG.realignCnt 1).mgOver p g).raise (Fld.PRT_STATUS_REALIGN_EV p)

/-- MERGE_AUTO_REALIGN: the condition has lasted REALIGN_S seconds (R255). -/
def State.mergeAutoRealign (s : State) (p g : Nat) : State :=
  s.onPlanes p fun s p => s.when (s.mgExists p g && s.mgGet p g MG.realignS != 0 && s.mgCanRealign p g) fun s => s.mgRealign p g

/-- EXT_CMD 5 of a merge group (R255). -/
def State.mergeReanchor (s : State) (p g : Nat) : State :=
  s.onSpine fun s => s.onWrite p fun s p => if s.mgExists p g && s.mgCanRealign p g then s.mgRealign p g else s

/-- MERGE_IMMEDIATE_REANCHOR: neither copy usable for 2 frames while both are locked with a valid FSN (R255). -/
def State.mergeImmediate (s : State) (p g : Nat) : State :=
  s.onPlanes p fun s p =>
    let m := s.mg p g
    s.when (s.mgExists p g && s.mgGet p g MG.anchored == 1 && s.mgPresent p g false && s.mgPresent p g true
      && decide (2 ≤ m.w.unused) && decide (2 ≤ m.p.unused) && !m.w.seven && !m.p.seven) fun s =>
      ((s.mgAnchor p g).radd (mgAddr p g) MG.realignCnt 1).raise (Fld.PRT_STATUS_REALIGN_EV p)

/-! ## Peer messages -/

/-- A reserved request code (Table 8.7). -/
def mergeReserved (c : Nat) : Bool := !(c == 0 || c == 6 || c == 7 || c == 0xD || c == 0xF)

/-- A MERGE_STATUS selection that contradicts its own request (R257). -/
def mergeContradicts (arg0 : Nat) : Bool :=
  (bitsOf arg0 28 4 == 0xF && bitsOf arg0 26 2 == 2) || (bitsOf arg0 28 4 == 0xD && bitsOf arg0 26 2 == 1)

/-- The value listed under a key. -/
def assoc {α : Type} (l : List (Nat × α)) (k : Nat) : Option α := (l.find? (fun x => x.1 == k)).map (fun x => x.2)

/-- The list with a key's value replaced. -/
def assocPut {α : Type} (l : List (Nat × α)) (k : Nat) (v : α) : List (Nat × α) := (k, v) :: l.filter (fun x => x.1 != k)

/-- The planes whose merge groups line `n` can serve. -/
def State.mergePlanes (s : State) (n : Nat) : List Nat := s.runPlanes (halfOf n)

/-- The two lines of the pair carry different MERGE_STATUS of group `g` (class 5). -/
def State.statusDiffers (s : State) (p g : Nat) : Bool :=
  match assoc (s.line (s.mgLine p g false)).mxf.mergeStatus g, assoc (s.line (s.mgLine p g true)).mxf.mergeStatus g with
  | some x, some y => x.1 != y.1
  | _, _ => false

/-- A merge message is inconsistent (Table 8.4, class 5). -/
def State.mergeBad (s : State) (n : Nat) (x : PeerMsg) : Bool :=
  let ps := s.mergePlanes n
  !(ps.any (fun p => (s.mgsOf p n).contains x.index))
    || mergeReserved (bitsOf x.arg0 28 4) || (x.typ == 0x10 && mergeContradicts x.arg0)
    || (x.typ == 0x10 && ps.any (fun p => decide (33 ≤ (s.mg p x.index).differ) && s.statusDiffers p x.index))
    || ps.any (fun p => (s.mgsOf p n).any (fun g => s.mgLacks p g))

/-- Groups of the pair of line `n` with the class 5 answer in force or ended: FAR_REQ reads NR, or what was kept. -/
def State.mergeIncons (s : State) (n : Nat) (b : Bool) : State :=
  (s.mergePlanes n).foldl (fun s p => (s.mgsOf p n).foldl (fun s g =>
    (s.modMg p g (fun m => { m with incons := b })).mgRefresh p g) s) s

/-- A consistent MERGE_STATUS or MERGE_CMD of the pair has its effect (R257, R258). -/
def State.mergeTake (s : State) (n : Nat) (x : PeerMsg) : State :=
  let s := s.modMxf n (fun m => { m with badMerge := none })
  let s := (s.mergePlanes n).foldl (fun s p =>
    let s := match s.pairOf p n with
      | some q => s.modMxf q (fun m => { m with badMerge := none })
      | none => s
    s.modMg p x.index (fun m =>
      if x.typ = 0x10 then { m with farBridge := some (bitsOf x.arg0 24 2) } else { m with farKept := bitsOf x.arg0 28 4 })) s
  s.mergeIncons n false

/-- A merge message of a frame of line `n` (R257, R258, class 5). -/
def State.mergeMsg (s : State) (n : Nat) (x : PeerMsg) : State :=
  let s := if x.typ = 0x10 then s.modMxf n (fun m => { m with mergeStatus := assocPut m.mergeStatus x.index (x.arg0, x.arg1) }) else s
  if s.mergeBad n x then (s.modMxf n (fun m => { m with badMerge := some x })).mergeIncons n true else s.mergeTake n x

/-- Frames for which the two lines of a pair have carried different MERGE_STATUS of a group, counted on W (class 5). -/
def State.mergeDiffers (s : State) (n : Nat) : State :=
  (s.mergePlanes n).foldl (fun s p => (s.mgsOf p n).foldl (fun s g =>
    if s.mgLine p g false ≠ n then s
    else
      let d := s.statusDiffers p g
      let s := s.modMg p g (fun m => { m with differ := if d then m.differ + 1 else 0 })
      if (s.mg p g).differ = 33 then s.mergeIncons n true else s) s) s

/-- Merge messages that line `n` has waiting or outstanding are given up: its far end takes none (R258). -/
def State.mergePurge (s : State) (n : Nat) : State :=
  let cmd := fun (x : PeerMsg) => x.typ == 0x91
  (s.modMxf n (fun m => { m with
    changed := [], waiting := m.waiting.filter (fun x => !cmd x)
    out := if m.out.any (fun o => cmd o.msg) then none else m.out })).pmcNext n

/-- The groups of line `n` follow what its pair now knows of the far end's merge capability (R258). -/
def State.mergeFollow (s : State) (n : Nat) : State :=
  (s.mergePlanes n).foldl (fun s p => (s.mgsOf p n).foldl (fun s g =>
    let s := s.mgRefresh p g
    if s.mgLacks p g then (s.mergePurge (s.mgLine p g false)).mergePurge (s.mgLine p g true) else s) s) s

/-- A HELLO of the peer: identifier, capabilities and line, reported in the line's state (R116). -/
def State.helloMsg (s : State) (n : Nat) (x : PeerMsg) : State :=
  let s := (s.mergePlanes n).foldl (fun s p =>
    match s.pairOf p n with
    | some q => s.modMxf q (fun m => { m with peerNew := false })
    | none => s) s
  (s.modMxf n (fun m => { m with peer := some (x.arg0, bitsOf x.arg1 48 8, x.index), peerNew := true })).mergeFollow n

/-- A TRACE fragment (R126): with all eight fragments a trace period is complete. -/
def State.traceMsg (s : State) (n : Nat) (x : PeerMsg) : State :=
  if 8 ≤ x.index then s
  else
    let got := assocPut (s.line n).mxf.traceRx x.index x.arg1
    if (List.range 8).all (fun k => (assoc got k).isSome) then
      let bytes := (List.range 8).flatMap (fun k => beBytes 8 ((assoc got k).getD 0))
      (s.modMxf n (fun m => { m with traceRx := [] })).modOhp n (fun o => { o with
        traces := modD Trace.reset o.traces 0 (fun t => { t with
          buf := [], last := bytes, run := if t.last = bytes then t.run + 1 else 1 }) })
    else s.modMxf n (fun m => { m with traceRx := got })

/-- Slot groups that flows of the active epoch of plane `p` receive on line `n`: mask and type. The TUs of a structured group are
none of their own. -/
def State.rxGroups (s : State) (p n : Nat) : List (Nat × Nat) :=
  let e := s.active p
  (s.flowsOf p e).filterMap (fun f =>
    let d := s.desc p e f
    if isLower (s.format n) d.srcCt d.srcPos then none
    else if !d.srcPg then (if d.srcLine = n then some (d.srcPos % 2 ^ 24, d.srcCt) else none)
    else if 0x100 ≤ d.srcLine then none
    else if s.mgLine p d.srcLine false = n then some (s.mgGet p d.srcLine MG.wMask, d.srcCt)
    else if s.mgLine p d.srcLine true = n then some (s.mgGet p d.srcLine MG.pMask, d.srcCt)
    else none)

/-- SLOT_MAP: firmware compares a slot group of the far end with the receive assignment of the active epoch and reports a
difference, event 0x0011 (R169, Table 13.7). -/
def State.slotMapMsg (s : State) (n : Nat) (x : PeerMsg) : State :=
  let p := (s.linePlanes n).headD (halfOf n)
  let mask := x.arg0 % 2 ^ 24
  let ty := bitsOf x.arg0 24 8
  let want := ((s.rxGroups p n).find? (fun g => g.1 &&& mask != 0)).getD (0, 0)
  if !s.berentDuty || (if ty = 0 then want.1 == 0 else want == (mask, ty)) then s
  else s.postEvent 0x0011 0 (leBytes 1 n ++ leBytes 1 x.index ++ leBytes 1 ty ++ leBytes 1 want.2 ++ leBytes 4 mask
    ++ leBytes 4 want.1 ++ leBytes 4 (x.arg1 / 2 ^ 32))

/-- An accepted reliable message is executed (R111). -/
def State.pmcExec (s : State) (n : Nat) (x : PeerMsg) : State :=
  match x.typ with
  | 0x91 => s.mergeMsg n x
  | 0xA0 => s.slotMapMsg n x
  | _ => s.raise (Fld.LCH_MXF_STATUS_PMC_UNK_EV n)

/-- Line `n` is the input of a Through pair. -/
def State.thruIn (s : State) (n : Nat) : Bool :=
  (List.range 96).any (fun j => s.flag (Fld.LCH_OHP_THRU_CFG_ENABLE j) && s.get (Fld.LCH_OHP_THRU_CFG_SRC_LINE j) == n)

/-- The message that the last good frame of line `n` carried (R109 to R113). On the input of a Through pair messages are
recorded for status, and reliable ones neither executed nor acknowledged (R126). -/
def State.pmcMessageRx (s : State) (n : Nat) : State :=
  s.onLine n fun s =>
    match (s.line n).mxf.rxMsg with
    | none => s
    | some x =>
      let s := (s.modMxf n (fun m => { m with rxMsg := none })).mergeDiffers n
      if s.thruIn n then
        match x.typ with
        | 0x01 => s.helloMsg n x
        | 0x10 => s.modMxf n (fun m => { m with mergeStatus := assocPut m.mergeStatus x.index (x.arg0, x.arg1) })
        | 0x30 => s.traceMsg n x
        | 0 => s
        | _ => if x.typ < 0x80 then s.raise (Fld.LCH_MXF_STATUS_PMC_UNK_EV n) else s
      else if 0x80 ≤ x.typ then
        if x.txSeq = 0 then s.raise (Fld.LCH_MXF_STATUS_PMC_UNK_EV n)
        else if x.txSeq = (s.line n).mxf.ackSeq then s
        else (s.modMxf n (fun m => { m with ackSeq := x.txSeq })).pmcExec n x
      else match x.typ with
        | 0x01 => s.helloMsg n x
        | 0x10 => s.mergeMsg n x
        | 0x30 => s.traceMsg n x
        | 0 => s
        | _ => s.raise (Fld.LCH_MXF_STATUS_PMC_UNK_EV n)

/-! ## Record window -/

/-- A write of host software to a record word, by its fields (R259, Tables 8.9 and 8.10). -/
def State.recWrite (s : State) (a v : Nat) : State :=
  let p := b2n (a.testBit 23)
  let o := a % 2 ^ 23
  if o < 0x600 then
    let g := o / 32
    match o % 32 with
    | 4 => s.onWrite p (fun s q => if s.lgExists q g then (s.lgSet q g LG.holdoff v).lgSet q g LG.wtrS (v / 2 ^ 16) else s)
    | 8 => s.lgCommand p g (v % 16)
    | _ => s.writeMark p
  else if 0x10000 ≤ o ∧ o < 0x14000 then
    let g := (o - 0x10000) / 64
    match o % 64 with
    | 12 => s.onWrite p (fun s q => if s.mgExists q g then s.mgSet q g MG.realignS (v / 256) else s)
    | 16 => if v % 16 ≤ 4 then s.mgCommand p g (v % 16) else if v % 16 = 5 then s.mergeReanchor p g else s.writeMark p
    | _ => s.writeMark p
  else s.writeMark p

/-- An access to PRT_REC_DATA: the record word at ADDR, then the automatic increment (R259). -/
def State.recAccess (s : State) (x : RegAccess) : State :=
  s.onSpine fun s =>
    let a := s.get Fld.PRT_REC_ADDR_ADDR / 4 * 4
    let s := match x with
      | .read => s
      | .write v => s.recWrite a v.toNat
    if s.flag Fld.PRT_REC_ADDR_AUTOINC then s.add Fld.PRT_REC_ADDR_ADDR 4 else s

/-! ## Partner violations -/

/-- Class 5 of group `g`: the line whose last merge message was inconsistent, with that message; the two lines differ. -/
def State.mgBadLine (s : State) (p g : Nat) : Option (Nat × PeerMsg) :=
  let lines := (if s.mgExists p g then [s.mgLine p g false, s.mgLine p g true] else []) ++ List.range 96
  (lines.filterMap (fun n => (s.line n).mxf.badMerge.bind (fun x => if x.index = g then some (n, x) else none))).head?

/-- The condition of a class of Table 8.4 on merge group `g`. -/
def State.mgViolation (s : State) (p g c : Nat) : Bool :=
  match c with
  | 5 => (s.mgBadLine p g).isSome || (s.mgExists p g && decide (33 ≤ (s.mg p g).differ))
  | 6 => s.mgExists p g && s.mgUnacked p g
  | 7 => s.mgExists p g && decide (8 ≤ (s.mg p g).sevenRun)
  | _ => false

/-- The copy of class 7, P for true: the later one; of unrelated ones the one that is not REF. -/
def State.mgSevenCopy (s : State) (p g : Nat) : Bool :=
  match (s.mg p g).delay with
  | some (some d, _) => decide (d < 0)
  | _ => s.mgGet p g MG.ref == 0

/-- A violation of class `c` is detected on a merge group: the record, the count, the answer (R241, R242). -/
def State.mgViolate (s : State) (p g c : Nat) : State :=
  s.when (s.mgViolation p g c && !(s.mg p g).pv.testBit c) fun s =>
    let s := s.modMg p g (fun m => { m with pv := setBit m.pv c })
    let w := s.mgLine p g false
    let sent := match (s.line w).mxf.dropped.find? (isCmdOf g) with
      | some x => x
      | none => ⟨0x91, 0, g, s.mgGet p g MG.localReq * 2 ^ 28, 0⟩
    let info := fun (x : PeerMsg) => x.typ + 256 * x.txSeq + 65536 * (x.arg0 / 65536)
    let s := match c with
      | 5 =>
        let (n, x) := (s.mgBadLine p g).getD
          (w, ⟨0x10, 0, g, ((assoc (s.line w).mxf.mergeStatus g).map (fun (y : Nat × Nat) => y.1)).getD 0, 0⟩)
        s.pvRecord p 5 1 g n (info x)
      | 6 => s.pvRecord p 6 1 g w (info sent)
      | _ =>
        let b := s.mgSevenCopy p g
        let d := match (s.mg p g).w.buf.head?, (s.mg p g).p.buf.head? with
          | some x, some y => (y.fsn + 2 ^ 40 - x.fsn) % 2 ^ 40 % 2 ^ 32
          | _, _ => 0
        let s := s.pvRecord p 7 1 g (s.mgLine p g b) d
        ((s.modCopy p g b (fun k => { k with out := true, seven := true })).mgOver p g).raise (Fld.PRT_STATUS_OVER_EV p)
    if s.mgExists p g then (s.radd (mgAddr p g) MG.pvCnt 1).mgRefresh p g else s

/-- An episode of class `c` on a merge group ends. -/
def State.mgEpisodeEnd (s : State) (p g c : Nat) : State :=
  s.when ((s.mg p g).pv.testBit c && !s.mgViolation p g c) fun s =>
    let s := s.modMg p g (fun m => { m with
      pv := clearBit m.pv c
      w := if c = 7 then { m.w with seven := false } else m.w, p := if c = 7 then { m.p with seven := false } else m.p })
    if s.mgExists p g then s.mgRefresh p g else s

/-- A violation of class `c` on a group of either kind is detected, in every plane that runs the stream. -/
def State.violate (s : State) (x : PvGroup) (c : Nat) : State :=
  match x with
  | .line p g => s.onPlanes p.val fun s q => s.lgViolate q g.val c
  | .merge p g => s.onPlanes p.val fun s q => s.mgViolate q g.val c

/-- An episode of class `c` on a group of either kind ends. -/
def State.episodeEnd (s : State) (x : PvGroup) (c : Nat) : State :=
  match x with
  | .line p g => s.onPlanes p.val fun s q => s.lgEpisodeEnd q g.val c
  | .merge p g => s.onPlanes p.val fun s q => s.mgEpisodeEnd q g.val c

/-! ## Meanings -/

/-- PMC_MESSAGE_RX (R111). -/
def execPmcMessageRx (n : LineNo) (s : State) : Host.Outcome State Fault Refusal := done (s.pmcMessageRx n.val)

/-- MG_CMD_CLEAR (R258). -/
def execMgCmdClear (p : PlaneNo) (g : Fin 256) (s : State) : Host.Outcome State Fault Refusal := done (s.mgCommand p.val g.val 0)

/-- MG_CMD_LOCKOUT (R258). -/
def execMgCmdLockout (p : PlaneNo) (g : Fin 256) (s : State) : Host.Outcome State Fault Refusal := done (s.mgCommand p.val g.val 1)

/-- MG_CMD_FORCED (R258). -/
def execMgCmdForced (p : PlaneNo) (g : Fin 256) (s : State) : Host.Outcome State Fault Refusal := done (s.mgCommand p.val g.val 2)

/-- MG_CMD_MANUAL_P (R258). -/
def execMgCmdManualP (p : PlaneNo) (g : Fin 256) (s : State) : Host.Outcome State Fault Refusal := done (s.mgCommand p.val g.val 3)

/-- MG_CMD_MANUAL_W (R258). -/
def execMgCmdManualW (p : PlaneNo) (g : Fin 256) (s : State) : Host.Outcome State Fault Refusal := done (s.mgCommand p.val g.val 4)

/-- MG_CMD_REANCHOR (R255). -/
def execMgCmdReanchor (p : PlaneNo) (g : Fin 256) (s : State) : Host.Outcome State Fault Refusal := done (s.mergeReanchor p.val g.val)

/-- PRT_REC_DATA_ACCESS (R259). -/
def execPrtRecDataAccess (x : RegAccess) (s : State) : Host.Outcome State Fault Refusal := done (s.recAccess x)

/-- PARTNER_VIOLATION_DETECT (R241). -/
def execPartnerViolationDetect (x : PvGroup) (c : Fin 8) (s : State) : Host.Outcome State Fault Refusal := done (s.violate x c.val)

/-- PV_EPISODE_END (R241). -/
def execPvEpisodeEnd (x : PvGroup) (c : Fin 8) (s : State) : Host.Outcome State Fault Refusal := done (s.episodeEnd x c.val)

/-- MERGE_CMD_REQUEUE (R241). -/
def execMergeCmdRequeue (p : PlaneNo) (g : Fin 256) (s : State) : Host.Outcome State Fault Refusal := done (s.mergeRequeue p.val g.val)

/-- MERGE_COPY_WRITE (R248): the frame just received on line `n`, whose first word arrived in word period `t`. -/
def execMergeCopyWrite (n : LineNo) (t : Nat) (s : State) : Host.Outcome State Fault Refusal := done (s.mergeCopyWrite n.val t)

/-- MERGE_OUTPUT_READ (R250). -/
def execMergeOutputRead (p : PlaneNo) (g : Fin 256) (r : MemRead) (s : State) : Host.Outcome State Fault Refusal :=
  done (s.mergeOutputRead p.val g.val r)

/-- MERGE_REF_MOVE (R251). -/
def execMergeRefMove (p : PlaneNo) (g : Fin 256) (overdue : Bool) (s : State) : Host.Outcome State Fault Refusal :=
  done (s.mergeRefMove p.val g.val overdue)

/-- MERGE_UNANCHOR (R251). -/
def execMergeUnanchor (p : PlaneNo) (g : Fin 256) (s : State) : Host.Outcome State Fault Refusal := done (s.mergeUnanchor p.val g.val)

/-- MERGE_ANCHOR (R252). -/
def execMergeAnchor (p : PlaneNo) (g : Fin 256) (s : State) : Host.Outcome State Fault Refusal := done (s.mergeAnchor p.val g.val)

/-- MERGE_OUT_OF_WINDOW (R254): copy W, or P for true. -/
def execMergeOutOfWindow (p : PlaneNo) (g : Fin 256) (b : Bool) (s : State) : Host.Outcome State Fault Refusal :=
  done (s.mergeOutOfWindow p.val g.val b)

/-- MERGE_AUTO_REALIGN (R255). -/
def execMergeAutoRealign (p : PlaneNo) (g : Fin 256) (s : State) : Host.Outcome State Fault Refusal := done (s.mergeAutoRealign p.val g.val)

/-- MERGE_IMMEDIATE_REANCHOR (R255). -/
def execMergeImmediateReanchor (p : PlaneNo) (g : Fin 256) (s : State) : Host.Outcome State Fault Refusal :=
  done (s.mergeImmediate p.val g.val)

end Sys2Proof.Machine
end

