-- ==== Sys2Proof/Machine/Twin.lean ====
section
/-! DEFINITION. Twin configuration (chapter 9): plane states, the ingress sequencer, the signature compare, heartbeats and
the lease, planned transfers, re-synchronisation, and the words of the lines with the hold gap. -/

namespace Sys2Proof.Machine

/-- A twin event: Twin configuration, confirmed, the spine running (R294). -/
def State.onTwin (s : State) (f : State → State) : State := s.when (s.spineOn && s.twin && s.confirmed) f

/-- The frame number (R265). -/
def State.sqf (s : State) : Nat := s.get64 Reg.TWN_SQF_LO

/-- The state with the twin control's own part changed. -/
def State.modTwin (s : State) (f : TwinUnit → TwinUnit) : State := { s with tw := f s.tw }

/-! ## The state of a plane as a whole -/

/-- A register of the MAP, DPM or PRT blocks of plane `p` (R267). -/
def isPlaneReg (p a : Nat) : Bool :=
  decide (0x400100 + p * 0x100 ≤ a ∧ a < 0x400200 + p * 0x100)
    || decide (0x800100 + p * 0x100 ≤ a ∧ a < 0x800200 + p * 0x100)
    || decide (0x900000 + p * 0x100 ≤ a ∧ a < 0x900100 + p * 0x100)

/-- A BAR2 address of the table or the PM space of plane `p`. -/
def isPlaneMem (p a : Nat) : Bool :=
  decide (0x1000000 + p * 0x800000 ≤ a ∧ a < 0x1800000 + p * 0x800000)
    || decide (0x2000000 + p * 0x800000 ≤ a ∧ a < 0x2800000 + p * 0x800000)

/-- A record address of plane `p`. -/
def isPlaneRec (p a : Nat) : Bool := decide (p * 0x800000 ≤ a ∧ a < (p + 1) * 0x800000)

/-- INIT clears the SRAM, the registers and the pipeline of plane `p` (R284). -/
def State.clearPlane (s : State) (p : Nat) : State :=
  let s := (s.clearRegs (isPlaneReg p)).clearBar2 (isPlaneMem p)
  { s with prtRec := Sparse.clear (isPlaneRec p) s.prtRec, planes := putD Plane.reset s.planes p Plane.reset }

/-- The state-copy engine makes plane `p` a copy of plane `q` (R286). -/
def State.copyPlane (s : State) (q p : Nat) : State :=
  let s0 := s
  let s := s.clearPlane p
  let s : State := (s0.regs.filter (fun c => isPlaneReg q c.1)).foldr (fun c s => s.setReg (c.1 + p * 0x100 - q * 0x100) c.2) s
  let s : State := (s0.bar2.filter (fun c => isPlaneMem q c.1)).foldr (fun c s =>
    s.putBar2 (c.1 + p * 0x800000 - q * 0x800000) [c.2]) s
  let s : State := (s0.prtRec.filter (fun c => isPlaneRec q c.1)).foldr (fun c s =>
    s.putRec (c.1 + p * 0x800000 - q * 0x800000) 1 c.2.toNat) s
  s.modPlane p (fun pl => { s0.plane q with stopped := pl.stopped })

/-! ## Plane states -/

/-- The silent paths of plane `p` set PATH_EV where a period that excused them ends (R273). -/
def State.periodEnd (s : State) (p : Nat) : State :=
  if s.pathLive (2 * p) && s.pathLive (2 * p + 1) then s else s.raise Fld.TWN_STATUS_PATH_EV

/-- STATE_A or STATE_B takes a value; every change sets STATE_EV (R283). -/
def State.setPlaneState (s : State) (p v : Nat) : State :=
  let old := s.planeState p
  if old = v then s
  else
    let held := s.pathHeld p
    let s := (s.set (if p = 0 then Fld.TWN_STATUS_STATE_A else Fld.TWN_STATUS_STATE_B) v).raise Fld.TWN_STATUS_STATE_EV
    -- the progress of a re-synchronisation that succeeded shows until a plane leaves step (R289, log entry 66)
    let s := if old = 4 ∧ s.tw.resync.isNone then (s.set Fld.TWN_RESYNC_PROG_PCT 0).set Fld.TWN_RESYNC_PROG_POS 0 else s
    if held && !s.pathHeld p then s.periodEnd p else s

/-- A pending transfer is cancelled when its target is no longer what it must be (R276). -/
def State.xferCheck (s : State) : State :=
  match s.tw.xfer with
  | none => s
  | some x =>
    if s.eligible x.target && (!x.inStep || s.planeState x.target == 4) then s
    else (s.modTwin (fun t => { t with xfer := none })).setB Fld.TWN_STATUS_TRANSFER_PEND false

/-- Progress of the re-synchronisation, in TWN_RESYNC_PROG and in its entry (R289). -/
def State.resyncShow (s : State) (pct pos : Nat) : State :=
  let s := (s.set Fld.TWN_RESYNC_PROG_PCT pct).set Fld.TWN_RESYNC_PROG_POS pos
  (s.opsOf 0x0600).foldl (fun s k => s.opAdvance k pct pos) s

/-- The copy has reached granule `pos` of its present pass: in the first one PCT is 9,500 × granules / 20,992 (R289). -/
def State.resyncProgress (s : State) (pos : Nat) : State :=
  match s.tw.resync with
  | none => s
  | some r =>
    s.when (r.copying && s.planeState r.plane == 2 && decide (pos ≤ 20992)) fun s =>
      s.resyncShow (if r.passes = 0 then 9500 * pos / 20992 else 9500) pos

/-- A plane that restarted begins to execute without a copy: its current bins are suspect (R223). -/
def State.restartSuspect (s : State) (p : Nat) : State :=
  let s := if (s.planeTw p).restarted then s.planeSuspect p else s
  s.modTw p (fun t => { t with restarted := false })

/-- The re-synchronisation fails for a reason of OP_FAILED (R288). -/
def State.resyncFail (s : State) (reason : Nat) : State :=
  match s.tw.resync with
  | none => s
  | some r =>
    let s := (s.modTwin (fun t => { t with resync := none, resyncEnded := true })).raise Fld.TWN_STATUS_RESYNC_FAIL_EV
    let s := if s.planeState r.plane ≤ 1 then s else s.setPlaneState r.plane 6
    let s := ((s.set Fld.TWN_RESYNC_PROG_PCT 0).set Fld.TWN_RESYNC_PROG_POS 0).happen 582
    (s.opsOf 0x0600).foldl (fun s k => s.opEnd k 0x010B (leBytes 2 reason ++ leBytes 2 0)) s

/-- The re-synchronisation is aborted: the returning plane goes to OUT_OF_STEP, unless the operation still waited (R285,
R390). -/
def State.resyncAbort (s : State) : State :=
  match s.tw.resync with
  | none => s
  | some r =>
    let s := s.modTwin (fun t => { t with resync := none, resyncEnded := true })
    let s := if r.copying && decide (1 < s.planeState r.plane) then s.setPlaneState r.plane 6 else s
    (s.set Fld.TWN_RESYNC_PROG_PCT 0).set Fld.TWN_RESYNC_PROG_POS 0

/-- Plane `p` leaves its state for `v`; the other plane follows R283 and R284: ALONE from IN_STEP, and from CATCHUP in a
joint start. A mismatch decides about the other plane itself. -/
def State.movePlane (s : State) (p v : Nat) (mismatch : Bool) : State :=
  if s.planeState p = v then s
  else
    let q := 1 - p
    let was := s.planeState p
    let s := s.setPlaneState p v
    let s := if v = 4 ∨ v = 5 then s
      else if s.planeState q = 4 then s.setPlaneState q 5
      else if s.planeState q = 3 ∧ (s.planeTw q).joint ∧ !mismatch then s.setPlaneState q 5
      else s
    let s := match s.tw.resync with
      | none => s
      | some r =>
        if r.plane = p then
          if v = 0 ∨ (r.copying ∧ (was = 2 ∨ was = 3) ∧ v ≠ 3 ∧ v ≠ 4) then s.resyncFail (if mismatch then 4 else 5) else s
        else if v = 4 ∨ v = 5 then s else s.resyncFail 3
    s.xferCheck.watch

/-- The plane begins to execute the stream alone (R284). -/
def State.startAlone (s : State) (p : Nat) : State :=
  (((s.restartSuspect p).modTw p (fun t => { t with inited := false, joint := false, grace := 16 })).setPlaneState p 5).watch

/-- Both planes begin together (R284). -/
def State.startJoint (s : State) : State :=
  let s : State := [0, 1].foldl (fun s p =>
    ((s.restartSuspect p).modTw p (fun t => { t with inited := false, joint := true })).setPlaneState p 3) s
  (s.modTwin (fun t => { t with cmp := s.sqf, equal := 0 })).watch

/-- The configuration is confirmed: in Twin the sequencer starts with frame 0, and the planes that have completed INIT begin
(R262, R273, R284). -/
def State.confirm (s : State) : State :=
  let s := s.raise Fld.TWN_STATUS_CONFIRMED
  if !s.twin then s
  else
    let s := ((s.set64 Reg.TWN_SQF_LO 0).set Fld.TWN_HB_STATUS_LIVE 0).modTwin (fun t => { t with
      gbn := 0, cmp := 0, equal := 0, leased := false, firstOver := false })
    let s : State := [0, 1].foldl (fun s p => (s.modTw p (fun t => { t with sigs := [], beat := none })).signStart 0 p) s
    match (s.planeTw 0).inited, (s.planeTw 1).inited with
    | true, true => s.startJoint
    | true, false => s.startAlone 0
    | false, true => s.startAlone 1
    | false, false => s

/-- COPY begins (R286). -/
def State.copyBegin (s : State) (p : Nat) : State :=
  let s := s.modTwin (fun t => { t with resync := some ⟨p, true, 0, []⟩, resyncEnded := false })
  let s := s.modTw p (fun t => { t with inited := false, joint := false, restarted := false, queue := [] })
  ((s.setPlaneState p 2).resyncShow 0 0).watch

/-- The returning plane can begin COPY: INIT completed, or OUT_OF_STEP and not stopped (R285). -/
def State.copyReady (s : State) (p : Nat) : Bool :=
  !(s.plane p).stopped && (((s.planeState p == 1) && (s.planeTw p).inited) || s.planeState p == 6)

/-- A live plane for a re-synchronisation of plane `p`. -/
def State.liveFor (s : State) (p : Nat) : Bool := s.planeState (1 - p) == 4 || s.planeState (1 - p) == 5

/-- The plane that a re-synchronisation would return: in INIT or OUT_OF_STEP. -/
def State.returning (s : State) : Option Nat :=
  [0, 1].find? (fun p => (s.planeState p == 1 || s.planeState p == 6) && s.liveFor p)

/-- A re-synchronisation starts, or waits until COPY can begin (R285). -/
def State.resyncStart (s : State) (p : Nat) : State :=
  if s.copyReady p then s.copyBegin p else s.modTwin (fun t => { t with resync := some ⟨p, false, 0, []⟩, resyncEnded := false })

/-- A waiting re-synchronisation begins COPY once it can. -/
def State.resyncGo (s : State) : State :=
  match s.tw.resync with
  | some r => if !r.copying && s.copyReady r.plane && s.liveFor r.plane then s.copyBegin r.plane else s
  | none => s

/-- PLANE_INIT_COMPLETE: plane `p` has cleared its SRAM, registers and pipeline (R284); in Wide configuration its restart is
complete (R449, R466). -/
def State.planeInitComplete (s : State) (p : Nat) : State :=
  s.when (s.halfOn p && s.coreLocked p && (s.planeTw p).initDue) fun s =>
    let s := if (s.planeTw p).keep then s else s.clearPlane p
    let s := if (s.planeTw (1 - p)).inited then s else s.modTwin (fun t => { t with initFirst := p })
    let s := s.modTw p (fun t => { t with initDue := false, keep := false, inited := s.twin })
    if s.twin then s.resyncGo.watch else s.watch

/-- AUTO_RESYNC_START (R285, R389). -/
def State.autoResync (s : State) : State :=
  s.onTwin fun s =>
    match s.returning, s.opFree with
    | some p, some k =>
      s.when (s.berentDuty && s.flag Fld.TWN_LEASE_CFG_AUTO_RESYNC && s.tw.resync.isNone && s.copyReady p) fun s =>
        (s.opStart k ⟨⟨0, 0, 0x0600, 0, false, false, s.fwState⟩, true, 1, 0, [], false⟩).resyncStart p
    | _, _ => s

/-- RESYNC_PASS_END: a copy pass has ended, and `d` are the granules that are dirty then (R286 to R289). -/
def State.resyncPassEnd (s : State) (d : List Nat) : State :=
  s.onTwin fun s =>
    match s.tw.resync with
    | none => s
    | some r =>
      s.when (r.copying && s.planeState r.plane == 2 && (r.passes == 0 || !r.dirty.isEmpty)) fun s =>
        let s := (s.copyPlane (1 - r.plane) r.plane).modTwin (fun t => { t with resync := some { r with passes := r.passes + 1, dirty := d } })
        if d ≠ [] ∧ 64 ≤ r.passes + 1 then s.resyncFail 1 else s.resyncShow 9500 (d.headD 0)

/-- RESYNC_TIMEOUT: 1 s since COPY began (R288). -/
def State.resyncTimeout (s : State) : State :=
  s.onTwin fun s => s.when (s.tw.resync.any (fun r => r.copying)) fun s => s.resyncFail 2

/-! ## The ingress sequencer -/

/-- At a FRAME boundary with an empty bitmap the returning plane begins executing at the marker (R287). -/
def State.resyncFrame (s : State) : State :=
  match s.tw.resync with
  | none => s
  | some r =>
    if r.copying && s.planeState r.plane == 2 && decide (0 < r.passes) && r.dirty.isEmpty then
      let s := ((s.copyPlane (1 - r.plane) r.plane).modTw r.plane (fun t => { t with queue := [], sigs := [] })).setPlaneState r.plane 3
      ((s.modTwin (fun t => { t with cmp := s.sqf, equal := 0 })).resyncShow 9900 0).watch
    else s

/-- Plane `p` completes the present sequencer frame: its signature goes to the compare while it is in CATCHUP, in step or alone,
and to the result of its check-value unit (R269, R270); whether it consumed a block in the frame (R272). -/
def State.frameEnd (s : State) (p : Nat) : State :=
  let t := s.planeTw p
  let v := t.sig ^^^ (2 ^ 64 - 1)
  let s := s.modTw p (fun t => { t with idle := !t.took, took := false })
  if s.consumes p && s.coreLocked p && decide (s.planeState p ≤ 5) then
    (s.modTw p (fun t => { t with sigs := (t.sigs ++ [(s.sqf, v)]).drop (t.sigs.length + 1 - 8) })).set64 (Reg.CVU_RES_LO (12 + p)) v
  else s

/-- FRAME_MARKER (R265): ends a sequencer frame and starts the next. Where no plane executes the stream, the first to have
completed INIT begins here in ALONE (R284). -/
def State.frameMarker (s : State) : State :=
  s.onTwin fun s =>
    let s : State := [0, 1].foldl State.frameEnd s
    let s := (s.set64 Reg.TWN_SQF_LO ((s.sqf + 1) % 2 ^ 48)).nextBlock .frame 0 []
    let s := { s with lines := s.lines.map (fun (l : LineState) =>
      if l.frb.words = [] then l else { l with frb := { l.frb with age := l.frb.age + 1 } }) }
    let ready := fun p => s.planeState p == 1 && (s.planeTw p).inited
    let s := if s.planeState 0 < 2 ∧ s.planeState 1 < 2 then
        match [s.tw.initFirst, 0, 1].find? ready with
        | some p => s.startAlone p
        | none => s
      else s
    [0, 1].foldl (State.signStart · s.sqf ·) s.resyncFrame

/-- LINE_BLOCK_RELEASE (R266): the block holds 31 words, or the fourth FRAME boundary after its first word has come. -/
def State.lineBlockRelease (s : State) (n : Nat) : State :=
  s.onTwin fun s => s.onLine n fun s =>
    let b := (s.line n).frb
    s.when (!b.absent && (decide (31 ≤ b.words.length) || (!b.words.isEmpty && decide (4 ≤ b.age)))) fun s =>
      (s.modLine n (fun l => { l with frb := { l.frb with words := l.frb.words.drop 31, age := 0 } })).nextBlock .data n (b.words.take 31)

/-- LINE_PRESENT_MARKER: a returned half's line delivers its first block (R265). -/
def State.linePresent (s : State) (n : Nat) : State :=
  s.onTwin fun s => s.onLine n fun s => s.when (s.line n).frb.absent fun s =>
    (s.modLine n (fun l => { l with frb := { l.frb with absent := false } })).nextBlock .linePresent n []

/-- LINE_ABSENT markers for the lines of half `p` (R265, R465). -/
def State.linesAbsent (s : State) (p : Nat) : State :=
  if s.twin && s.confirmed then
    (List.range 48).foldl (fun s k =>
      (s.modLine (48 * p + k) (fun l => { l with frb := { l.frb with absent := true } })).nextBlock .lineAbsent (48 * p + k) []) s
  else s

/-! ## Signatures -/

/-- Both planes execute the stream, so their signatures are compared (R270). -/
def State.comparing (s : State) : Bool :=
  [0, 1].all (fun p => decide (3 ≤ s.planeState p) && decide (s.planeState p ≤ 5))

/-- The plane raised a plane-attributable source in frame `k` or one of the two before it (R271). -/
def State.blamed (s : State) (p k : Nat) : Bool := (s.planeTw p).faults.any (fun f => f == k || f + 1 == k || f + 2 == k)

/-- PREF: 0 none, 1 plane A, 2 plane B. -/
def State.pref (s : State) : Nat :=
  match s.get Fld.TWN_LEASE_CFG_PREF with
  | 1 => 1
  | 2 => 2
  | _ => 0

/-- The plane leaves step by a mismatch, and the other runs on alone (R271). -/
def State.outOfStep (s : State) (p : Nat) : State :=
  let s := s.movePlane p 6 true
  if s.planeState (1 - p) = 3 ∨ s.planeState (1 - p) = 4 then (s.setPlaneState (1 - p) 5).watch else s

/-- A mismatch of frame `k`, attributed to A, to B (R271, R284, R287). -/
def State.mismatch (s : State) (k : Nat) (a0 b0 : Bool) : State :=
  let back := s.tw.resync.bind (fun r => if s.planeState r.plane = 3 then some r.plane else none)
  -- during CATCHUP a mismatch is attributed to the returning plane, but for one that R271 attributes to the live plane alone
  let (a, b) := match back with
    | some r => if r = 0 then (!(b0 && !a0), b0 && !a0) else (a0 && !b0, !(a0 && !b0))
    | none => (a0, b0)
  let s := (s.add Fld.TWN_MISMATCH_CNT_CNT 1).set Fld.TWN_MISMATCH_LAST_FRAME k
  let s := ((s.set Fld.TWN_MISMATCH_LAST_ATTR (b2n a + 2 * b2n b)).raise Fld.TWN_STATUS_MISMATCH_EV).happen 576
  let s := s.modTwin (fun t => { t with cmp := k + 1, equal := 0 })
  match back with
  | some _ => if a then s.movePlane 0 6 true else s.movePlane 1 6 true
  | none =>
    if s.holder = 0 then
      let bad := if a && !b then 0 else if b && !a then 1 else if s.pref = 2 then 0 else 1
      s.outOfStep bad
    else
      let h := s.holder - 1
      if a != b then
        let bad := if a then 0 else 1
        let step := s.planeState (1 - bad) == 4
        let s := s.outOfStep bad
        if bad = h ∧ step ∧ s.eligible (1 - bad) then
          (s.modTwin (fun t => { t with xfer := some ⟨1 - bad, s.sqf + 4, false⟩ })).raise Fld.TWN_STATUS_TRANSFER_PEND
        else s
      else s.outOfStep (1 - h)

/-- 16 frames in a row have compared equal: the planes are in step (Table 9.4, R287). -/
def State.inStepNow (s : State) : State :=
  let s := (s.setPlaneState 0 4).setPlaneState 1 4
  let s : State := [0, 1].foldl (fun s p => s.modTw p (fun t => { t with joint := false, grace := 0 })) s
  let s := match s.tw.resync with
    | none => s
    | some _ =>
      let s := (s.modTwin (fun t => { t with resync := none })).resyncShow 10000 0
      (s.opsOf 0x0600).foldl (fun s k => s.opEnd k 0x0000 []) s
  s.watch

/-- The signature of frame `k` that the compare holds of plane `p`. -/
def State.sigOf (s : State) (p k : Nat) : Option Nat := ((s.planeTw p).sigs.find? (fun x => x.1 == k)).map (fun x => x.2)

/-- The next frame to be compared: the first that is due and of which a signature is held. -/
def State.sigNext (s : State) : Nat :=
  let due := ((s.planeTw 0).sigs ++ (s.planeTw 1).sigs).filterMap (fun x => if s.tw.cmp ≤ x.1 then some x.1 else none)
  due.foldl min (due.headD s.tw.cmp)

/-- SIGNATURE_COMPARE: the signatures of the next frame to be compared have arrived from both planes (R270). -/
def State.signatureCompare (s : State) : State :=
  s.onTwin fun s => s.when s.comparing fun s =>
    let k := s.sigNext
    match s.sigOf 0 k, s.sigOf 1 k with
    | some a, some b =>
      if a = b then
        let s := s.modTwin (fun t => { t with cmp := k + 1, equal := t.equal + 1 })
        if 16 ≤ s.tw.equal ∧ (s.planeState 0 ≠ 4 ∨ s.planeState 1 ≠ 4) ∧ s.sqf ≤ k + 3 then s.inStepNow else s
      else s.mismatch k (s.blamed 0 k) (s.blamed 1 k)
    | _, _ => s

/-- SIGNATURE_MISSING: the signature of plane `p` of the next frame is still missing 4 frames after the other plane's has come
(R270, R271). -/
def State.signatureMissing (s : State) (p : Nat) : State :=
  s.onTwin fun s => s.when (s.comparing && (s.sigOf p s.sigNext).isNone && (s.sigOf (1 - p) s.sigNext).isSome
      && decide (s.sigNext + 4 < s.sqf)) fun s =>
    let k := s.sigNext
    s.mismatch k (p == 0 || s.blamed 0 k) (p == 1 || s.blamed 1 k)

/-! ## Heartbeats -/

/-- A Fatal fault source of plane `p` is active (R272). -/
def State.planeFatal (s : State) (p : Nat) : Bool :=
  (List.range 10).any (fun k => s.fcr.live.testBit (32 + 32 * p + k) && s.lastSev (32 + 32 * p + k) == 4)

/-- Plane `p` sends heartbeats: core PLL locked, no Fatal source active, a block consumed in the last frame (R272). -/
def State.beats (s : State) (p : Nat) : Bool :=
  s.halfOn p && s.coreLocked p && !s.planeFatal p && s.consumes p && !(s.planeTw p).idle

/-- Miss count field of path `k`. -/
def missField (k : Nat) : FRef :=
  match k with
  | 0 => Fld.TWN_HB_STATUS_A_WIRE_MISS
  | 1 => Fld.TWN_HB_STATUS_A_SPINE_MISS
  | 2 => Fld.TWN_HB_STATUS_B_WIRE_MISS
  | _ => Fld.TWN_HB_STATUS_B_SPINE_MISS

/-- Windows with a valid heartbeat in a row on path `k`. -/
def State.goodRun (s : State) (k : Nat) : Nat := if k % 2 = 0 then (s.planeTw (k / 2)).goodWire else (s.planeTw (k / 2)).goodSpine

/-- The state with that run set. -/
def State.setGood (s : State) (k v : Nat) : State :=
  s.modTw (k / 2) (fun t => if k % 2 = 0 then { t with goodWire := v } else { t with goodSpine := v })

/-- HB_MISS: 2 to 8, other values as 3 (R273). -/
def State.hbMiss (s : State) : Nat :=
  let v := s.get Fld.TWN_LEASE_CFG_HB_MISS
  if 2 ≤ v ∧ v ≤ 8 then v else 3

/-- What a window of the Gander saw of plane `p` on its two paths is valid: a wire edge 0.512 µs or more after the previous one,
a spine word of the plane whose frame number follows the previous one (R273). -/
def State.beatValid (s : State) (p : Nat) (x : Beat) (spine : Bool) : Bool :=
  if spine then
    match x.word, (s.planeTw p).beat with
    | some v, some u => v.toNat == (u + 1) % 2 ^ 48
    | some _, none => true
    | none, _ => false
  else x.edge.any (fun t => decide (512 ≤ t))

/-- HEARTBEAT_WINDOW: a window of the Gander ends, with what it saw of either plane (R273). -/
def State.heartbeatWindow (s : State) (x : List Beat) : State :=
  s.onTwin fun s =>
    let s0 := s
    let s : State := (List.range 4).foldl (fun s k =>
      let b := x.getD (k / 2) ⟨none, none⟩
      let s := if k % 2 = 1 then s.modTw (k / 2) (fun t => { t with beat := match b.word with
        | some v => some v.toNat
        | none => t.beat }) else s
      if s0.beatValid (k / 2) b (k % 2 == 1) && s.beats (k / 2) then (s.set (missField k) 0).setGood k (s.goodRun k + 1)
      else (s.addSat (missField k) 1).setGood k 0) s
    [0, 1].foldl (fun s p =>
      let g := (s.planeTw p).grace
      if s.planeState p = 5 ∧ g ≠ 0 then
        let s := s.modTw p (fun t => { t with grace := g - 1 })
        if g = 1 then s.periodEnd p else s
      else s) s

/-- A path changes state; the change sets PATH_EV outside the periods of R273. -/
def State.setPath (s : State) (k : Nat) (v : Bool) : State :=
  let live := s.get Fld.TWN_HB_STATUS_LIVE
  let s := s.set Fld.TWN_HB_STATUS_LIVE (putBits live k 1 (b2n v))
  let s := if s.pathHeld (k / 2) then s else s.raise Fld.TWN_STATUS_PATH_EV
  s.xferCheck

/-- HEARTBEAT_PATH_SILENT (R273). -/
def State.pathSilent (s : State) (k : Nat) : State :=
  s.onTwin fun s => s.when (s.pathLive k && decide (s.hbMiss ≤ s.get (missField k))) fun s => s.setPath k false

/-- HEARTBEAT_PATH_LIVE (R273). -/
def State.pathUp (s : State) (k : Nat) : State :=
  s.onTwin fun s => s.when (!s.pathLive k && decide (8 ≤ s.goodRun k)) fun s => s.setPath k true

/-! ## The lease -/

/-- LEASE_RENEW: a valid heartbeat of the holder on live path `k` (R274). -/
def State.leaseRenew (s : State) (k : Nat) : State :=
  s.onTwin fun s => s.when (s.holder == k / 2 + 1 && s.pathLive k && s.beats (k / 2)) fun s =>
    s.modTw (k / 2) (fun t => { t with output := true })

/-- HOLDER_LOCAL_TIMER_EXPIRY (R274). -/
def State.localExpiry (s : State) : State :=
  s.onTwin fun s => s.when (s.holder != 0) fun s => s.modTw (s.holder - 1) (fun t => { t with output := false })

/-- The lease of the holder ends, by expiry or by the loss of its feed; a pending transfer is cancelled (R275, R276). -/
def State.leaseEnd (s : State) : State :=
  if s.holder = 0 then s
  else
    let s := s.modTw (s.holder - 1) (fun t => { t with output := false })
    let s := s.modTwin (fun t => { t with xfer := none })
    (s.setB Fld.TWN_STATUS_TRANSFER_PEND false).set Fld.TWN_STATUS_HOLDER 0

/-- LEASE_EXPIRY (R275). -/
def State.leaseExpiry (s : State) : State := s.onTwin fun s => s.leaseEnd

/-- The lease goes to plane `p`. -/
def State.leaseTo (s : State) (p : Nat) : State :=
  let s := (s.set Fld.TWN_STATUS_HOLDER (p + 1)).modTw p (fun t => { t with output := true })
  (s.modTw (1 - p) (fun t => { t with output := false })).modTwin (fun t => { t with leased := true, firstOver := true })

/-- The eligible plane that receives a grant, the preferred one first (R275, R291). -/
def State.grantee (s : State) : Option Nat :=
  (if s.pref = 2 then [1, 0] else [0, 1]).find? s.eligible

/-- LEASE_GRANT: 1 µs after expiry or feed loss, `t` ns after the holder's last renewal or the feed-loss report (R275); the
first lease once both planes are IN_STEP. -/
def State.leaseGrant (s : State) (t : Nat) : State :=
  s.onTwin fun s => s.when (s.holder == 0) fun s =>
    match s.grantee with
    | none => s
    | some p =>
      if s.tw.leased then
        let s := (s.leaseTo p).set Fld.TWN_GAP_GAP_BOUND_NS (min (t + 500) (2 ^ 24 - 1))
        let s := (s.raise Fld.TWN_STATUS_HANDOVER_EV).add Fld.TWN_HANDOVER_CNT_UNPLANNED 1
        s.happen 581
      else if s.tw.firstOver || (s.planeState 0 == 4 && s.planeState 1 == 4) then s.leaseTo p
      else s

/-- FIRST_LEASE_TIMEOUT: 1 ms after confirmation the only eligible plane receives the first lease (R284). -/
def State.firstLease (s : State) : State :=
  s.onTwin fun s => s.when (!s.tw.leased && !s.tw.firstOver) fun s =>
    let s := s.modTwin (fun t => { t with firstOver := true })
    match s.grantee with
    | some p => s.leaseTo p
    | none => s

/-- The Gander names a planned transfer to plane `p`, 4 frames ahead (R276). -/
def State.xferName (s : State) (p : Nat) : State :=
  (s.modTwin (fun t => { t with xfer := some ⟨p, s.sqf + 4, true⟩ })).raise Fld.TWN_STATUS_TRANSFER_PEND

/-- PLANNED_TRANSFER: the transfer frame has come, and every line takes its words from the new holder (R276). -/
def State.plannedTransfer (s : State) : State :=
  s.onTwin fun s =>
    match s.tw.xfer with
    | none => s
    | some x =>
      s.when (decide (x.frame ≤ s.sqf) && s.eligible x.target && s.holder != 0) fun s =>
        let s := (s.leaseTo x.target).modTwin (fun t => { t with xfer := none })
        let s := (s.setB Fld.TWN_STATUS_TRANSFER_PEND false).raise Fld.TWN_STATUS_TRANSFER_EV
        s.add Fld.TWN_HANDOVER_CNT_PLANNED 1

/-- TWN_LEASE_FORCE: a completed guarded pair with TARGET 1 or 2 (R277). -/
def State.leaseForce (s : State) (target : Nat) : State :=
  s.when (s.spineOn && s.twin && (target == 1 || target == 2)) fun s =>
    let p := target - 1
    if s.holder = target || !(s.planeState p == 4 && s.eligible p) || s.holder = 0 || s.tw.xfer.isSome then
      s.raise Fld.TWN_STATUS_FORCE_REF_EV
    else s.xferName p

/-- A plane-attributable source of plane `p` is active. -/
def State.planeFaulty (s : State) (p : Nat) : Bool :=
  (List.range 32).any (fun k => s.fcr.live.testBit (32 + 32 * p + k) && (srcInfo (32 + 32 * p + k)).any (fun i => i.pa))

/-- REVERT (R290): the preferred plane has been in step, eligible and free of its faults for the wait. -/
def State.revert (s : State) : State :=
  s.onTwin fun s =>
    let p := s.pref - 1
    s.when (s.pref != 0 && !s.planeFaulty p && s.holder != 0 && s.holder != s.pref && s.planeState p == 4 && s.eligible p && s.tw.xfer.isNone) fun s =>
      s.xferName p

/-! ## The words of the lines -/

/-- The plane whose enable is asserted for line `n`: the holder while its local timer runs (R274); in Wide configuration the
plane of the half (R282). -/
def State.enabledPlane (s : State) (n : Nat) : Option Nat :=
  if s.twin then
    if s.holder ≠ 0 ∧ (s.planeTw (s.holder - 1)).output ∧ s.halfOn (s.holder - 1) then some (s.holder - 1) else none
  else if s.planeRuns (halfOf n) then some (halfOf n) else none

/-- Line `n` is a Through output and sends the maintenance signal (R148, R149). -/
def State.thruMaint (s : State) (n : Nat) : Bool :=
  s.flag (Fld.LCH_OHP_THRU_CFG_ENABLE n) && !s.flag (Fld.LCH_OHP_THRU_STATUS_ACTIVE n)

/-- The maintenance signal of line `n` begins (R281). -/
def State.maintStart (s : State) (n : Nat) : State :=
  (s.raise (Fld.LCH_FRB_STATUS_MAINT n)).raise (Fld.LCH_FRB_STATUS_MAINT_EV n)

/-- A hold begins (R279, R281): where the buffer holds no frame, with the maintenance signal at once. -/
def State.holdStart (s : State) (n : Nat) : State :=
  if s.flag (Fld.LCH_FRB_STATUS_HOLD n) then s
  else
    let s := (s.raise (Fld.LCH_FRB_STATUS_HOLD n)).raise (Fld.LCH_FRB_STATUS_HOLD_EV n)
    let s := (s.add (Fld.LCH_FRB_HOLD_CNT_CNT n) 1).setB (Fld.LCH_FRB_STATUS_SRC_VALID n) false
    let s := (s.interrupt n).modLine n (fun l => { l with frb := { l.frb with cut := true } })
    if !isEth (s.format n) && !s.flag (Fld.LCH_FRB_STATUS_FULL n) then s.maintStart n else s

/-- A line sends words of the planes: confirmed, ACTIVE, no far-end loopback, no Through output in fallback (R262, R278,
R280). -/
def State.lineSends (s : State) (n : Nat) : Bool :=
  s.confirmed && s.lineActive n && s.format n != 0 && (s.line n).lane.loopback != 2 && !s.thruMaint n
    && !s.flag (Fld.LCH_PRBS_CFG_GEN_EN n) && decide (s.power.sleep = .awake)

/-- LINE_WORD_TX: the word for the next LWN of line `n`, as each plane has delivered it, which its signature takes (R269);
`starts` says that it starts a packet or is idle (R278 to R281). -/
def State.lineWordTx (s : State) (n : Nat) (a b : Option Word64) (starts : Bool) : State :=
  s.onLine n fun s => s.when (s.lineSends n) fun s =>
    let delivers := fun p => s.halfOn p && (if s.twin then decide (3 ≤ s.planeState p) else p == halfOf n)
    let words := [if delivers 0 then a else none, if delivers 1 then b else none]
    let lwn := (s.line n).frb.lwn
    let s := s.modLine n (fun l => { l with frb := { l.frb with lwn := (lwn + 1) % 2 ^ 16 } })
    let s : State := [0, 1].foldl (fun s p => match words.getD p none with
      | some w => s.sign p (wordBytes w ++ beBytes 4 (n + lwn * 2 ^ 16))
      | none => s) s
    let held := s.flag (Fld.LCH_FRB_STATUS_HOLD n) && isEth (s.format n) && !starts
    match s.enabledPlane n with
    | none => s.holdStart n
    | some e =>
      match words.getD e none with
      | none => s.holdStart n
      | some w =>
        if held then s
        else
          let s :=
            let s := s.modLine n (fun l => { l with frb := { l.frb with tag := s.sqf % 256 } })
            let s := (s.set (Fld.LCH_FRB_STATUS_SRC n) e).raise (Fld.LCH_FRB_STATUS_SRC_VALID n)
            (s.setB (Fld.LCH_FRB_STATUS_HOLD n) false).setB (Fld.LCH_FRB_STATUS_MAINT n) false
          match words.getD (1 - e) none with
          | some v =>
            if s.twin && v != w then
              ((s.add (Fld.LCH_FRB_CMP_ERR_CNT n) 1).raise (Fld.LCH_FRB_STATUS_CMP_EV n)).happen (99 + 4 * n)
            else s
          | none => s

/-- HOLD_MAX_EXPIRY: the hold has lasted longer than HOLD_MAX, and the next frame boundary has come (R281). -/
def State.holdMax (s : State) (n : Nat) : State :=
  s.onLine n fun s => s.when (s.flag (Fld.LCH_FRB_STATUS_HOLD n) && !s.flag (Fld.LCH_FRB_STATUS_MAINT n)) fun s => s.maintStart n

/-! ## Meanings -/

/-- FRAME_MARKER (R265). -/
def execFrameMarker (s : State) : Host.Outcome State Fault Refusal := done s.frameMarker

/-- LINE_BLOCK_RELEASE (R266). -/
def execLineBlockRelease (n : LineNo) (s : State) : Host.Outcome State Fault Refusal := done (s.lineBlockRelease n.val)

/-- LINE_PRESENT_MARKER (R265). -/
def execLinePresentMarker (n : LineNo) (s : State) : Host.Outcome State Fault Refusal := done (s.linePresent n.val)

/-- SIGNATURE_COMPARE (R270). -/
def execSignatureCompare (s : State) : Host.Outcome State Fault Refusal := done s.signatureCompare

/-- SIGNATURE_MISSING (R270): the plane whose signature is missing. -/
def execSignatureMissing (p : PlaneNo) (s : State) : Host.Outcome State Fault Refusal := done (s.signatureMissing p.val)

/-- HEARTBEAT_WINDOW (R273): what the window saw of plane A and of plane B. -/
def execHeartbeatWindow (a b : Beat) (s : State) : Host.Outcome State Fault Refusal := done (s.heartbeatWindow [a, b])

/-- HEARTBEAT_PATH_SILENT (R273). -/
def execHeartbeatPathSilent (k : Fin 4) (s : State) : Host.Outcome State Fault Refusal := done (s.pathSilent k.val)

/-- HEARTBEAT_PATH_LIVE (R273). -/
def execHeartbeatPathLive (k : Fin 4) (s : State) : Host.Outcome State Fault Refusal := done (s.pathUp k.val)

/-- LEASE_RENEW (R274): the path on which the heartbeat came. -/
def execLeaseRenew (k : Fin 4) (s : State) : Host.Outcome State Fault Refusal := done (s.leaseRenew k.val)

/-- HOLDER_LOCAL_TIMER_EXPIRY (R274). -/
def execHolderLocalTimerExpiry (s : State) : Host.Outcome State Fault Refusal := done s.localExpiry

/-- LEASE_EXPIRY (R275). -/
def execLeaseExpiry (s : State) : Host.Outcome State Fault Refusal := done s.leaseExpiry

/-- LEASE_GRANT (R275): ns since the holder's last renewal or the feed-loss report. -/
def execLeaseGrant (t : Nat) (s : State) : Host.Outcome State Fault Refusal := done (s.leaseGrant t)

/-- FIRST_LEASE_TIMEOUT (R284). -/
def execFirstLeaseTimeout (s : State) : Host.Outcome State Fault Refusal := done s.firstLease

/-- PLANNED_TRANSFER (R276). -/
def execPlannedTransfer (s : State) : Host.Outcome State Fault Refusal := done s.plannedTransfer

/-- TWN_LEASE_FORCE (R277). -/
def execTwnLeaseForce (target : BitVec 2) (s : State) : Host.Outcome State Fault Refusal := done (s.leaseForce target.toNat)

/-- REVERT (R290). -/
def execRevert (s : State) : Host.Outcome State Fault Refusal := done s.revert

/-- LINE_WORD_TX (R278). -/
def execLineWordTx (n : LineNo) (a b : Option (BitVec 64)) (starts : Bool) (s : State) : Host.Outcome State Fault Refusal :=
  done (s.lineWordTx n.val a b starts)

/-- HOLD_MAX_EXPIRY (R281). -/
def execHoldMaxExpiry (n : LineNo) (s : State) : Host.Outcome State Fault Refusal := done (s.holdMax n.val)

/-- AUTO_RESYNC_START (R285). -/
def execAutoResyncStart (s : State) : Host.Outcome State Fault Refusal := done s.autoResync

/-- RESYNC_PASS_END (R286): the granules dirty at the end of the pass. -/
def execResyncPassEnd (d : List (Fin 20992)) (s : State) : Host.Outcome State Fault Refusal :=
  done (s.resyncPassEnd (d.map (fun g => g.val)))

/-- RESYNC_TIMEOUT (R288). -/
def execResyncTimeout (s : State) : Host.Outcome State Fault Refusal := done s.resyncTimeout

end Sys2Proof.Machine
end

