-- ==== Sys2Proof/Machine/Timing.lean ====
section
/-! DEFINITION. The commands of the timing unit and the time-keeper (chapter 10), acceptance of received quality levels
(R298), and the evaluation of defects with what follows from it (R201, R240, R296). -/

namespace Sys2Proof.Machine

/-! ## Candidates -/

/-- CAND_ACTIVITY_CHANGE: REFIN candidate `c` gains or loses activity (R296). -/
def State.candActivity (s : State) (c : Nat) (act : Bool) : State :=
  s.onSpine fun s => ((s.modCand c (fun x => { x with pin := act })).candFollow c).selectAll

/-- FREQ_MONITOR_UPDATE: an update of the frequency monitor, the window's offset in 0.001 ppm (R299, R300). Without activity an update
sets and clears the flags alone. -/
def State.freqUpdate (s : State) (c : Nat) (v : Int) : State :=
  s.onSpine fun s => s.when (s.flag (Fld.TMG_CAND_CFG_EN c)) fun s =>
    let runs := s.flag (Fld.TMG_CAND_STATUS_ACT c) || s.flag (Fld.TMG_CAND_STATUS_HOLDOFF_RUN c)
    let s := if runs then s.modCand c (fun x => { x with updates := min 10 (x.updates + 1) }) else s
    if runs && !s.measured c then s
    else
      let s := if runs then s.set (Fld.TMG_CAND_FOFS_V c) (unsignedOf 32 v) else s
      let m := v.natAbs
      let soft := s.get (Fld.TMG_CAND_LIM_SOFT c) * 10
      let hard := s.get (Fld.TMG_CAND_LIM_HARD c) * 10
      let hyst := s.get (Fld.TMG_CAND_LIM2_HYST c) * 10
      let s := if soft < m then
          (if s.flag (Fld.TMG_CAND_STATUS_SOFT_FL c) then s
            else (s.raise (Fld.TMG_CAND_STATUS_SOFT_FL c)).raise (Fld.TMG_CAND_STATUS_SOFT_EV c))
        else if m + hyst < soft then s.setB (Fld.TMG_CAND_STATUS_SOFT_FL c) false else s
      let s := if hard < m then s.raise (Fld.TMG_CAND_STATUS_HARD_FL c)
        else if m + hyst < hard then s.setB (Fld.TMG_CAND_STATUS_HARD_FL c) false else s
      (s.candFollow c).selectAll

/-- CAND_WTR_EXPIRY (R301). -/
def State.candWtrExpiry (s : State) (c : Nat) : State :=
  s.onSpine fun s => s.when (s.get (Fld.TMG_CAND_STATUS_STATE c) == 1) fun s =>
    (((s.set (Fld.TMG_CAND_STATUS_STATE c) 2).set (Fld.TMG_CAND_STATUS_WTR_LEFT c) 0).raise (Fld.TMG_CAND_STATUS_QUAL_EV c)).selectAll

/-- CAND_HOLDOFF_EXPIRY: the signal fail has persisted (R302). -/
def State.candHoldoffExpiry (s : State) (c : Nat) : State :=
  s.onSpine fun s => s.when (s.flag (Fld.TMG_CAND_STATUS_HOLDOFF_RUN c)) fun s =>
    ((s.setB (Fld.TMG_CAND_STATUS_HOLDOFF_RUN c) false).candFollow c).selectAll

/-- QL_FW_WRITE: firmware writes QL_FW; the write clears QL_TMO (R298). -/
def State.qlFwWrite (s : State) (c v : Nat) : State :=
  s.onSpine fun s => s.when s.berentRuns fun s =>
    (((s.set (Fld.TMG_CAND_QLFW_QL_FW c) v).setB (Fld.TMG_CAND_STATUS_QL_TMO c) false).candFollow c).selectAll

/-- QL_FW_TIMEOUT: 5 s without a write of QL_FW (R298). -/
def State.qlFwTimeout (s : State) (c : Nat) : State :=
  s.onSpine fun s => s.when (s.flag (Fld.TMG_CAND_CFG_EN c) && s.get (Fld.TMG_CAND_CFG_QL_SRC c) == 2) fun s =>
    ((s.raise (Fld.TMG_CAND_STATUS_QL_TMO c)).candFollow c).selectAll

/-- S1_ACCEPT: an S1 quality level that has arrived in 8 frames (R298). -/
def State.s1Accept (s : State) (n : Nat) : State :=
  (s.onLine n fun s => s.when (isStm (s.format n) && decide (8 ≤ (s.ohp n).s1.2)) fun s =>
    s.modOhp n (fun o => { o with s1Acc := some o.s1.1 })).lineTiming n

/-! ## DPLLs -/

/-- The phase build-out offset that a loop closes with: `v`, in 2^-8 ns, with PBO_EN = 1, else none (R305, Table 10.5). -/
def State.buildOut (s : State) (d : Nat) (v : Int) : State :=
  s.modDpll d (fun x => { x with pbo := if s.flag (Fld.TMG_DPLL_CFG_PBO_EN d) then v else 0 })

/-- REF_SWITCH_COMPLETE (R305, R306): the loop closes on the target, whose phase against the output was `mean` in the window, in
2^-8 ns; or the target lost all its edges and no phase was measured. -/
def State.switchComplete (s : State) (d : Nat) (lost : Bool) (mean : Int) : State :=
  s.onSpine fun s => s.when (s.get (Fld.TMG_DPLL_STATUS_STATE d) == 4) fun s =>
    let s := (s.raise (Fld.TMG_DPLL_STATUS_SWITCH_EV d)).modDpll d (fun x => { x with frozen := false })
    let s := if lost then s else s.buildOut d mean
    let s := if lost then s.loseRef d else s.setDpllState d (if 1000 ≤ (s.dpll d).run then 2 else 1)
    (s.dpllQl d).dpllEval d

/-- PHASE_SAMPLE: the phase of the measured candidate against the output in 2^-8 ns, of which the build-out offset is no error, and
the DCO offset in ppt that the loop has reached; the offsets of the last 61 s are kept (R305, R308, R309, R312). -/
def State.phaseSample (s : State) (d : Nat) (v dco : Int) : State :=
  s.onSpine fun s =>
    let sel := s.get (Fld.TMG_DPLL_STATUS_SEL d)
    s.when (decide (sel < 24)) fun s =>
      let e := v - (s.dpll d).pbo
      let s := (s.set (Fld.TMG_DPLL_PHERR_V d) (unsignedOf 32 e)).add (Fld.TMG_DPLL_PHSEQ_SEQ d) 1
      let s := s.set (Fld.TMG_DPLL_PHSEQ_CAND d) sel
      let st := s.get (Fld.TMG_DPLL_STATUS_STATE d)
      let s := if st = 1 ∨ st = 2 then s.setDco d dco else s
      let s := s.modDpll d (fun x => { x with
        run := if e.natAbs ≤ 25600 then x.run + 1 else 0
        lockedMs := if st = 2 then x.lockedMs + 1 else 0
        hist := (x.dco :: x.hist).take 61000 })
      if st = 2 ∧ 256000 < e.natAbs then (s.setDpllState d 1).dpllQl d else s

/-- DPLL_LOCKED: every sample of the last 1 s has stayed within ±100 ns (R308). -/
def State.dpllLocked (s : State) (d : Nat) : State :=
  s.onSpine fun s => s.when (s.get (Fld.TMG_DPLL_STATUS_STATE d) == 1 && decide (1000 ≤ (s.dpll d).run)) fun s =>
    (s.setDpllState d 2).dpllQl d

/-- HO_VALID_SET: LOCKED for HO_AVG + 1 s (R309). -/
def State.hoValidSet (s : State) (d : Nat) : State :=
  s.onSpine fun s => s.when (s.get (Fld.TMG_DPLL_STATUS_STATE d) == 2 && decide ((s.hoAvg d + 1) * 1000 ≤ (s.dpll d).lockedMs)) fun s =>
    s.raise (Fld.TMG_DPLL_STATUS_HO_VALID d)

/-- The loop closes from MODE 3: ACQUIRING on what selection chooses, the present phase error the build-out offset with PBO_EN = 1;
holdover or free-run without a choice (Table 10.5). -/
def State.closeLoop (s : State) (d : Nat) : State :=
  let s := s.modDpll d (fun x => { x with swHeld := false })
  match s.selChoice d with
  | some c =>
    let s := s.buildOut d ((s.dpll d).pbo + signedOf 32 (s.get (Fld.TMG_DPLL_PHERR_V d)))
    ((s.set (Fld.TMG_DPLL_STATUS_SEL d) c).setDpllState d 1).dpllEval d
  | none => (s.loseRef d).dpllQl d

/-- DPLL `d` follows its MODE field, which held `old` before (R303, R307, R310). A switch in progress completes first (R306, log
entry 130). -/
def State.modeFollow (s : State) (d old : Nat) : State :=
  if s.get (Fld.TMG_DPLL_CFG_MODE d) = 0 ∧ old = 3 ∧ s.get (Fld.TMG_DPLL_STATUS_STATE d) ≠ 4 then s.closeLoop d else s.dpllEval d

/-- A write of MODE. -/
def State.setMode (s : State) (d m : Nat) : State :=
  s.onSpine fun s =>
    let old := s.get (Fld.TMG_DPLL_CFG_MODE d)
    (s.set (Fld.TMG_DPLL_CFG_MODE d) m).modeFollow d old

/-- A selection command: CMD and its candidate (R303). -/
def State.setCmd (s : State) (d cmd : Nat) (c : Option Nat) : State :=
  s.onSpine fun s =>
    let s := s.set (Fld.TMG_DPLL_CFG_CMD d) cmd
    (match c with
      | some c => s.set (Fld.TMG_DPLL_CFG_CMD_CAND d) c
      | none => s).dpllEval d

/-- An accepted write of the frequency returns the DPLL to state 5 (R312). -/
def State.freqAccepted (s : State) (d : Nat) (v : Int) : State :=
  (((s.modDpll d (fun x => { x with swHeld := false, dco := v })).setDpllState d 5)).dpllQl d

/-- The value nearest to `v` with a magnitude of at most `m`. -/
def limitTo (m v : Int) : Int := if v < -m then -m else if m < v then m else v

/-- MODE 3 is in force: no reference switch is left to complete (R306). -/
def State.loopOpen (s : State) (d : Nat) : Bool :=
  s.get (Fld.TMG_DPLL_CFG_MODE d) == 3 && s.get (Fld.TMG_DPLL_STATUS_STATE d) != 4

/-- FREQ_WORD_WRITE: DPLL2 to DPLL7 in SOFTWARE mode, limited to ±100 ppm (R310). -/
def State.freqWordWrite (s : State) (d : Nat) (v : Word) : State :=
  s.onSpine fun s => s.when (decide (2 ≤ d) && s.loopOpen d) fun s =>
    (s.setReg (Reg.TMG_DPLL_FREQ d) v).freqAccepted d (limitTo 1000000 (signedOf 32 v.toNat) * 100)

/-- DPLL_PPT: a completed guarded pair of DPLL0 or DPLL1, limited to ±500 ppm; in AUTO mode it is stored (R311). -/
def State.pptWrite (s : State) (d : Nat) (v : Nat) : State :=
  s.onSpine fun s =>
    let x := limitTo 500000000 (signedOf 30 v)
    let s := s.set (Fld.TMG_DPLL_PPT_RD_V d) (unsignedOf 32 x)
    if s.loopOpen d then s.freqAccepted d x else s

/-- SW_TMO_EXPIRY: no accepted frequency write for SW_TMO ms (R312). -/
def State.swTmo (s : State) (d : Nat) : State :=
  s.onSpine fun s => s.when (s.get (Fld.TMG_DPLL_CFG_MODE d) == 3 && s.get (Fld.TMG_DPLL_SWCFG_SW_TMO d) != 0
      && s.get (Fld.TMG_DPLL_STATUS_STATE d) == 5) fun s =>
    (((s.modDpll d (fun x => { x with swHeld := true })).setDpllState d 3).raise (Fld.TMG_DPLL_STATUS_SW_TMO_EV d)).dpllQl d

/-! ## ESMC and outputs -/

/-- An ESMC PDU with quality level `ql` (ITU-T G.8264); `event` marks an event PDU. The source address is not this manual's:
`src` gives it. -/
def esmcPdu (src : List Byte) (event : Bool) (ql : Nat) : List Byte :=
  [0x01, 0x80, 0xC2, 0x00, 0x00, 0x02] ++ src ++ [0x88, 0x09, 0x0A, 0x00, 0x19, 0xA7, 0x00, 0x01]
    ++ [if event then 0x18 else 0x10, 0x00, 0x00, 0x00, 0x01, 0x00, 0x04] ++ leBytes 1 ql ++ List.replicate 32 0

/-- ESMC_PDU_SEND: Berent writes an information or event PDU with the line's transmitted QL into insertion channel 3
(R315). A channel without room takes none. -/
def State.esmcPduSend (s : State) (n : Nat) (event : Bool) : State :=
  s.onLine n fun s => s.when (isEth (s.format n) && s.berentDuty && !s.flag (Fld.LCH_OHP_THRU_CFG_ENABLE n)) fun s =>
    let (v, s) := s.free
    let bs := s.esmcRecord (esmcPdu (leBytes 6 v) event (s.txQl n))
    let wr := s.get (Fld.LCH_OHP_INS_WR_V n 3)
    if ringFill wr (s.get (Fld.LCH_OHP_INS_RD_V n 3)) + bs.length ≤ 2048 then
      (s.ringPut (insRing n 3) wr bs).set (Fld.LCH_OHP_INS_WR_V n 3) (wr + bs.length)
    else s

/-- CLKOUT_CFG_WRITE: a register of clock output `k` is written, and its configuration comes into force at the falling edge
(R316). -/
def State.clkWrite (s : State) (k : Nat) (r : ClkReg) (v : Word) : State :=
  s.onSpine fun s =>
    let s := s.writeByCode (match r with
      | .cfg => Reg.TMG_CLKOUT_CFG k
      | .freq => Reg.TMG_CLKOUT_FREQ k) v
    let now := ((s.reg (Reg.TMG_CLKOUT_CFG k)).toNat, (s.reg (Reg.TMG_CLKOUT_FREQ k)).toNat)
    { s with tmg := { s.tmg with clk := putD (0, 0) s.tmg.clk k now } }

/-- The frequency of clock output `k`; none while it is off, squelched, or its frequency is out of range (R316). -/
def State.clkOut (s : State) (k : Nat) : Option Nat :=
  let (cfg, f) := s.tmg.clk.getD k (0, 0)
  let st := s.get (Fld.TMG_DPLL_STATUS_STATE (bitsOf cfg 1 3))
  let low := match bitsOf cfg 4 2 with
    | 0 => false
    | 1 => st == 0
    | 2 => st == 0 || st == 3
    | _ => st != 2
  if cfg.testBit 0 && !low && decide (s.power.sleep = .awake) && decide (1 ≤ f % 2 ^ 30) && decide (f % 2 ^ 30 ≤ 800000000) then some (f % 2 ^ 30) else none

/-- The last edge of PPS_OUT `i` in the time-keeper's terms, in nanoseconds: a second boundary plus OFFSET_NS (R317). -/
def State.ppsBoundary (s : State) (i : Nat) : Int :=
  let ofs := signedOf 32 (s.get (Fld.TMG_PPSOUT_OFS_OFFSET_NS i))
  ((s.tk.sec : Int) * 1000000000 + (s.tk.ns : Int) - ofs) / 1000000000 * 1000000000 + ofs

/-- WIDTH_US of PPS_OUT `i`: 0 treated as 1, larger values than 500,000 as 500,000 (Table 10.9). -/
def State.ppsWidth (s : State) (i : Nat) : Nat := max 1 (min 500000 (s.get (Fld.TMG_PPSOUT_CFG_WIDTH_US i)))

/-- PPS_OUT_EDGE: the time-keeper passes the second boundary plus OFFSET_NS, and PPS_OUT rises for WIDTH_US (R317). -/
def State.ppsEdge (s : State) (i : Nat) : State :=
  s.onSpine fun s => s.when (s.flag (Fld.TMG_PPSOUT_CFG_EN i) && decide (s.power.sleep = .awake)) fun s =>
    let t := s.ppsBoundary i
    { s with tmg := { s.tmg with
      pps := putD none s.tmg.pps i (some (unsignedOf 48 (t / 1000000000), (t % 1000000000).toNat, s.ppsWidth i)) } }

/-- PPS_IN_EDGE: an edge is stamped; a pulse shorter than 100 ns, or an edge less than 0.5 s after the last accepted one, is ignored
and counted (R318). -/
def State.ppsIn (s : State) (i width since : Nat) : State :=
  s.onSpine fun s =>
    if width < 100 ∨ since < 500000000 then s.addSat (Fld.TMG_PPSIN_SEQ_GLITCH i) 1
    else
      let s := (s.set (Fld.TMG_PPSIN_NS_V i) s.tk.ns).set (Fld.TMG_PPSIN_S_LO_V i) s.tk.sec
      ((s.set (Fld.TMG_PPSIN_S_HI_V i) (s.tk.sec / 2 ^ 32)).add (Fld.TMG_PPSIN_SEQ_SEQ i) 1).raise (Fld.TMG_PPSIN_SEQ_PPS_EV i)

/-- The second whose start the next rising edge of PPS_OUT0 marks: the edge of second N comes at N plus OFFSET_NS (R317, R319). -/
def State.nextPps (s : State) : Nat :=
  unsignedOf 48 (((s.tk.sec : Int) * 1000000000 + (s.tk.ns : Int) - signedOf 32 (s.get (Fld.TMG_PPSOUT_OFS_OFFSET_NS 0))) / 1000000000 + 1)

/-- TOD_ZDA_SEND: Berent sends a ZDA sentence that names the second which the next PPS_OUT0 edge starts (R319). -/
def State.zdaSend (s : State) : State :=
  s.when (s.berentDuty && s.mbx.todZda) fun s => { s with tmg := { s.tmg with zda := some s.nextPps } }

/-- TOD_RX_GROUP: up to 40 received bytes, with the time-keeper reading of the first start bit, as event 0x0030 (R319,
Table 13.7). -/
def State.todRxGroup (s : State) (bs : List Byte) (sec ns : Nat) : State :=
  s.when (s.berentDuty && s.mbx.todRx && !bs.isEmpty && decide (bs.length ≤ 40)) fun s =>
    let tk := s.tk
    let s := { s with tk := { tk with sec := sec, ns := ns } }.enqueueEvent 0x0030 0 (leBytes 1 bs.length ++ bs)
    { s with tk := tk }.moveEvents

/-! ## The time-keeper -/

/-- The seconds field takes a value: one rollover for every plane, a SECOND marker in Twin, a tick of every aligned DMA timer
(R215, R265, R320, R431). -/
def State.setSeconds (s : State) (sec ns frac : Nat) : State :=
  let old := s.tk.sec
  let s := { s with tk := { s.tk with sec := sec % 2 ^ 48, ns := ns, frac := frac } }
  let s := if s.twin && s.confirmed && s.spineOn then s.nextBlock .second 0 [] else s
  if s.spineOn then (s.rollover old).dmaSecond else s

/-- A second has passed: WTR_LEFT of every group whose wait-to-restore runs counts down (Table 8.9; log entry 6). -/
def State.wtrCount (s : State) : State :=
  ([0, 1].filter (fun p => s.planeRuns p)).foldl (fun s p => (List.range 48).foldl (fun s g =>
    if s.lgGet p g LG.wtrRun = 1 then s.lgSet p g LG.wtrLeft (s.lgGet p g LG.wtrLeft - 1) else s) s) s

/-- A second has passed: WTR_LEFT of every candidate that waits to restore counts down (R323; log entry 6). -/
def State.candCount (s : State) : State :=
  s.onSpine fun s => (List.range 24).foldl (fun s c =>
    if s.get (Fld.TMG_CAND_STATUS_STATE c) = 1 then s.set (Fld.TMG_CAND_STATUS_WTR_LEFT c) (s.get (Fld.TMG_CAND_STATUS_WTR_LEFT c) - 1)
    else s) s

/-- A second has passed: what waits in seconds counts down. -/
def State.secondCount (s : State) : State := s.wtrCount.candCount

/-- TK_SECOND_ROLLOVER: time has moved on to the next second boundary (R320). -/
def State.secondRollover (s : State) : State := s.when s.tk.running fun s => s.secondCount.setSeconds (s.tk.sec + 1) 0 0

/-- One tick of the time-keeper: 8 ns of the 125 MHz clock, or 30,517.578125 ns of CK_AON with the fraction carried
(R320); fractions in units of 2^-11 ns. -/
def State.tkTick (s : State) : State :=
  s.when s.tk.running fun s =>
    let step := if s.flag Fld.AON_TK_CTL_SLEEP_CLK then 62500000 else 8 * 2048
    let v := s.tk.ns * 2048 + s.tk.frac + step
    if v / 2048 < 1000000000 then { s with tk := { s.tk with ns := v / 2048, frac := v % 2048 } }
    else s.secondCount.setSeconds (s.tk.sec + 1) (v / 2048 - 1000000000) (v % 2048)

/-- TK_CAPTURE: the time-keeper is latched into the capture registers (R321). -/
def State.tkCapture (s : State) : State :=
  s.onSpine fun s =>
    let s := (s.set Fld.AON_TK_CAP_NS_CAP s.tk.ns).set Fld.AON_TK_CAP_S_LO_CAP s.tk.sec
    s.set Fld.AON_TK_CAP_S_HI_CAP (s.tk.sec / 2 ^ 32 % 2 ^ 16)

/-- TK_STEP: the signed step is added in one change; a step whose nanoseconds reach 10^9 is ignored (R321). -/
def State.tkStep (s : State) : State :=
  s.onSpine fun s =>
    let ds := signedOf 32 (s.get Fld.AON_TK_STEP_S_STEP)
    let dn := signedOf 32 (s.get Fld.AON_TK_STEP_NS_STEP)
    s.when (decide (dn.natAbs < 1000000000)) fun s =>
      let t : Int := ((s.tk.sec : Int) + ds) * 1000000000 + (s.tk.ns : Int) + dn
      let sec := unsignedOf 48 (t / 1000000000)
      let ns := (t % 1000000000).toNat
      let s := (s.raise Fld.AON_TK_CTL_TK_STEP_EV).stepSuspect
      if sec = s.tk.sec then { s with tk := { s.tk with ns := ns } } else s.setSeconds sec ns s.tk.frac

/-! ## Defects -/

/-- DEFECT_EVALUATE (R201): every integrator of a layer at its frame boundary, `dt` ns after the last; the groups of a line
decide with it (R240). -/
def State.defectEvaluate (s : State) (x : DefectLayer) (dt : Nat) : State :=
  match x with
  | .line n => (s.lineEvaluate n.val dt).lineSelect n.val
  | .flow p f y => s.flowEvaluate p.val f.val dt y

/-- What follows a change of a line's defects: its groups and its line candidates (R240, R296). -/
def State.defectFollow (s : State) (x : DefectId) : State :=
  match x with
  | .line n _ => (s.lineSelect n.val).lineTiming n.val
  | .tcm _ _ _ => s
  | .flow _ _ _ => s

/-! ## Meanings -/

/-- CAND_ACTIVITY_CHANGE (R296). -/
def execCandActivityChange (c : Fin 8) (act : Bool) (s : State) : Host.Outcome State Fault Refusal := done (s.candActivity c.val act)

/-- FREQ_MONITOR_UPDATE (R300): offset in 0.001 ppm. -/
def execFreqMonitorUpdate (c : Fin 24) (v : Int) (s : State) : Host.Outcome State Fault Refusal := done (s.freqUpdate c.val v)

/-- CAND_WTR_EXPIRY (R301). -/
def execCandWtrExpiry (c : Fin 24) (s : State) : Host.Outcome State Fault Refusal := done (s.candWtrExpiry c.val)

/-- CAND_HOLDOFF_EXPIRY (R302). -/
def execCandHoldoffExpiry (c : Fin 24) (s : State) : Host.Outcome State Fault Refusal := done (s.candHoldoffExpiry c.val)

/-- QL_FW_WRITE (R298). -/
def execQlFwWrite (c : Fin 24) (v : BitVec 4) (s : State) : Host.Outcome State Fault Refusal := done (s.qlFwWrite c.val v.toNat)

/-- QL_FW_TIMEOUT (R298). -/
def execQlFwTimeout (c : Fin 24) (s : State) : Host.Outcome State Fault Refusal := done (s.qlFwTimeout c.val)

/-- S1_ACCEPT (R298). -/
def execS1Accept (n : LineNo) (s : State) : Host.Outcome State Fault Refusal := done (s.s1Accept n.val)

/-- QL_ACCEPT (R107). -/
def execQlAccept (n : LineNo) (s : State) : Host.Outcome State Fault Refusal := done ((s.qlAccept n.val).lineTiming n.val)

/-- REF_SWITCH_COMPLETE (R305): whether the target lost all edges, and the mean of its phase in 2^-8 ns. -/
def execRefSwitchComplete (d : Fin 8) (lost : Bool) (mean : Int) (s : State) : Host.Outcome State Fault Refusal :=
  done (s.switchComplete d.val lost mean)

/-- PHASE_SAMPLE (R312): the phase in 2^-8 ns and the DCO offset in ppt. -/
def execPhaseSample (d : Fin 8) (v dco : Int) (s : State) : Host.Outcome State Fault Refusal := done (s.phaseSample d.val v dco)

/-- DPLL_LOCKED (R308). -/
def execDpllLocked (d : Fin 8) (s : State) : Host.Outcome State Fault Refusal := done (s.dpllLocked d.val)

/-- HO_VALID_SET (R309). -/
def execHoValidSet (d : Fin 8) (s : State) : Host.Outcome State Fault Refusal := done (s.hoValidSet d.val)

/-- DPLL_MODE_AUTO (R303). -/
def execDpllModeAuto (d : Fin 8) (s : State) : Host.Outcome State Fault Refusal := done (s.setMode d.val 0)

/-- DPLL_FORCED_HOLDOVER (R307). -/
def execDpllForcedHoldover (d : Fin 8) (s : State) : Host.Outcome State Fault Refusal := done (s.setMode d.val 1)

/-- DPLL_FORCED_FREE_RUN (R307). -/
def execDpllForcedFreeRun (d : Fin 8) (s : State) : Host.Outcome State Fault Refusal := done (s.setMode d.val 2)

/-- DPLL_SOFTWARE_MODE (R310). -/
def execDpllSoftwareMode (d : Fin 8) (s : State) : Host.Outcome State Fault Refusal := done (s.setMode d.val 3)

/-- DPLL_CMD_NONE (R303). -/
def execDpllCmdNone (d : Fin 8) (s : State) : Host.Outcome State Fault Refusal := done (s.setCmd d.val 0 none)

/-- DPLL_CMD_MANUAL (R303). -/
def execDpllCmdManual (d : Fin 8) (c : Fin 32) (s : State) : Host.Outcome State Fault Refusal := done (s.setCmd d.val 1 (some c.val))

/-- DPLL_CMD_FORCED (R303). -/
def execDpllCmdForced (d : Fin 8) (c : Fin 32) (s : State) : Host.Outcome State Fault Refusal := done (s.setCmd d.val 2 (some c.val))

/-- FREQ_WORD_WRITE (R310). -/
def execFreqWordWrite (d : Fin 8) (v : Word) (s : State) : Host.Outcome State Fault Refusal := done (s.freqWordWrite d.val v)

/-- DPLL_PPT (R311): the value of the completed pair. -/
def execDpllPpt (d : Fin 2) (v : BitVec 30) (s : State) : Host.Outcome State Fault Refusal := done (s.pptWrite d.val v.toNat)

/-- SW_TMO_EXPIRY (R312). -/
def execSwTmoExpiry (d : Fin 8) (s : State) : Host.Outcome State Fault Refusal := done (s.swTmo d.val)

/-- ESMC_PDU_SEND (R315): an information PDU, or an event PDU. -/
def execEsmcPduSend (n : LineNo) (event : Bool) (s : State) : Host.Outcome State Fault Refusal := done (s.esmcPduSend n.val event)

/-- CLKOUT_CFG_WRITE (R316). -/
def execClkoutCfgWrite (k : Fin 12) (r : ClkReg) (v : Word) (s : State) : Host.Outcome State Fault Refusal := done (s.clkWrite k.val r v)

/-- PPS_OUT_EDGE (R317). -/
def execPpsOutEdge (k : Fin 2) (s : State) : Host.Outcome State Fault Refusal := done (s.ppsEdge k.val)

/-- PPS_IN_EDGE (R318): the width of the pulse, and the time since the last accepted edge, in ns. -/
def execPpsInEdge (k : Fin 2) (width since : Nat) (s : State) : Host.Outcome State Fault Refusal := done (s.ppsIn k.val width since)

/-- TOD_ZDA_SEND (R319). -/
def execTodZdaSend (s : State) : Host.Outcome State Fault Refusal := done s.zdaSend

/-- TOD_RX_GROUP (R319): the bytes and the time-keeper reading of the first start bit. -/
def execTodRxGroup (bytes : List Byte) (sec ns : Nat) (s : State) : Host.Outcome State Fault Refusal := done (s.todRxGroup bytes sec ns)

/-- TK_CAPTURE (R321). -/
def execTkCapture (s : State) : Host.Outcome State Fault Refusal := done s.tkCapture

/-- TK_STEP (R321). -/
def execTkStep (s : State) : Host.Outcome State Fault Refusal := done s.tkStep

/-- TK_SECOND_ROLLOVER (R320). -/
def execTkSecondRollover (s : State) : Host.Outcome State Fault Refusal := done s.secondRollover

/-- DEFECT_EVALUATE (R201): the layer, and the ns since its last frame boundary. -/
def execDefectEvaluate (x : DefectLayer) (dt : Nat) (s : State) : Host.Outcome State Fault Refusal := done (s.defectEvaluate x dt)

/-- DEFECT_RAISE (R202). -/
def execDefectRaise (x : DefectId) (s : State) : Host.Outcome State Fault Refusal := done ((s.defectRaise x).defectFollow x)

/-- DEFECT_CLEAR (R202). -/
def execDefectClear (x : DefectId) (s : State) : Host.Outcome State Fault Refusal := done ((s.defectClear x).defectFollow x)

end Sys2Proof.Machine
end

