-- ==== Sys2Proof/Machine/Through.lean ====
section
/-! DEFINITION. Through mode (R141 to R151): forwarding, the rewrite of overhead in flight with compensation or
regeneration of the checks that cover it, fallback. Byte positions are those of ITU-T G.707 and G.709 (log entry 24). -/

namespace Sys2Proof.Machine

/-- The Through pipeline of output line `n`. -/
def State.thru (s : State) (n : Nat) : Thru := (s.line n).thru
def State.modThru (s : State) (n : Nat) (f : Thru → Thru) : State := s.modLine n (fun l => { l with thru := f l.thru })

/-! ## Places -/

/-- Bytes of a frame of a Through format; 0 for the block-coded ones. -/
def thruBytes (fmt : Nat) : Nat :=
  if isStm fmt then 2430 * stmN fmt else if isOtu fmt then 16320 else if isMxf fmt then 16384 else 0

/-- Whether a format can be used in Through mode (Table 5.10). -/
def thruFormat (fmt : Nat) : Bool := fmt == 2 || fmt == 3 || fmt == 4 || fmt == 8 || fmt == 9 || isOtu fmt || isMxf fmt

/-- Aligner wait A per format in core cycles (Table 5.10). -/
def thruWait (fmt : Nat) : Nat :=
  match fmt with
  | 4 | 0x10 => 6
  | 2 | 3 | 9 | 0x0F => 13
  | 0x0B | 0x0C => 12
  | 0x0E => 26
  | 0x0A => 49
  | _ => 52

/-- Core cycles of the path: A and six of processing (R147). -/
def thruCycles (fmt : Nat) : Nat := thruWait fmt + 6

/-- The bytes that REWRITE replaces in the next frame of output line `n`, with their positions, taken from the trace in force
and the insertion channels (Table 5.9), and the alignment bytes that the output generates (Tables 5.3, 5.5); the SM TTI
byte follows the MFAS of the frame. -/
def State.thruIns (s : State) (n rw : Nat) : List (Nat × Byte) × State :=
  let fmt := s.format n
  let o := s.ohp n
  let put := fun (ps : List Nat) (bs : List Byte) => ps.zip bs
  if isStm fmt then
    let k := stmN fmt
    let at' := fun r c => r * 270 * k + c * k
    let fas := (List.range (6 * k)).map (fun i => (i, if i < 3 * k then (0xF6 : Byte) else 0x28))
    let j0 := if rw.testBit 0 then [(at' 0 6, o.j0Byte)] else []
    let (a, s) := if rw.testBit 1 then s.insGroup n 0 3 else ([], s)
    let (b, s) := if rw.testBit 2 then s.insGroup n 1 9 else ([], s)
    let (c, s) := if rw.testBit 3 then s.insGroup n 2 3 else ([], s)
    (fas ++ j0 ++ put [at' 2 0, at' 2 3, at' 2 6] a
      ++ put [at' 5 0, at' 5 3, at' 5 6, at' 6 0, at' 6 3, at' 6 6, at' 7 0, at' 7 3, at' 7 6] b
      ++ put [at' 1 3, at' 1 6, at' 8 6] c, s)
  else if isOtu fmt then
    let i := s.get (Fld.LCH_OHP_THRU_CFG_SRC_LINE n)
    let mfas := if s.flag (Fld.LCH_FAU_STATUS_MF_LOCK i) && !(s.thru n).sent.isEmpty then [(6, BitVec.ofNat 8 ((s.thru n).mfas + 1))] else []
    let (a, s) := if rw.testBit 1 then s.insGroup n 0 2 else ([], s)
    let (b, s) := if rw.testBit 2 then s.insGroup n 1 2 else ([], s)
    let (c, s) := if rw.testBit 3 then s.insGroup n 2 2 else ([], s)
    (put [0, 1, 2, 3, 4, 5] otuFas ++ mfas ++ put [10, 11] a ++ put [12240, 12241] b ++ put [12242, 12243] c, s)
  else if isMxf fmt then
    let (a, s) := if rw.testBit 0 then s.insRead n 0 8 0 else ([], s)
    (put [48, 49, 50, 51, 52, 53, 54, 55] a, s)
  else ([], s)

/-! ## A byte through the pipeline -/

/-- A byte of an STM-N frame at position `i`: rewritten or passed, with B1 and B2 compensated or B1 regenerated (R145). -/
def Thru.sdhByte (t : Thru) (k i : Nat) (old : Byte) : Byte × Thru :=
  let row := i / (270 * k)
  let col := i % (270 * k)
  let new :=
    if i = 270 * k then (if t.chk then t.check else old ^^^ t.d1p)
    else if row = 4 ∧ col < 3 * k then old ^^^ t.d2p.getD col 0
    else match t.ins.find? (fun x => x.1 == i) with
      | some x => x.2
      | none => old
  let d := new ^^^ old
  (new, { t with d1 := t.d1 ^^^ d, d2 := if row < 3 ∧ col < 9 * k then t.d2 else modAt t.d2 (col % (3 * k)) (fun b => b ^^^ d) })

/-- A byte of an OTUk frame: rewritten or passed, the SM BIP-8 passed or regenerated, the FEC parity compensated. -/
def Thru.otuByte (t : Thru) (i : Nat) (old : Byte) : Byte × Thru :=
  let c := i % 4080
  let t := if c = 0 then { t with rs := List.replicate 16 (List.replicate 16 0) } else t
  let new :=
    if 3824 ≤ c then old ^^^ (t.rs.getD (c % 16) []).getD ((c - 3824) / 16) 0
    else if i = 8 ∧ t.chk then t.check
    else if i = 7 then t.tti.getD (t.mfas % 64) old
    else match t.ins.find? (fun x => x.1 == i) with
      | some x => x.2
      | none => old
  let d := new ^^^ old
  let rs := if 3824 ≤ c then t.rs
    else if d = 0 ∧ (t.rs.getD (c % 16) []).all (· == 0) then t.rs
    else modAt t.rs (c % 16) (fun r => rsStep rsGen r d)
  (new, { t with rs := rs, mfas := if i = 6 then new.toNat else t.mfas })

/-- OHCRC of Mehrax overhead words, or its change (R99, R145): the check is linear over changes, from a zero register. -/
def ohcrcChange (old new : List Word64) : Nat :=
  let d := (List.range 8).map (fun i => old.getD i 0 ^^^ new.getD i 0)
  let w0 := (d.getD 0 0).toNat % 2 ^ 16
  let w7 := (d.getD 7 0).toNat / 2 ^ 16
  crcBytes 16 0x1021 false 0 (beBytes 2 w0 ++ ((d.drop 1).take 6).flatMap wordBytes ++ beBytes 8 (w7 * 2 ^ 16))

/-- A byte list through an STM-N or OTUk pipeline. -/
def Thru.bytes (stm : Bool) (k : Nat) : Thru → Nat → List Byte → List Byte × Thru
  | t, _, [] => ([], t)
  | t, i, b :: l =>
    let (x, t) := if stm then t.sdhByte k i b else t.otuByte i b
    let (xs, t) := Thru.bytes stm k t (i + 1) l
    (x :: xs, t)

/-- Two words of a Mehrax frame from word `w` on: FAS generated, MCC rewritten, OHCRC compensated or regenerated (Table 5.6). -/
def Thru.mxfWords (t : Thru) (w : Nat) (a b : Word64) : List Word64 × Thru :=
  if 8 ≤ w then ([a, b], t)
  else
    let mcc := if t.ins.isEmpty then a else BitVec.ofNat 64 (beNat (t.ins.map (fun x => x.2)))
    let a' := if w = 0 then BitVec.ofNat 64 (putBits a.toNat 16 48 0xB4E271C80D9A) else if w = 6 then mcc else a
    let old := t.ohIn ++ [a, b]
    let new := t.ohOut ++ [a', b]
    let b' := if w ≠ 6 then b
      else if t.chk then BitVec.ofNat 64 (putBits b.toNat 0 16 (ohcrcOf new))
      else b ^^^ BitVec.ofNat 64 (ohcrcChange old new)
    ([a', b'], { t with
      ohIn := old, ohOut := t.ohOut ++ [a', b'], used := if w = 2 then bitsOf a.toNat 40 24 else t.used })

/-! ## A unit -/

/-- At an output frame boundary the settings written are taken, and the sums of the last frame close (R144, R145): the check
byte is that of the last frames sent. -/
def State.thruBoundary (s : State) (n : Nat) : State :=
  let rw := s.get (Fld.LCH_OHP_THRU_CFG_REWRITE n)
  let (ins, s) := s.thruIns n rw
  let fmt := s.format n
  let k := if isStm fmt then 3 * stmN fmt else 0
  let o := s.ohp n
  let check := if isStm fmt then o.txPar1 else if o.txBips.length < 2 then 0 else o.txBips.headD 0
  let s := s.modThru n (fun t => { t with
    size := thruBytes fmt, chk := s.flag (Fld.LCH_OHP_THRU_CFG_CHK_MODE n), rw := rw, ins := ins
    tti := if rw.testBit 0 then o.txTraces.getD 0 [] else [], check := check
    d1 := 0, d1p := t.d1, d2 := List.replicate k 0, d2p := t.d2, ohIn := [], ohOut := [] })
  s.modOhp n (fun o => { o with txCfg := (s.reg (Reg.LCH_OHP_TX_CFG n)).toNat })

/-- A forwarded frame ends: the trace period moves on, for an OTUk line with the MFAS of the frame. -/
def State.thruEnd (s : State) (n : Nat) (bs : List Byte) : State :=
  let s := s.thruClose n bs
  if isOtu (s.format n) then s.modOhp n (fun o => { o with txPos := ((s.thru n).mfas + 1) % 256 })
  else s.modOhp n (fun o => o.tracePos)

/-- THROUGH_UNIT: a rewrite unit passes the pipeline of output line `n` (R144 to R147). -/
def State.thruUnit (s : State) (n : Nat) (u : ThruUnit) : State :=
  let i := s.get (Fld.LCH_OHP_THRU_CFG_SRC_LINE n)
  s.onLine n fun s => s.when (s.flag (Fld.LCH_OHP_THRU_STATUS_ACTIVE n) && s.inFrame i && !s.flag (Fld.LCH_FRB_STATUS_HOLD n)) fun s =>
    let fmt := s.format n
    match u with
    | .blocks a b => s.when (thruBytes fmt == 0) fun s => s.modThru n (fun t => { t with sent := [a.toNat, b.toNat] })
    | .words a b =>
      s.when (thruBytes fmt != 0) fun s =>
        let s := if (s.thru n).pos = 0 then s.thruBoundary n else s
        let t := s.thru n
        let (bs, t') : List Byte × Thru :=
          if isMxf fmt then let (ws, t') := t.mxfWords (t.pos / 8) a b; (ws.flatMap wordBytes, t')
          else Thru.bytes (isStm fmt) (stmN fmt) t t.pos ((wordBytes a ++ wordBytes b).take (thruBytes fmt - t.pos))
        let frame := t.frame ++ bs
        let s := s.modThru n (fun _ => { t' with
          pos := (t.pos + 16) % thruBytes fmt, frame := frame, sent := (wordsOfBytes 2 bs).map (fun w => w.toNat) })
        if thruBytes fmt ≤ frame.length then s.thruEnd n frame else s

/-- The frame in progress of a Through output is completed (R148, R149); what its rest carries nothing fixes (log entry 127). -/
def State.thruFinish (s : State) (n : Nat) : State :=
  let (pad, s) := s.free
  let t := s.thru n
  if t.frame.isEmpty then s else s.thruEnd n (t.frame ++ beBytes (t.size - t.frame.length) pad)

/-! ## Starting, fallback, resuming -/

/-- A frame boundary of the maintenance signal: the boundaries since the input is IN_FRAME are counted (R148). -/
def State.thruBack (s : State) (n : Nat) : State :=
  let i := s.get (Fld.LCH_OHP_THRU_CFG_SRC_LINE n)
  if !s.thruMaint n then s
  else s.modThru n (fun t => { t with back := if s.get (Fld.LCH_FAU_STATUS_STATE i) = 3 then t.back + 1 else 0 })

/-- The two lines of the pair of output `n` are there, and its input is IN_FRAME. -/
def State.thruReady (s : State) (n : Nat) : Bool :=
  let i := s.get (Fld.LCH_OHP_THRU_CFG_SRC_LINE n)
  s.flag (Fld.LCH_OHP_THRU_CFG_ENABLE n) && s.lineOn i && s.lineActive i && s.lineActive n
    && s.get (Fld.LCH_FAU_STATUS_STATE i) == 3

/-- Line `n` begins to send forwarded data, timed from its input (R143, R149). -/
def State.thruForward (s : State) (n : Nat) : State :=
  let s := (s.raise (Fld.LCH_OHP_THRU_STATUS_ACTIVE n)).setB (Fld.LCH_OHP_THRU_STATUS_FALLBACK n) false
  let s := (s.raise (Fld.LCH_OHP_THRU_STATUS_TX_TIMING n)).set (Fld.LCH_OHP_THRU_STATUS_LAT_CYC n) (thruCycles (s.format n))
  s.modThru n (fun t => { Thru.reset with started := true, used := t.used })

/-- THROUGH_START (R149). -/
def State.thruStart (s : State) (n : Nat) : State :=
  s.onLine n fun s => s.when (s.thruReady n && !(s.thru n).started) fun s => s.thruForward n

/-- THROUGH_FALLBACK (R148): the input has left its lock, or its clock recovery has. -/
def State.thruFallback (s : State) (n : Nat) : State :=
  let i := s.get (Fld.LCH_OHP_THRU_CFG_SRC_LINE n)
  s.onLine n fun s => s.when (s.flag (Fld.LCH_OHP_THRU_STATUS_ACTIVE n)
      && (!s.lineOn i || !s.inFrame i || !s.flag (Fld.LCH_LINE_STATUS_CDR_LOCK i))) fun s =>
    let s := (s.thruFinish n).modThru n (fun t => { t with back := 0 })
    let s := (s.setB (Fld.LCH_OHP_THRU_STATUS_ACTIVE n) false).raise (Fld.LCH_OHP_THRU_STATUS_FALLBACK n)
    let s := (s.raise (Fld.LCH_OHP_THRU_STATUS_FALLBACK_EV n)).setB (Fld.LCH_OHP_THRU_STATUS_TX_TIMING n) false
    s.set (Fld.LCH_OHP_THRU_STATUS_LAT_CYC n) 0

/-- THROUGH_RESUME (R148): two output frame boundaries have followed the input's return. -/
def State.thruResume (s : State) (n : Nat) : State :=
  s.onLine n fun s => s.when (s.thruReady n && (s.thru n).started && s.flag (Fld.LCH_OHP_THRU_STATUS_FALLBACK n)
      && decide (2 ≤ (s.thru n).back)) fun s =>
    s.thruForward n

/-- THRU_CFG_WRITE (R144): CHK_MODE and REWRITE; what is in force changes at the next output frame boundary. -/
def State.thruCfgWrite (s : State) (n : Nat) (v : Word) : State :=
  s.onLine n fun s => s.writeByCode (Reg.LCH_OHP_THRU_CFG n) v

/-! ## Meanings -/

/-- THROUGH_START (R149). -/
def execThroughStart (n : LineNo) (s : State) : Host.Outcome State Fault Refusal := done (s.thruStart n.val)

/-- THROUGH_UNIT (R147). -/
def execThroughUnit (n : LineNo) (u : ThruUnit) (s : State) : Host.Outcome State Fault Refusal := done (s.thruUnit n.val u)

/-- THROUGH_FALLBACK (R148). -/
def execThroughFallback (n : LineNo) (s : State) : Host.Outcome State Fault Refusal := done (s.thruFallback n.val)

/-- THROUGH_RESUME (R148). -/
def execThroughResume (n : LineNo) (s : State) : Host.Outcome State Fault Refusal := done (s.thruResume n.val)

/-- THRU_CFG_WRITE (R144). -/
def execThruCfgWrite (n : LineNo) (v : Word) (s : State) : Host.Outcome State Fault Refusal := done (s.thruCfgWrite n.val v)

end Sys2Proof.Machine
end

