-- ==== Sys2Proof/Machine/Tx.lean ====
section
/-! DEFINITION. The transmitters of the lines: the Mehrax frame with its peer message (R93 to R114), and the overhead that
the transmit OHP inserts and generates (Tables 5.3, 5.5, 5.6, R139, R208, R279 to R281). -/

namespace Sys2Proof.Machine

/-- The plane that line `n` takes its configuration from. -/
def State.txPlane (s : State) (n : Nat) : Nat := (s.linePlanes n).headD (halfOf n)

/-- Line `n` sends frames of its own making: confirmed, ACTIVE, no far-end loopback, no pattern test, not an active Through output,
which in a hold repeats its last frame like any other (R49, R150, R209, R262, R395). -/
def State.framesOwn (s : State) (n : Nat) : Bool :=
  s.confirmed && s.lineActive n && (s.line n).lane.loopback != 2 && (!s.flag (Fld.LCH_OHP_THRU_STATUS_ACTIVE n) || s.flag (Fld.LCH_FRB_STATUS_HOLD n))
    && !s.flag (Fld.LCH_PRBS_CFG_GEN_EN n) && decide (s.power.sleep = .awake)

/-- The maintenance signal is sent: a hold beyond HOLD_MAX, or a Through output without its input (R148, R149, R281). -/
def State.sendsMaint (s : State) (n : Nat) : Bool := s.flag (Fld.LCH_FRB_STATUS_MAINT n) || s.thruMaint n

/-- The hold buffer is repeated (R279). -/
def State.sendsHeld (s : State) (n : Nat) : Bool := s.flag (Fld.LCH_FRB_STATUS_HOLD n) && !s.sendsMaint n

/-- What the planes of line `n` produce for its next frame: every plane that serves the line makes it, and the line takes that
of the plane it is configured from. -/
def State.planeOut {α : Type} (s : State) (n : Nat) (h : State → Nat → α × State) : α × State :=
  match s.linePlanes n with
  | [] => ((h s (s.txPlane n)).1, s)
  | p :: t => t.foldl (fun (r : α × State) q => (r.1, (h r.2 q).2)) (h s p)

/-! ## Peer messages -/

/-- A peer message in words 4 and 5 (Table 4.2). -/
def msgWords (x : PeerMsg) (ack : Nat) : List Word64 :=
  [BitVec.ofNat 64 (x.typ % 256 * 2 ^ 56 + x.txSeq % 256 * 2 ^ 48 + ack % 256 * 2 ^ 40 + x.index % 256 * 2 ^ 32 + x.arg0 % 2 ^ 32),
   BitVec.ofNat 64 x.arg1]

/-- The IDLE message. -/
def idleMsg : PeerMsg := ⟨0, 0, 0, 0, 0⟩

/-- HELLO of line `n` (R116, Table 4.3): the CRC-32C of the serial number, version 1, all four capabilities. -/
def State.helloOut (s : State) (n : Nat) : PeerMsg := ⟨0x01, 0, n, crc32c s.fuses.serial, 2 ^ 56 + 0xF * 2 ^ 48⟩

/-- MERGE_STATUS of group `g` (R256). -/
def State.statusOut (s : State) (p g : Nat) : PeerMsg := ⟨0x10, 0, g, s.mergeArg0 p g, s.outFsn p g % 2 ^ 40 * 2 ^ 24⟩

/-- TRACE fragment `k` of the trace in force. -/
def State.traceOut (s : State) (n k : Nat) : PeerMsg :=
  ⟨0x30, 0, k, 0, beNat ((((s.ohp n).txTraces.getD 0 []).drop (8 * k)).take 8)⟩

/-- The status cycle of line `n` (R113): HELLO, the trace fragments where a trace is configured, the groups' status where the
peer takes it (R258). -/
def State.statusCycle (s : State) (n : Nat) : List PeerMsg :=
  let p := s.txPlane n
  [s.helloOut n]
    ++ (if ((s.ohp n).txTraces.getD 0 []).any (fun b => b != 0) then (List.range 8).map (s.traceOut n) else [])
    ++ ((s.mgsOf p n).filter (fun g => !s.mgLacks p g)).map (s.statusOut p)

/-- A group whose PMC_ARG0 has changed is due in 3 frames (R113). -/
def State.statusChanges (s : State) (n : Nat) : State :=
  let p := s.txPlane n
  ((s.mgsOf p n).filter (fun g => !s.mgLacks p g)).foldl (fun s g =>
    let v := s.mergeArg0 p g
    match assoc (s.line n).mxf.sentArg0 g with
    | none => s.modMxf n (fun m => { m with sentArg0 := assocPut m.sentArg0 g v })
    | some old =>
      if old = v then s
      else s.modMxf n (fun m => { m with sentArg0 := assocPut m.sentArg0 g v, changed := assocPut m.changed g 3 })) s

/-- A status message of the next frame: a changed status first, then the cycle. -/
def State.takeStatus (s : State) (n : Nat) : PeerMsg × State :=
  let p := s.txPlane n
  match (s.line n).mxf.changed.filter (fun c => c.2 != 0 && s.mgExists p c.1) with
  | c :: _ => (s.statusOut p c.1, s.modMxf n (fun m => { m with changed := assocPut m.changed c.1 (c.2 - 1) }))
  | [] =>
    let l := s.statusCycle n
    let k := (s.line n).mxf.cycle % l.length
    let x := l.getD k idleMsg
    let s := s.modMxf n (fun m => { m with cycle := (k + 1) % l.length })
    (x, if x.typ = 0x30 then s.modOhp n (fun o => { o with txPos := (x.index + 1) % 8 }) else s)

/-- The message of the next frame, and the state that has sent it (R112, R113). -/
def State.takeMessage (s : State) (n : Nat) : PeerMsg × State :=
  let s := s.statusChanges n
  match (s.line n).mxf.out with
  | some o =>
    if o.due then (o.msg, s.modMxf n (fun m => { m with out := some { o with due := false, waited := 0 } }))
    else s.takeStatus n
  | none => s.takeStatus n

/-! ## The Mehrax frame -/

/-- Payload words with the slots of `zero` as zeros and those of `ones` as ones (R105). -/
def slotFill (used ais : Nat) (ws : List Word64) : List Word64 :=
  (List.range 2040).map (fun i =>
    let k := i % 24
    if ais.testBit k then BitVec.ofNat 64 (2 ^ 64 - 1) else if used.testBit k then ws.getD i 0 else 0)

/-- A frame as on the line from its overhead words without the checks, and its payload: the checks of the frame before, the
OHCRC and the scrambler (R95, R99, R100). -/
def buildFrame (oh : List Word64) (pcrc bip : Nat) (payload : List Word64) : List Word64 :=
  let w7 := pcrc % 2 ^ 32 * 2 ^ 32 + bip % 256 * 2 ^ 24
  let crc := ohcrcOf (oh ++ [BitVec.ofNat 64 w7])
  scrFrame (oh ++ [BitVec.ofNat 64 (w7 + crc)] ++ payload)

/-- The FSN of the next frame (R96, R244): that of the line's own count, or where its merge partner runs and has sent a frame of
the common count that this line has not, the FSN of that frame. -/
def State.nextFsn (s : State) (n : Nat) : Nat :=
  let own := (s.line n).mxf.txFsn
  match s.mergePartner (s.txPlane n) n with
  | some q =>
    let last := ((s.line q).mxf.txFsn + 2 ^ 40 - 1) % 2 ^ 40
    if s.mxfSends q && !(s.line q).mxf.txFirst && fsnLater last own then last else own
  | none => own

/-- The overhead words 0 to 2 of the next frame: FAS, RATE, FEC, VER, RPT; FSN, QL, QL_OPT; SLOT_USED and SLOT_AIS
(Table 4.2). -/
def State.mxfHead (s : State) (n fsn used ais : Nat) (rpt : Bool) : List Word64 :=
  [BitVec.ofNat 64 (0xB4E271C80D9A * 2 ^ 16 + rateCode (s.format n) * 2 ^ 12 + b2n (s.flag (Fld.LCH_MXF_CFG_FEC n)) * 2 ^ 11
      + 2 ^ 8 + b2n rpt * 2 ^ 7)
  , BitVec.ofNat 64 (fsn % 2 ^ 40 * 2 ^ 24 + s.txQl n % 16 * 2 ^ 20 + s.qlOpt % 4 * 2 ^ 18)
  , BitVec.ofNat 64 (used * 2 ^ 40 + ais * 2 ^ 16)]

/-- MXF_FRAME_TX: one frame, its slots carrying what the plane has produced for its groups (R93 to R105, R113). In a hold the
buffered frame repeats from word 3 on (R102, R280). -/
def State.mxfFrameTx (s : State) (n : Nat) : State :=
  s.onLine n fun s => s.when (isMxf (s.format n) && s.framesOwn n) fun s =>
    let s := s.thruBack n
    let p := s.txPlane n
    let fec := s.flag (Fld.LCH_MXF_CFG_FEC n)
    let mask := if fec then 0x3FFFFF else 0xFFFFFF
    let (r, s) := s.free
    let s := s.keepFrame n
    let m := (s.line n).mxf
    let old := scrFrame m.txBuf
    let full := !m.txBuf.isEmpty
    let held := s.sendsHeld n && full
    let maint := s.sendsMaint n
    let slotAis := s.slotAisOut p n
    let ((payload, usedNow), s) := s.planeOut n (fun s p => let x := s.mxfPayload p r n; ((x.1, x.2.1), x.2.2))
    let s := s.modMxf n (fun m => { m with
      out := m.out.map (fun o => { o with waited := o.waited + 1 }) })
    let (msg, s) : PeerMsg × State := if held || maint then (idleMsg, s) else s.takeMessage n
    let used := mask &&& (if s.thruMaint n then (s.thru n).used
      else if held || (maint && full) then mxfField old 2 40 24
      else if maint then s.slotUsedOut p n
      else usedNow)
    let ais := if maint then used
      else if held then mxfField old 2 16 24 &&& mask else slotAis &&& used
    let fsn := s.nextFsn n
    let rei := if s.inFrame n then min 8 m.violations else 0
    let w3 := b2n (s.lineSsf n) * 2 ^ 63 + rei * 2 ^ 48 + (s.slotRdiOut p n) % 2 ^ 24 * 2 ^ 24
    let mcc := BitVec.ofNat 64 (beNat ((s.ohp n).txMcc ++ List.replicate (8 - (s.ohp n).txMcc.length) 0))
    let oh := s.mxfHead n fsn used ais held ++
      (if held then (old.drop 3).take 4 else [BitVec.ofNat 64 w3] ++ msgWords msg m.ackSeq ++ [mcc])
    let body := slotFill used ais (if held then old.drop 8 else payload)
    let body := if fec then fecRows body else body
    let pcrc := if m.txFirst then 0 else if (s.line n).frb.cut then m.txPcrc ^^^ 0xFFFFFFFF else m.txPcrc
    let s := s.setMxf n false (buildFrame oh pcrc (if m.txFirst then 0 else m.txBip) body)
    (s.modMxf n (fun m => { m with txFsn := (fsn + 1) % 2 ^ 40, txFirst := false, fecTx := fec, violations := 0 })).modLine n
      (fun l => { l with frb := { l.frb with cut := false } })

/-! ## STM-N -/

/-- The line group of which line `n` is a member, with the scheme given. -/
def State.lgOfLine (s : State) (p n scheme : Nat) : Option Nat :=
  (List.range 48).find? (fun g => s.lgGet p g LG.scheme == scheme && (s.lgGet p g LG.wLine == n || s.lgGet p g LG.pLine == n))

/-- The line whose signal the bridge gives to line `n` (R232): W, where `n` is the P of a group that is 1+1 or whose bridge is
set. -/
def State.bridgedFrom (s : State) (p n scheme : Nat) : Option Nat :=
  match s.lgOfLine p n scheme with
  | none => none
  | some g =>
    if s.lgGet p g LG.pLine = n ∧ (s.lgGet p g LG.arch = 0 ∨ s.lgGet p g LG.bridged = 1) ∧ !(s.ohp (s.lgGet p g LG.wLine)).tx.isEmpty then
      some (s.lgGet p g LG.wLine)
    else none

/-- The largest MS-REI count that M1, at STM-64 M0 and M1, carries (G.707, log entry 24). -/
def reiMax (k : Nat) : Nat := if k = 16 then 255 else 24 * k

/-- The settings of LCH_OHP_TX_CFG and of the transmit half of TCM_CFG take effect (R152). -/
def State.txBoundary (s : State) (n : Nat) : State :=
  s.modOhp n (fun o => { o with txCfg := (s.reg (Reg.LCH_OHP_TX_CFG n)).toNat, tcmTx := s.get (Fld.LCH_OHP_TCM_CFG_TCM_MODE n) })

/-- The section overhead of the next STM-N frame (Table 5.3), its insertion groups given. Under the bridge D4 to D12, S1 and E2
are those of W's multiplex section `w` (log entry 125). -/
def State.sdhSend (s : State) (n : Nat) (w : Option SdhOh) (dccR dccM ow : List Byte) : SdhOh :=
  let k := stmN (s.format n)
  let o := s.ohp n
  let aps := ((s.lgOfLine (s.txPlane n) n 1).map (s.apsOut (s.txPlane n))).getD 0
  let rei := min (o.reiDue.getD 0 0) (reiMax k)
  { j0 := o.j0Byte, b1 := o.txPar1, e1 := ow.getD 0 0, f1 := ow.getD 1 0, dccR := dccR
    b2 := (List.range (3 * k)).map (fun i => o.txPar2.getD i 0)
    k1 := BitVec.ofNat 8 aps, k2 := BitVec.ofNat 8 (if s.lineSsf n then putBits (aps / 256) 0 3 6 else aps / 256)
    dccM := (w.map (fun h => h.dccM)).getD dccM, s1 := (w.map (fun h => h.s1)).getD (BitVec.ofNat 8 (s.txQl n % 16))
    m0 := if k = 64 then BitVec.ofNat 8 (rei / 256) else 0, m1 := BitVec.ofNat 8 rei, e2 := (w.map (fun h => h.e2)).getD (ow.getD 2 0) }

/-- MS-AIS under the regenerator section overhead of the rows (R148, G.707). -/
def sdhAis (k : Nat) (rows : List (List Byte)) : List Byte :=
  (List.range 9).flatMap (fun r =>
    (if r < 3 then rows.getD r [] else List.replicate (9 * k) 0xFF) ++ List.replicate (261 * k) (0xFF : Byte))

/-- One STM-N frame (Table 5.3): the overhead of the line and the AU-4s that the plane has produced; in a hold the AU pointers and
the payload of the buffer, under the bridge those of W (R232, R279). -/
def State.sdhTx (s : State) (n r : Nat) : State :=
  let k := stmN (s.format n)
  let w := (s.bridgedFrom (s.txPlane n) n 1).map (fun w => (s.ohp w).tx)
  let (aus, s) := s.planeOut n (fun s p => s.auList p r n)
  let (dccR, s) := s.insGroup n 0 3
  let (dccM, s) := if w.isSome then ([], s) else s.insGroup n 1 9
  let (ow, s) := s.insGroup n 2 3
  let o := s.ohp n
  let from' := if s.sendsHeld n && !o.txHold.isEmpty then some o.txHold else w
  let oh := s.sdhSend n (w.map (sdhOh k)) dccR dccM ow
  let ptrs := match from' with
    | some f => (f.drop (stmAt k 3 0)).take (9 * k)
    | none => auRow k aus false
  let pay := match from' with
    | some f => sdhPay k f
    | none => auWeave aus
  let rows := sdhRows k oh ptrs
  let s := s.setTx n false (if s.sendsMaint n then sdhAis k rows else sdhJoin rows pay k)
  s.modOhp n (fun o => { o.tracePos with reiDue := modD 0 o.reiDue 0 (fun d => d - min d (reiMax k)) })

/-! ## OTUk -/

/-- PT and MSI of an OTUk line at the given MFAS (Table 5.5, R163). -/
def State.psiOut (s : State) (n mfas : Nat) : Byte :=
  if s.format n ≠ 0x0B then 0
  else if mfas = 0 then 0x21
  else if 2 ≤ mfas ∧ mfas ≤ 9 then (s.msiOf (s.txPlane n) (s.txEpoch (s.txPlane n) n) n true).getD (mfas - 2) 0
  else 0

/-- TCM level `i` + 1 is received with an incoming alignment error: STAT 0b010 (G.709). -/
def State.tcmIae (s : State) (n i : Nat) : Bool :=
  match (s.ohp n).rx with
  | some (.otu f) => tcmMode (s.ohp n).tcmRx i != 0 && (((otuOh otuCols f).tcm.getD i ⟨0, 0, 0⟩).st.toNat % 8 == 2)
  | _ => false

/-- BEI that SM, PM or a TCM level sends: its violations, at most 8, or the code 11 of BIAE, under which none are counted (G.709,
log entry 126). -/
def beiOut (due : Nat) (iae : Bool) : Nat := if iae then 11 else min 8 due

/-- The overhead of the next OTUk frame (Table 5.5), its insertion groups given. -/
def State.otuOut (s : State) (n mfas : Nat) (g0 g1 g2 : List Byte) : OtuOh :=
  let o := s.ohp n
  let p := s.txPlane n
  let bip := if o.txBips.length < 2 then 0 else o.txBips.headD 0
  let bei := fun i iae => beiOut (o.reiDue.getD i 0) iae
  let tti := fun t => (o.txTraces.getD t []).getD (mfas % 64) 0
  let ssf := s.lineSsf n
  let lg := s.lgOfLine p n 2
  let oci := lg.any (fun g => s.lgGet p g LG.pLine == n && s.lgGet p g LG.arch == 1 && s.lgGet p g LG.bridged == 0)
  { mfas := BitVec.ofNat 8 mfas, sm := ⟨tti 0, bip, oduStat (bei 0 (s.unmasked n 8)) ssf 0⟩, gcc0 := g0
    tcm := (List.range 6).map (fun i =>
      if tcmMode o.tcmTx i = 2 then ⟨tti (2 + i), bip, oduStat (bei (2 + i) (s.tcmIae n i)) ssf 1⟩ else ⟨0, 0, 0⟩)
    pm := ⟨tti 1, bip, oduStat (bei 1 false) (ssf || [3, 4, 5].any (fun b => s.unmasked n b)) (if oci then 6 else 1)⟩
    gcc1 := g1, gcc2 := g2
    aps := if mfas % 8 = 0 then leBytes 4 ((lg.map (s.apsOut p)).getD 0) else [0, 0, 0, 0]
    psi := s.psiOut n mfas }

/-- The ODU2 of W under the OTU2 overhead of P, with P's APS channel (R232). -/
def otuBridge (oh : OtuOh) (w : List Byte) : List Byte :=
  let f := ((otuRows oh).getD 0 []) ++ w.drop 14
  f.take (3 * oduCols + 4) ++ oh.aps ++ f.drop (3 * oduCols + 8)

/-- One OTUk frame (Table 5.5): the overhead of the line and the OPU that the plane has produced; in a hold that of the buffer, under
the bridge W's ODU2, whose multiframe the line then follows (R232, R279). -/
def State.otuTx (s : State) (n r : Nat) : State :=
  let w := (s.bridgedFrom (s.txPlane n) n 2).map (fun w => (s.ohp w).tx)
  let mfas := (w.map (fun f => (f.getD 6 0).toNat)).getD ((s.ohp n).txPos % 256)
  let (opu, s) := s.planeOut n (fun s p => s.opuOut p r n mfas (s.psiOut n mfas))
  let (g0, s) := s.insGroup n 0 2
  let (g1, s) := if w.isSome then ([], s) else s.insGroup n 1 2
  let (g2, s) := if w.isSome then ([], s) else s.insGroup n 2 2
  let o := s.ohp n
  let oh := s.otuOut n mfas g0 g1 g2
  let frame :=
    if s.sendsMaint n then ((otuRows oh).getD 0 []) ++ (oduAis mfas).drop 14
    else if s.sendsHeld n && !o.txHold.isEmpty then oduJoin oh (putAt (opuOf oduCols o.txHold) (3 * 3810) oh.psi)
    else match w with
      | some f => otuBridge oh f
      | none => oduJoin oh opu
  let s := s.setTx n false frame
  s.modOhp n (fun o => { o with
    txPos := (mfas + 1) % 256
    reiDue := (List.range 8).map (fun i =>
      let iae := if i = 0 then s.unmasked n 8 else if i = 1 then false else s.tcmIae n (i - 2)
      if iae then 0 else o.reiDue.getD i 0 - min 8 (o.reiDue.getD i 0)) })

/-! ## Ethernet -/

/-- The ordered sets that a 10GBASE-R or 25GBASE-R transmitter sends (R210): 0 data, 1 local fault, 2 remote fault, 3 idle in
place of data, which a hold leaves too (R280). -/
def State.setsOut (s : State) (n : Nat) : Nat :=
  if s.format n ≠ 1 && s.sendsMaint n then 1
  else if s.flag (Fld.LCH_FRB_STATUS_HOLD n) then 3
  else s.portSets (s.txPlane n) n

/-- OHP_FRAME_TX: the next frame of an STM-N or OTUk line; on an MXF line the MCC octets that the next MXF_FRAME_TX sends
(R108), on an Ethernet line the ordered sets in force. -/
def State.ohpFrameTx (s : State) (n : Nat) : State :=
  s.onLine n fun s => s.when (s.framesOwn n) fun s =>
    let s := if isMxf (s.format n) then s else s.thruBack n
    if isMxf (s.format n) then
      s.when (!s.sendsHeld n) fun s =>
        let (bs, s) := s.insRead n 0 8 0
        s.modOhp n (fun o => { o with txMcc := bs })
    else if isEth (s.format n) then s.modOhp n (fun o => { o with txSets := s.setsOut n })
    else
      s.when (isStm (s.format n) || isOtu (s.format n)) fun s =>
        let (r, s) := s.free
        let s := (s.txBoundary n).keepFrame n
        let s := if isStm (s.format n) then s.sdhTx n r else s.otuTx n r
        s.modLine n (fun l => { l with frb := { l.frb with cut := false } })

/-! ## Meanings -/

/-- MXF_FRAME_TX (R113). -/
def execMxfFrameTx (n : LineNo) (s : State) : Host.Outcome State Fault Refusal := done (s.mxfFrameTx n.val)

/-- OHP_FRAME_TX (R139). -/
def execOhpFrameTx (n : LineNo) (s : State) : Host.Outcome State Fault Refusal := done (s.ohpFrameTx n.val)

end Sys2Proof.Machine
end

