-- ==== Sys2Proof/Machine/Scc.lean ====
section
/-! DEFINITION. The sample conditioning chain (chapter 11): input, median, decimator, DC block, FIR banks and fades,
resampler, phase delay, thresholds, synchronising reset and settling, output rings. -/

namespace Sys2Proof.Machine

/-- Slot `k`. -/
def State.sccSlot (s : State) (k : Nat) : SccSlot := s.scc.slots.getD k SccSlot.reset
def State.modSlot (s : State) (k : Nat) (f : SccSlot → SccSlot) : State :=
  { s with scc := { s.scc with slots := modD SccSlot.reset s.scc.slots k f } }

/-- Slots 0 to 63 are of the timing class (Table 11.1). -/
def sccTiming (k : Nat) : Bool := decide (k < 64)

/-- Raw samples per second (R326). -/
def rawHz (k : Nat) : Nat := if sccTiming k then 1000000 else 100000

/-- L, N and R of a configuration in force (Table 11.6). -/
def SccSlot.medLen (z : SccSlot) : Nat := 2 * bitsOf z.cfg 1 2 + 1
def SccSlot.order (z : SccSlot) : Nat := bitsOf z.cfg 3 2 + 1
def SccSlot.ratio (z : SccSlot) : Nat := bitsOf z.cfg 5 6 + 1

/-! ## Input -/

/-- The source of a timing-class slot: 0 to 7 a DPLL, 8 to 31 a candidate. -/
def SccSlot.tsrc (z : SccSlot) (k : Nat) : Nat := if k < 32 then k else bitsOf z.src 0 5

/-- The input of slot `k` is held (R328). -/
def State.sccHeld (s : State) (k : Nat) : Bool :=
  let z := s.sccSlot k
  let dark := fun (n : Nat) => !s.lineOn n || s.lineDozes n
  if sccTiming k then
    let t := z.tsrc k
    if t < 8 then false
    else if t < 16 then !s.flag (Fld.TMG_CAND_STATUS_ACT (t - 8))
    else dark (s.get (Fld.TMG_CAND_CFG_LINE (t - 8)))
  else if k < 82 then false
  else
    let n := bitsOf z.src 10 7
    match bitsOf z.src 8 2 with
    | 0 => true
    | 3 =>
      let i := bitsOf z.src 17 3
      (s.get (Fld.PIN_MOD_STATUS_STALE n)).testBit i || !s.flag (Fld.PIN_ITEM_CTL_SCC n i)
    | _ => dark n

/-- The value of a poll item: signed where its compare is the signed 16-bit range (R327). -/
def State.itemValue (s : State) (n i : Nat) : Int :=
  let v := s.get64 (Reg.PIN_ITEM_VALUE_LO n i)
  if s.get (Fld.PIN_ITEM_CTL_CMP n i) = 3 then signedOf 16 v else v

/-- A value put into a rising list. -/
def insertInt (x : Int) : List Int → List Int
  | [] => [x]
  | a :: t => if x ≤ a then x :: a :: t else a :: insertInt x t

/-- The median of a window (R330). -/
def medianOf (l : List Int) : Int := (l.foldr insertInt []).getD (l.length / 2) 0

/-- Rounds `a / b` to the nearest integer; which way a tie goes is open (log entry 72). -/
def roundDiv (a b : Int) : Int :=
  if 2 * (a % b) < b then a / b else if b < 2 * (a % b) then a / b + 1 else a / b + b2n (Config.roundUp a b)

/-- `a / b` where the manual names no rounding: itself if it is an integer, else one of the two integers about it, open which
(log entry 72). -/
def roundOpen (a b : Int) : Int := if a % b = 0 then a / b else a / b + b2n (Config.roundUp a b)

/-- One input through the integrators, the last one's value (R331). -/
def integrate : Nat → List Nat → Nat × List Nat
  | x, [] => (x, [])
  | x, a :: t =>
    let y := (a + x) % 2 ^ 48
    let (o, t') := integrate y t
    (o, y :: t')

/-- One value through the combs. -/
def combRun : Nat → List Nat → Nat × List Nat
  | x, [] => (x, [])
  | x, a :: t =>
    let (o, t') := combRun ((x + 2 ^ 48 - a) % 2 ^ 48) t
    (o, x :: t')

/-- A raw sample after the input limit, through the median filter and the decimator (R330, R331). -/
def SccSlot.raw (z : SccSlot) (v : Int) (held : Bool) : SccSlot :=
  let win := ((v, held) :: z.win).take z.medLen
  let vals := win.map (fun x => x.1)
  let x := medianOf (vals ++ List.replicate (z.medLen - vals.length) 0)
  let heldNow := win.any (fun x => x.2)
  let z := { z with win := win, raws := min 1000 (z.raws + 1) }
  if z.ratio = 1 then { z with mid := some (x * 256, heldNow) }
  else
    let (y, ints) := integrate (unsignedOf 48 x) z.ints
    let z := { z with ints := ints, decHeld := z.decHeld || heldNow }
    if z.dec + 1 < z.ratio then { z with dec := z.dec + 1 }
    else
      let (c, combs) := combRun y z.combs
      let d : Int := (z.ratio : Int) ^ z.order
      { z with
        dec := 0, combs := combs, mid := some (roundDiv (signedOf 48 c * 256) d, z.decHeld || z.tail != 0)
        tail := if z.decHeld then z.order else z.tail - 1, decHeld := false }

/-- SCC_RAW_SAMPLE: the latest value of the source of slot `k` in its input unit; a poll item's value is read from the
module table. -/
def State.sccRaw (s : State) (k : Nat) (v : Int) : State :=
  s.onSpine fun s =>
    let z := s.sccSlot k
    s.when (z.run && z.mid.isNone) fun s =>
      let held := s.sccHeld k
      let v := if 82 ≤ k ∧ bitsOf z.src 8 2 = 3 then s.itemValue (bitsOf z.src 10 7) (bitsOf z.src 17 3) else v
      let cand := sccTiming k && decide (8 ≤ z.tsrc k)
      let z := if cand && z.origin.isNone && !held then { z with origin := some v } else z
      let v := if cand then v - z.origin.getD v else v
      let x := if held then z.input else clampSigned 24 v
      let sat := !held && decide (x ≠ v)
      let z := { z with input := x, sat := z.sat || sat }
      let s := s.modSlot k (fun _ => z.raw x held)
      let s := if sat then s.raise (Fld.SCC_SLOT_STATUS_SAT_EV k) else s
      s.setB (Fld.SCC_SLOT_STATUS_HOLD k) held

/-! ## DC block and FIR -/

/-- The DC block of slot `k` is frozen (R332). -/
def State.sccFrozen (s : State) (k : Nat) : Bool :=
  let d := (s.sccSlot k).tsrc k
  s.flag (Fld.SCC_SLOT_CFG_FREEZE k)
    || ((decide (k < 8) || decide (32 ≤ k)) && decide (d < 8) && ((s.dpll d).frozen || (s.dpll d).swHeld))

/-- Stages 1 and 2 have settled: every raw sample that the decimated one covers came after the median window had filled. -/
def SccSlot.settled (z : SccSlot) : Bool := decide (z.medLen - 1 + z.order * (z.ratio - 1) + 1 ≤ z.raws)

/-- One sample through the DC block (R332): its output, the mean after it, whether the mean has been loaded. The first settled
sample loads the mean. -/
def SccSlot.dcBlock (z : SccSlot) (x : Int) (k : Nat) (frozen : Bool) : Int × Int × Bool :=
  let m := if !z.loaded && z.settled then x * 65536 else z.mean
  (roundOpen (x * 65536 - m) 65536, if frozen then m else m + roundOpen (x * 65536 - m) (2 ^ k), z.loaded || z.settled)

/-- Coefficient `tap` of a bank of slot `k` (R333). -/
def coefDefault (_ : Nat) : Int := 0
def State.coef (s : State) (k bank tap : Nat) : Int := Sparse.get coefDefault s.scc.coefs (k * 128 + bank * 64 + tap)
def State.setCoef (s : State) (k bank tap : Nat) (v : Int) : State :=
  { s with scc := { s.scc with coefs := Sparse.set coefDefault s.scc.coefs (k * 128 + bank * 64 + tap) v } }

/-- The FIR sum of a bank over the delay line, exact, rounded by 2^17 (R333). -/
def State.firSum (s : State) (k bank : Nat) (line : List Int) : Int :=
  roundDiv (((List.range 64).map (fun i => s.coef k bank i * line.getD i 0)).foldl (· + ·) 0) (2 ^ 17)

/-- FADE_K, DCB_K as treated. -/
def State.fadeK (s : State) (k : Nat) : Nat := min 10 (s.get (Fld.SCC_SLOT_FIR_FADE_K k))
def State.dcbK (s : State) (k : Nat) : Nat := max 8 (min 24 (s.get (Fld.SCC_SLOT_CFG_DCB_K k)))

/-- SCC_MID_SAMPLE: the decimated sample of slot `k` through the DC block and the FIR, into the resampler's history. -/
def State.sccMid (s : State) (k : Nat) : State :=
  s.onSpine fun s =>
    let z := s.sccSlot k
    match z.mid with
    | none => s
    | some (x, held) =>
      let dcb := sccTiming k && s.flag (Fld.SCC_SLOT_CFG_DCB_EN k)
      let frozen := dcb && s.sccFrozen k
      let (y, mean, loaded) := if dcb then z.dcBlock x (s.dcbK k) frozen else (x, z.mean, z.loaded)
      let line := ((clampSigned 32 y, held) :: z.line).take 64
      let vals := line.map (fun c => c.1)
      let act := s.get (Fld.SCC_SLOT_FIR_ACTIVE k)
      let old := s.firSum k act vals
      let (full, fade) := match z.fade with
        | none => (old, none)
        | some (t, i, len) =>
          let i := min len (i + 1)
          (old + roundOpen ((s.firSum k t vals - old) * i) len, some (t, i, len))
      let out := clampSigned 32 full
      let sat := decide (out ≠ full) || decide (clampSigned 32 y ≠ y)
      let m : Int := 64 * z.ratio * s.get Fld.SCC_OUT_HZ_ACT_OUT_HZ
      let s := s.modSlot k (fun z => { z with
        mid := none, mean := mean, loaded := loaded, line := line, fade := fade
        hist := ((out, line.any (fun c => c.2)) :: z.hist).take 64
        pos := z.pos - m, sat := z.sat || sat, faded := z.faded || fade.isSome, frozen := z.frozen || frozen })
      let s := if sat then s.raise (Fld.SCC_SLOT_STATUS_SAT_EV k) else s
      s.setB (Fld.SCC_SLOT_STATUS_FROZEN k) frozen

/-- A swap request for a bank while no fade runs (R334). -/
def State.swapStart (s : State) (k bank : Nat) : State :=
  if s.get (Fld.SCC_SLOT_FIR_ACTIVE k) = bank then s
  else (s.raise (Fld.SCC_SLOT_FIR_FADING k)).modSlot k (fun z => { z with fade := some (bank, 0, 2 ^ s.fadeK k) })

/-- SCC_BANK_SWAP_REQUEST: a write of SCC_SLOT_FIR; with REQ = 1 it requests a swap to REQ_BANK (R334, R335). -/
def State.sccFirWrite (s : State) (k : Nat) (v : Word) : State :=
  s.onSpine fun s =>
    let s := (s.set (Fld.SCC_SLOT_FIR_FADE_K k) (wordBits v 4 4)).set (Fld.SCC_SLOT_FIR_REQ_BANK k) (wordBits v 9 1)
    let bank := wordBits v 9 1
    if wordBits v 8 1 = 0 then s
    else if (s.sccSlot k).fade.isSome then (s.raise (Fld.SCC_SLOT_FIR_PEND k)).set (Fld.SCC_SLOT_FIR_PEND_BANK k) bank
    else s.swapStart k bank

/-- SCC_FADE_END: the last fade sample makes the target the active bank; a held request is taken up (R334, R335). -/
def State.sccFadeEnd (s : State) (k : Nat) : State :=
  s.onSpine fun s =>
    match (s.sccSlot k).fade with
    | none => s
    | some (t, i, len) => s.when (decide (len ≤ i)) fun s =>
      let s := (s.set (Fld.SCC_SLOT_FIR_ACTIVE k) t).setB (Fld.SCC_SLOT_FIR_FADING k) false
      let s := s.modSlot k (fun z => { z with fade := none })
      if s.flag (Fld.SCC_SLOT_FIR_PEND k) then
        (s.setB (Fld.SCC_SLOT_FIR_PEND k) false).swapStart k (s.get (Fld.SCC_SLOT_FIR_PEND_BANK k))
      else s

/-! ## Coefficients -/

/-- A write is refused: the slot fades (R335). -/
def State.coefRefused (s : State) (k : Nat) : Bool := (s.sccSlot k).fade.isSome

/-- SCC_COEF_DATA_ACCESS: an access of SCC_COEF_DATA (R333, R335); AUTOINC follows every access. -/
def State.coefAccess (s : State) (a : RegAccess) : State :=
  s.onSpine fun s =>
    let k := s.get Fld.SCC_COEF_ADDR_SLOT
    let tap := s.get Fld.SCC_COEF_ADDR_TAP
    let s := match a with
      | .read => s
      | .write v =>
        if s.coefRefused k then s.raise (Fld.SCC_SLOT_STATUS_WR_REF_EV k)
        else s.setCoef k (s.get Fld.SCC_COEF_ADDR_BANK) tap (signedOf 18 v.toNat)
    if s.flag Fld.SCC_COEF_ADDR_AUTOINC then s.set Fld.SCC_COEF_ADDR_TAP (tap + 1) else s

/-- SCC_COEF_DATA as it reads. -/
def State.coefWord (s : State) : Nat :=
  unsignedOf 18 (s.coef (s.get Fld.SCC_COEF_ADDR_SLOT) (s.get Fld.SCC_COEF_ADDR_BANK) (s.get Fld.SCC_COEF_ADDR_TAP))

/-- Tap `i` of library set `set` (Table 11.3). -/
def libraryTap (set i : Nat) : Int :=
  if set = 0 then (if i = 0 then 2 ^ 17 - 1 else 0) else clampSigned 18 (Config.firLibrary set i)

/-- SCC_COEF_LOAD: a write of the register; GO loads a set into a bank, or is refused (R333, R335). -/
def State.coefLoad (s : State) (v : Word) : State :=
  s.onSpine fun s =>
    let s := s.setReg Reg.SCC_COEF_LOAD (v &&& 0xFFF)
    let k := wordBits v 0 7
    let set := wordBits v 8 4
    if wordBits v 12 1 = 0 ∨ 8 < set then s
    else if s.coefRefused k then s.raise (Fld.SCC_SLOT_STATUS_WR_REF_EV k)
    else (List.range 64).foldl (fun s i => s.setCoef k (wordBits v 7 1) i (libraryTap set i)) s

/-! ## Synchronising reset -/

/-- Δ lies outside 1/16 to 16 (R337). -/
def sccCfgErr (k r hz : Nat) : Bool := decide (16 * rawHz k < r * hz) || decide (16 * (r * hz) < rawHz k)

/-- SETTLE_LEN (R341). -/
def settleLen (k : Nat) (z : SccSlot) (hz dly : Nat) : Nat :=
  (((z.medLen - 1) + (z.order + 71) * z.ratio) * hz + rawHz k - 1) / rawHz k + dly + 1

/-- A synchronising reset of slot `k` (R340). -/
def State.sccReset (s : State) (k : Nat) : State :=
  let act := match (s.sccSlot k).fade with
    | some (t, _, _) => t
    | none => s.get (Fld.SCC_SLOT_FIR_ACTIVE k)
  let en := s.flag (Fld.SCC_SLOT_CFG_EN k)
  let cfg := (s.reg (Reg.SCC_SLOT_CFG k)).toNat
  let z : SccSlot := { SccSlot.reset with
    cfg := cfg, src := (s.reg (Reg.SCC_SLOT_SRC k)).toNat, restart := en
    ints := List.replicate (bitsOf cfg 3 2 + 1) 0, combs := List.replicate (bitsOf cfg 3 2 + 1) 0 }
  let s := s.modSlot k (fun _ => z)
  let s := (s.set (Fld.SCC_SLOT_FIR_ACTIVE k) act).setB (Fld.SCC_SLOT_FIR_FADING k) false
  let s := (s.setB (Fld.SCC_SLOT_FIR_PEND k) false).setB (Fld.SCC_SLOT_STATUS_SETTLING k) en
  let s := (s.setB (Fld.SCC_SLOT_STATUS_HI k) false).setB (Fld.SCC_SLOT_STATUS_LO k) false
  let s := (s.setB (Fld.SCC_SLOT_STATUS_FROZEN k) false).setB (Fld.SCC_SLOT_STATUS_HOLD k) false
  let hz := s.get Fld.SCC_OUT_HZ_ACT_OUT_HZ
  let s := s.setB (Fld.SCC_SLOT_STATUS_CFG_ERR k) (en && sccCfgErr k z.ratio hz)
  s.set (Fld.SCC_SLOT_STATUS_SETTLE_LEN k) (settleLen k z hz (s.get (Fld.SCC_SLOT_DLY_DLY_INT k)))

/-- SCC_SLOT_SYNC: writing SYNC; it reads 1 until the slot restarts. -/
def State.sccSync (s : State) (k : Nat) : State :=
  s.onSpine fun s => (s.sccReset k).raise (Fld.SCC_SLOT_CTL_SYNC k)

/-- SCC_SYNC_ALL: OUT_HZ is applied, every enabled slot is reset, the tick number restarts at 0 (R340). -/
def State.sccSyncAll (s : State) : State :=
  s.onSpine fun s =>
    let hz := max 1000 (min 64000 (s.get Fld.SCC_GLB_CFG_OUT_HZ))
    let s := ((s.set Fld.SCC_OUT_HZ_ACT_OUT_HZ hz).set Fld.SCC_TICK_TICK 0xFFFFFFFF).raise Fld.SCC_GLB_CTL_SYNC_ALL
    (List.range 128).foldl (fun s k => if s.flag (Fld.SCC_SLOT_CFG_EN k) then s.sccReset k else s) s

/-- A write of SCC_SLOT_CFG: a rise of EN resets the slot (R340); the staged fields wait. -/
def State.sccCfgWrite (s : State) (k : Nat) (v : Word) : State :=
  s.onSpine fun s =>
    let en := s.flag (Fld.SCC_SLOT_CFG_EN k)
    let s := s.writeByCode (Reg.SCC_SLOT_CFG k) v
    if !en && s.flag (Fld.SCC_SLOT_CFG_EN k) then s.sccReset k else s

/-- EN of slot `k` written alone. -/
def State.sccEnable (s : State) (k : Nat) (en : Bool) : State :=
  s.sccCfgWrite k (wordPut (s.reg (Reg.SCC_SLOT_CFG k)) 0 1 (b2n en))

/-! ## Output -/

/-- The resampler's output at the position in force (R337): whole input samples back from the newest, phase, samples. -/
def SccSlot.resample (z : SccSlot) (k hz frac : Nat) : Int × Bool :=
  let m : Int := 64 * z.ratio * hz
  let p := z.pos - frac * rawHz k
  let whole := p / m
  let ph := roundDiv (p % m * 64) m
  let (whole, ph) := if ph = 64 then (whole + 1, 0) else (whole, ph)
  let back := (-1 - whole).toNat
  let xs := (List.range 8).map (fun i => z.hist.getD (back + i) (0, false))
  (clampSigned 32 (Config.polyphase ph.toNat (xs.map (fun x => x.1))), xs.any (fun x => x.2))

/-- The 8 bytes of a record (Table 11.4). -/
def sccRecord (v : Int) (tick : Nat) (settling sat fade frozen held : Bool) : List Byte :=
  leBytes 4 (unsignedOf 32 v) ++ leBytes 2 tick
    ++ leBytes 2 (b2n settling + 2 * b2n sat + 4 * b2n fade + 8 * b2n frozen + 16 * b2n held)

/-- Persistence counts of a sense-class slot for one output sample (R339). -/
def State.sccCounts (s : State) (k : Nat) (v : Int) (z : SccSlot) : SccSlot :=
  let hi := signedOf 32 (s.get (Fld.SCC_SLOT_THR_HI_V k))
  let lo := signedOf 32 (s.get (Fld.SCC_SLOT_THR_LO_V k))
  let hy : Int := s.get (Fld.SCC_SLOT_THR_CFG_HYST k)
  let run := fun (c : Nat) (b : Bool) => if b then min 63 (c + 1) else 0
  { z with
    hiUp := run z.hiUp (decide (hi ≤ v)), hiDown := run z.hiDown (decide (v < hi - hy))
    loUp := run z.loUp (decide (v ≤ lo)), loDown := run z.loDown (decide (lo + hy < v)) }

/-- Slot `k` at the output tick `tick` (R337 to R342). -/
def State.sccTickSlot (s : State) (k tick : Nat) : State :=
  let z := s.sccSlot k
  let s := s.setB (Fld.SCC_SLOT_CTL_SYNC k) false
  if !s.flag (Fld.SCC_SLOT_CFG_EN k) then
    if z.run || z.restart then s.modSlot k (fun z => { z with run := false, restart := false }) else s
  else if !z.run && !z.restart then s
  else if s.flag (Fld.SCC_SLOT_STATUS_CFG_ERR k) then s.modSlot k (fun z => { z with run := true, restart := false })
  else
    let hz := s.get Fld.SCC_OUT_HZ_ACT_OUT_HZ
    let dly := s.get (Fld.SCC_SLOT_DLY_DLY_INT k)
    let x := z.resample k hz (s.get (Fld.SCC_SLOT_DLY_DLY_FRAC k))
    let outs := (x :: z.outs).take 1024
    let (v, held) := outs.getD dly (0, false)
    let len := s.get (Fld.SCC_SLOT_STATUS_SETTLE_LEN k)
    let settling := decide (z.settle < len)
    let s := s.putBar2 (0x3300000 + k * 0x800 + tick % 256 * 8) (sccRecord v tick settling z.sat z.faded z.frozen held)
    let z := { z with
      run := true, restart := false, outs := outs, settle := min len (z.settle + 1), pos := z.pos + 64 * rawHz k
      sat := false, faded := false, frozen := false }
    s.modSlot k (fun _ => if sccTiming k || settling then z else s.sccCounts k v z)

/-- SCC_OUTPUT_TICK: every slot writes its record, then SCC_TICK names the tick (R342). -/
def State.sccTick (s : State) : State :=
  s.onSpine fun s =>
    let tick := (s.get Fld.SCC_TICK_TICK + 1) % 2 ^ 32
    let s := s.setB Fld.SCC_GLB_CTL_SYNC_ALL false
    ((List.range 128).foldl (fun s k => s.sccTickSlot k tick) s).set Fld.SCC_TICK_TICK tick

/-- SCC_SETTLE_END: SETTLE_LEN output samples have passed (R341). -/
def State.sccSettleEnd (s : State) (k : Nat) : State :=
  s.onSpine fun s => s.when (decide (s.get (Fld.SCC_SLOT_STATUS_SETTLE_LEN k) ≤ (s.sccSlot k).settle)) fun s =>
    s.setB (Fld.SCC_SLOT_STATUS_SETTLING k) false

/-! ## Thresholds and delay -/

/-- PERSIST as treated. -/
def State.persist (s : State) (k : Nat) : Nat := max 1 (s.get (Fld.SCC_SLOT_THR_CFG_PERSIST k))

/-- SCC_THRESHOLD_CROSS: PERSIST consecutive samples set or clear HI or LO (R339). -/
def State.sccCross (s : State) (k : Nat) : State :=
  s.onSpine fun s => s.when (!sccTiming k && !s.flag (Fld.SCC_SLOT_STATUS_SETTLING k)) fun s =>
    let z := s.sccSlot k
    let p := s.persist k
    let hi := s.flag (Fld.SCC_SLOT_STATUS_HI k)
    let lo := s.flag (Fld.SCC_SLOT_STATUS_LO k)
    let s := if !s.flag (Fld.SCC_SLOT_THR_CFG_HI_EN k) then s
      else if !hi && decide (p ≤ z.hiUp) then (s.raise (Fld.SCC_SLOT_STATUS_HI k)).raise (Fld.SCC_SLOT_STATUS_HI_EV k)
      else if hi && decide (p ≤ z.hiDown) then s.setB (Fld.SCC_SLOT_STATUS_HI k) false
      else s
    if !s.flag (Fld.SCC_SLOT_THR_CFG_LO_EN k) then s
    else if !lo && decide (p ≤ z.loUp) then (s.raise (Fld.SCC_SLOT_STATUS_LO k)).raise (Fld.SCC_SLOT_STATUS_LO_EV k)
    else if lo && decide (p ≤ z.loDown) then s.setB (Fld.SCC_SLOT_STATUS_LO k) false
    else s

/-- SCC_THRESHOLD_WRITE: THR_HI, THR_LO or THR_CFG of slot `k`; persistence counts restart (R339). -/
def State.sccThrWrite (s : State) (k r : Nat) (v : Word) : State :=
  s.onSpine fun s =>
    (s.writeByCode (Reg.SCC_SLOT_THR_HI k + 4 * r) v).modSlot k (fun z => { z with hiUp := 0, hiDown := 0, loUp := 0, loDown := 0 })

/-! ## Meanings -/

/-- SCC_RAW_SAMPLE (R326). -/
def execSccRawSample (k : Fin 128) (v : Int) (s : State) : Host.Outcome State Fault Refusal := done (s.sccRaw k.val v)

/-- SCC_MID_SAMPLE (R329, R332, R333). -/
def execSccMidSample (k : Fin 128) (s : State) : Host.Outcome State Fault Refusal := done (s.sccMid k.val)

/-- SCC_OUTPUT_TICK (R342). -/
def execSccOutputTick (s : State) : Host.Outcome State Fault Refusal := done s.sccTick

/-- SCC_THRESHOLD_CROSS (R339). -/
def execSccThresholdCross (k : Fin 128) (s : State) : Host.Outcome State Fault Refusal := done (s.sccCross k.val)

/-- SCC_THRESHOLD_WRITE (R339): 0 THR_HI, 1 THR_LO, 2 THR_CFG. -/
def execSccThresholdWrite (k : Fin 128) (r : Fin 3) (v : Word) (s : State) : Host.Outcome State Fault Refusal :=
  done (s.sccThrWrite k.val r.val v)

/-- SCC_DLY_WRITE (R338): the output tick reads the register. -/
def execSccDlyWrite (k : Fin 128) (v : Word) (s : State) : Host.Outcome State Fault Refusal :=
  done (s.onSpine fun s => s.writeByCode (Reg.SCC_SLOT_DLY k.val) v)

/-- SCC_COEF_DATA_ACCESS (R333). -/
def execSccCoefDataAccess (a : RegAccess) (s : State) : Host.Outcome State Fault Refusal := done (s.coefAccess a)

/-- SCC_COEF_LOAD (R333). -/
def execSccCoefLoad (v : Word) (s : State) : Host.Outcome State Fault Refusal := done (s.coefLoad v)

/-- SCC_BANK_SWAP_REQUEST (R334). -/
def execSccBankSwapRequest (k : Fin 128) (v : Word) (s : State) : Host.Outcome State Fault Refusal := done (s.sccFirWrite k.val v)

/-- SCC_FADE_END (R334). -/
def execSccFadeEnd (k : Fin 128) (s : State) : Host.Outcome State Fault Refusal := done (s.sccFadeEnd k.val)

/-- SCC_SLOT_SYNC (R340). -/
def execSccSlotSync (k : Fin 128) (s : State) : Host.Outcome State Fault Refusal := done (s.sccSync k.val)

/-- SCC_SYNC_ALL (R340). -/
def execSccSyncAll (s : State) : Host.Outcome State Fault Refusal := done s.sccSyncAll

/-- SCC_SLOT_EN_RISE (R340). -/
def execSccSlotEnRise (k : Fin 128) (s : State) : Host.Outcome State Fault Refusal := done (s.sccEnable k.val true)

/-- SCC_SLOT_EN_FALL (R340). -/
def execSccSlotEnFall (k : Fin 128) (s : State) : Host.Outcome State Fault Refusal := done (s.sccEnable k.val false)

/-- SCC_SETTLE_END (R341). -/
def execSccSettleEnd (k : Fin 128) (s : State) : Host.Outcome State Fault Refusal := done (s.sccSettleEnd k.val)

end Sys2Proof.Machine
end

