-- ==== Sys2Proof/Machine/Boot.lean ====
section
/-! DEFINITION. The boot ROM (R345 to R362), Berent's start-up, load and overload (R367 to R369), the management
restart (R348). -/

namespace Sys2Proof.Machine

/-! ## The DMA channel that the ROM takes -/

/-- The owner of channels 14 and 15: bit 0 channel 14 with firmware, bit 1 channel 15 with the ROM (R423, R424). -/
def State.dmaOwn (s : State) (bit : Nat) (v : Bool) : State :=
  s.set Fld.DMA_GLB_STATUS_OWN14_15 (putBits (s.get Fld.DMA_GLB_STATUS_OWN14_15) bit 1 (b2n v))

/-! ## Boot sources -/

/-- The ROM waits for GO (R356): it has channel 15 before PUSH_READY rises (R424). -/
def State.pushWait (s : State) : State :=
  let s := (s.dmaHalt 15 9).dmaOwn 1 true
  ((s.set Fld.MGMT_BOOT_STATUS_PHASE 3).raise Fld.MGMT_BOOT_STATUS_PUSH_READY).pulse 8

/-- Every permitted attempt has failed (R355). -/
def State.bootFailed (s : State) : State := (s.set Fld.MGMT_BOOT_STATUS_PHASE 6).pulse 8

/-- The boot ROM begins (R349): FORCE_PUSH and the strap choose the order of Table 12.2. -/
def State.romStart (s : State) (restart : Bool) : State :=
  let s := s.setReg Reg.MGMT_BOOT_STATUS 0
  let s := { s with boot := { s.boot with slot := 0, restart := restart, restartDue := false } }
  let forced := s.flag Fld.MGMT_BOOT_CTL_FORCE_PUSH
  let s := s.setB Fld.MGMT_BOOT_CTL_FORCE_PUSH false
  if forced || s.power.strapBootSrc == 1 then
    ({ s with boot := { s.boot with slot := 2 } }).pushWait
  else s

/-! ## Image verification -/

/-- The opcode by which the ROM reads the image: 1-4-4 fast read if the SFDP table advertises it, else 1-1-4, else 1-1-1 (R350). -/
def flashReadOpcode (has144 has114 : Bool) : Nat := if has144 then 0xEB else if has114 then 0x6B else 0x0B

/-- The byte of an image at an offset; past its end the flash reads erased. -/
def imgNum (img : List Byte) (o n : Nat) : Nat :=
  leNat ((List.range n).map (fun i => img.getD (o + i) 0xFF))

/-- The bytes of an image from an offset. -/
def imgBytes (img : List Byte) (o n : Nat) : List Byte := (List.range n).map (fun i => img.getD (o + i) 0xFF)

/-- The image digest D (R352): header bytes, then the body. -/
def imgDigest (img : List Byte) : List Byte :=
  Config.sha3_512 ((img.take 0x100) ++ ((img.drop 0x2000).take (imgNum img 8 4)))

/-- The part code of the device (Table 0.1). -/
def State.partCode (s : State) : Nat :=
  match s.fuses.variant with
  | .lp9672 => 0x9672
  | .lp9648 => 0x9648

/-- The header checks of Table 12.4, orders 3 to 6, with the length of a pushed image; 0 where all pass. -/
def State.headerCode (s : State) (img : List Byte) (len : Option Nat) : Nat :=
  let body := imgNum img 8 4
  let entry := imgNum img 0xC 4
  let part := imgNum img 0x18 2
  if imgNum img 0 4 ≠ 0x544E5242 ∨ imgNum img 4 2 ≠ 1 ∨ imgNum img 6 2 ≠ 0x100 then 0x02
  else if body = 0 ∨ 1572864 < body ∨ entry % 4 ≠ 0 ∨ body ≤ entry then 0x03
  else if len.any (fun n => n != 8192 + body) then 0x09
  else if (part ≠ 0 ∧ part ≠ s.partCode) ∨ 0xA1 < imgNum img 0x1A 1 then 0x04
  else 0

/-- The checks of R352 on a whole image, orders 7 to 10 of Table 12.4, `readErr` a read or SRAM error. -/
def State.bodyCode (s : State) (img : List Byte) (readErr : Bool) : Nat :=
  let pk := imgBytes img 0x100 2592
  if s.fuses.rootKeyHash.any (fun h => Config.sha3_512 pk != h) then 0x05
  else if readErr then 0x08
  else if !Config.mlDsaVerify pk (imgBytes img 0xB20 4627) (imgDigest img) then 0x06
  else if imgNum img 0x14 4 < s.fuses.svn then 0x07
  else 0

/-- The checks of Table 12.4 in their order; 0 where the image is accepted. -/
def State.imageCode (s : State) (img : List Byte) (sfdp : Bool) (len : Option Nat) (readErr : Bool) : Nat :=
  if s.fuses.rootKeyHash.isNone then 0x0A
  else if !sfdp then 0x01
  else
    let h := s.headerCode img len
    if h ≠ 0 then h else s.bodyCode img readErr

/-- MEAS0 (R359); the straps byte is GLB_STRAP[7:0]. -/
def State.meas0 (s : State) : List Byte :=
  let straps := b2n s.power.strapTwin + 2 * s.power.strapBootSrc + 8 * b2n s.power.strapTest + 16 * b2n s.power.twinTaken
    + 32 * b2n (s.power.strapTwin && decide (s.fuses.variant = .lp9648))
  Config.sha3_512 (leBytes 4 Config.romId ++ leBytes 2 s.partCode ++ leBytes 1 0xA1 ++ leBytes 1 straps
    ++ s.fuses.rootKeyHash.getD [] ++ leBytes 4 s.fuses.svn ++ leBytes 4 s.fuses.lockWord)

/-- MEAS2 is extended with an event record (R359). -/
def State.extendMeas (s : State) (typ value : Nat) : State :=
  let r := leBytes 4 typ ++ leBytes 4 value ++ List.replicate 8 0
  { s with boot := { s.boot with meas2 := Config.sha3_512 (s.boot.meas2 ++ Config.sha3_512 r) } }

/-- The image is accepted and control passes to ENTRY (R353, R359, R360). -/
def State.imageAccepted (s : State) (img : List Byte) (src : Nat) : State :=
  let ver := imgNum img 0x10 4
  let s := { s with boot := { s.boot with
    meas0 := s.meas0
    meas1 := imgDigest img
    meas2 := if s.boot.restart then s.boot.meas2 else List.replicate 64 0
    fwVer := ver
    seedLocked := true } }
  let s := ((s.set Fld.MGMT_BOOT_STATUS_PHASE 4).set Fld.MGMT_BOOT_STATUS_SRC_USED src).setB Fld.MGMT_BOOT_STATUS_PUSH_READY false
  (s.set Fld.MGMT_FW_STATE_SVN (imgNum img 0x14 4)).set Fld.MGMT_FW_STATE_FW_VER (ver / 65536)

/-- The ROM tries flash slots: it runs, no image has been accepted, a slot is left. -/
def State.romTries (s : State) (slot : Nat) : Bool :=
  s.spineOn && s.fwState == 0 && decide (s.get Fld.MGMT_BOOT_STATUS_PHASE < 3) && s.boot.slot == slot

/-- A flash slot is read and checked (R350, R353, R355). -/
def State.flashAttempt (s : State) (slot : Nat) (sfdp : Bool) (img : List Byte) (readErr : Bool) : State :=
  s.when (s.romTries slot) fun s =>
    let code := s.imageCode img sfdp none readErr
    let s := s.set Fld.MGMT_BOOT_STATUS_PHASE (if sfdp then 2 else 1)
    if code = 0 then s.imageAccepted img (1 + slot)
    else
      let s := (s.set Fld.MGMT_BOOT_STATUS_ERR code).set
        (if slot = 0 then Fld.MGMT_BOOT_STATUS_ERR_A else Fld.MGMT_BOOT_STATUS_ERR_B) code
      -- a flash without an SFDP signature fails both slots
      let s := if code = 1 then s.set Fld.MGMT_BOOT_STATUS_ERR_B code else s
      let next := if code = 1 then 2 else slot + 1
      let s := { s with boot := { s.boot with slot := next } }
      if next < 2 then s
      else if s.power.strapBootSrc = 2 then s.bootFailed
      else s.pushWait

/-- FLASH_BOOT_ATTEMPT (R353): a flash slot is read, hashed and checked in the order of Table 12.4. -/
def execFlashBootAttempt (slot : Fin 2) (sfdp : Bool) (img : List Byte) (readErr : Bool) (s : State) :
    Host.Outcome State Fault Refusal := done (s.flashAttempt slot sfdp img readErr)

/-! ## Host push -/

/-- GO is written while PUSH_READY = 1 (R356). -/
def State.pushGo (s : State) : State :=
  s.onSpine fun s => s.when (s.flag Fld.MGMT_BOOT_STATUS_PUSH_READY) fun s =>
    (s.raise Fld.MGMT_PUSH_CTL_GO).setB Fld.MGMT_BOOT_STATUS_PUSH_READY false

/-- PUSH_GO (R356): a write of GO while PUSH_READY = 1 starts the one-time fetch of a pushed image. -/
def execPushGo (s : State) : Host.Outcome State Fault Refusal := done s.pushGo

/-- The pushed image has been fetched and is checked (R353, R355, R356). -/
def State.pushDone (s : State) (img : List Byte) (readErr : Bool) : State :=
  s.onSpine fun s => s.when (s.flag Fld.MGMT_PUSH_CTL_GO && s.fwState == 0) fun s =>
    let s := s.setB Fld.MGMT_PUSH_CTL_GO false
    let code := s.imageCode img true (some (s.get Fld.MGMT_PUSH_LEN_V)) readErr
    if code = 0 then s.imageAccepted img 3
    else ((s.set Fld.MGMT_BOOT_STATUS_ERR code).raise Fld.MGMT_BOOT_STATUS_PUSH_READY).bootFailed

/-- PUSH_FETCH_COMPLETE (R356): the pushed image has been fetched by DMA channel 15 and is checked. -/
def execPushFetchComplete (img : List Byte) (readErr : Bool) (s : State) : Host.Outcome State Fault Refusal :=
  done (s.pushDone img readErr)

/-! ## Load and overload -/

/-- BUSY_HI as in force. -/
def State.busyHi (s : State) : Nat :=
  let v := s.get Fld.MGMT_BUSY_CFG_BUSY_HI
  if 1 ≤ v ∧ v ≤ 192 then v else 48

/-- BUSY_LO as in force. -/
def State.busyLo (s : State) : Nat :=
  let v := s.get Fld.MGMT_BUSY_CFG_BUSY_LO
  if v < s.busyHi then v else s.busyHi / 3

/-- Messages waiting in rings 1 to 3 (R367, R381). -/
def State.backlog (s : State) : Nat := (s.mbx.posts.filter (fun m => m.ring != 0)).length

/-- BACKLOG is shown, and overload entered or left (R368). At entry every waiting message counts as old (R381). -/
def State.loadFollow (s : State) : State :=
  let s := s.set Fld.MGMT_LOAD_BACKLOG s.backlog
  if !s.berentRuns then s
  else if s.flag Fld.MGMT_FW_STATE_OVERLOAD then
    if s.backlog ≤ s.busyLo ∧ s.get Fld.MGMT_LOAD_LOAD < 80 then s.setB Fld.MGMT_FW_STATE_OVERLOAD false else s
  else if s.busyHi < s.backlog ∨ 3 ≤ s.boot.hot then
    { (s.raise Fld.MGMT_FW_STATE_OVERLOAD) with
      mbx := { s.mbx with posts := s.mbx.posts.map (fun m => { m with ovl := false }) } }
  else s

/-- A load window of 100 ms ends (R367, R368). -/
def State.loadWindow (s : State) (load : Nat) : State :=
  s.when s.berentRuns fun s =>
    let s := s.set Fld.MGMT_LOAD_LOAD load
    ({ s with boot := { s.boot with hot := if 95 ≤ load then s.boot.hot + 1 else 0 } }).loadFollow

/-- LOAD_WINDOW_END (R367): a 100 ms load window ends and LOAD is updated. -/
def execLoadWindowEnd (load : Fin 101) (s : State) : Host.Outcome State Fault Refusal := done (s.loadWindow load)

/-! ## Start-up of Berent -/

/-- A command of the retained record is answered OP_ABORTED (R390). -/
def State.answerRetained (s : State) (l : List Taken) : State := l.foldl (fun s c => s.answerAborted c) s

/-- A trap held in NMI_PEND is taken once Berent enables traps, and its events enter the retained record (R447, Table 16.2). -/
def State.nmiDeliver (s : State) : State :=
  { (s.setB Fld.FCR_STATUS_NMI_PEND false) with
    boot := { s.boot with trapped := s.boot.trapped ++ s.boot.trapDue, trapDue := [] } }

/-- The state in which Berent resumes after a restart (R348): the retained one, DEGRADED re-evaluated; without a good record
or with another release, MAINTENANCE. -/
def State.resumed (s : State) (good : Bool) : Nat :=
  match s.boot.retained with
  | none => 5
  | some r =>
    if good && r.release == s.boot.fwVer / 65536 then
      if r.state = 3 ∨ r.state = 4 then (if s.degrading = 0 then 3 else 4) else r.state
    else 5

/-- Berent's start-up ends (R348, R356, R358, R424): READY, or the state that a management restart resumes. The STATE event of a
start that is no restart has no stated cause byte (log entry 3). -/
def State.berentReady (s : State) (good : Bool) : State :=
  s.onSpine fun s => s.when (s.get Fld.MGMT_BOOT_STATUS_PHASE == 4 && s.fwState == 0) fun s =>
    let s := ((s.set Fld.MGMT_BOOT_STATUS_PHASE 5).dmaOwn 1 false).dmaOwn 0 true
    let s : State := if s.boot.restart && !good then { s with boot := { s.boot with trapped := [] } } else s
    let s := s.nmiDeliver
    let s : State :=
      if s.boot.restart then
        let new := s.resumed good
        let s := match s.boot.retained with
          | some r => if new = 5 ∧ !(good && r.release == s.boot.fwVer / 65536) then
              { s with boot := { s.boot with maintFrom := 2 } } else s.answerRetained r.aborted
          | none => { s with boot := { s.boot with maintFrom := 2 } }
        s.setFw new 3
      else
        let (cause, s) := s.free
        s.setFw 1 (cause % 256)
    ({ s with boot := { s.boot with restart := false, retained := none } }).loadFollow.watch

/-- BERENT_READY (R358): Berent completes start-up and enters READY; after a management restart `good` is the verdict on the
CRC-32C of its retained record (R348). -/
def execBerentReady (good : Bool) (s : State) : Host.Outcome State Fault Refusal := done (s.berentReady good)

/-! ## Watchdog and management restart -/

/-- MGMT_WATCHDOG_LAPSE (R347): Berent fails to service the management watchdog within 100 ms; fault source 5 is due. -/
def execMgmtWatchdogLapse (s : State) : Host.Outcome State Fault Refusal :=
  done (s.when s.berentRuns fun s => s.happen 5)

/-- What the end of a long operation by an abort leaves (R390): a rebuild CHECKED = 0, a re-synchronisation OUT_OF_STEP, a
pattern test its lines without generator and checker. -/
def State.abortEffect (s : State) (o : LongOp) : State :=
  match o.cmd.opcode with
  | 0x0600 => s.resyncAbort
  | 0x0800 => (bitList 96 o.target).foldl (fun s n =>
      s.onLine n fun s =>
        let s := ((s.setB (Fld.LCH_PRBS_CFG_GEN_EN n) false).setB (Fld.LCH_PRBS_CFG_CHK_EN n) false).setB
          (Fld.LCH_PRBS_STATUS_SYNC n) false
        ((s.modLine n (fun l => { l with prbs := Prbs.reset })).modLane n (fun l => { l with words := [] })).fauRestart n) s
  | _ => s

/-- Every long operation ends at a management restart (R390). -/
def State.endOps (s : State) : State :=
  (List.range 8).foldl (fun s k =>
    match s.op k with
    | none => s
    | some o => ((s.abortEffect o).putOp k none).setB (Fld.MBX_OP_PROG_ACTIVE k) false) s

/-- The commands whose slots a restart leaves to be answered (R390). -/
def State.openOps (s : State) : List Taken :=
  s.mbx.ops.filterMap (fun o => o.bind (fun o => if o.auto then none else some o.cmd))

/-- The Mule is reset and its ROM runs again (R348). -/
def State.managementRestart (s : State) : State :=
  s.when (s.spineOn && s.boot.restartDue) fun s =>
    let s : State := if s.fwState = 0 then s else
      { s with boot := { s.boot with retained := some ⟨s.get Fld.MGMT_FW_STATE_FW_VER, s.fwState, s.openOps⟩ } }
    let s := s.endOps
    let s := { s with mbx := { s.mbx with busy := none, access := none } }
    let s := { s with buses := s.buses.map (fun (b : Bus) => { b with hostDue := false }) }
    let s := (s.set Fld.MGMT_FW_STATE_STATE 0).setB Fld.MGMT_FW_STATE_OVERLOAD false
    let s := s.setB Fld.MGMT_PUSH_CTL_GO false
    s.romStart true

/-- MANAGEMENT_RESTART (R348): the Mule is reset and the boot ROM re-runs while every other block keeps running. -/
def execManagementRestart (s : State) : Host.Outcome State Fault Refusal := done s.managementRestart

end Sys2Proof.Machine
end

