-- ==== Sys2Proof/Machine/Mbx.lean ====
section
/-! DEFINITION. The mailbox (R370 to R391): doorbells, the order of service, the checks that every message passes, and the
commands that concern Berent itself. -/

namespace Sys2Proof.Machine

/-! ## Doorbells -/

/-- The messages of ring `r` that a doorbell with `pi` covers, those already waiting unchanged (R373). -/
def State.post (s : State) (r : Fin 4) (pi : Nat) : State :=
  let taken := s.get (Fld.MBX_CI_TAKEN r.val)
  let n := (pi + 65536 - taken) % 65536
  let ofs := fun (m : Posted) => (m.num + 65536 - taken) % 65536
  let kept := s.mbx.posts.filter (fun m => m.ring != r || decide (ofs m < n))
  let nums := ((List.range n).map (fun i => (taken + i) % 65536)).filter (fun k => !kept.any (fun m => m.ring == r && m.num == k))
  let ovl := s.flag Fld.MGMT_FW_STATE_OVERLOAD
  let new := nums.map (fun k => (⟨r, k, 0, ovl⟩ : Posted))
  { s with mbx := { s.mbx with posts := kept ++ new } }

/-- MBX_DOORBELL: the messages up to PI are posted, or the write is ignored with DB_ERR_EV (R373). -/
def State.doorbell (s : State) (r : Fin 4) (pi : Nat) : State :=
  s.onSpine fun s =>
    if 64 < (pi + 65536 - s.get (Fld.MBX_CI_TAKEN r.val)) % 65536 then s.orBits Fld.MBX_STATUS_DB_ERR_EV (2 ^ r.val)
    else ((s.set (Fld.MBX_DB_PI r.val) pi).post r pi).loadFollow

/-- MBX_DOORBELL (R373): a doorbell write posts messages up to PI or is ignored with DB_ERR_EV. -/
def execMbxDoorbell (ring : Fin 4) (pi : BitVec 16) (s : State) : Host.Outcome State Fault Refusal :=
  done (s.doorbell ring pi.toNat)

/-- MBX_EVQ_RD takes a value that lies between WR less the queue's records and WR; waiting events move on (R386, R397). -/
def State.evqRd (s : State) (v : Nat) : State :=
  s.onSpine fun s =>
    match s.mbx.evq with
    | none => s
    | some (_, size) =>
      s.when (decide ((s.get Fld.MBX_EVQ_WR_V + 2 ^ 32 - v) % 2 ^ 32 ≤ size / 64)) fun s =>
        let s := s.set Fld.MBX_EVQ_RD_V v
        if s.berentRuns then s.moveEvents else s

/-- MBX_EVQ_RD_WRITE (R386): host software advances MBX_EVQ_RD and held events are written into the freed space. -/
def execMbxEvqRdWrite (v : BitVec 32) (s : State) : Host.Outcome State Fault Refusal := done (s.evqRd v.toNat)

/-! ## The order of service -/

/-- The slot of a message still waits for the answer to its previous message (R376). -/
def State.slotHeld (s : State) (m : Posted) : Bool :=
  let on := fun (c : Taken) => c.ring == m.ring && c.slot == m.num % 64
  s.mbx.ops.any (fun o => o.any (fun o => !o.auto && on o.cmd)) || s.mbx.busy.any on

/-- The message at the head of ring `r`, unless its slot holds it back. -/
def State.ringHead (s : State) (r : Fin 4) : Option Posted :=
  (s.mbx.posts.find? (fun m => m.ring == r)).filter (fun m => !s.slotHeld m)

/-- The message that Berent takes next (R378, R379): ring 0 first; none of rings 1 to 3 while a command waits on a bus; one
that 8 starts from other rings have passed, the oldest doorbell first; else the lowest-numbered ring. -/
def State.nextPost (s : State) : Option Posted :=
  match s.ringHead 0 with
  | some m => some m
  | none =>
    if s.mbx.busy.isSome then none
    else
      let heads := [1, 2, 3].filterMap s.ringHead
      match s.mbx.posts.find? (fun m => decide (8 ≤ m.passed) && heads.any (fun h => h == m)) with
      | some m => some m
      | none => heads.head?

/-- A message is taken: TAKEN counts it, and the messages of the other rings 1 to 3 see one more start (R373, R379). -/
def State.takePost (s : State) (m : Posted) : State :=
  let posts := (s.mbx.posts.filter (fun x => !(x.ring == m.ring && x.num == m.num))).map (fun (x : Posted) =>
    if m.ring != 0 && x.ring != m.ring then { x with passed := x.passed + 1 } else x)
  ({ s with mbx := { s.mbx with posts := posts } }.add (Fld.MBX_CI_TAKEN m.ring.val) 1).loadFollow

/-! ## Checks -/

/-- What Table 13.8 says of an opcode: marked U, the states, the lengths. -/
structure OpRow where
  urgent : Bool
  states : List Nat
  low : Nat
  high : Nat

/-- Table 13.8. EPOCH_REBUILD accepts 8 or 24 bytes. -/
def opRow (op : Nat) : Option OpRow :=
  let r := [1, 2, 3, 4, 5]
  let c := [2, 3, 4, 5]
  match op with
  | 0x0001 => some ⟨true, r, 0, 4080⟩
  | 0x0002 => some ⟨true, r, 0, 0⟩
  | 0x0003 => some ⟨false, r, 20, 20⟩
  | 0x0010 => some ⟨false, [1], 4, 4⟩
  | 0x0011 => some ⟨false, [2], 0, 0⟩
  | 0x0012 => some ⟨false, [2, 3, 4], 0, 0⟩
  | 0x0013 => some ⟨false, [5], 0, 0⟩
  | 0x0014 => some ⟨true, r, 4, 4⟩
  | 0x0100 => some ⟨false, c, 8, 8⟩
  | 0x0101 => some ⟨false, c, 4, 4⟩
  | 0x0102 => some ⟨false, r, 8, 136⟩
  | 0x0103 => some ⟨false, c, 4, 4⟩
  | 0x0200 => some ⟨false, c, 8, 24⟩
  | 0x0300 => some ⟨false, c, 8, 8⟩
  | 0x0301 => some ⟨false, c, 16, 16⟩
  | 0x0302 => some ⟨false, c, 4, 4⟩
  | 0x0400 => some ⟨false, c, 3, 98⟩
  | 0x0401 => some ⟨false, c, 8, 8⟩
  | 0x0500 => some ⟨false, c, 16, 16⟩
  | 0x0501 => some ⟨false, c, 4, 4⟩
  | 0x0600 => some ⟨false, c, 0, 0⟩
  | 0x0700 => some ⟨false, [5], 20, 20⟩
  | 0x0701 => some ⟨true, r, 0, 0⟩
  | 0x0702 => some ⟨false, [5], 4, 4⟩
  | 0x0703 => some ⟨false, r, 52, 52⟩
  | 0x0800 => some ⟨false, [5], 20, 20⟩
  | _ => none

/-- The opcode accepts a length. -/
def opLength (op n : Nat) : Bool :=
  match opRow op with
  | none => false
  | some x => decide (x.low ≤ n ∧ n ≤ x.high) && !(op == 0x0200 && n != 8 && n != 24)

/-- A BAD_ARG answer whose DETAIL and VALUE the manual does not give. -/
def State.badArg (s : State) (c : Taken) (offset : Nat) : State :=
  let (d, s) := s.free
  let (v, s) := s.free
  s.answerBad c offset (d % 256) (v % 2 ^ 32)

/-- The BUSY_RETRY answer (R381). Execution times are not the model's, so their mean, and with it the product that RETRY_US holds
while BACKLOG exceeds BUSY_LO, is a free value. -/
def State.answerBusy (s : State) (c : Taken) : State :=
  let (v, s) := s.free
  let us := max 100 (min 10000000 (if s.backlog ≤ s.busyLo then 0 else v))
  (s.add Fld.MGMT_LOAD_BUSY_CNT 1).answer c 0x0101 (leBytes 4 us ++ leBytes 1 (min s.backlog 255) ++ List.replicate 3 0)

/-- The checks of Table 13.4 in their order, then the command (R382). -/
def State.checked (s : State) (c : Taken) (len crc : Nat) (fresh : Bool) (pay : List Byte)
    (body : State → Taken → List Byte → State) : State :=
  if 4080 < len then s.answer c 0x0107 []
  else
    let head := s.bar2Bytes (slotAddr c.ring.val c.slot) 12
    if crc32c (head ++ leBytes 4 0 ++ pay) ≠ crc then s.answer c 0x0108 []
    else match opRow c.opcode with
      | none => s.answer c 0x0106 []
      | some x =>
        if !opLength c.opcode len then s.answer c 0x0107 []
        else if c.ring = 0 ∧ !x.urgent then s.badArg c 0
        else if !x.states.contains c.state then s.answerState c
        else if c.ring ≠ 0 ∧ c.ovl ∧ fresh then s.answerBusy c
        else body s c pay

/-- The next message is taken and handled, if its opcode is one of those that `p` names. -/
def State.serveIf (s : State) (p : Nat → Bool) (body : State → Taken → List Byte → State) : State :=
  s.when s.berentRuns fun s =>
    match s.nextPost with
    | none => s
    | some m =>
      let a := slotAddr m.ring.val (m.num % 64)
      let op := s.bar2Num a 2
      s.when (p op) fun s =>
        let len := s.bar2Num (a + 4) 4
        let c : Taken := ⟨m.ring, m.num % 64, op, s.bar2Num (a + 2) 2, bitOf (s.bar2Num (a + 8) 2) 1,
          s.flag Fld.MGMT_FW_STATE_OVERLOAD, s.fwState⟩
        (s.takePost m).checked c len (s.bar2Num (a + 12) 4) m.ovl (s.bar2Bytes (a + 16) (if len ≤ 4080 then len else 0)) body

/-- The next message is taken and handled, if it carries opcode `op`. -/
def State.serve (s : State) (op : Nat) (body : State → Taken → List Byte → State) : State :=
  s.serveIf (fun o => o == op) body

/-- An `n`-byte number of a payload. -/
def payNum (pay : List Byte) (o n : Nat) : Nat := leNat ((pay.drop o).take n)

/-- A DMA reference at offset `o` keeps the rules of R384, its length those that `ok` states. -/
def refOk (pay : List Byte) (o dir : Nat) (ok : Nat → Bool) : Bool :=
  payNum pay o 8 % 8 == 0 && ok (payNum pay (o + 8) 4) && payNum pay (o + 12) 2 == dir

/-- A power of two from `a` to `b`, exponents. -/
def isPow (a b n : Nat) : Bool := (List.range (b + 1)).any (fun k => decide (a ≤ k) && n == 2 ^ k)

/-! ## Commands about Berent -/

/-- UNKNOWN_OPCODE (R382): a message whose opcode is not in Table 13.8 is answered UNKNOWN_OP. -/
def execUnknownOpcode (s : State) : Host.Outcome State Fault Refusal :=
  done (s.serveIf (fun o => (opRow o).isNone) (fun s _ _ => s))

/-- PING (R391): the PING command echoes its payload. -/
def execPing (s : State) : Host.Outcome State Fault Refusal :=
  done (s.serve 0x0001 (fun s c pay => s.answerOk c pay))

/-- The status of Table 13.8. -/
def State.statusBytes (s : State) : List Byte :=
  let cfg := if s.confirmed then (if s.twin then 2 else 1) else 0
  let act := (List.range 8).foldl (fun m k => if (s.op k).isSome then m + 2 ^ k else m) 0
  leBytes 1 s.fwState ++ leBytes 1 cfg ++ leBytes 1 (s.get Fld.MGMT_LOAD_LOAD) ++ leBytes 1 (min s.backlog 255)
    ++ leBytes 4 s.boot.fwVer ++ leBytes 1 (s.get Fld.MGMT_FW_STATE_SVN) ++ leBytes 1 (s.get Fld.MGMT_FW_STATE_OVERLOAD)
    ++ leBytes 1 act ++ leBytes 1 0 ++ leBytes 4 s.mbx.evSeq

/-- GET_STATUS (R391): the GET_STATUS command returns state, configuration, load and event sequence. -/
def execGetStatus (s : State) : Host.Outcome State Fault Refusal :=
  done (s.serve 0x0002 (fun s c _ => s.answerOk c s.statusBytes))

/-- EVQ_SET: the queue is replaced, and what waits moves into it (R386). -/
def State.evqSet (s : State) (c : Taken) (pay : List Byte) : State :=
  if !refOk pay 0 1 (isPow 12 20) || payNum pay 0 8 % 4096 != 0 then s.badArg c 0
  else
    let s := { s with mbx := { s.mbx with
      evq := some (payNum pay 0 8, payNum pay 8 4), tcaFwd := bitOf (payNum pay 16 4) 0 } }
    let s := ((s.set Fld.MBX_EVQ_WR_V 0).set Fld.MBX_EVQ_RD_V 0).raise Fld.MBX_STATUS_EVQ_ON
    (s.answerOk c []).moveEvents

/-- EVQ_SET (R386): the EVQ_SET command names the host event queue and sets TCA forwarding. -/
def execEvqSet (s : State) : Host.Outcome State Fault Refusal := done (s.serve 0x0003 State.evqSet)

/-- The parameters of the signature engines as firmware sets them at confirmation (R423, Table 15.6). -/
def State.signatureEngines (s : State) : State :=
  [12, 13].foldl (fun s k =>
    (((s.setReg (Reg.CVU_CFG k) 64).set64 (Reg.CVU_POLY_LO k) 0x42F0E1EBA9EA3693).set64 (Reg.CVU_INIT_LO k) (2 ^ 64 - 1)).set64
      (Reg.CVU_XOROUT_LO k) (2 ^ 64 - 1)) s

/-- CONFIG_CONFIRM: the configuration taken is confirmed, the other one refused (R262, R263, R359). -/
def State.configConfirm (s : State) (c : Taken) (pay : List Byte) : State :=
  let v := payNum pay 0 1
  if v ≠ 1 ∧ v ≠ 2 then s.badArg c 0
  else if (v == 2) != s.twin then s.answerState c
  else
    let s := (s.extendMeas 1 v).confirm
    let s := if s.twin then s.signatureEngines else s
    ((s.setFw 2 0).answerOk c []).watch

/-- CONFIG_CONFIRM (R262): the CONFIG_CONFIRM command confirms the configuration taken or is refused. -/
def execConfigConfirm (s : State) : Host.Outcome State Fault Refusal := done (s.serve 0x0010 State.configConfirm)

/-- ENTER_SERVICE (R364): the ENTER_SERVICE command moves Berent from CONFIGURED to IN_SERVICE or DEGRADED. -/
def execEnterService (s : State) : Host.Outcome State Fault Refusal :=
  done (s.serve 0x0011 (fun s c _ =>
    let new := if s.degrading = 0 then 3 else 4
    (s.setFw new 0).answerIn c new 0 []))

/-- ENTER_MAINTENANCE (R364): the ENTER_MAINTENANCE command moves Berent into MAINTENANCE. -/
def execEnterMaintenance (s : State) : Host.Outcome State Fault Refusal :=
  done (s.serve 0x0012 (fun s c _ =>
    (({ s with boot := { s.boot with maintFrom := s.fwState } }).setFw 5 0).answerOk c []))

/-- A long operation is aborted: its effects, then its answer OP_ABORTED (R390). -/
def State.abortOp (s : State) (k : Nat) : State :=
  match s.op k with
  | none => s
  | some o => (s.abortEffect o).opEnd k 0x010A []

/-- LEAVE_MAINTENANCE: pattern tests are aborted and Berent returns to the state it came from (R364, R390). -/
def State.leaveMaintenance (s : State) (c : Taken) : State :=
  if !(s.opsOf 0x0700).isEmpty then s.answerNoRes c
  else
    let s := (s.opsOf 0x0800).foldl State.abortOp s
    let from' := s.boot.maintFrom
    let new := if from' = 3 ∨ from' = 4 then (if s.degrading = 0 then 3 else 4) else from'
    (s.setFw new 0).answerOk c []

/-- LEAVE_MAINTENANCE (R390): the LEAVE_MAINTENANCE command aborts pattern tests and returns to the previous state. -/
def execLeaveMaintenance (s : State) : Host.Outcome State Fault Refusal :=
  done (s.serve 0x0013 (fun s c _ => s.leaveMaintenance c))

/-- OP_CANCEL: the operation in an entry ends, or the command is answered BAD_ARG (R390). -/
def State.opCancel (s : State) (c : Taken) (pay : List Byte) : State :=
  match s.op (payNum pay 0 1) with
  | none => s.badArg c 0
  | some o =>
    if o.cmd.opcode = 0x0700 ∧ o.writing then s.badArg c 0
    else (s.abortOp (payNum pay 0 1)).answerOk c []

/-- OP_CANCEL (R390): the OP_CANCEL command ends the long operation in an entry, which is answered OP_ABORTED. -/
def execOpCancel (s : State) : Host.Outcome State Fault Refusal := done (s.serve 0x0014 State.opCancel)

/-- MGMT_RESTART (R348): the MGMT_RESTART command is answered and a management restart is due. -/
def execMgmtRestart (s : State) : Host.Outcome State Fault Refusal :=
  done (s.serve 0x0701 (fun s c _ => ({ s with boot := { s.boot with restartDue := true } }).answerOk c []))

/-- OTP_PROGRAM: the fused SVN is raised by the guarded write of GLB_OTP_PROG (R354, R392, R412). -/
def State.otpProgram (s : State) (c : Taken) (pay : List Byte) : State :=
  let v := payNum pay 0 1
  if v ≤ s.fuses.svn ∨ s.get Fld.MGMT_FW_STATE_SVN < v then s.badArg c 0
  else ({ s with fuses := { s.fuses with svn := v } }).answerOk c (leBytes 1 v ++ List.replicate 3 0)

/-- OTP_PROGRAM (R354): the OTP_PROGRAM command raises the fused SVN. -/
def execOtpProgram (s : State) : Host.Outcome State Fault Refusal := done (s.serve 0x0702 State.otpProgram)

/-- The quote of Table 12.6. -/
def State.quote (s : State) (nonce : List Byte) : List Byte :=
  let body := leBytes 4 0x544F5551 ++ leBytes 2 1 ++ leBytes 2 0 ++ leBytes 4 264
    ++ leBytes 4 s.boot.fwVer ++ leBytes 4 (s.get Fld.MGMT_FW_STATE_SVN)
    ++ leBytes 1 s.fwState ++ leBytes 1 (s.get Fld.MGMT_BOOT_STATUS_SRC_USED) ++ leBytes 2 0
    ++ leBytes 8 s.tk.sec ++ leBytes 4 s.tk.ns ++ leBytes 4 0
    ++ nonce ++ s.boot.meas0 ++ s.boot.meas1 ++ s.boot.meas2
  body ++ Config.deviceSignature (Config.sha3_512 body)

/-- ATTEST: the certificate or a quote goes to the host buffer (R361, R362). -/
def State.attest (s : State) (c : Taken) (pay : List Byte) : State :=
  let kind := payNum pay 0 1
  let need := if kind = 0 then 7251 else 8192
  if 1 < kind then s.badArg c 0
  else if !refOk pay 36 1 (fun n => decide (need ≤ n)) then s.badArg c 36
  else if !s.hostWrites then s.answer c 0x0109 (leBytes 4 0)
  else
    let bs := if kind = 0 then Config.deviceCertificate s.fuses.serial else s.quote ((pay.drop 4).take 32)
    let n := if kind = 0 then 7251 else 4891
    (s.putHost (payNum pay 36 8) ((bs ++ List.replicate n 0).take n)).answerOk c (leBytes 4 n)

/-- ATTEST (R362): the ATTEST command writes the device certificate or a signed quote into a host buffer. -/
def execAttest (s : State) : Host.Outcome State Fault Refusal := done (s.serve 0x0703 State.attest)

end Sys2Proof.Machine
end

