-- ==== Sys2Proof/Machine/Cvu.lean ====
section
/-! DEFINITION. The check-value units (R423, R436 to R440). -/

namespace Sys2Proof.Machine

/-- Check-value unit `k`. -/
def State.cvuOf (s : State) (k : Nat) : CvuChan := s.cvu.getD k CvuChan.reset

/-- The state with a check-value unit changed. -/
def State.modCvu (s : State) (k : Nat) (f : CvuChan → CvuChan) : State := { s with cvu := modD CvuChan.reset s.cvu k f }

/-- A write to unit `k` is taken: host software's only to a unit it owns (R423). -/
def State.cvuMay (s : State) (by' : Agent) (k : Nat) : Bool :=
  match by' with
  | .host => s.cvuHost k
  | .firmware => true

/-- A byte through the register of a unit (R437). -/
def CvuChan.byte (c : CvuChan) (b : Byte) : CvuChan := { c with reg := crcByte c.width c.poly c.refin c.reg b }

/-- The fold of SEQ, least significant byte first; SEQ then increases by 1 (R436). -/
def CvuChan.foldSeq (c : CvuChan) : CvuChan :=
  { ((leBytes 4 c.seq).foldl CvuChan.byte c) with seq := (c.seq + 1) % 2 ^ 32, left := c.seg }

/-- A data byte, with a fold ahead of every further SEG bytes (R436). -/
def CvuChan.feed (c : CvuChan) (b : Byte) : CvuChan :=
  let c := if c.fold && c.seg != 0 && c.left == 0 then c.foldSeq else c
  { c.byte b with left := c.left - 1 }

/-- The value of RES (R437). -/
def CvuChan.result (c : CvuChan) : Nat := crcResult c.width c.refout c.xorout c.reg

/-- A unit as START latches it (R436, Table 15.8). -/
def State.cvuLatch (s : State) (k : Nat) : CvuChan :=
  let w := s.get (Fld.CVU_CFG_WIDTH k)
  let width := if 1 ≤ w ∧ w ≤ 64 then w else 32
  { width := width, refin := s.flag (Fld.CVU_CFG_REFIN k), refout := s.flag (Fld.CVU_CFG_REFOUT k)
    fold := s.flag (Fld.CVU_CFG_FOLD_EN k), seg := s.get (Fld.CVU_CFG_SEG k), poly := s.get64 (Reg.CVU_POLY_LO k)
    xorout := s.get64 (Reg.CVU_XOROUT_LO k), reg := s.get64 (Reg.CVU_INIT_LO k) % 2 ^ width, left := 0
    seq := (s.cvuOf k).written.getD (s.get (Fld.CVU_SEQ_V k)), written := none }

/-- Result and next fold value of a unit shown in its registers. -/
def State.cvuShow (s : State) (k : Nat) : State :=
  (s.set64 (Reg.CVU_RES_LO k) (s.cvuOf k).result).set (Fld.CVU_SEQ_V k) (s.cvuOf k).seq

/-- A write of CVU_SEQ: after START it waits for the next one (R436). -/
def State.cvuSeq (s : State) (k v : Nat) : State :=
  if s.flag (Fld.CVU_STATUS_STARTED k) then s.modCvu k (fun c => { c with written := some v }) else s.set (Fld.CVU_SEQ_V k) v

/-- CVU_START: the parameters are latched, INIT loaded, SEQ folded ahead of the data (R436, R438). -/
def State.cvuStart (s : State) (by' : Agent) (k : Nat) : State :=
  s.onSpine fun s =>
    if !s.cvuMay by' k then s.raise (Fld.CVU_STATUS_RSV_EV k)
    else if s.flag (Fld.CVU_STATUS_DMA_OWNED k) then s.raise (Fld.CVU_STATUS_REFUSED_EV k)
    else
      let c := s.cvuLatch k
      let c := if c.fold then c.foldSeq else c
      (((s.modCvu k (fun _ => c)).raise (Fld.CVU_STATUS_STARTED k)).set (Fld.CVU_BYTES_V k) 0).cvuShow k

/-- Data reaches a unit; one that has not been started discards it (R438). -/
def State.cvuFeed (s : State) (k : Nat) (bs : List Byte) : State :=
  if !s.flag (Fld.CVU_STATUS_STARTED k) then s.raise (Fld.CVU_STATUS_REFUSED_EV k)
  else ((s.modCvu k (fun c => bs.foldl CvuChan.feed c)).add (Fld.CVU_BYTES_V k) bs.length).cvuShow k

/-- A DATA write: from the owner, and not while a DMA run feeds the unit (R423, R438). -/
def State.cvuData (s : State) (by' : Agent) (k : Nat) (bs : List Byte) : State :=
  s.onSpine fun s =>
    if !s.cvuMay by' k then s.raise (Fld.CVU_STATUS_RSV_EV k)
    else if s.flag (Fld.CVU_STATUS_DMA_OWNED k) then s.raise (Fld.CVU_STATUS_REFUSED_EV k)
    else s.cvuFeed k bs

/-- A unit fed with the descriptors of epoch `e`, with the mailbox parameters and a fold of the flow index ahead of each (R198,
R438, Table 15.6). -/
def State.epochUnit (s : State) (k p e : Nat) : State :=
  let s := (((s.setReg (Reg.CVU_CFG k) 0).set (Fld.CVU_CFG_WIDTH k) 32).raise (Fld.CVU_CFG_REFIN k)).raise (Fld.CVU_CFG_REFOUT k)
  let s := (s.raise (Fld.CVU_CFG_FOLD_EN k)).set (Fld.CVU_CFG_SEG k) 32
  let s := ((s.set64 (Reg.CVU_POLY_LO k) 0x1EDC6F41).set64 (Reg.CVU_INIT_LO k) 0xFFFFFFFF).set64 (Reg.CVU_XOROUT_LO k) 0xFFFFFFFF
  ((s.cvuSeq k 0).cvuStart .firmware k).cvuData .firmware k (s.bar2Bytes (descAddr p e 0) 0x200000)

/-- EPOCH_INTEGRITY_CHECK: with CVU 15 Berent computes the check value of the active epoch once a commit has completed, and raises
source 36 + 32p where it differs (R198, R456, Table 15.1). -/
def State.integrityCheck (s : State) (p : Nat) : State :=
  s.when (s.berentDuty && s.planeRuns p && !s.committing p && (s.plane p).committed) fun s =>
    let s := s.epochUnit 15 p (s.active p)
    if s.get64 (Reg.CVU_RES_LO 15) = (s.plane p).crcActive then s else s.happen (36 + 32 * p)

/-- EPOCH_INTEGRITY_CHECK (R198). -/
def execEpochIntegrityCheck (p : PlaneNo) (s : State) : Host.Outcome State Fault Refusal := done (s.integrityCheck p.val)

/-- CVU_START (R436): START latches parameters and loads INIT. -/
def execCvuStart (by' : Agent) (k : Fin 16) (s : State) : Host.Outcome State Fault Refusal := done (s.cvuStart by' k.val)

/-- CVU_DATA32_WRITE (R437): 4 bytes, or 8 by one 8-byte write, the lowest first. -/
def execCvuData32Write (by' : Agent) (k : Fin 16) (lo : BitVec 32) (hi : Option (BitVec 32)) (s : State) :
    Host.Outcome State Fault Refusal :=
  done (s.cvuData by' k.val (leBytes 4 lo.toNat ++ (hi.map (fun w => leBytes 4 w.toNat)).getD []))

/-- CVU_DATA8_WRITE (R437): a CVU_DATA8 write feeds one byte. -/
def execCvuData8Write (by' : Agent) (k : Fin 16) (b : BitVec 8) (s : State) : Host.Outcome State Fault Refusal :=
  done (s.cvuData by' k.val [b])

end Sys2Proof.Machine
end

