-- ==== Sys2Proof/Machine/Dma.lean ====
section
/-! DEFINITION. The DMA engine (R423 to R435, R439). Commands follow one another at burst boundaries, so what acts at the next
burst boundary acts at once. -/

namespace Sys2Proof.Machine

/-! ## Runs and triggers -/

/-- DMA_START: a software trigger, ignored where TRIG names another kind (R430). -/
def State.dmaSoft (s : State) (c : Nat) : State :=
  let t := s.get (Fld.DMA_CH_CFG_TRIG c)
  if t = 1 ∨ t = 2 then s else s.dmaTrigger c

/-- A write of DMA_CH_CFG: a rise of EN sets EPTR to 0 and ends HALT, a fall halts a run or discards a held trigger (R428, R429,
R439). -/
def State.dmaCfg (s : State) (by' : Agent) (c : Nat) (v : Word) : State :=
  s.dmaBy by' c fun s =>
    let was := s.flag (Fld.DMA_CH_CFG_EN c)
    let s := s.writeByCode (Reg.DMA_CH_CFG c) v
    let s := if s.dmaHost c then s.setB (Fld.DMA_CH_CFG_LIST_SRAM c) false else s
    let now := s.flag (Fld.DMA_CH_CFG_EN c)
    if now && !was then
      let s := (s.set (Fld.DMA_CH_EPTR_V c) 0).modDma c (fun x => { x with size := none })
      (s.set (Fld.DMA_CH_STATUS_STATE c) 0).set (Fld.DMA_CH_STATUS_ERR c) 0
    else if was && !now then
      if (s.dmaOf c).run.isSome then s.dmaHalt c 9
      else (s.set (Fld.DMA_CH_STATUS_STATE c) 0).setB (Fld.DMA_CH_STATUS_PEND c) false
    else s

/-! ## Descriptors -/

/-- A descriptor from its 16 bytes (Table 15.2). -/
def descOfBits (d : BitVec 128) : DmaDesc :=
  let v := d.toNat
  let w := bitsOf v 64 32
  { addr := bitsOf v 0 64, len := bitsOf w 0 24, dir := bitsOf w 24 2, last := bitOf w 26, irq := bitOf w 27
    fence := bitOf w 28, rsv := bitsOf w 29 3, ofs := bitsOf v 96 32 }

/-- A range lies inside a window; a window whose limit is not above its base admits none (R427). -/
def inWindow (base lim a n : Nat) : Bool := decide (base < lim) && decide (base ≤ a) && decide (a + n ≤ lim)

/-- A device range lies in one window of Table 14.3, outside reserved ranges, with the alignment of R426. -/
def devRangeOk (a n : Nat) : Bool :=
  let win := fun (x : Nat) => if x < 0x100000 then 1 else if x < 0x1000000 then 0 else if x < 0x2000000 then 2
    else if x < 0x3000000 then 3 else if x < 0x3400000 then 4 else 0
  let last := a + n - 1
  win a != 0 && win a == win last && (List.range (n / 256 + 1)).all (fun k => bar2Known (a + min (256 * k) (n - 1)))
    && bar2Known last
    && (if win a = 1 then true
      else if 0x3300000 ≤ a then a % 8 == 0 && n % 8 == 0 && decide (last < 0x3340000)
      else a % 4 == 0 && n % 4 == 0)

/-- The destination of a DIR 2 descriptor overlaps its source (R435). -/
def DmaDesc.overlaps (d : DmaDesc) : Bool :=
  d.dir == 2 && decide (d.addr < d.ofs + d.len) && decide (d.ofs < d.addr + d.len)

/-- It is moved from the highest address downward. -/
def DmaDesc.down (d : DmaDesc) : Bool := d.overlaps && decide (d.addr < d.ofs)

/-- Ring mode (R432). -/
def DmaRun.ringMode (r : DmaRun) : Bool := bitOf r.cfg 12

/-- LINE, CH and INS of the run (Table 15.7). -/
def DmaRun.ringLine (r : DmaRun) : Nat := bitsOf r.ring 0 7
def DmaRun.ringCh (r : DmaRun) : Nat := bitsOf r.ring 7 2
def DmaRun.ringIns (r : DmaRun) : Bool := bitOf r.ring 9

/-- The device ring of a run in ring mode: its BAR2 offset and size. -/
def DmaRun.devRing (r : DmaRun) : Nat × Nat :=
  if r.ringIns then insRing r.ringLine r.ringCh else capRing r.ringLine r.ringCh

/-- The checks before the first byte of a descriptor, in the order of R427; 0 where it passes. -/
def DmaRun.check (r : DmaRun) (d : DmaDesc) : Nat :=
  if d.rsv ≠ 0 ∨ (d.dir = 2 ∧ 2 ^ 32 ≤ d.addr) ∨ (r.ringMode ∧ !d.last) then 2
  else if d.dir ≠ 2 ∧ !inWindow r.hostBase r.hostLim d.addr d.len then 1
  else if r.ringMode then
    (if inWindow r.devBase r.devLim r.devRing.1 r.devRing.2 then (if r.ringLine < 96 then 0 else 3) else 1)
  else if d.dir ≠ 3 ∧ !inWindow r.devBase r.devLim d.ofs d.len then 1
  else if d.dir = 2 ∧ !inWindow r.devBase r.devLim d.addr d.len then 1
  else if (d.dir ≠ 3 ∧ !devRangeOk d.ofs d.len) ∨ (d.dir = 2 ∧ !devRangeOk d.addr d.len) then 3
  else if bitOf r.cfg 13 ∧ d.down then 8
  else 0

/-- The bytes that a run in ring mode moves (Table 15.4). -/
def State.ringRunBytes (s : State) (c : Nat) (r : DmaRun) (d : DmaDesc) : Nat :=
  let e := s.get (Fld.DMA_CH_EPTR_V c)
  let h := s.get (Fld.DMA_CH_HPTR_V c)
  let cap := fun (x : Nat) => if bitsOf r.ring 16 16 = 0 then x else min x (16 * bitsOf r.ring 16 16)
  let n := r.ringLine
  if !s.lineOn n then 0
  else if r.ringIns then
    cap (min (ringFill h e) ((insRing n r.ringCh).2
      - ringFill (s.get (Fld.LCH_OHP_INS_WR_V n r.ringCh)) (s.get (Fld.LCH_OHP_INS_RD_V n r.ringCh))))
  else
    cap (min (ringFill (s.get (Fld.LCH_OHP_CAP_WR_V n r.ringCh)) (s.get (Fld.LCH_OHP_CAP_RD_V n r.ringCh))) (d.len - ringFill e h))

/-- The descriptor in execution is complete (R430, R433); in ring mode the pointers move on (Table 15.4). -/
def State.descDone (s : State) (c : Nat) : State :=
  match (s.dmaOf c).run with
  | none => s
  | some r =>
    match r.desc with
    | none => s
    | some d =>
      let s : State :=
        if r.ringMode then
          let n := r.ringLine
          let s := if r.moved = 0 then s
            else if r.ringIns then
              s.insWrWrite n r.ringCh (BitVec.ofNat 32 (s.get (Fld.LCH_OHP_INS_WR_V n r.ringCh) + r.moved))
            else s.capRdWrite n r.ringCh (BitVec.ofNat 32 (s.get (Fld.LCH_OHP_CAP_RD_V n r.ringCh) + r.moved))
          s.add (Fld.DMA_CH_EPTR_V c) r.moved
        else s
      let s := if d.irq then s.raise (Fld.DMA_CH_STATUS_DESC_EV c) else s
      if d.last then s.modRun c (fun r => { r with ended := true, fence := false, desc := none })
      else s.modRun c (fun r => { r with idx := r.idx + 1, fence := false, desc := none, moved := 0, left := 0 })

/-- Descriptors are taken from the list until one with bytes to move stands in execution (R425, R427, R432). -/
def State.dmaFetch (s : State) (c : Nat) : List (BitVec 128) → State
  | [] => s
  | x :: t =>
    match (s.dmaOf c).run with
    | none => s
    | some r =>
      let sram := bitOf r.cfg 18
      let s := s.set (Fld.DMA_CH_STATUS_DESC_IDX c) r.idx
      if r.ended || r.desc.isSome then s
      else if 4096 ≤ r.idx then s.dmaHalt c 5
      else if !sram && !inWindow r.hostBase r.hostLim (r.list + 16 * r.idx) 16 then s.dmaHalt c 1
      else
        let d := descOfBits x
        let s := if r.ringMode then s.modDma c (fun y => { y with size := some d.len }) else s
        if d.len = 0 ∧ d.rsv = 0 ∧ !r.ringMode then
          State.dmaFetch ((s.modRun c (fun r => { r with desc := some d })).descDone c) c t
        else
          let e := r.check d
          if e ≠ 0 then s.dmaHalt c e
          else
            let n := if r.ringMode then s.ringRunBytes c r d else d.len
            let s := s.modRun c (fun r => { r with desc := some d, moved := 0, left := n })
            let s := if d.overlaps && !r.ringMode then s.raise (Fld.DMA_CH_STATUS_MOVE_EV c) else s
            if n = 0 then s.descDone c else s

/-! ## Bursts -/

/-- Channel `c` has a burst ready: its run is not over, awaits no read-back, and its check-value unit is free (R434, R438). -/
def State.dmaReady (s : State) (c : Nat) : Bool :=
  match (s.dmaOf c).run with
  | none => false
  | some r => !r.ended && !r.fence && (!bitOf r.cfg 13 || r.owns || !s.flag (Fld.CVU_STATUS_DMA_OWNED (bitsOf r.cfg 14 4)))

/-- The PRIO of the run of channel `c`. -/
def State.dmaPrio (s : State) (c : Nat) : Nat := ((s.dmaOf c).run.map (fun r => bitsOf r.cfg 1 2)).getD 0

/-- The channel that the arbiter chooses (R434). -/
def State.dmaChoice (s : State) : Option Nat :=
  let l := (List.range 16).filter s.dmaReady
  match l.find? (fun c => decide (32 ≤ (s.dmaOf c).passed)) with
  | some c => some c
  | none =>
    let top := (l.map s.dmaPrio).foldl max 0
    let m := l.filter (fun c => s.dmaPrio c == top)
    let last := s.dma.served.getD top 15
    match m.find? (fun c => decide (last < c)) with
    | some c => some c
    | none => m.head?

/-- Bytes of the next burst: at most 256, within a 256-byte block of the host address, or of the source for DIR 2, and in ring
mode up to the wrap of either ring (R434). -/
def DmaRun.burst (r : DmaRun) (d : DmaDesc) (e dev : Nat) : Nat :=
  if r.ringMode then
    let h := (e + r.moved) % d.len
    let v := (dev + r.moved) % r.devRing.2
    min r.left (min (256 - (d.addr + h) % 256) (min (d.len - h) (r.devRing.2 - v)))
  else if d.down then
    let top := d.addr + r.left
    min r.left (if top % 256 = 0 then 256 else top % 256)
  else min r.left (256 - (d.addr + r.moved) % 256)

/-- `m` bytes have moved. -/
def State.dmaMoved (s : State) (c m : Nat) (written : Bool) : State :=
  let s := if written then s.add (Fld.DMA_CH_BYTES_V c) m else s
  let s := s.modRun c (fun r => { r with moved := r.moved + m, left := r.left - m })
  match (s.dmaOf c).run with
  | none => s
  | some r =>
    if r.left ≠ 0 then s
    else
      let fence := r.desc.any (fun d => (d.fence && (r.ringMode || d.dir != 3)) || (r.ringMode && r.ringIns))
      if fence then s.modRun c (fun r => { r with fence := true }) else s.descDone c

/-- Bytes that the engine has read go through the run's check-value unit (R436). -/
def State.dmaCheck (s : State) (r : DmaRun) (bs : List Byte) : State :=
  if bitOf r.cfg 13 then s.cvuFeed (bitsOf r.cfg 14 4) bs else s

/-- Bytes of device memory as the engine reads them. -/
def State.devRead (s : State) (a n : Nat) : List Byte := (List.range n).map (fun i => s.bar2See (a + i))

/-- One burst of the descriptor in execution of channel `c` (R426, R428, R432, R435). -/
def State.dmaMove (s : State) (c : Nat) (r : DmaRun) (d : DmaDesc) (x : DmaRead) : State :=
  let e := s.get (Fld.DMA_CH_EPTR_V c)
  let n := r.ringLine
  let dev := if r.ringIns then s.get (Fld.LCH_OHP_INS_WR_V n r.ringCh) else s.get (Fld.LCH_OHP_CAP_RD_V n r.ringCh)
  let m := r.burst d e dev
  let dir := if r.ringMode then (if r.ringIns then 0 else 1) else d.dir
  let host := if r.ringMode then d.addr + (e + r.moved) % d.len else d.addr + r.moved
  let src := if d.down then d.addr + r.left - m else d.addr + r.moved
  let ofs := if r.ringMode then r.devRing.1 + (dev + r.moved) % r.devRing.2
    else if dir = 2 ∧ d.down then d.ofs + r.left - m else d.ofs + r.moved
  match dir with
  | 1 =>
    if x = .ecc then s.dmaHalt c 6
    else
      let bs := s.devRead ofs m
      ((s.putHost host bs).dmaCheck r bs).dmaMoved c m true
  | 2 =>
    if x = .ecc then s.dmaHalt c 6
    else
      let bs := s.devRead src m
      ((s.bar2Write ofs bs).dmaCheck r bs).dmaMoved c m true
  | k =>
    match x with
    | .bytes bs =>
      if bs.length < m then s.dmaHalt c 4
      else
        let bs := bs.take m
        let s := if k = 0 then s.bar2Write ofs bs else s
        (s.dmaCheck r bs).dmaMoved c m (k == 0)
    | .hostError => s.dmaHalt c 4
    | .ecc => s

/-- DMA_BURST: the arbiter chooses a channel; it takes descriptors as it needs them and moves one burst (R434). -/
def State.dmaBurst (s : State) (list : List (BitVec 128)) (x : DmaRead) : State :=
  s.onSpine fun s =>
    match s.dmaChoice with
    | none => s
    | some c =>
      let others := ((List.range 16).filter s.dmaReady).filter (fun k => k != c)
      let s : State := others.foldl (fun s k => s.modDma k (fun y => { y with passed := y.passed + 1 })) s
      let s := { s with dma := { s.dma with served := putD 15 s.dma.served (s.dmaPrio c) c } }
      let s := s.modDma c (fun y => { y with passed := 0 })
      let s : State := match (s.dmaOf c).run with
        | some r => if bitOf r.cfg 13 ∧ !r.owns then
            (s.raise (Fld.CVU_STATUS_DMA_OWNED (bitsOf r.cfg 14 4))).modRun c (fun r => { r with owns := true }) else s
        | none => s
      let needs := (s.dmaOf c).run.any (fun r => r.desc.isNone)
      if needs ∧ x = .hostError then s.dmaHalt c 4
      else
        let s := s.dmaFetch c list
        match (s.dmaOf c).run with
        | none => s
        | some r => match r.desc with
          | none => s
          | some d => if r.fence then s else s.dmaMove c r d x

/-- DMA_FENCE_COMPLETE: the read-back has returned and the descriptor is complete (R433). -/
def State.dmaFence (s : State) (c : Nat) : State :=
  s.onSpine fun s => s.when ((s.dmaOf c).run.any (fun r => r.fence)) fun s => s.descDone c

/-- DMA_RUN_END: a run ends successfully; it chains, and a held trigger starts the next one (R430). -/
def State.dmaRunEnd (s : State) (c : Nat) : State :=
  s.onSpine fun s =>
    match (s.dmaOf c).run with
    | none => s
    | some r => s.when r.ended fun s =>
      let s := if r.owns then s.setB (Fld.CVU_STATUS_DMA_OWNED (bitsOf r.cfg 14 4)) false else s
      let s := s.modDma c (fun x => { x with run := none, passed := 0 })
      let s := (s.set (Fld.DMA_CH_STATUS_STATE c) 0).set Fld.DMA_GLB_STATUS_BUSY (clearBit (s.get Fld.DMA_GLB_STATUS_BUSY) c)
      let s := (s.raise (Fld.DMA_CH_STATUS_DONE_EV c)).add (Fld.DMA_CH_RUNS_V c) 1
      let s := if s.flag (Fld.DMA_CH_STATUS_PEND c) then (s.setB (Fld.DMA_CH_STATUS_PEND c) false).dmaStart c else s
      s.dmaTriggerAll (fun s x => s.get (Fld.DMA_CH_CFG_TRIG x) == 2 && s.get (Fld.DMA_CH_CFG_CHAIN_SRC x) == c)

/-- DMA_HPTR_WRITE: applied, or ignored with HPTR_EV where the host ring would overflow (R432). The engine knows the ring's size
from the last list it read. -/
def State.dmaHptr (s : State) (by' : Agent) (c v : Nat) : State :=
  s.dmaBy by' c fun s =>
    let e := s.get (Fld.DMA_CH_EPTR_V c)
    let beyond := (s.dmaOf c).size.any (fun n => if s.flag (Fld.DMA_CH_RING_CFG_INS c) then decide (n < ringFill v e)
      else decide (n < ringFill e v))
    if beyond then s.raise (Fld.DMA_CH_STATUS_HPTR_EV c) else s.set (Fld.DMA_CH_HPTR_V c) v

/-- Every running channel halts (R400, R429). -/
def State.dmaHaltAll (s : State) (err : Nat) : State := (List.range 16).foldl (fun s c => s.dmaHalt c err) s

/-! ## Meanings -/

/-- DMA_START (R430): writing START gives a software trigger. -/
def execDmaStart (by' : Agent) (c : Fin 16) (s : State) : Host.Outcome State Fault Refusal :=
  done (s.dmaBy by' c.val fun s => s.dmaSoft c.val)

/-- DMA_STOP (R429): writing STOP halts the run at the next burst boundary with ERR 9. -/
def execDmaStop (by' : Agent) (c : Fin 16) (s : State) : Host.Outcome State Fault Refusal :=
  done (s.dmaBy by' c.val fun s => s.dmaHalt c.val 9)

/-- DMA_CHANNEL_ENABLE (R428): a write of DMA_CH_CFG with EN = 1 arms a channel and resets EPTR. -/
def execDmaChannelEnable (by' : Agent) (c : Fin 16) (cfg : BitVec 32) (s : State) : Host.Outcome State Fault Refusal :=
  done (s.dmaCfg by' c.val (cfg ||| 1))

/-- DMA_CHANNEL_DISABLE (R429): a write of DMA_CH_CFG with EN = 0 halts a run or discards a held trigger. -/
def execDmaChannelDisable (by' : Agent) (c : Fin 16) (cfg : BitVec 32) (s : State) : Host.Outcome State Fault Refusal :=
  done (s.dmaCfg by' c.val (cfg &&& ~~~1))

/-- DMA_TIMER_TICK (R431): a DMA timer ticks and triggers its channels. -/
def execDmaTimerTick (t : Fin 8) (s : State) : Host.Outcome State Fault Refusal := done (s.dmaTick t.val)

/-- DMA_BURST (R434): the arbiter chooses a channel and moves one burst. `list` holds the entries of its list from the one it needs
next on, `x` what its read of host or device memory brings. -/
def execDmaBurst (list : List (BitVec 128)) (x : DmaRead) (s : State) : Host.Outcome State Fault Refusal := done (s.dmaBurst list x)

/-- DMA_FENCE_COMPLETE (R433): a fence read-back returns and the descriptor is complete. -/
def execDmaFenceComplete (c : Fin 16) (s : State) : Host.Outcome State Fault Refusal := done (s.dmaFence c.val)

/-- DMA_RUN_END (R430): a run ends successfully, chains and starts a held trigger. -/
def execDmaRunEnd (c : Fin 16) (s : State) : Host.Outcome State Fault Refusal := done (s.dmaRunEnd c.val)

/-- DMA_HPTR_WRITE (R432): a write to HPTR is applied or ignored with HPTR_EV. -/
def execDmaHptrWrite (by' : Agent) (c : Fin 16) (v : BitVec 32) (s : State) : Host.Outcome State Fault Refusal :=
  done (s.dmaHptr by' c.val v.toNat)

end Sys2Proof.Machine
end

