-- ==== Sys2Proof/Machine/Fcr.lean ====
section
/-! DEFINITION. The fault collector and reactor (chapter 16): events, severity and escalation, records, reactions, block
resets, plane stops, injection. -/

namespace Sys2Proof.Machine

/-! ## Sources -/

/-- Software ends and starts of conditions outside the device: a clock that loses lock or runs again, a Hen that stops, a
plane that stalls, the power multiplexer at its limit, the PCIe link (Table 16.1). -/
def State.external (s : State) (src : Nat) (on : Bool) : State :=
  let ext := { s with fcr := { s.fcr with ext := putBits s.fcr.ext src 1 (b2n on) } }
  if src = 0 then s.setB Fld.GLB_CLK_STATUS_MGMT_LOCK (!on)
  else if src = 1 then s.setB Fld.GLB_CLK_STATUS_PCIE_LOCK (!on)
  else if src = 2 then s.setB Fld.GLB_CLK_STATUS_TMG_LOCK (!on)
  else if src = 3 then s.setB Fld.GLB_CLK_STATUS_OSC_IN_OK (!on)
  else if src = 4 then s.setB Fld.GLB_CLK_STATUS_XTAL32K_OK (!on)
  else if src = 11 then s.setB Fld.AON_FEED_STATUS_MUX_LIMIT on
  else if src = 32 ∨ src = 64 then
    let p := (src - 32) / 32
    s.when on fun s => (s.setB (if p = 0 then Fld.GLB_CLK_STATUS_CORE_A_LOCK else Fld.GLB_CLK_STATUS_CORE_B_LOCK) false).modTw p
      (fun t => { t with output := false })
  else if src = 35 ∨ src = 41 ∨ src = 67 ∨ src = 73 then ext
  else if src = 600 then s.when on fun s => { s with pcie := { s.pcie with linkUp := false } }
  else s

/-- Happenings of type E that come from outside the model's state: SRAM words, pipeline parity, AER (Table 16.1). -/
def physicalE (src : Nat) : Bool :=
  src == 6 || src == 7 || src == 33 || src == 34 || src == 37 || src == 65 || src == 66 || src == 69 || src == 603

/-- The live bit of source `src` rises in this cycle (R442): it exists, is not held, a lasting condition holds and was not
live, a happening is due. -/
def State.rises (s : State) (src : Nat) : Bool :=
  s.srcExists src && !s.srcHeld src && !s.fcr.live.testBit src &&
    (match srcInfo src with
     | none => false
     | some i => if i.typeE then s.fcr.due.testBit src || physicalE src else s.condition src)

/-! ## Severity -/

/-- The class of source `src`. -/
def srcClass (src : Nat) : Nat := ((srcInfo src).map (fun i => i.cls)).getD 0

/-- The bits of the cause register `r` that belong to class `c`. -/
def classMask (c r : Nat) : Nat :=
  (List.range 32).foldl (fun m b => if (srcInfo (32 * r + b)).any (fun i => i.cls == c) then m + 2 ^ b else m) 0

/-- A class is unacknowledged while a cause bit of its sources is set (R445). -/
def State.unacked (s : State) (c : Nat) : Bool :=
  (List.range 19).any (fun r =>
    let w := (s.reg (Reg.FCR_CAUSE r)).toNat
    w != 0 && (w &&& classMask c r) != 0)

/-- The escalation level of class `c`. -/
def State.escOf (s : State) (c : Nat) : Nat := s.fcr.esc.getD c 0

/-- The escalation level of class `c` takes a value; FCR_CLASS_E shows it, saturating at 7. -/
def State.setEsc (s : State) (c e : Nat) : State :=
  let s := { s with fcr := { s.fcr with esc := putD 0 s.fcr.esc c e } }
  let f := Fld.FCR_CLASS_E_E (c / 10)
  s.set f (putBits (s.get f) (3 * (c % 10)) 3 (min e 7))

/-- SEV in force: values 5 to 7 are treated as 4. -/
def State.sevOf (s : State) (src : Nat) : Nat := min 4 (s.get (Fld.FCR_SRC_CFG_SEV src))

/-- An event as the records and reactions take it. -/
structure FcrEvent where
  src : Nat
  sev : Nat
  e : Nat
  inj : Bool
  deriving DecidableEq, Repr

/-- A reaction of an event: of its source, or of its effective severity (R447). -/
def State.reacts (s : State) (x : FcrEvent) (own : Nat → FRef) (bySev : Nat → FRef) : Bool :=
  s.flag (own x.src) || s.flag (bySev x.sev)

/-- ERR_N is asserted while the cause bit of a source is set whose last event carried ERRN (Table 16.2). -/
def State.errnFollow (s : State) : State :=
  s.setB Fld.FCR_STATUS_ERRN (s.causes.any (fun src => s.fcr.lastErrn.testBit src))

/-- A plane-attributable event counts for the sequencer frame in which it is registered (R271, R455). -/
def State.attribute (s : State) (src : Nat) : State :=
  if s.twin && (srcInfo src).any (fun i => i.pa) then
    s.modTw ((src - 32) / 32) (fun t => { t with faults := (s.sqf :: t.faults).take 8 })
  else s

/-- An enabled source's event: severity and escalation, cause, LAST_SEV, count, what the event carried (R442, R445). -/
def State.eventOf (s : State) (src : Nat) (inj : Bool) : FcrEvent × State :=
  let c := srcClass src
  let e := if s.unacked c && !bitOf (s.get Fld.FCR_ESC_DIS_DIS) c then s.escOf c + 1 else s.escOf c
  let s := s.setEsc c e
  let x : FcrEvent := ⟨src, min 4 (s.sevOf src + e), e, inj⟩
  let s := s.orBits (Fld.FCR_CAUSE_V (src / 32)) (2 ^ (src % 32))
  let s := (s.set (Fld.FCR_SRC_CFG_LAST_SEV src) x.sev).add Fld.FCR_EVENT_CNT_CNT 1
  let int := s.reacts x Fld.FCR_SRC_CFG_INT Fld.FCR_SEV_REACT_INT
  let errn := s.reacts x Fld.FCR_SRC_CFG_ERRN Fld.FCR_SEV_REACT_ERRN
  (x, { s with fcr := { s.fcr with
    lastInt := putBits s.fcr.lastInt src 1 (b2n int)
    lastErrn := putBits s.fcr.lastErrn src 1 (b2n errn) } })

/-! ## Records -/

/-- The event of highest effective severity, ties to the lowest source number; the list rises in source numbers (R452). -/
def worstOf : List FcrEvent → Option FcrEvent
  | [] => none
  | x :: t => match worstOf t with
    | none => some x
    | some y => some (if x.sev < y.sev then y else x)

/-- The word of a record. -/
def recordWord (x : FcrEvent) (multi : Bool) : Word :=
  BitVec.ofNat 32 (x.src + 2 ^ 10 * x.sev + 2 ^ 13 + 2 ^ 14 * b2n multi + 2 ^ 15 * b2n x.inj + 2 ^ 16 * srcClass x.src
    + 2 ^ 21 * min x.e 7)

/-- A record takes an event with the time-keeper reading of the cycle. -/
def State.putRecord (s : State) (a : Nat) (w : Word) : State :=
  ((s.setReg a w).setReg (a + 4) (BitVec.ofNat 32 s.tk.ns)).setReg (a + 8) (BitVec.ofNat 32 s.tk.sec)

/-- The first-fault and the worst-fault record after a cycle's events (R452, R453). -/
def State.recordEvents (s : State) (l : List FcrEvent) : State :=
  match worstOf l with
  | none => s
  | some x =>
    let w := recordWord x (decide (1 < l.length))
    let s := if s.flag Fld.FCR_FF_SRC_VALID then s else s.putRecord Reg.FCR_FF_SRC w
    if s.flag Fld.FCR_WORST_SRC_VALID && decide (x.sev ≤ s.get Fld.FCR_WORST_SRC_SEV) then s else s.putRecord Reg.FCR_WORST_SRC w

/-! ## Reactions -/

/-- A class 4 source of plane `p` with a Fatal last event is live (R450). -/
def State.fatalLive (s : State) (p : Nat) : Bool :=
  (List.range 10).any (fun k =>
    srcClass (32 + 32 * p + k) == 4 && s.fcr.live.testBit (32 + 32 * p + k) && s.lastSev (32 + 32 * p + k) == 4)

/-- The registers of line `n` as a block reset leaves them (R449): what software or firmware has written stays. -/
def State.lineRegsReset (s : State) (n : Nat) : State :=
  let kept := fun (a : Nat) =>
    if a = Reg.LCH_LINE_CFG n ∨ a = Reg.LCH_OHP_THRU_CFG n ∨ a = Reg.LCH_MXF_CFG n ∨ a = Reg.LCH_PRBS_CFG n then 2 ^ 32 - 1
    else if regWm a then 0xFFFF else regRw a
  (s.regs.filter (fun c => decide (0x100000 + n * 0x8000 ≤ c.1 ∧ c.1 < 0x100000 + (n + 1) * 0x8000))).foldr
    (fun c s =>
      let k : Word := BitVec.ofNat 32 (kept c.1)
      s.setReg c.1 ((c.2 &&& k) ||| (regReset c.1 &&& ~~~k))) s

/-- A block reset of line `n` (R449): the line passes through deep doze, and leaves it unless it dozes by command. -/
def State.lineReset (s : State) (n : Nat) : State :=
  s.onLine n fun s =>
    let l := s.line n
    let s := (s.lineRegsReset n).modLine n (fun _ => { LineState.reset with
      own := l.own
      lane := { Lane.reset with newFormat := l.lane.newFormat, rawKbaud := l.lane.rawKbaud, dozeCmd := l.lane.dozeCmd }
      frb := { Frb.reset with lwn := l.frb.lwn, absent := l.frb.absent } })
    let s := (s.uncheck n).set (Fld.LCH_LINE_STATUS_PWR_STATE n) 2
    let s := s.setB (Fld.LCH_LINE_STATUS_TX_CLAMP n)
      (decide (40 < s.get (Fld.LCH_TX_DRV_CFG_PRE n) + s.get (Fld.LCH_TX_DRV_CFG_POST n)))
    if l.lane.dozeCmd || s.targetFormat n == 0 then s.takeFormat n else s.beginExit n

/-- A block reset of plane `p` (R448, R449): to INIT in Twin configuration; in Wide configuration the plane restarts with its
SRAM and its lines hold. -/
def State.planeReset (s : State) (p : Nat) : State :=
  s.when (s.halfOn p && s.coreLocked p) fun s =>
    let s := s.modPlane p (fun pl => { pl with stopped := s.fatalLive p })
    if s.twin then
      let s := s.modTw p (fun t => { t with
        initDue := true, inited := false, joint := false, grace := 0, restarted := true })
      s.movePlane p 1 false
    else if (s.planeTw p).initDue then s.watch
    else ((s.planeSuspect p).modTw p (fun t => { t with initDue := true, keep := true })).watch

/-- A block reset of DMA channel `c` (R449): the channel halts and its registers return to their reset values. -/
def State.dmaReset (s : State) (c : Nat) : State :=
  let s := match (s.dmaOf c).run with
    | none => s
    | some r =>
      let s := s.set Fld.DMA_GLB_STATUS_BUSY (clearBit (s.get Fld.DMA_GLB_STATUS_BUSY) c)
      if r.owns then s.setB (Fld.CVU_STATUS_DMA_OWNED (bitsOf r.cfg 14 4)) false else s
  (s.modDma c (fun _ => ⟨none, 0, none⟩)).clearRegs (fun a => decide (Reg.DMA_CH_CFG c ≤ a ∧ a < Reg.DMA_CH_CFG (c + 1)))

/-- A block reset (R449). -/
def State.blockReset (s : State) (b : BlockId) : State :=
  match b with
  | .line n => s.lineReset n
  | .plane p => s.planeReset p
  | .slot k => s.sccReset k
  | .dmaChannel c => s.dmaReset c
  | .management => { s with boot := { s.boot with restartDue := true } }

/-- An event stops or moves the plane of its source (R450, Table 9.4): a Fatal class 4 event stops it, a stall leaves it
OUT_OF_STEP; a stop in COPY or CATCHUP ends the re-synchronisation or the joint start (R284, R288). -/
def State.planeHit (s : State) (x : FcrEvent) : State :=
  if srcClass x.src ≠ 4 then s
  else
    let p := (x.src - 32) / 32
    let s := if x.sev = 4 then s.modPlane p (fun pl => { pl with stopped := true }) else s
    if s.twin && ((x.src - 32) % 32 == 9 && !x.inj && decide (2 ≤ s.planeState p)
        || x.sev == 4 && (s.planeState p == 2 || s.planeState p == 3)) then s.movePlane p 6 false
    else s.xferCheck

/-- The trap of the management processor for events by source and severity (Table 16.2): its handler puts them into the retained
record and re-evaluates the state; while the boot ROM runs the trap waits, those due meanwhile as one. -/
def State.nmi (s : State) (l : List (Nat × Nat)) : State :=
  if s.fwState = 0 then
    { (s.raise Fld.FCR_STATUS_NMI_PEND) with boot := { s.boot with trapDue := s.boot.trapDue ++ l } }
  else ({ s with boot := { s.boot with trapped := s.boot.trapped ++ l } }).watch

/-- The planes that an event of the cycle stopped and that no Fatal source holds: their block reset follows at once (R450). -/
def State.stopResets (s : State) (l : List FcrEvent) : List BlockId :=
  ([0, 1].filter (fun p => l.any (fun x => x.sev == 4 && srcClass x.src == 4 && (x.src - 32) / 32 == p) && !s.fatalLive p)).map
    .plane

/-- The chip reset reaction of a cycle: of its lowest source that carries it (Table 16.2). -/
def State.crstRequest (s : State) (x : FcrEvent) : State :=
  if s.power.crstDue.isSome then s
  else
    let s := (s.set Fld.FCR_CRST_SRC_SRC x.src).set Fld.FCR_CRST_SRC_SEV x.sev
    { s with power := { s.power with crstDue := some true } }

/-- The reactions of a cycle's events (R447, R448, R450): a chip reset makes block resets redundant, several resets of one block
are one. -/
def State.reactEvents (s : State) (l : List FcrEvent) : State :=
  let s := s.errnFollow
  let s : State := l.foldl State.planeHit s
  let resets := ((l.filter (fun x => s.flag (Fld.FCR_SRC_CFG_BRST x.src))).filterMap (fun x => (srcInfo x.src).bind (fun i => i.block))
    ++ s.stopResets l).eraseDups
  let traps := (l.filter (fun x => s.reacts x Fld.FCR_SRC_CFG_NMI Fld.FCR_SEV_REACT_NMI)).map (fun x => (x.src, x.sev))
  let s := match l.find? (fun x => s.reacts x Fld.FCR_SRC_CFG_CRST Fld.FCR_SEV_REACT_CRST) with
    | some x => s.crstRequest x
    | none => if s.power.crstDue.isSome then s else resets.foldl State.blockReset s
  if traps = [] then s.watch else s.nmi traps

/-- The events of one cycle, in rising source numbers (R442, R445, R452). -/
def State.fcrCycle (s : State) (srcs : List Nat) (inj : Option Nat) : State :=
  let s : State := srcs.foldl State.attribute s
  let lasting := (srcs.filter (fun k => (srcInfo k).any (fun i => !i.typeE) || inj == some k)).foldl (fun m k => m ||| 2 ^ k) 0
  let due := srcs.foldl (fun m k => putBits m k 1 0) s.fcr.due
  let s := { s with fcr := { s.fcr with live := s.fcr.live ||| lasting, due := due } }
  let r : List FcrEvent × State := (srcs.filter (fun k => s.flag (Fld.FCR_SRC_CFG_EN k))).foldl (fun r k =>
    let y := r.2.eventOf k (inj == some k)
    (r.1 ++ [y.1], y.2)) ([], s)
  if r.1 = [] then r.2.watch else (r.2.recordEvents r.1).reactEvents r.1

/-- FAULT_EVENT: the sources whose live bits rise in one cycle, and conditions outside the device that have ended. -/
def State.faultEvent (s : State) (raised ended : List Nat) : State :=
  s.onSpine fun s =>
    let s : State := ended.foldl (fun s k => s.external k false) s
    let s : State := raised.foldl (fun s k => s.when (s.srcExists k && !s.srcHeld k) fun s => s.external k true) s
    s.fcrCycle ((List.range 608).filter (fun k => raised.contains k && s.rises k)) none

/-- PLANE_STOP_RELEASE (R450). -/
def State.stopRelease (s : State) (p : Nat) : State :=
  s.onSpine fun s => s.when ((s.plane p).stopped && !s.fatalLive p && s.coreLocked p) fun s => s.planeReset p

/-! ## Software -/

/-- Cause bits are cleared; a class without cause bits returns to level 0, ERR_N follows (R442, R445). -/
def State.causeClear (s : State) (r : Nat) (v : Word) : State :=
  s.onSpine fun s =>
    let s := s.setReg (Reg.FCR_CAUSE r) (s.reg (Reg.FCR_CAUSE r) &&& ~~~v)
    let s : State := (List.range 20).foldl (fun s c => if s.escOf c != 0 && !s.unacked c then s.setEsc c 0 else s) s
    s.errnFollow

/-- A record is emptied (R452, R453). -/
def State.recordEmpty (s : State) (worst : Bool) : State :=
  s.onSpine fun s =>
    let a := if worst then Reg.FCR_WORST_SRC else Reg.FCR_FF_SRC
    ((s.setReg a 0).setReg (a + 4) 0).setReg (a + 8) 0

/-- A write of FCR_FW_RAISE (R456). -/
def State.fwRaise (s : State) (by' : Agent) (v : Word) : State :=
  s.onSpine fun s =>
    match by' with
    | .host => s.badAccess false Reg.FCR_FW_RAISE true 4
    | .firmware =>
      let s := if wordBits v 0 1 = 1 then s.happen 36 else s
      if wordBits v 1 1 = 1 then s.happen 68 else s

/-- A completed pair of FCR_INJ_UNLOCK from PCIe (R457). -/
def State.injUnlock (s : State) (v : Word) : State :=
  s.onSpine fun s => s.when (s.power.strapTest && v == 1) fun s => (s.extendMeas 2 v.toNat).raise Fld.FCR_STATUS_INJ_READY

/-- The injection ends. -/
def State.injEnd (s : State) : State :=
  let s := { s with fcr := { s.fcr with injected := none } }
  (s.setB Fld.FCR_STATUS_INJ_BUSY false).setB Fld.FCR_INJ_CTL_GO false

/-- GO: an injection starts (R458). While one runs, the write does nothing; into a reserved or absent source it starts none. -/
def State.injGo (s : State) (src : Nat) (hold : Bool) (pulse : Nat) : State :=
  s.onSpine fun s => s.when (s.flag Fld.FCR_STATUS_INJ_READY && !s.flag Fld.FCR_STATUS_INJ_BUSY) fun s =>
    let s := ((s.set Fld.FCR_INJ_CTL_SRC src).setB Fld.FCR_INJ_CTL_HOLD hold).set Fld.FCR_INJ_CTL_PULSE pulse
    s.when (s.srcExists src) fun s =>
      let s := (s.raise Fld.FCR_INJ_CTL_GO).raise Fld.FCR_STATUS_INJ_BUSY
      let live := s.fcr.live.testBit src
      let s := { s with fcr := { s.fcr with injected := some src } }
      if live || s.srcHeld src then s else s.fcrCycle [src] (some src)

/-- PULSE cycles have passed. -/
def State.injPulseEnd (s : State) : State :=
  s.onSpine fun s => s.when (s.fcr.injected.isSome && !s.flag Fld.FCR_INJ_CTL_HOLD) fun s => s.injEnd

/-- GO is cleared with HOLD = 1. -/
def State.injStop (s : State) : State :=
  s.onSpine fun s => s.when (s.fcr.injected.isSome && s.flag Fld.FCR_INJ_CTL_HOLD) fun s => s.injEnd

/-- LOCK is written: the unlock ends, and with it an injection that runs. -/
def State.injLock (s : State) : State :=
  s.onSpine fun s => s.when (s.flag Fld.FCR_STATUS_INJ_READY) fun s =>
    ((s.injEnd).setReg Reg.FCR_INJ_CTL 0).setB Fld.FCR_STATUS_INJ_READY false

/-! ## Meanings -/

/-- FAULT_EVENT (R442): sources whose live bits rise in one CK_MGMT cycle, and outside conditions that have ended. -/
def execFaultEvent (raised ended : List (Fin 608)) (s : State) : Host.Outcome State Fault Refusal :=
  done (s.faultEvent (raised.map (fun k => k.val)) (ended.map (fun k => k.val)))

/-- PLANE_STOP_RELEASE (R450). -/
def execPlaneStopRelease (p : PlaneNo) (s : State) : Host.Outcome State Fault Refusal := done (s.stopRelease p.val)

/-- FCR_CAUSE_CLEAR (R442): the register and the bits written 1. -/
def execFcrCauseClear (r : Fin 19) (v : Word) (s : State) : Host.Outcome State Fault Refusal := done (s.causeClear r.val v)

/-- FCR_RECORD_EMPTY (R452): the worst-fault or the first-fault record. -/
def execFcrRecordEmpty (worst : Bool) (s : State) : Host.Outcome State Fault Refusal := done (s.recordEmpty worst)

/-- FCR_FW_RAISE (R456). -/
def execFcrFwRaise (by' : Agent) (v : Word) (s : State) : Host.Outcome State Fault Refusal := done (s.fwRaise by' v)

/-- FCR_INJ_UNLOCK (R457): the value of the completed pair. -/
def execFcrInjUnlock (v : Word) (s : State) : Host.Outcome State Fault Refusal := done (s.injUnlock v)

/-- FCR_INJ_GO (R458). -/
def execFcrInjGo (src : BitVec 10) (hold : Bool) (pulse : BitVec 16) (s : State) : Host.Outcome State Fault Refusal :=
  done (s.injGo src.toNat hold pulse.toNat)

/-- FCR_INJ_PULSE_END (R458). -/
def execFcrInjPulseEnd (s : State) : Host.Outcome State Fault Refusal := done s.injPulseEnd

/-- FCR_INJ_STOP (R458). -/
def execFcrInjStop (s : State) : Host.Outcome State Fault Refusal := done s.injStop

/-- FCR_INJ_LOCK (R457). -/
def execFcrInjLock (s : State) : Host.Outcome State Fault Refusal := done s.injLock

end Sys2Proof.Machine
end

