-- ==== Sys2Proof/Machine/Poll.lean ====
section
/-! DEFINITION. Line modules (chapter 2): wake on signal (R54), poll passes and items (R56 to R61, R64 to R66), bus
recovery (R63). -/

namespace Sys2Proof.Machine

/-! ## Wake on signal -/

/-- The line dozes or is on its way into or between dozes. -/
def State.wakeable (s : State) (n : Nat) : Bool :=
  s.lineDozes n ||
    (match (s.line n).lane.trans with
     | .entry _ => true
     | .move _ => true
     | _ => false)

/-- A rising SD edge on a dozing line with WAKE_ON_SD (R54): Wide hardware starts exit; in Twin firmware admits the wake
under R23 or reports its refusal, event 0x0010. -/
def State.wakeOnSd (s : State) (n : Nat) : State :=
  s.onLine n fun s => s.when (s.flag (Fld.LCH_LINE_CFG_WAKE_ON_SD n) && s.wakeable n && s.targetFormat n != 0) fun s =>
    let s := s.setSd n true
    if !s.twin then s.request n .wake
    else if !s.berentDuty then s
    else if s.admits n (countedRate (s.targetFormat n)) then
      (s.request n .wake).postEvent 0x0010 0 (leBytes 1 n ++ leBytes 1 0)
    else s.postEvent 0x0010 0 (leBytes 1 n ++ leBytes 1 1)

/-! ## Buses -/

/-- The half whose feed powers the pads of bus `k` (R56). -/
def busHalf (k : Nat) : Nat := if k < 4 ∨ k = 8 then 0 else 1

/-- Bus `k` can poll: the spine runs and its feed is on (R56). -/
def State.busOn (s : State) (k : Nat) : Bool := s.spineOn && s.feedGood (busHalf k)

/-- Bus `k`. -/
def State.bus (s : State) (k : Nat) : Bus := s.buses.getD k Bus.reset

/-- The state with bus `k` changed. -/
def State.modBus (s : State) (k : Nat) (f : Bus → Bus) : State := { s with buses := modD Bus.reset s.buses k f }

/-- Module `m` of the table. -/
def State.mdl (s : State) (m : Nat) : Module := s.modules.getD m Module.reset

/-- The state with module `m` changed. -/
def State.modModule (s : State) (m : Nat) (f : Module → Module) : State := { s with modules := modD Module.reset s.modules m f }

/-- Module `m` is polled on bus `k`: its type is not None and it names the bus (R58). -/
def State.polledOn (s : State) (k m : Nat) : Bool :=
  let ty := s.get (Fld.PIN_MOD_DESC_TYPE m)
  decide (1 ≤ ty ∧ ty ≤ 4) && s.get (Fld.PIN_MOD_DESC_BUS m) == k

/-- The items of a pass of bus `k`, in table order and list order, as they stand at its start (R60, R65). -/
def State.passItems (s : State) (k : Nat) : List (Nat × Nat × Nat × Nat × Nat × Nat) :=
  ((List.range 96).filter (s.polledOn k)).flatMap (fun m =>
    ((List.range 8).filter (fun i => (s.reg (Reg.PIN_ITEM_CTL m i)).toNat.testBit 23)).map (fun i =>
      (m, i, (s.reg (Reg.PIN_ITEM_CTL m i)).toNat, (s.reg (Reg.PIN_ITEM_OFS m i)).toNat,
        (s.reg (Reg.PIN_ITEM_OP_A_LO m i)).toNat + 2 ^ 32 * (s.reg (Reg.PIN_ITEM_OP_A_HI m i)).toNat,
        (s.reg (Reg.PIN_ITEM_OP_B_LO m i)).toNat + 2 ^ 32 * (s.reg (Reg.PIN_ITEM_OP_B_HI m i)).toNat)))

/-- A pass of bus `k` begins with the configuration of that moment (R60, R64). -/
def State.beginPass (s : State) (k : Nat) : State :=
  let en := s.flag (Fld.PIN_BUS_CFG_EN k)
  let period := s.get (Fld.PIN_BUS_CFG_POLL_PERIOD k)
  let items := s.passItems k
  let s := s.modBus k (fun b => { b with
    en := en, speed := s.get (Fld.PIN_BUS_CFG_SPEED k),
    period := if period = 0 then 10 else if period > 1000 then 1000 else period,
    pass := if en then items else [], overrun := false, nacked := [], acked := [], channel := none })
  s.setB (Fld.PIN_BUS_STATUS_RUNNING k) en

/-- The poll period of bus `k` elapses: a pass starts, or the one that runs overruns (R60). -/
def State.pollPassStart (s : State) (k : Nat) : State :=
  s.when (s.busOn k && !s.flag (Fld.PIN_BUS_STATUS_FAILED k)) fun s =>
    if s.flag (Fld.PIN_BUS_STATUS_RUNNING k) then s.modBus k (fun b => { b with overrun := true })
    else s.beginPass k

/-- The compare of an item matches (R65). -/
def compareMatches (cmp value a b : Nat) : Bool :=
  match cmp with
  | 1 => (value &&& b) == (a &&& b)
  | 2 => decide (value < a ∨ b < value)
  | 3 => decide (signedOf 16 value < signedOf 16 a ∨ signedOf 16 b < signedOf 16 value)
  | _ => false

/-- Bytes an item reads: LEN for I2C with 0 and 9 to 15 treated as 1, two for MDIO (Table 2.8). -/
def itemLen (k ctl : Nat) : Nat :=
  let len := bitsOf ctl 16 4
  if 8 ≤ k then 2 else if len = 0 ∨ 9 ≤ len then 1 else len

/-- Bus `k` is marked failed: its pass ends and all its items are STALE (R63). -/
def State.busFail (s : State) (k : Nat) : State :=
  let s := (s.raise (Fld.PIN_BUS_STATUS_FAILED k)).raise (Fld.PIN_BUS_STATUS_FAIL_EV k)
  let s := (s.setB (Fld.PIN_BUS_STATUS_RUNNING k) false).modBus k (fun b => { b with pass := [], channel := none })
  ((List.range 96).filter (s.polledOn k)).foldl (fun s m =>
    (s.set (Fld.PIN_MOD_STATUS_STALE m) 0xFF).modModule m (fun d => { d with read := 0 })) s

/-- An item of bus `k` is aborted: a bus error, its alarm state unchanged (R63). -/
def State.busError (s : State) (k : Nat) : State :=
  (s.raise (Fld.PIN_BUS_STATUS_BUSERR_EV k)).add (Fld.PIN_BUS_CNT_ERR k) 1

/-- An item has been read: its value, its freshness and its runs of matches and failures (R61, R65). -/
def State.storeItem (s : State) (m i cmp a b value : Nat) : State :=
  let s := (s.setReg (Reg.PIN_ITEM_VALUE_LO m i) (BitVec.ofNat 32 value)).setReg (Reg.PIN_ITEM_VALUE_HI m i)
    (BitVec.ofNat 32 (value / 2 ^ 32))
  let hit := compareMatches cmp value a b
  let s := s.modModule m (fun d => { d with
    read := setBit d.read i,
    matchRun := modD 0 d.matchRun i (fun r => if hit then r + 1 else 0),
    failRun := modD 0 d.failRun i (fun r => if hit then 0 else r + 1) })
  if s.flag (Fld.PIN_MOD_STATUS_ABSENT m) then s
  else s.set (Fld.PIN_MOD_STATUS_STALE m) (clearBit (s.get (Fld.PIN_MOD_STATUS_STALE m)) i)

/-- The transfers that the master makes for an item: the module's switch channel where it is not yet selected, the page select
before an item that names an upper page, the read (R57 to R60, R62). -/
def State.itemXfers (s : State) (k m ctl ofs : Nat) : List BusXfer :=
  let dev := bitsOf ctl 0 7
  if k < 8 then
    let sw := s.get (Fld.PIN_MOD_DESC_SW_ADDR m)
    (if sw = 0 ∨ (s.bus k).channel = some m then [] else [.channel sw (s.get (Fld.PIN_MOD_DESC_SW_CHAN m))])
      ++ (if bitsOf ctl 8 8 = 0xFF then [] else [.page dev (bitsOf ctl 8 8)])
      ++ [.read dev (ofs % 256) (itemLen k ctl)]
  else if s.get (Fld.PIN_MOD_DESC_TYPE m) = 3 then [.clause22 (s.get (Fld.PIN_MOD_DESC_PHY_ADDR m)) (ofs % 32)]
  else [.clause45 (s.get (Fld.PIN_MOD_DESC_PHY_ADDR m)) (dev % 32) (ofs % 65536)]

/-- The next item of the pass of bus `k` ends (R57, R59, R61, R63, R65). An item whose SDA the recovery clocks freed gives no value
and counts as no aborted item (log entry 105). -/
def State.pollItemComplete (s : State) (k : Nat) (o : BusOutcome) : State :=
  s.when (s.busOn k && s.flag (Fld.PIN_BUS_STATUS_RUNNING k)) fun s =>
    match (s.bus k).pass with
    | [] => s
    | (m, i, ctl, ofs, a, b) :: rest =>
      let s := s.modBus k (fun b => { b with pass := rest, channel := some m, xfers := s.itemXfers k m ctl ofs })
      match o with
      | .ack bytes =>
        let s := s.modBus k (fun b => { b with acked := m :: b.acked })
        s.storeItem m i (bitsOf ctl 20 2) a b (beNat (bytes.take (itemLen k ctl)))
      | .noAck => s.modBus k (fun b => { b with nacked := m :: b.nacked })
      | .stuck true => s
      | .stuck false => s.busFail k
      | .stretch => s.busError k

/-- The runs of passes without and with acknowledgement, after a pass (R61). -/
def State.countPass (s : State) (k : Nat) : State :=
  let b := s.bus k
  (List.range 96).foldl (fun s m =>
    if b.acked.contains m then s.modModule m (fun d => { d with ackRun := d.ackRun + 1, nackRun := 0 })
    else if b.nacked.contains m then s.modModule m (fun d => { d with nackRun := d.nackRun + 1, ackRun := 0 })
    else s) s

/-- A pass of bus `k` ends after `us` microseconds; one that overran is counted and the next starts at once (R60). -/
def State.pollPassEnd (s : State) (k us : Nat) : State :=
  s.when (s.busOn k && s.flag (Fld.PIN_BUS_STATUS_RUNNING k) && (s.bus k).pass.isEmpty) fun s =>
    let late := (s.bus k).overrun
    let s := (s.countPass k).set (Fld.PIN_BUS_STATUS_PASS_US k) (min us 65535)
    let s := s.setB (Fld.PIN_BUS_STATUS_RUNNING k) false
    if late then ((s.raise (Fld.PIN_BUS_STATUS_OVR_EV k)).add (Fld.PIN_BUS_CNT_OVR k) 1).beginPass k else s

/-- The bus that module `m` names can poll; while its feed is off results and alarms are frozen (R56). -/
def State.moduleOn (s : State) (m : Nat) : Bool := s.busOn (s.get (Fld.PIN_MOD_DESC_BUS m))

/-- An item's alarm is raised after two matching passes and cleared after two failing ones (R61, R66). -/
def State.moduleAlarmChange (s : State) (m i : Nat) : State :=
  s.when (s.moduleOn m) fun s =>
    let a := s.get (Fld.PIN_MOD_STATUS_ALARM m)
    if !a.testBit i ∧ 2 ≤ (s.mdl m).matchRun.getD i 0 then
      (s.set (Fld.PIN_MOD_STATUS_ALARM m) (setBit a i)).orBits (Fld.PIN_MOD_CAUSE_ALARM_EV m) (2 ^ i)
    else if a.testBit i ∧ 2 ≤ (s.mdl m).failRun.getD i 0 then s.set (Fld.PIN_MOD_STATUS_ALARM m) (clearBit a i)
    else s

/-- A module is marked absent after three unacknowledged passes, present after two acknowledged ones (R61, R66). -/
def State.modulePresenceChange (s : State) (m : Nat) : State :=
  s.when (s.moduleOn m) fun s =>
    let d := s.mdl m
    if !s.flag (Fld.PIN_MOD_STATUS_ABSENT m) ∧ 3 ≤ d.nackRun then
      let s := ((s.raise (Fld.PIN_MOD_STATUS_ABSENT m)).raise (Fld.PIN_MOD_CAUSE_ABSENT_EV m)).set (Fld.PIN_MOD_STATUS_STALE m) 0xFF
      s.modModule m (fun d => { d with read := 0 })
    else if s.flag (Fld.PIN_MOD_STATUS_ABSENT m) ∧ 2 ≤ d.ackRun then
      ((s.setB (Fld.PIN_MOD_STATUS_ABSENT m) false).raise (Fld.PIN_MOD_CAUSE_PRESENT_EV m)).set (Fld.PIN_MOD_STATUS_STALE m)
        (0xFF - d.read % 256)
    else s

/-- A failed bus retries recovery; `ok` says whether SDA is high after it (R63). -/
def State.busRecoveryRetry (s : State) (k : Nat) (ok : Bool) : State :=
  s.when (s.busOn k && s.flag (Fld.PIN_BUS_STATUS_FAILED k) && ok) fun s => s.setB (Fld.PIN_BUS_STATUS_FAILED k) false

/-- A clock stretch beyond 25 ms aborts the item that runs (R63). -/
def State.clockStretchTimeout (s : State) (k : Nat) : State :=
  s.when (s.busOn k && decide (k < 8) && !(s.bus k).pass.isEmpty) fun s =>
    (s.modBus k (fun b => { b with pass := b.pass.drop 1, channel := b.pass.head?.map (fun x => x.1) })).busError k

/-- What the loss of feed `p` does to the buses of the half: they stop polling, their results and alarms are frozen and
STALE (R56). -/
def State.busesOff (s : State) (p : Nat) : State :=
  ((List.range 10).filter (fun k => busHalf k == p)).foldl (fun s k =>
    let s := (s.setB (Fld.PIN_BUS_STATUS_RUNNING k) false).modBus k (fun b => { b with pass := [], overrun := false, channel := none })
    ((List.range 96).filter (s.polledOn k)).foldl (fun s m =>
      (s.set (Fld.PIN_MOD_STATUS_STALE m) 0xFF).modModule m (fun d => { d with read := 0 })) s) s

/-! ## Meanings -/

/-- WAKE_ON_SD (R54). -/
def execWakeOnSd (n : LineNo) (s : State) : Host.Outcome State Fault Refusal := done (s.wakeOnSd n.val)

/-- POLL_PASS_START (R60). -/
def execPollPassStart (k : BusNo) (s : State) : Host.Outcome State Fault Refusal := done (s.pollPassStart k.val)

/-- POLL_ITEM_COMPLETE (R65). -/
def execPollItemComplete (k : BusNo) (o : BusOutcome) (s : State) : Host.Outcome State Fault Refusal :=
  done (s.pollItemComplete k.val o)

/-- POLL_PASS_END (R60): `us` is the duration of the pass. -/
def execPollPassEnd (k : BusNo) (us : Nat) (s : State) : Host.Outcome State Fault Refusal := done (s.pollPassEnd k.val us)

/-- MODULE_ALARM_CHANGE (R61). -/
def execModuleAlarmChange (m : ModuleNo) (item : ItemNo) (s : State) : Host.Outcome State Fault Refusal :=
  done (s.moduleAlarmChange m.val item.val)

/-- MODULE_PRESENCE_CHANGE (R61). -/
def execModulePresenceChange (m : ModuleNo) (s : State) : Host.Outcome State Fault Refusal :=
  done (s.modulePresenceChange m.val)

/-- BUS_RECOVERY_RETRY (R63). -/
def execBusRecoveryRetry (k : BusNo) (ok : Bool) (s : State) : Host.Outcome State Fault Refusal :=
  done (s.busRecoveryRetry k.val ok)

/-- CLOCK_STRETCH_TIMEOUT (R63). -/
def execClockStretchTimeout (k : BusNo) (s : State) : Host.Outcome State Fault Refusal := done (s.clockStretchTimeout k.val)

end Sys2Proof.Machine
end

