-- ==== Sys2Proof/Machine/LineCmd.lean ====
section
/-! DEFINITION. Mailbox commands about lines, modules, Through pairs, protection groups and line timing (R391, R392). -/

namespace Sys2Proof.Machine

/-! ## What a line is used for -/

/-- The planes whose tables and groups concern line `n`. -/
def State.ownPlanes (s : State) (n : Nat) : List Nat :=
  if s.twin then [0, 1].filter (fun p => s.halfOn p && s.planeState p != 0) else [halfOf n].filter s.halfOn

/-- Line `n` is a member of a group that Berent keeps for an unpowered plane (R466): the first words of its records. -/
def State.keptGroup (s : State) (n : Nat) : Bool :=
  s.mbx.kept.any (fun x =>
    let at' := fun (f : RField) => bitsOf x.2 f.lo f.len == n
    if x.1 % 0x800000 < 0x10000 then x.1 % 32 == 0 && (at' LG.wLine || at' LG.pLine)
    else x.1 % 64 == 0 && (at' MG.wLine || at' MG.pLine))

/-- Line `n` is a member of a protection group. -/
def State.grouped (s : State) (n : Nat) : Bool :=
  (s.ownPlanes n).any (fun p => !(s.lgsOf p n).isEmpty || !(s.mgsOf p n).isEmpty) || s.keptGroup n

/-- Line `n` is the source or destination of a flow in an active epoch. -/
def State.flowing (s : State) (n : Nat) : Bool := (s.ownPlanes n).any (fun p => s.epochNames p (s.active p) n)

/-- Slot 22 or 23 of line `n` carries a flow in an active epoch (R115). -/
def State.paritySlots (s : State) (n : Nat) : Bool :=
  (s.ownPlanes n).any (fun p => (s.flowsOf p (s.active p)).any (fun f =>
    (s.endsOf p (s.desc p (s.active p) f)).any (fun e => e.line == n && bitsOf e.pos 22 2 != 0)))

/-- The FEC setting Berent holds for line `n`. -/
def State.heldFec (s : State) (n : Nat) : Bool :=
  if s.lineReady n then (match (s.line n).lane.newFormat with
    | some t => t.2.1
    | none => s.flag (Fld.LCH_MXF_CFG_FEC n))
  else (s.line n).own.fec

/-- The state with what Berent keeps of an unpowered line changed. -/
def State.modOwn (s : State) (n : Nat) (f : LineOwn → LineOwn) : State := s.modLine n (fun l => { l with own := f l.own })

/-- Line `n` dozes, or is on its way into doze or between dozes. -/
def State.inDoze (s : State) (n : Nat) : Bool :=
  match (s.line n).lane.trans with
  | .none => s.lineDozes n
  | .exit => false
  | .entry _ => true
  | .move _ => true

/-! ## LINE_CONFIG -/

/-- A line takes a new FEC setting without a doze (R115). -/
def State.setFec (s : State) (n : Nat) (fec : Bool) : State :=
  if !s.lineReady n then s.modOwn n (fun o => { o with fec := fec })
  else match (s.line n).lane.newFormat with
    | some (f, _, k) => s.modLane n (fun l => { l with newFormat := some (f, fec, k) })
    | none =>
      if s.flag (Fld.LCH_MXF_CFG_FEC n) = fec then s else (s.uncheck n).setB (Fld.LCH_MXF_CFG_FEC n) fec

/-- LINE_CONFIG: the checks of R392, then the format and the FEC setting (R42, R115). -/
def State.lineConfig (s : State) (c : Taken) (pay : List Byte) : State :=
  let n := payNum pay 0 1
  let f := payNum pay 1 1
  let fec := bitOf (payNum pay 2 1) 0 && isMxf f
  let raw := payNum pay 4 4
  if 96 ≤ n ∨ !s.hasLine n then s.badArg c 0
  else if 0x11 < f then s.badArg c 1
  else if (f = 0x11 ∧ (raw < 1250000 ∨ 28050000 < raw)) ∨ (f ≠ 0x11 ∧ raw ≠ 0) then s.badArg c 4
  else
    let old := s.heldFormat n
    if f ≠ old ∧ (s.flowing n || s.grouped n || s.inThrough n) then s.badArg c 1
    else if fec && !(s.heldFec n && f == old) && s.paritySlots n then s.badArg c 2
    else if f ≠ old ∧ s.counts n ∧ !s.admits n (countedRate f) then s.answerNoRes c
    else
      let s := if f = old then (if isMxf f then s.setFec n fec else s)
        else if s.lineReady n then s.setFormat n f fec raw
        else s.modOwn n (fun o => { o with format := f, fec := fec, kbaud := raw })
      s.answerOk c []

/-- LINE_CONFIG (R392): the LINE_CONFIG command sets a line's format and MXF FEC after its checks and the admission rule. -/
def execLineConfig (s : State) : Host.Outcome State Fault Refusal := done (s.serve 0x0100 State.lineConfig)

/-! ## LINE_DOZE -/

/-- LINE_DOZE: refusals of R51 and R142, then the request (R52, R55, R501). -/
def State.lineDoze (s : State) (c : Taken) (pay : List Byte) : State :=
  let n := payNum pay 0 1
  let k := payNum pay 1 1
  if 96 ≤ n ∨ !s.hasLine n then s.badArg c 0
  else if 2 < k then s.badArg c 1
  else if k ≠ 0 ∧ (s.flowing n || s.grouped n || s.inThrough n) then s.badArg c 0
  else if k = 0 ∧ !s.counts n ∧ !s.admits n (countedRate (s.heldFormat n)) then s.answerNoRes c
  else
    let s := if s.lineReady n then s.request n (if k = 0 then .wake else if k = 1 then .light else .deep)
      else s.modOwn n (fun o => { o with doze := if k = 0 then none else some (k == 2) })
    s.answerOk c []

/-- LINE_DOZE (R51): the LINE_DOZE command puts a line into doze, moves it between dozes or wakes it. -/
def execLineDoze (s : State) : Host.Outcome State Fault Refusal := done (s.serve 0x0101 State.lineDoze)

/-! ## MODULE_ACCESS -/

/-- An operation of MODULE_ACCESS suits a module type: I2C for SFF-8472 and SFF-8636, MDIO for the others (R58). -/
def opSuits (op ty : Nat) : Bool :=
  if op < 2 then ty == 1 || ty == 2 else op < 4 && (ty == 3 || ty == 4)

/-- The BUS_ERROR answer (Table 13.5). -/
def State.answerBus (s : State) (c : Taken) (cause : Nat) : State := s.answer c 0x010C (leBytes 1 cause ++ List.replicate 3 0)

/-- MODULE_ACCESS: its checks, then the transaction waits for its turn on the bus (R62, R378, R392). -/
def State.moduleAccess (s : State) (c : Taken) (pay : List Byte) : State :=
  let m := payNum pay 0 1
  let op := payNum pay 1 1
  let n := payNum pay 6 2
  let bus := s.get (Fld.PIN_MOD_DESC_BUS m)
  let data := if op = 1 then n else if op = 3 then 2 else 0
  if 96 ≤ m ∨ s.get (Fld.PIN_MOD_DESC_TYPE m) = 0 ∨ 4 < s.get (Fld.PIN_MOD_DESC_TYPE m) ∨ 10 ≤ bus then s.badArg c 0
  else if !opSuits op (s.get (Fld.PIN_MOD_DESC_TYPE m)) || (op < 2) != (bus < 8) then s.badArg c 1
  else if n = 0 ∨ (op < 2 ∧ 128 < n) ∨ (2 ≤ op ∧ n ≠ 1) ∨ pay.length ≠ 8 + data then s.badArg c 6
  else if s.flag (Fld.PIN_BUS_STATUS_FAILED bus) then s.answerBus c 2
  else
    let s := { s with mbx := { s.mbx with busy := some c, access := some (bus, m, op, pay) } }
    s.modBus bus (fun b => { b with hostDue := true })

/-- MODULE_ACCESS (R62): the MODULE_ACCESS command performs a host I2C or MDIO transaction on a module. -/
def execModuleAccess (s : State) : Host.Outcome State Fault Refusal := done (s.serve 0x0102 State.moduleAccess)

/-- MODULE_HOST_TRANSACTION: the transaction has run on bus `k` between two poll items, and the command is answered; the
poll engine reselects the switch channel before its next item (R62, R63). A change of state that waited for the answer follows
(R365). A transaction that a recovered SDA cut off has
no stated cause byte (log entry 3). -/
def State.hostTransaction (s : State) (k : Nat) (o : BusOutcome) : State :=
  s.onSpine fun s =>
    match s.mbx.busy, s.mbx.access with
    | some c, some (bus, _, op, pay) =>
      s.when (bus == k && (s.bus k).hostDue) fun s =>
        let s := { s with mbx := { s.mbx with busy := none, access := none } }
        let s := s.modBus k (fun b => { b with hostDue := false, channel := none })
        let n := if op < 2 then payNum pay 6 2 else 2
        let s : State := match o with
          | .ack bytes => s.answerOk c (if op = 0 ∨ op = 2 then (bytes ++ List.replicate n 0).take n else [])
          | .noAck => s.answerBus c 0
          | .stretch => (s.busError k).answerBus c 1
          | .stuck false => (s.busFail k).answerBus c 2
          | .stuck true =>
            let (v, s) := s.free
            s.answerBus c (v % 256)
        s.stateFollow
    | _, _ => s

/-- MODULE_HOST_TRANSACTION (R62): the host module transaction runs on the bus between two poll items. -/
def execModuleHostTransaction (k : BusNo) (o : BusOutcome) (s : State) : Host.Outcome State Fault Refusal :=
  done (s.hostTransaction k.val o)

/-! ## THROUGH_CONFIG -/

/-- A Through pair from line `i` to line `j` is made; line `j` sends the maintenance signal until it can forward (R142,
R149). -/
def State.thruCreate (s : State) (i j : Nat) : State :=
  let s := (s.uncheck i).uncheck j
  let s := (s.raise (Fld.LCH_OHP_THRU_CFG_ENABLE j)).set (Fld.LCH_OHP_THRU_CFG_SRC_LINE j) i
  (s.raise (Fld.LCH_OHP_THRU_STATUS_FALLBACK j)).modThru j (fun _ => Thru.reset)

/-- The pair of output line `j` is removed, after the frame in progress (R149). -/
def State.thruRemove (s : State) (i j : Nat) : State :=
  let s := ((s.thruFinish j).uncheck i).uncheck j
  let s := (s.setB (Fld.LCH_OHP_THRU_CFG_ENABLE j) false).set (Fld.LCH_OHP_THRU_CFG_SRC_LINE j) 0
  let s := (s.setB (Fld.LCH_OHP_THRU_STATUS_ACTIVE j) false).setB (Fld.LCH_OHP_THRU_STATUS_FALLBACK j) false
  ((s.setB (Fld.LCH_OHP_THRU_STATUS_TX_TIMING j) false).set (Fld.LCH_OHP_THRU_STATUS_LAT_CYC j) 0).modThru j (fun _ => Thru.reset)

/-- Line `i` is the input of a pair whose output is not line `j`. -/
def State.thruInput (s : State) (i j : Nat) : Bool :=
  (List.range 96).any (fun k => k != j && s.flag (Fld.LCH_OHP_THRU_CFG_ENABLE k) && s.get (Fld.LCH_OHP_THRU_CFG_SRC_LINE k) == i)

/-- THROUGH_CONFIG: the conditions of R142, then the pair is created or removed. -/
def State.throughConfig (s : State) (c : Taken) (pay : List Byte) : State :=
  let i := payNum pay 0 1
  let j := payNum pay 1 1
  let k := payNum pay 2 1
  if 96 ≤ i ∨ !s.hasLine i then s.badArg c 0
  else if 96 ≤ j ∨ !s.hasLine j then s.badArg c 1
  else if 1 < k then s.badArg c 2
  else
    let on := s.flag (Fld.LCH_OHP_THRU_CFG_ENABLE j)
    if k = 0 then
      if on && s.get (Fld.LCH_OHP_THRU_CFG_SRC_LINE j) == i then (s.thruRemove i j).answerOk c [] else s.badArg c 1
    else if on ∨ s.flowing j ∨ s.grouped j ∨ !thruFormat (s.format j) ∨ (!s.twin ∧ halfOf i ≠ halfOf j) then s.badArg c 1
    else if s.thruInput i j ∨ s.flowing i ∨ s.grouped i ∨ s.format i ≠ s.format j ∨ s.heldFec i ≠ s.heldFec j then s.badArg c 0
    else (s.thruCreate i j).answerOk c []

/-- THROUGH_CONFIG (R142): the THROUGH_CONFIG command creates or removes a Through pair. -/
def execThroughConfig (s : State) : Host.Outcome State Fault Refusal := done (s.serve 0x0103 State.throughConfig)

/-! ## Protection groups -/

/-- The planes that a group of a line pair lives in (R229). -/
def State.groupPlanes (s : State) (w : Nat) : List Nat :=
  if s.twin then [0, 1].filter (fun p => s.halfOn p && s.planeState p != 0) else [halfOf w]

/-- A flow of either epoch of plane `p` names line `n` as a destination. -/
def State.destined (s : State) (p n : Nat) : Bool :=
  [0, 1].any (fun e => (s.flowsOf p e).any (fun f =>
    let d := s.desc p e f
    d.valid && (d.dstLine == n || (d.bridge && d.dst2Line == n))))

/-- A combination of SCHEME, ARCH, BIDIR, REVERT and APS_EN of Table 8.1. -/
def archOk (scheme flags : Nat) : Bool :=
  let arch := bitOf flags 0
  let bidir := bitOf flags 1
  let revert := bitOf flags 2
  let aps := bitOf flags 3
  if arch then bidir && revert && aps else aps || (scheme == 2 && !bidir)

/-- The members of a line group suit its scheme and each other (R230, Table 8.1). -/
def State.membersOk (s : State) (w p : Nat) : Bool :=
  w != p && s.format w == s.format p && !s.inThrough w && !s.inThrough p && !s.inDoze w && !s.inDoze p
    && (s.twin || halfOf w == halfOf p)

/-- The record of a line group as it is created (Table 8.9). -/
def State.lgWrite (s : State) (p g word : Nat) : State :=
  let s := (s.putRec (lgAddr p g) 4 word).putRec (lgAddr p g + 4) 4 (300 * 65536)
  (((List.range 6).foldl (fun s k => s.putRec (lgAddr p g + 8 + 4 * k) 4 0) s)).modLg p g (fun _ => LGroup.reset)

/-- PG_CREATE: the conditions of R230, then the group's record in its planes. -/
def State.pgCreate (s : State) (c : Taken) (pay : List Byte) : State :=
  let g := payNum pay 0 1
  let scheme := payNum pay 1 1
  let flags := payNum pay 2 1 % 16
  let w := payNum pay 3 1
  let p := payNum pay 4 1
  if 48 ≤ g ∨ (s.groupPlanes w).any (fun q => s.lgExists q g) then s.badArg c 0
  else if scheme ≠ 1 ∧ scheme ≠ 2 then s.badArg c 1
  else if !archOk scheme flags then s.badArg c 2
  else if 96 ≤ w ∨ !s.hasLine w ∨ (scheme = 1 ∧ !isStm (s.format w)) ∨ (scheme = 2 ∧ s.format w ≠ 0x0B) ∨ s.grouped w then s.badArg c 3
  else if 96 ≤ p ∨ !s.hasLine p ∨ !s.membersOk w p ∨ s.grouped p ∨ (s.groupPlanes w).any (fun q => s.destined q p) then s.badArg c 4
  else
    let word := scheme + 4 * flags + 256 * w + 65536 * p
    let s : State := (s.groupPlanes w).foldl (fun s q => s.lgWrite q g word) s.firmMark
    s.answerOk c []

/-- PG_CREATE (R230): the PG_CREATE command creates an MSP or ODUk line protection group. -/
def execPgCreate (s : State) : Host.Outcome State Fault Refusal := done (s.serve 0x0300 State.pgCreate)

/-- The frame period T_f of an MXF format in units of 10 ps (Table 4.1). -/
def framePeriod (fmt : Nat) : Nat :=
  match fmt with
  | 0x0D => 5242880
  | 0x0E => 2621440
  | 0x0F => 1310720
  | _ => 524288

/-- Pages of one copy of a group of `k` slots and `depth` frames (R246). -/
def copyPages (depth k : Nat) : Nat := (depth * 680 * k + 4095) / 4096

/-- DEPTH lies within the limits of R246. -/
def depthOk (fmt depth k : Nat) : Bool :=
  decide (4 ≤ depth) && decide (copyPages depth k ≤ 208) && decide ((depth - 3) * framePeriod fmt ≤ 400000000)

/-- Pages of the pool of plane `p` in use: two buffers a group (R246). -/
def State.poolUsed (s : State) (p : Nat) : Nat :=
  ((List.range 256).map (fun g => if s.mgExists p g then 2 * s.mgGet p g MG.pages else 0)).foldl (· + ·) 0

/-- PRT_STATUS.POOL_FREE of plane `p` (R246, R259). -/
def State.poolShow (s : State) (p : Nat) : State := s.set (Fld.PRT_STATUS_POOL_FREE p) (12288 - s.poolUsed p)

/-- Line `n` may join a merge pair with line `m`: it is in no line group and in no other pair (R230, R243). -/
def State.pairFree (s : State) (n m : Nat) : Bool :=
  (s.ownPlanes n).all (fun q => (s.lgsOf q n).isEmpty && (s.mgsOf q n).all (fun g =>
    s.mgLine q g false == m || s.mgLine q g true == m))

/-- The slots of line `n` that merge groups of plane `q` take (R243). -/
def State.mergeSlots (s : State) (q n : Nat) : Nat :=
  (s.mgsOf q n).foldl (fun m g => m ||| s.mgGet q g (if s.mgLine q g false = n then MG.wMask else MG.pMask)) 0

/-- The record of a merge group as it is created (Table 8.10). -/
def State.mgWrite (s : State) (q g word0 wm pm pages : Nat) : State :=
  let a := mgAddr q g
  let s : State := (List.range 16).foldl (fun s k => s.putRec (a + 4 * k) 4 0) s
  let s := ((s.putRec a 4 word0).putRec (a + 4) 4 wm).putRec (a + 8) 4 pm
  let s := s.putRec (a + 12) 4 (pages + 256 * 10)
  ((s.mgSet q g MG.farBridge 3).modMg q g (fun _ => MGroup.reset)).poolShow q

/-- A merge pair forms: P takes W's frame count once (R244). -/
def State.pairForms (s : State) (w p : Nat) : State := s.modMxf p (fun m => { m with txFsn := (s.line w).mxf.txFsn })

/-- MG_CREATE: the conditions of R230, R243 and R246, then the group's record; a pair that forms takes W's frame count for
P (R244). -/
def State.mgCreate (s : State) (c : Taken) (pay : List Byte) : State :=
  let g := payNum pay 0 1
  let w := payNum pay 1 1
  let p := payNum pay 2 1
  let depth := payNum pay 4 2
  let wm := payNum pay 8 4
  let pm := payNum pay 12 4
  let k := popCount 24 wm
  let qs := s.groupPlanes w
  if qs.any (fun q => s.mgExists q g) then s.badArg c 0
  else if 96 ≤ w ∨ !s.hasLine w ∨ !isMxf (s.format w) ∨ !s.pairFree w p then s.badArg c 1
  else if 96 ≤ p ∨ !s.hasLine p ∨ !s.membersOk w p ∨ s.heldFec w ≠ s.heldFec p ∨ !s.pairFree p w
      ∨ s.get (Fld.TMG_LINE_TXT_SRC w) ≠ s.get (Fld.TMG_LINE_TXT_SRC p) ∨ qs.any (fun q => decide (24 ≤ (s.mgsOf q w).length)) then
    s.badArg c 2
  else if wm = 0 ∨ 2 ^ 24 ≤ wm ∨ qs.any (fun q => s.mergeSlots q w &&& wm != 0) then s.badArg c 8
  else if 2 ^ 24 ≤ pm ∨ popCount 24 pm ≠ k ∨ qs.any (fun q => s.mergeSlots q p &&& pm != 0) then s.badArg c 12
  else if !depthOk (s.format w) depth k then s.badArg c 4
  else
    let pages := copyPages depth k
    if qs.any (fun q => decide (12288 < s.poolUsed q + 2 * pages)) then s.answerNoRes c
    else
      let forms := qs.all (fun q => (s.mgsOf q w).isEmpty)
      let s : State := qs.foldl (fun s q => s.mgWrite q g (1 + 2 * w + 256 * p + 65536 * depth) wm pm pages) s.firmMark
      let s := if forms then s.pairForms w p else s
      s.answerOk c (leBytes 1 pages ++ List.replicate 3 0)

/-- MG_CREATE (R243): the MG_CREATE command creates a merge group and allocates its buffers. -/
def execMgCreate (s : State) : Host.Outcome State Fault Refusal := done (s.serve 0x0301 State.mgCreate)

/-- Plane `q` holds the group, in its record or kept for its return (R229, R466). -/
def State.holdsGroup (s : State) (merge : Bool) (q g : Nat) : Bool :=
  if s.halfOn q then (if merge then s.mgExists q g else s.lgExists q g)
  else decide (merge ∨ g < 48) && s.mbx.kept.any (fun x => x.1 == (if merge then mgAddr q g else lgAddr q g))

/-- A flow of either epoch of plane `q` names the group. -/
def State.groupNamed (s : State) (merge : Bool) (q g : Nat) : Bool :=
  [0, 1].any (fun e => (s.flowsOf q e).any (fun f =>
    let d := s.desc q e f
    d.valid && d.srcPg && d.srcLine == (if merge then g else 0x100 + g)))

/-- The group leaves plane `q`. -/
def State.groupClear (s : State) (merge : Bool) (q g : Nat) : State :=
  let a := if merge then mgAddr q g else lgAddr q g
  let s : State := if s.halfOn q then (List.range (if merge then 16 else 8)).foldl (fun s k => s.putRec (a + 4 * k) 4 0) s else s
  let s := { s with mbx := { s.mbx with kept := s.mbx.kept.filter (fun x => !(decide (a ≤ x.1 ∧ x.1 < a + 16))) } }
  if merge then (let s := s.modMg q g (fun _ => MGroup.reset); if s.halfOn q then s.poolShow q else s) else s.modLg q g (fun _ => LGroup.reset)

/-- PG_REMOVE: the plane that holds the group, and no flow that names it (R230, R392). -/
def State.pgRemove (s : State) (c : Taken) (pay : List Byte) : State :=
  let g := payNum pay 0 1
  let merge := payNum pay 1 1 == 1
  let k := payNum pay 2 1
  let holds := [0, 1].filter (fun q => s.holdsGroup merge q g)
  if 1 < payNum pay 1 1 then s.badArg c 1
  else if 2 < k ∨ (s.twin ∧ k ≠ 0) ∨ (k = 2 ∧ !s.hasHalf 1) then s.badArg c 2
  else if holds.isEmpty ∨ (k ≠ 0 ∧ !holds.contains (k - 1)) ∨ (k = 0 ∧ !s.twin ∧ holds.length = 2) then s.badArg c 0
  else
    let qs := if k = 0 then holds else [k - 1]
    if qs.any (fun q => s.groupNamed merge q g) then s.badArg c 0
    else (qs.foldl (fun s q => s.groupClear merge q g) s.firmMark).answerOk c []

/-- PG_REMOVE (R392): the PG_REMOVE command removes a line or merge group from the plane named. -/
def execPgRemove (s : State) : Host.Outcome State Fault Refusal := done (s.serve 0x0302 State.pgRemove)

/-! ## Timing -/

/-- LINE_TX_TIMING: the whole list together, or none of it; the lines of a merge pair stay on one source (R313, R392). -/
def State.lineTxTiming (s : State) (c : Taken) (pay : List Byte) : State :=
  let src := payNum pay 0 1
  let n := payNum pay 1 1
  let l := (List.range n).map (fun i => payNum pay (2 + i) 1)
  if 9 < src then s.badArg c 0
  else if n = 0 ∨ 96 < n ∨ pay.length ≠ 2 + n then s.badArg c 1
  else match (List.range n).find? (fun i => decide (96 ≤ l.getD i 96) || !s.hasLine (l.getD i 96)) with
    | some i => s.badArg c (2 + i)
    | none =>
      let splits := fun (x : Nat) => (s.ownPlanes x).any (fun q => (s.pairOf q x).any (fun y =>
        !l.contains y && s.get (Fld.TMG_LINE_TXT_SRC y) != src))
      match (List.range n).find? (fun i => splits (l.getD i 96)) with
      | some i => s.badArg c (2 + i)
      | none => (l.foldl (fun s x => s.set (Fld.TMG_LINE_TXT_SRC x) src) s).answerOk c []

/-- LINE_TX_TIMING (R313): the LINE_TX_TIMING command sets the transmit timing source of a list of lines together. -/
def execLineTxTiming (s : State) : Host.Outcome State Fault Refusal := done (s.serve 0x0400 State.lineTxTiming)

/-- TOD_CONFIG: baud, output and events of the time-of-day port (R319). -/
def State.todConfig (s : State) (c : Taken) (pay : List Byte) : State :=
  let baud := payNum pay 0 4
  if baud < 9600 ∨ 115200 < baud then s.badArg c 0
  else
    let o := payNum pay 4 1
    ({ s with mbx := { s.mbx with todBaud := baud, todZda := bitOf o 0, todRx := bitOf o 1 } }).answerOk c []

/-- TOD_CONFIG (R319): the TOD_CONFIG command sets the time-of-day UART baud and its output and events. -/
def execTodConfig (s : State) : Host.Outcome State Fault Refusal := done (s.serve 0x0401 State.todConfig)

end Sys2Proof.Machine
end

