-- ==== Sys2Proof/Machine/LongCmd.lean ====
section
/-! DEFINITION. The long operations of the mailbox (R388 to R396), the export of performance history (R394) and the forwarding
of threshold alerts (R387). -/

namespace Sys2Proof.Machine

/-! ## Starting and progress -/

/-- An operation of an opcode already runs on one of the targets (R389). -/
def State.opOn (s : State) (opcode target : Nat) : Bool :=
  (s.opsOf opcode).any (fun k => (s.op k).any (fun o => o.target &&& target != 0))

/-- A long operation starts in a free entry, or its command is answered NO_RESOURCE (R388, R389). -/
def State.longStart (s : State) (c : Taken) (target : Nat) (data : List Byte) (begin' : State → State) : State :=
  match s.opFree with
  | none => s.answerNoRes c
  | some k => if s.opOn c.opcode target then s.answerNoRes c else begin' (s.opStart k ⟨c, false, target, 0, data, false⟩)

/-- A plane byte: 0 A, 1 B, 2 both, as a set of planes by bit. -/
def planeSet (v : Nat) : Nat := if v = 2 then 3 else v + 1

/-- The planes of a set. -/
def planesIn (m : Nat) : List Nat := [0, 1].filter (fun p => m.testBit p)

/-- A long operation advances (R388); its own progress register shows the same (R189, R289, R393). A firmware load has begun to
write once it advances: its slot is erased. -/
def State.longProgress (s : State) (k pct pos : Nat) : State :=
  s.when s.berentRuns fun s =>
    match s.op k with
    | none => s
    | some o =>
      s.when (decide (pct ≤ 10000) && decide (s.get (Fld.MBX_OP_PROG_PCT k) ≤ pct)) fun s =>
        match o.cmd.opcode with
        | 0x0600 => s.resyncProgress pos
        | 0x0200 =>
          let s : State := (planesIn o.target).foldl (fun s p =>
            (s.set (Fld.MAP_EPOCH_PROG_PCT p) pct).set (Fld.MAP_EPOCH_PROG_POS p) pos) s
          s.opAdvance k pct pos
        | 0x0700 =>
          let s := s.putOp k (some { o with writing := true })
          let s := { s with flash := Sparse.clear (fun a => decide (a / 0x200000 = o.target - 1)) s.flash }
          ((s.set Fld.MGMT_FWLOAD_PROG_PCT pct).set Fld.MGMT_FWLOAD_PROG_POS pos).opAdvance k pct pos
        | _ => s.opAdvance k pct pos

/-- LONG_OP_PROGRESS (R388): a long operation advances and a PROGRESS event is sent when due. -/
def execLongOpProgress (k : Fin 8) (pct pos : Nat) (s : State) : Host.Outcome State Fault Refusal :=
  done (s.longProgress k.val pct pos)

/-! ## EPOCH_REBUILD -/

/-- EPOCH_REBUILD: its checks, then the operation; CHECKED clears at its start (R189, R389, R392). -/
def State.epochRebuild (s : State) (c : Taken) (pay data : List Byte) : State :=
  let v := payNum pay 0 1
  let n := payNum pay 4 4
  if 2 < v ∨ (s.twin ∧ v ≠ 2) ∨ (v ≠ 0 ∧ !s.hasHalf 1) then s.badArg c 0
  else if n ≠ 0 ∧ pay.length = 8 then s.badArg c 4
  else if pay.length = 24 ∧ !refOk pay 8 0 (fun l => l == 36 * n) then s.badArg c 8
  else
    let t := planeSet v
    if (planesIn t).any s.committing then s.answerNoRes c
    else s.longStart c t (pay.take 8 ++ data.take (36 * n)) fun s =>
      (planesIn t).foldl (fun s p =>
        ((s.setB (Fld.MAP_EPOCH_STATUS_CHECKED p) false).set (Fld.MAP_EPOCH_PROG_PCT p) 0).set (Fld.MAP_EPOCH_PROG_POS p) 0) s.firmMark

/-- EPOCH_REBUILD (R189): the EPOCH_REBUILD command starts a copy, edit and compile of the inactive epoch as a long operation.
`data` is what the DMA reference reads, short where the read fails (R385). -/
def execEpochRebuild (data : List Byte) (s : State) : Host.Outcome State Fault Refusal :=
  done (s.serve 0x0200 (fun s c pay => s.epochRebuild c pay data))

/-- The active epoch's descriptors into the inactive epoch of plane `p` (R189). -/
def State.copyEpoch (s : State) (p : Nat) : State :=
  let a := descAddr p (s.active p) 0
  let b := descAddr p (1 - s.active p) 0
  let cells := s.bar2.filter (fun c => decide (a ≤ c.1 ∧ c.1 < a + 0x200000))
  let s := s.clearBar2 (fun x => decide (b ≤ x ∧ x < b + 0x200000))
  cells.foldl (fun s c => s.putBar2 (b + (c.1 - a)) [c.2]) s

/-- The edits of a list into the inactive epoch of plane `p` (R392). -/
def State.applyEdits (s : State) (p n : Nat) (list : List Byte) : State :=
  (List.range n).foldl (fun s i =>
    let e := (list.drop (36 * i)).take 36
    let f := payNum e 0 4
    s.when (decide (f < 65536)) fun s => s.putBar2 (descAddr p (1 - s.active p) f) (descStored (e.drop 4))) s

/-- The rebuild of one plane: copy, edits, compile; the flow and code that failed, if one did. -/
def State.rebuildPlane (s : State) (p : Nat) (copy compile : Bool) (n : Nat) (list : List Byte) : State × Option (Nat × Nat) :=
  let s := if copy then s.copyEpoch p else s
  let s := s.applyEdits p n list
  if compile then s.compile p else (s, none)

/-- EPOCH_REBUILD_DONE: the rebuild ends and is answered (R189, R392). -/
def State.rebuildDone (s : State) (k : Nat) : State :=
  s.when s.berentRuns fun s =>
    match s.op k with
    | none => s
    | some o =>
      s.when (o.cmd.opcode == 0x0200) fun s =>
        let ops := payNum o.data 1 1
        let n := payNum o.data 4 4
        let list := o.data.drop 8
        if list.length < 36 * n then s.opEnd k 0x0109 (leBytes 4 list.length)
        else
          let ps := (planesIn o.target).filter (fun p => s.halfOn p && !(s.twin && s.planeState p == 0))
          let r := ps.foldl (fun (x : State × Option (Nat × Nat)) p =>
            let (s, fail) := x.1.rebuildPlane p (ops.testBit 0) (ops.testBit 1) n list
            (s.set (Fld.MAP_EPOCH_PROG_PCT p) 10000, match x.2 with
              | some e => some e
              | none => fail)) (s.firmMark, none)
          let s := r.1.set (Fld.MBX_OP_PROG_PCT k) 10000
          match r.2 with
          | some (f, code) => s.opEnd k 0x0103 (leBytes 2 0xFFFF ++ leBytes 1 code ++ leBytes 1 0 ++ leBytes 4 f)
          | none => s.opEnd k 0 []

/-- EPOCH_REBUILD_DONE (R189): the rebuild ends, setting CHECKED or recording the failure, and is answered. -/
def execEpochRebuildDone (k : Fin 8) (s : State) : Host.Outcome State Fault Refusal := done (s.rebuildDone k.val)

/-! ## SCRUB -/

/-- SCRUB: its checks, then the operation (R36, R389). -/
def State.scrub (s : State) (c : Taken) (pay : List Byte) : State :=
  let v := payNum pay 0 1
  if 2 < v ∨ (v ≠ 0 ∧ !s.hasHalf 1) then s.badArg c 0
  else s.longStart c (planeSet v) [] (fun s => s)

/-- SCRUB (R36): the SCRUB command starts the background SRAM scrub of a plane as a long operation. -/
def execScrub (s : State) : Host.Outcome State Fault Refusal := done (s.serve 0x0501 State.scrub)

/-- SCRUB_DONE: the words found, as counts and as fault sources of the planes scrubbed (R36, Table 16.1). -/
def State.scrubDone (s : State) (k corrected bad : Nat) : State :=
  s.when s.berentRuns fun s =>
    match s.op k with
    | none => s
    | some o =>
      s.when (o.cmd.opcode == 0x0501) fun s =>
        let s : State := (planesIn o.target).foldl (fun s p =>
          let s := if corrected = 0 then s else s.happen (34 + 32 * p)
          if bad = 0 then s else s.happen (33 + 32 * p)) s
        (s.set (Fld.MBX_OP_PROG_PCT k) 10000).opEnd k 0 (leBytes 4 corrected ++ leBytes 4 bad)

/-- SCRUB_DONE (R36): the scrub ends and is answered with the counts of corrected and uncorrectable words. -/
def execScrubDone (k : Fin 8) (corrected uncorrectable : BitVec 32) (s : State) : Host.Outcome State Fault Refusal :=
  done (s.scrubDone k.val corrected.toNat uncorrectable.toNat)

/-! ## RESYNC -/

/-- RESYNC: its checks, then the operation (R285, R389, R392). -/
def State.resyncCommand (s : State) (c : Taken) : State :=
  let idle := fun p => s.planeState p == 1 || s.planeState p == 6
  if !s.twin || !(idle 0 || idle 1) then s.badArg c 0xFFFF
  else match s.returning with
    | none => s.answerState c
    | some p => s.longStart c 1 [] (fun s => s.resyncStart p)

/-- RESYNC (R285): the RESYNC command starts a plane re-synchronisation as a long operation. -/
def execResync (s : State) : Host.Outcome State Fault Refusal := done (s.serve 0x0600 (fun s c _ => s.resyncCommand c))

/-! ## FW_LOAD -/

/-- FW_LOAD: its checks, then the operation (R389, R393). The target is the slot, plus one. -/
def State.fwLoad (s : State) (c : Taken) (pay data : List Byte) : State :=
  let slot := payNum pay 0 1
  if 1 < slot then s.badArg c 0
  else if !refOk pay 4 0 (fun l => decide (8193 ≤ l ∧ l ≤ 1581056)) then s.badArg c 4
  else if !(s.opsOf 0x0700).isEmpty then s.answerNoRes c
  else s.longStart c (slot + 1) (leBytes 4 (payNum pay 12 4) ++ data.take (payNum pay 12 4)) fun s =>
    (s.set Fld.MGMT_FWLOAD_PROG_PCT 0).set Fld.MGMT_FWLOAD_PROG_POS 0

/-- FW_LOAD (R393): the FW_LOAD command starts writing a new image to a flash slot as a long operation. `data` is what the DMA
reference reads, short where the read fails. -/
def execFwLoad (data : List Byte) (s : State) : Host.Outcome State Fault Refusal :=
  done (s.serve 0x0700 (fun s c pay => s.fwLoad c pay data))

/-- What an erased byte of the flash reads as. -/
def flashDefault (_ : Nat) : Byte := 0xFF

/-- The slot with nothing in it. -/
def State.eraseSlot (s : State) (slot : Nat) : State :=
  { s with flash := Sparse.clear (fun a => decide (a / 0x200000 = slot)) s.flash }

/-- FW_LOAD_DONE: the image stands in the slot, its first 4 KiB written last, or the slot is left without a MAGIC (R393). -/
def State.fwLoadDone (s : State) (k : Nat) (readBack : Bool) : State :=
  s.when s.berentRuns fun s =>
    match s.op k with
    | none => s
    | some o =>
      s.when (o.cmd.opcode == 0x0700) fun s =>
        let slot := o.target - 1
        let len := payNum o.data 0 4
        let img := o.data.drop 4
        let s := s.eraseSlot slot
        if img.length < len then s.opEnd k 0x0109 (leBytes 4 img.length)
        else
          let h := s.headerCode img (some len)
          let code := if h ≠ 0 then h else if s.fuses.rootKeyHash.isNone then 0x0A else s.bodyCode img false
          if code ≠ 0 then s.opEnd k 0x0105 (leBytes 1 code ++ List.replicate 3 0)
          else if !readBack then s.opEnd k 0x010B (leBytes 2 1 ++ leBytes 2 0)
          else
            let s := { s with flash := Sparse.setList flashDefault s.flash (slot * 0x200000) img }
            let s := (s.set Fld.MGMT_FWLOAD_PROG_PCT 10000).set Fld.MGMT_FWLOAD_PROG_POS (len / 1024)
            (s.set (Fld.MBX_OP_PROG_PCT k) 10000).opEnd k 0 []

/-- FW_LOAD_DONE (R393): the firmware load ends with the header written last or with the slot left invalid. -/
def execFwLoadDone (k : Fin 8) (readBack : Bool) (s : State) : Host.Outcome State Fault Refusal :=
  done (s.fwLoadDone k.val readBack)

/-! ## PRBS_TEST -/

/-- A pattern test can run on line `n` (R395). -/
def State.prbsFree (s : State) (n : Nat) : Bool :=
  s.hasLine n && s.format n != 0 && !s.inDoze n && !s.flowing n && !s.grouped n && !s.inThrough n

/-- The taps of a pattern: 1 + x^k + x^n (R395). -/
def prbsTaps (pattern : Nat) : Nat × Nat :=
  match pattern with
  | 0 => (6, 7)
  | 1 => (5, 9)
  | 2 => (14, 15)
  | 3 => (18, 23)
  | _ => (28, 31)

/-- `m` more bits of a pattern from the last `n` bits, the newest lowest: the bits, the first one highest, and the register. -/
def prbsBits (k n : Nat) : Nat → Nat → Nat → Nat × Nat
  | 0, acc, reg => (acc, reg)
  | m + 1, acc, reg =>
    let b := b2n (reg.testBit (k - 1) != reg.testBit (n - 1))
    prbsBits k n m (acc * 2 + b) ((reg * 2 + b) % 2 ^ n)

/-- Generator and checker of line `n` start, the generator at a place of the pattern that nothing fixes (log entry 3); the frame
acquisition unit sees the line as out of frame (R395, R396). -/
def State.prbsBegin (s : State) (n pattern : Nat) (inv : Bool) : State :=
  let (v, s) := s.free
  let s := s.setReg (Reg.LCH_PRBS_CFG n) (BitVec.ofNat 32 (pattern + 8 + 16 + 32 * b2n inv))
  let s := (s.set64 (Reg.LCH_PRBS_BITS_LO n) 0).set64 (Reg.LCH_PRBS_ERR_LO n) 0
  ((s.setB (Fld.LCH_PRBS_STATUS_SYNC n) false).modLine n (fun l => { l with
    prbs := { Prbs.reset with gen := 1 + v % (2 ^ (prbsTaps pattern).2 - 1) } })).fauIdle n

/-- PRBS_TEST: its checks, then generators and checkers on every line of the mask (R389, R395). -/
def State.prbsTest (s : State) (c : Taken) (pay : List Byte) : State :=
  let mask := payNum pay 0 12
  let pattern := payNum pay 12 1
  let sec := payNum pay 16 4
  match (bitList 96 mask).find? (fun n => !s.prbsFree n) with
  | some n => s.badArg c (n / 8)
  | none =>
    if 4 < pattern then s.badArg c 12
    else if sec = 0 ∨ 86400 < sec then s.badArg c 16
    else s.longStart c mask pay fun s =>
      (bitList 96 mask).foldl (fun s n => s.prbsBegin n pattern (bitOf (payNum pay 13 1) 0)) s

/-- PRBS_TEST (R395): the PRBS_TEST command starts pattern generation and checking on a mask of lines. -/
def execPrbsTest (s : State) : Host.Outcome State Fault Refusal := done (s.serve 0x0800 State.prbsTest)

/-- The result record of a line (R395). -/
def State.prbsRecord (s : State) (n : Nat) : List Byte :=
  leBytes 8 (s.get64 (Reg.LCH_PRBS_BITS_LO n)) ++ leBytes 4 (min (s.get64 (Reg.LCH_PRBS_ERR_LO n)) (2 ^ 32 - 1))
    ++ leBytes 1 (min (s.line n).prbs.losses 255) ++ leBytes 1 (s.get (Fld.LCH_PRBS_STATUS_SYNC n)) ++ leBytes 2 0

/-- PRBS_TEST_DONE: the records are answered, generators and checkers stop, each FAU restarts its hunt (R395). -/
def State.prbsDone (s : State) (k : Nat) : State :=
  s.when s.berentRuns fun s =>
    match s.op k with
    | none => s
    | some o =>
      s.when (o.cmd.opcode == 0x0800) fun s =>
        let recs := (bitList 96 o.target).flatMap s.prbsRecord
        ((s.abortEffect o).set (Fld.MBX_OP_PROG_PCT k) 10000).opEnd k 0 recs

/-- PRBS_TEST_DONE (R395): the test duration expires, the result records are answered and each FAU restarts its hunt. -/
def execPrbsTestDone (k : Fin 8) (s : State) : Host.Outcome State Fault Refusal := done (s.prbsDone k.val)

/-- The checker seeds itself from a word; all zeros seed nothing. -/
def Prbs.seeded (x : Prbs) (n w : Nat) : Prbs :=
  { x with seed := if w % 2 ^ n = 0 then none else some (w % 2 ^ n), good := 0, bad := 0 }

/-- The pattern of line `n` is inverted: O.150 inverts PRBS15, PRBS23 and PRBS31, INV inverts further (R395). -/
def State.prbsInv (s : State) (n : Nat) : Bool := decide (2 ≤ s.get (Fld.LCH_PRBS_CFG_PATTERN n)) != s.flag (Fld.LCH_PRBS_CFG_INV n)

/-- The generator's next 64 bits are the word in transmission, bit 63 sent first (R68, R395). -/
def State.prbsSend (s : State) (n : Nat) : State :=
  s.when (s.flag (Fld.LCH_PRBS_CFG_GEN_EN n)) fun s =>
    let (k, m) := prbsTaps (s.get (Fld.LCH_PRBS_CFG_PATTERN n))
    let (v, reg) := prbsBits k m 64 0 (s.line n).prbs.gen
    (s.modLine n (fun l => { l with prbs := { l.prbs with gen := reg } })).modLane n (fun l =>
      { l with words := [invert (s.prbsInv n) (BitVec.ofNat 64 v)] })

/-- PRBS_WORD_CHECK: one word period of a pattern test, which sends a word and checks one received, bit 63 first (R68, R395). -/
def State.prbsWord (s : State) (n : Nat) (w : Word64) : State :=
  s.onLine n fun s => s.when (s.flag (Fld.LCH_PRBS_CFG_CHK_EN n)) fun s =>
    let s := s.prbsSend n
    let w := s.laneWord n w w
    let s := s.laneStep n w
    s.when (s.flag (Fld.LCH_LINE_STATUS_CDR_LOCK n)) fun s =>
    let (k, m) := prbsTaps (s.get (Fld.LCH_PRBS_CFG_PATTERN n))
    let v := (invert (s.prbsInv n) w).toNat
    let x := (s.line n).prbs
    match x.seed with
    | none => s.modLine n (fun l => { l with prbs := x.seeded m v })
    | some reg =>
      let (want, reg') := prbsBits k m 64 0 reg
      let e := popCount 64 (want ^^^ v)
      if s.flag (Fld.LCH_PRBS_STATUS_SYNC n) then
        let s := (s.set64 (Reg.LCH_PRBS_BITS_LO n) ((s.get64 (Reg.LCH_PRBS_BITS_LO n) + 64) % 2 ^ 48)).set64
          (Reg.LCH_PRBS_ERR_LO n) ((s.get64 (Reg.LCH_PRBS_ERR_LO n) + e) % 2 ^ 48)
        let bad := if 8 < e then x.bad + 1 else 0
        if 4 ≤ bad then
          let s := (s.setB (Fld.LCH_PRBS_STATUS_SYNC n) false).raise (Fld.LCH_PRBS_STATUS_SYNC_LOSS_EV n)
          s.modLine n (fun l => { l with prbs := { x with seed := none, good := 0, bad := 0, losses := x.losses + 1 } })
        else s.modLine n (fun l => { l with prbs := { x with seed := some reg', bad := bad } })
      else if e = 0 then
        let s := if 63 ≤ x.good then s.raise (Fld.LCH_PRBS_STATUS_SYNC n) else s
        s.modLine n (fun l => { l with prbs := { x with seed := some reg', good := x.good + 1, bad := 0 } })
      else s.modLine n (fun l => { l with prbs := x.seeded m v })

/-- PRBS_WORD_CHECK (R395): the generator sends a word and the checker examines a received word and counts it, gaining or losing SYNC. -/
def execPrbsWordCheck (n : LineNo) (w : BitVec 64) (s : State) : Host.Outcome State Fault Refusal := done (s.prbsWord n.val w)

/-! ## PM history -/

/-- PM_EXPORT_SET: the host ring of export records, its indices at 0 (R394). -/
def State.pmExportSet (s : State) (c : Taken) (pay : List Byte) : State :=
  if !refOk pay 0 1 (isPow 12 26) then s.badArg c 0
  else
    let s := { s with mbx := { s.mbx with pmx := some (payNum pay 0 8, payNum pay 8 4) } }
    (((s.set Fld.MBX_PMX_WR_V 0).set Fld.MBX_PMX_RD_V 0).raise Fld.MBX_STATUS_PMX_ON).answerOk c []

/-- PM_EXPORT_SET (R394): the PM_EXPORT_SET command names the host ring for PM history export. -/
def execPmExportSet (s : State) : Host.Outcome State Fault Refusal := done (s.serve 0x0500 State.pmExportSet)

/-- The record address, INDEX and low flag bits of an export item: a flow, or a layer of a line (R394, Table 7.7). -/
def pmItem (p : Nat) (x : PmSource) : Nat × Nat × Nat :=
  match x with
  | .flow f => (flowRec p f.val, f.val, 0)
  | .layer n k => (lineRec p n.val k.val, n.val, 1 + 2 * k.val)

/-- What stands in the export list for a record and interval length: the last interval exported or lost, plus one. -/
def State.pmxLast (s : State) (key : Nat) : Nat := ((s.mbx.pmxDone.find? (fun x => x.1 == key)).map (fun x => x.2)).getD 0

/-- The export list with a record's entry set. -/
def State.pmxMark (s : State) (key v : Nat) : State :=
  { s with mbx := { s.mbx with pmxDone := Sparse.set (fun _ => 0) s.mbx.pmxDone key v } }

/-- The export ring has room for a record, and the device may write it. -/
def State.pmxRoom (s : State) : Bool :=
  match s.mbx.pmx with
  | none => false
  | some (_, size) =>
    s.hostWrites && decide ((s.get Fld.MBX_PMX_WR_V + 2 ^ 32 - s.get Fld.MBX_PMX_RD_V) % 2 ^ 32 < size / 64)

/-- PM_EXPORT: the previous bin of a record goes to the host ring once it is final (R222, R227, R394); with `replaced`, the bin
before it, if it was never written, is counted as lost. -/
def State.pmExport (s : State) (p : Nat) (x : PmSource) (day replaced : Bool) : State :=
  s.when (s.berentService && s.halfOn p && s.mbx.pmx.isSome && decide (0 < (if day then (s.plane p).int24 else (s.plane p).int15))) fun s =>
    let (a, index, low) := pmItem p x
    let key := 2 * a + b2n day
    let start := s.intervalStart p day true
    let len := if day then 86400 else 900
    if replaced then
      s.when (decide (len ≤ start) && s.pmxLast key < start - len + 1) fun s =>
        let s := (s.pmxMark key (start - len + 1)).add Fld.MBX_PMX_LOST_V 1
        (s.raise Fld.MBX_STATUS_PMX_LOST_EV).postEvent 0x0021 0 (leBytes 4 1)
    else
      s.when (!s.flag Fld.MGMT_FW_STATE_OVERLOAD && s.pmxRoom && !s.binBit a day true false && s.pmxLast key < start + 1) fun s =>
        match s.mbx.pmx with
        | none => s
        | some (base, size) =>
          let i := s.get Fld.MBX_PMX_WR_V
          let bin := s.bar2Bytes (a + binOfs day true) (if day then 24 else 16)
          let r := leBytes 2 index ++ leBytes 1 (low + 4 * b2n day + 8 * p) ++ leBytes 1 0 ++ leBytes 4 start ++ leBytes 4 i
            ++ leBytes 4 0 ++ bin
          ((s.putHost (base + (i * 64) % size) ((r ++ List.replicate 64 0).take 64)).add Fld.MBX_PMX_WR_V 1).pmxMark key (start + 1)

/-- PM_EXPORT (R394): firmware exports a final previous bin to the host ring or counts it lost. -/
def execPmExport (p : PlaneNo) (x : PmSource) (day replaced : Bool) (s : State) : Host.Outcome State Fault Refusal :=
  done (s.pmExport p.val x day replaced)

/-- TCA_FORWARD: the next record of a plane's ring goes out as an event, and DPM_TCA_RD moves on (R387). -/
def State.tcaForward (s : State) (p : Nat) : State :=
  s.when (s.berentService && s.mbx.tcaFwd && s.halfOn p) fun s =>
    let rd := s.get (Fld.DPM_TCA_RD_RD p)
    s.when (rd != s.get (Fld.DPM_TCA_WR_WR p)) fun s =>
      (s.postEvent 0x0020 0 (s.bar2Bytes (pmBase p + 0x660000 + (rd % 4096) * 16) 16 ++ leBytes 1 p)).onWrite p fun s q =>
        s.add (Fld.DPM_TCA_RD_RD q) 1

/-- TCA_FORWARD (R387): with TCA_FWD firmware reads TCA records and sends them as events. -/
def execTcaForward (p : PlaneNo) (s : State) : Host.Outcome State Fault Refusal := done (s.tcaForward p.val)

end Sys2Proof.Machine
end

