-- ==== Sys2Proof/Machine/Power.lean ====
section
/-! DEFINITION. Power feeds, resets, start-up and sleep (chapter 17), the reset of the PCIe endpoint. -/

namespace Sys2Proof.Machine

/-- The state with the power unit changed. -/
def State.modPower (s : State) (f : Power → Power) : State := { s with power := f s.power }

/-! ## Reset scopes (Table 17.2) -/

/-- A register of the always-on domain. -/
def isAon (a : Nat) : Bool := decide (0x80000 ≤ a ∧ a < 0x90000)

/-- A register that a chip reset keeps: always-on, FORCE_PUSH, MSI-X table, FCR records (R454, R468). -/
def chipKeeps (a : Nat) : Bool :=
  isAon a || a == Reg.MGMT_BOOT_CTL || decide (0xF00000 ≤ a ∧ a < 0xF01000)
    || decide (0x10000 ≤ a ∧ a < 0x1001C) || a == Reg.FCR_EVENT_CNT || a == Reg.FCR_CRST_SRC

/-- Everything outside the always-on domain at its reset value, but the registers that `keep` names. What lies outside the
device stays: host memory, flash, fuses, the pins, the TAP, the commands that wait. -/
def State.resetAll (s : State) (keep : Nat → Bool) : State :=
  let xtal := s.flag Fld.GLB_CLK_STATUS_XTAL32K_OK
  let r : State := { State.reset with
    regs := s.regs.filter (fun c => keep c.1)
    host := s.host, flash := s.flash, fuses := s.fuses, tk := s.tk, jtag := s.jtag, fresh := s.fresh, pending := s.pending
    irq := { State.reset.irq with sent := s.irq.sent }
    power := { s.power with inReset := true, chipReset := false, crstDue := none, halfHeld := [true, true] } }
  r.setB Fld.GLB_CLK_STATUS_XTAL32K_OK xtal

/-- The reset of RESET_N, sleep and the loss of both feeds: the always-on domain keeps its registers. -/
def State.fullReset (s : State) (cause : Nat) : State :=
  let s := s.resetAll isAon
  s.modPower (fun p => { p with nextCause := cause })

/-- A start (R467, R469): clocks lock, the cause is recorded, the configuration taken is shown, the powered planes of Twin
configuration begin INIT, the boot ROM runs and has channel 15 (R424). -/
def State.startUp (s : State) : State :=
  let s := s.modPower (fun p => { p with inReset := false, chipReset := false })
  let s := (s.raise Fld.GLB_CLK_STATUS_MGMT_LOCK).raise Fld.GLB_CLK_STATUS_PCIE_LOCK
  let s := (s.raise Fld.GLB_CLK_STATUS_TMG_LOCK).raise Fld.GLB_CLK_STATUS_OSC_IN_OK
  let s := (s.set Fld.AON_RST_CAUSE_CAUSE s.power.nextCause).raise Fld.AON_RST_CAUSE_CAUSE_EV
  let s := (s.setB Fld.AON_TK_CTL_SLEEP_CLK false).setB Fld.TWN_STATUS_TWIN s.power.twinTaken
  let s : State := if s.twin then
      ([0, 1].filter (fun p => s.feedGood p)).foldl (fun s p => s.setPlaneState p 1) s
    else s
  (s.dmaOwn 1 true).romStart false

/-- The internal reset can be released: RESET_N high and a feed reported good (R467). -/
def State.canStart (s : State) : Bool :=
  s.power.inReset && s.power.resetN && s.power.sleep == .awake && (s.feedGood 0 || s.feedGood 1)

/-- The straps are sampled, and the LP9648-A takes Wide configuration (R5, R19, R468); then the device starts. -/
def State.internalRelease (s : State) (twin : Bool) (bootSrc : Nat) (test : Bool) : State :=
  s.when s.canStart fun s =>
    (s.modPower (fun p => { p with
      strapTwin := twin
      strapBootSrc := bootSrc
      strapTest := test
      twinTaken := twin && decide (s.fuses.variant = .lp9672) })).startUp

/-! ## RESET_N and power-on -/

/-- VAON reaches tolerance (R468, Table 17.3): the always-on domain too is at its reset values, and the core enables rise. -/
def State.vaonOn (s : State) : State :=
  { State.reset with
    host := s.host, flash := s.flash, fuses := s.fuses, jtag := s.jtag, fresh := s.fresh, pending := s.pending
    irq := { State.reset.irq with sent := s.irq.sent }
    power := { Power.reset with resetN := s.power.resetN, perstN := s.power.perstN, coreEn := true } }

/-- A wake (R473 to R475): the core enables rise, the sources active are recorded; the start that follows is a full start. -/
def State.wake (s : State) (src : Nat) (rst : Bool) : State :=
  let s := (s.set Fld.AON_WAKE_STATUS_WAKE_SRC src).setB Fld.AON_WAKE_STATUS_WAKE_RST rst
  s.modPower (fun p => { p with sleep := .awake, coreEn := true, wakeDue := 0, nextCause := 2 })

/-- RESET_N falls (R467, R473, R475). -/
def State.resetFall (s : State) : State :=
  let s := s.modPower (fun p => { p with resetN := false })
  match s.power.sleep with
  | .asleep => s.wake 0 true
  | .entering => (s.fullReset 1).modPower (fun p => { p with wakeDue := setBit p.wakeDue 6 })
  | .awake => if s.power.inReset then s else s.fullReset 1

/-! ## PCIe -/

/-- PERST_N falls (R468): link, configuration space, MSI-X table and pending bits; DMA channels halt with ERR 7. -/
def State.perstFall (s : State) : State :=
  let s := s.modPower (fun p => { p with perstN := false })
  let s := (s.clearRegs (fun a => decide (0xF00000 ≤ a ∧ a < 0xF01008))).dmaHaltAll 7
  { s with pcie := ⟨false, false, false, false, false⟩, irq := { s.irq with pba := 0 } }

/-- The endpoint is ready (R470). The model takes the link up and the function configured as a bus master from here on. -/
def State.endpointReady (s : State) : State :=
  s.onSpine fun s => s.when s.power.perstN fun s =>
    ({ s with pcie := { s.pcie with cfgReady := true, linkUp := true, busMaster := true, d3hot := false } } : State).releaseMessages

/-- The function enters D3hot (R400). -/
def State.d3hot (s : State) : State :=
  s.onSpine fun s => s.when s.pcie.cfgReady fun s =>
    let s := s.dmaHaltAll 7
    { s with pcie := { s.pcie with d3hot := true, busMaster := false } }

/-- Bus Master Enable is cleared (R429). -/
def State.masterOff (s : State) : State :=
  s.onSpine fun s => s.when s.pcie.cfgReady fun s =>
    let s := s.dmaHaltAll 7
    { s with pcie := { s.pcie with busMaster := false } }

/-! ## Feeds -/

/-- FEEDk_GOOD. -/
def feedField (p : Nat) : FRef := if p = 0 then Fld.AON_FEED_STATUS_FEED1_GOOD else Fld.AON_FEED_STATUS_FEED2_GOOD

/-- The doze that line `n` is or will be in by command: light or deep. -/
def State.dozeKind (s : State) (n : Nat) : Option Bool :=
  let l := (s.line n).lane
  match l.held with
  | some .light => some false
  | some .deep => some true
  | some .wake => none
  | none =>
    if !l.dozeCmd then none
    else match l.trans with
      | .entry d => some d
      | .move d => some d
      | .exit => none
      | .none => some (s.get (Fld.LCH_LINE_STATUS_PWR_STATE n) == 2)

/-- What Berent keeps of line `n` to restore it (R466). -/
def State.keepLine (s : State) (n : Nat) : State :=
  let o : LineOwn := ⟨s.heldFormat n, s.heldFec n, ((s.line n).lane.newFormat.map (fun t => t.2.2)).getD (s.line n).lane.rawKbaud, s.dozeKind n,
    if s.flag (Fld.LCH_OHP_THRU_CFG_ENABLE n) then some (s.get (Fld.LCH_OHP_THRU_CFG_SRC_LINE n)) else none⟩
  s.modOwn n (fun _ => o)

/-- The configuration words of the groups of plane `p` (R466). -/
def State.groupWords (s : State) (p : Nat) : List (Nat × Nat) :=
  ((List.range 48).filter (s.lgExists p)).map (fun g => (lgAddr p g, s.recNum (lgAddr p g) 4))
    ++ ((List.range 256).filter (s.mgExists p)).flatMap (fun g => (List.range 4).map (fun k => (mgAddr p g + 4 * k, s.recNum (mgAddr p g + 4 * k) 4)))

/-- Lines of half `p`. -/
def halfLines (p : Nat) : List Nat := (List.range 48).map (fun k => 48 * p + k)

/-- The half goes into reset (R465, R466): its lines, its plane, its registers. -/
def State.halfClear (s : State) (p : Nat) : State :=
  let s := s.clearRegs (fun a => decide (0x100000 + 48 * p * 0x8000 ≤ a ∧ a < 0x100000 + 48 * (p + 1) * 0x8000))
  let s : State := (halfLines p).foldl (fun s n => s.modLine n (fun l => { LineState.reset with own := l.own })) s
  let s := (s.clearPlane p).modTw p (fun _ => { PlaneTwin.reset with restarted := true })
  s.setB (if p = 0 then Fld.GLB_CLK_STATUS_CORE_A_LOCK else Fld.GLB_CLK_STATUS_CORE_B_LOCK) false

/-- The fault sources of half `p` that await registration are dropped (R443). -/
def State.dropDue (s : State) (p : Nat) : State :=
  let drop := fun (k : Nat) => decide (32 + 32 * p ≤ k ∧ k < 64 + 32 * p) || decide (96 + 192 * p ≤ k ∧ k < 288 + 192 * p)
  { s with fcr := { s.fcr with due := (bitList 608 s.fcr.due).foldl (fun m k => if drop k then m else m ||| 2 ^ k) 0 } }

/-- Half `p` loses its feed while the spine runs (R465). -/
def State.halfLoss (s : State) (p : Nat) : State :=
  let s : State := if s.power.halfHeld.getD p true then s
    else
      let s : State := (halfLines p).foldl State.keepLine s
      if s.twin then s else { s with mbx := { s.mbx with kept := s.mbx.kept ++ s.groupWords p } }
  let s := if s.holder = p + 1 then s.leaseEnd else s
  let s := if s.twin then s.movePlane p 0 false else s
  let s := s.halfClear p
  let s := s.setB (if p = 0 then Fld.GLB_CLK_STATUS_CORE_A_SPREAD else Fld.GLB_CLK_STATUS_CORE_B_SPREAD) false
  let s := (s.linesAbsent p).dropDue p
  let s := s.modPower (fun w => { w with halfHeld := putD true w.halfHeld p true })
  let s : State := (halfLines p).foldl State.lineTiming s
  let s : State := if s.twin then (halfLines p).foldl State.lineSelect s else s
  s.watch

/-- FEED_LOSS: the monitor reports a loss of feed `p`; which of its two conditions still hold (R464, R465). With no feed left,
everything outside the always-on domain loses power (R467). -/
def State.feedLoss (s : State) (p : Nat) (pg spine : Bool) : State :=
  s.when (s.feedGood p && s.power.sleep != .asleep && !(pg && spine)) fun s =>
    let spineOn := s.spineOn
    let was := spineOn && s.hasHalf p
    let s := s.setB (feedField p) false
    let s := s.setB (if p = 0 then Fld.AON_FEED_STATUS_PG1 else Fld.AON_FEED_STATUS_PG2) pg
    let s := s.setB (if p = 0 then Fld.AON_FEED_STATUS_SPINE1_OK else Fld.AON_FEED_STATUS_SPINE2_OK) spine
    let s := s.orBits Fld.AON_FEED_STATUS_LOSS_EV (2 ^ p)
    if !s.feedGood 0 && !s.feedGood 1 then
      s.fullReset (if s.power.inReset && (s.power.nextCause == 0 || s.power.nextCause == 2) then s.power.nextCause else 3)
    else
      let s := if spineOn then s.busesOff p else s
      if was then s.halfLoss p else if spineOn then s.watch else s

/-- FEED_RETURN: the monitor reports a return of feed `p` (R464, R466). -/
def State.feedReturn (s : State) (p : Nat) : State :=
  s.when (!s.feedGood p && s.power.sleep != .asleep && s.power.coreEn) fun s =>
    let s := s.raise (feedField p)
    let s := s.raise (if p = 0 then Fld.AON_FEED_STATUS_PG1 else Fld.AON_FEED_STATUS_PG2)
    let s := s.raise (if p = 0 then Fld.AON_FEED_STATUS_SPINE1_OK else Fld.AON_FEED_STATUS_SPINE2_OK)
    let s := s.orBits Fld.AON_FEED_STATUS_RET_EV (2 ^ p)
    s.when (s.spineOn && s.hasHalf p) fun s =>
      (if s.twin then s.setPlaneState p 1 else s).watch

/-- Berent restores line `n` (R466): format, FEC and a commanded doze. -/
def State.restoreLine (s : State) (n : Nat) : State :=
  let o := (s.line n).own
  match o.doze with
  | none => if o.format = 0 then s else s.setFormat n o.format o.fec o.kbaud
  | some deep =>
    let s := (s.modLane n (fun l => { l with newFormat := some (o.format, o.fec, o.kbaud), dozeCmd := true })).takeFormat n
    if !deep && o.format != 0 then s.beginMove n false else s

/-- Berent restores the lines and Through pairs of half `p` (R466). -/
def State.restoreLines (s : State) (p : Nat) : State :=
  let s : State := (halfLines p).foldl State.restoreLine s
  (halfLines p).foldl (fun s n =>
    let s := match (s.line n).own.thru with
      | some i => s.thruCreate i n
      | none => s
    s.modOwn n (fun _ => LineOwn.reset)) s

/-- CORE_PLL_LOCK: the core PLL of half `p` locks (R466); a plane that has not been reset meanwhile goes through its reset,
a stopped one when its stop is released (R450). -/
def State.coreLock (s : State) (p : Nat) : State :=
  s.when (s.halfOn p && !s.coreLocked p) fun s =>
    let s := s.raise (if p = 0 then Fld.GLB_CLK_STATUS_CORE_A_LOCK else Fld.GLB_CLK_STATUS_CORE_B_LOCK)
    let s := s.setB (if p = 0 then Fld.GLB_CLK_STATUS_CORE_A_SPREAD else Fld.GLB_CLK_STATUS_CORE_B_SPREAD)
      (if p = 0 then s.flag Fld.GLB_CLK_CFG_SPREAD_A else s.flag Fld.GLB_CLK_CFG_SPREAD_B)
    let s := if s.power.halfHeld.getD p true then
        (s.modPower (fun w => { w with halfHeld := putD true w.halfHeld p false })).restoreLines p
      else if (s.plane p).stopped || (s.planeTw p).initDue then s
      else s.planeReset p
    s.watch

/-- Berent recreates the groups of plane `p` in Wide configuration (R466). -/
def State.restoreGroups (s : State) (p : Nat) : State :=
  let kept := s.mbx.kept
  let word := fun (a : Nat) => (kept.find? (fun x => x.1 == a)).map (fun x => x.2)
  let s := { s with mbx := { s.mbx with kept := kept.filter (fun x => !isPlaneRec p x.1) } }
  let s : State := (List.range 48).foldl (fun s g => match word (lgAddr p g) with
    | some w => s.lgWrite p g w
    | none => s) s
  (List.range 256).foldl (fun s g => match word (mgAddr p g), word (mgAddr p g + 4), word (mgAddr p g + 8), word (mgAddr p g + 12) with
    | some w0, some wm, some pm, some w3 => (s.mgWrite p g w0 wm pm (w3 % 256)).pairForms (bitsOf w0 1 7) (bitsOf w0 8 7)
    | _, _, _, _ => s) s

/-- PLANE_INIT_COMPLETE with what follows a restart in Wide configuration: groups (R466), SUSPECT bins (R223). -/
def State.planeStarts (s : State) (p : Nat) : State :=
  let due := s.halfOn p && s.coreLocked p && (s.planeTw p).initDue
  let s := s.planeInitComplete p
  if due && !s.twin then (s.restoreGroups p).restartSuspect p else s

/-! ## Supplies and clocks -/

/-- SPINE_POWER_RETURN: after the loss of both feeds one returns, and the device makes a full start (R468). -/
def State.spineReturn (s : State) (p : Nat) (twin : Bool) (bootSrc : Nat) (test : Bool) : State :=
  s.when (s.power.inReset && s.power.nextCause == 3 && !s.feedGood 0 && !s.feedGood 1) fun s =>
    (s.feedReturn p).internalRelease twin bootSrc test

/-- SPREAD_CHANGE_APPLY: spreading follows GLB_CLK_CFG at the triangle's minimum (R477). -/
def State.spreadApply (s : State) (p : Nat) : State :=
  s.when (s.halfOn p && s.coreLocked p) fun s =>
    s.setB (if p = 0 then Fld.GLB_CLK_STATUS_CORE_A_SPREAD else Fld.GLB_CLK_STATUS_CORE_B_SPREAD)
      (if p = 0 then s.flag Fld.GLB_CLK_CFG_SPREAD_A else s.flag Fld.GLB_CLK_CFG_SPREAD_B)

/-- XTAL32K_OK_RISE: the time-keeper starts from 0 (R471). -/
def State.xtalRise (s : State) : State :=
  s.when (!s.flag Fld.GLB_CLK_STATUS_XTAL32K_OK) fun s =>
    let s := s.raise Fld.GLB_CLK_STATUS_XTAL32K_OK
    if s.tk.running then s else { s with tk := ⟨true, 0, 0, 0⟩ }

/-! ## Chip sleep -/

/-- CHIP_SLEEP_ENTER: a write of AON_SLEEP_CTL (R472); transmitters idle, clock outputs low, DMA halted. -/
def State.sleepEnter (s : State) (v : Word) : State :=
  s.onSpine fun s => s.when (s.power.sleep == .awake && wordBits v 0 1 == 1 && wordBits v 16 16 == 0xA55A) fun s =>
    let s := (s.add Fld.AON_WAKE_STATUS_SLEEP_CNT 1).dmaHaltAll 9
    s.modPower (fun p => { p with sleep := .entering, wakeDue := 0 })

/-- The sources of a wake that are enabled and active: those given, and the temperature comparator's trip (R473). -/
def State.wakeMask (s : State) (active : Nat) : Nat :=
  (active ||| 16 * b2n (s.flag Fld.AON_TEMP_CFG_TRIP)) &&& ((s.reg Reg.AON_WAKE_CFG).toNat % 64)

/-- WAKE_EVENT: comparators or WAKE_N are active (R474, R475). -/
def State.wakeEvent (s : State) (active : Nat) : State :=
  let m := s.wakeMask active
  if m = 0 then s
  else match s.power.sleep with
    | .asleep => s.wake m false
    | .entering => s.modPower (fun p => { p with wakeDue := p.wakeDue ||| m })
    | .awake => s

/-- CHIP_SLEEP_ENTRY_COMPLETE (Table 17.4): the time-keeper runs from CK_AON, the core rails go, and a wake that has arrived
takes effect (R475). -/
def State.sleepComplete (s : State) : State :=
  s.when (s.power.sleep == .entering) fun s =>
    let s := s.fullReset 2
    let s := (s.raise Fld.AON_TK_CTL_SLEEP_CLK).set Fld.AON_FEED_STATUS_FEED1_GOOD 0
    let s := (s.set Fld.AON_FEED_STATUS_FEED2_GOOD 0).set Fld.AON_FEED_STATUS_MUX_LIMIT 0
    let s := ((s.setB Fld.AON_FEED_STATUS_PG1 false).setB Fld.AON_FEED_STATUS_PG2 false).setB Fld.AON_FEED_STATUS_SPINE1_OK false
    let s := s.setB Fld.AON_FEED_STATUS_SPINE2_OK false
    let s := s.modPower (fun p => { p with sleep := .asleep, coreEn := false })
    let due := s.power.wakeDue % 64 ||| s.wakeMask 0
    if due ≠ 0 ∨ !s.power.resetN then s.wake due (!s.power.resetN) else s

/-- The threshold of the temperature comparator: outside −40 to 125 it is 125. -/
def State.tempThr (s : State) : Int :=
  let v := signedOf 8 (s.get Fld.AON_TEMP_CFG_THR)
  if -40 ≤ v ∧ v ≤ 125 then v else 125

/-- TEMP_COMPARATOR_TRIP: the sensor reads `t`; it trips at the threshold and clears 5 °C below (R473). -/
def State.tempTrip (s : State) (t : Nat) : State :=
  let s := s.set Fld.AON_TEMP_CFG_TEMP t
  let v := signedOf 8 t
  let s := if s.tempThr ≤ v then s.raise Fld.AON_TEMP_CFG_TRIP
    else if v ≤ s.tempThr - 5 then s.setB Fld.AON_TEMP_CFG_TRIP false
    else s
  s.wakeEvent 0

/-! ## Chip reset -/

/-- GLB_CHIP_RESET: a completed pair with GO = 1 requests a chip reset (R412). -/
def State.chipResetAsk (s : State) (v : Word) : State :=
  s.onSpine fun s => s.when (v == 1 && s.power.crstDue.isNone) fun s => s.modPower (fun p => { p with crstDue := some false })

/-- CHIP_RESET (R454, R468, R469). -/
def State.chipReset (s : State) : State :=
  s.onSpine fun s =>
    match s.power.crstDue with
    | none => s
    | some byFcr =>
      let t := s.resetAll chipKeeps
      let t := { t with pcie := s.pcie }
      let t := t.modPower (fun p => { p with inReset := false, chipReset := true, nextCause := 4 })
      t.setB Fld.FCR_STATUS_CRST_PRIOR byFcr

/-- CHIP_RESET_RELEASE: the 100 µs are over (R469). -/
def State.chipRelease (s : State) : State := s.when s.power.chipReset fun s => s.startUp

/-! ## Meanings -/

/-- GLB_CHIP_RESET (R412): the value of the completed pair. -/
def execGlbChipReset (v : Word) (s : State) : Host.Outcome State Fault Refusal := done (s.chipResetAsk v)

/-- CHIP_RESET (R468). -/
def execChipReset (s : State) : Host.Outcome State Fault Refusal := done s.chipReset

/-- CHIP_RESET_RELEASE (R469). -/
def execChipResetRelease (s : State) : Host.Outcome State Fault Refusal := done s.chipRelease

/-- PERST_N_ASSERT (R468). -/
def execPerstNAssert (s : State) : Host.Outcome State Fault Refusal := done s.perstFall

/-- PERST_N_RELEASE (R470). -/
def execPerstNRelease (s : State) : Host.Outcome State Fault Refusal := done (s.modPower (fun p => { p with perstN := true }))

/-- PCIE_ENDPOINT_READY (R470). -/
def execPcieEndpointReady (s : State) : Host.Outcome State Fault Refusal := done s.endpointReady

/-- D3HOT_ENTRY (R400). -/
def execD3hotEntry (s : State) : Host.Outcome State Fault Refusal := done s.d3hot

/-- BUS_MASTER_DISABLE (R429). -/
def execBusMasterDisable (s : State) : Host.Outcome State Fault Refusal := done s.masterOff

/-- VAON_POWER_ON (R468). -/
def execVaonPowerOn (s : State) : Host.Outcome State Fault Refusal := done s.vaonOn

/-- RESET_N_ASSERT (R467). -/
def execResetNAssert (s : State) : Host.Outcome State Fault Refusal := done s.resetFall

/-- RESET_N_RELEASE (R467). -/
def execResetNRelease (s : State) : Host.Outcome State Fault Refusal := done (s.modPower (fun p => { p with resetN := true }))

/-- INTERNAL_RESET_RELEASE (R467): the levels of CFG_TWIN, BOOT_SRC and TESTMODE. -/
def execInternalResetRelease (twin : Bool) (bootSrc : BitVec 2) (test : Bool) (s : State) : Host.Outcome State Fault Refusal :=
  done (s.internalRelease twin bootSrc.toNat test)

/-- FEED_LOSS (R465): PWR_GOOD and the spine input as they are when the loss is reported. -/
def execFeedLoss (p : PlaneNo) (pg spine : Bool) (s : State) : Host.Outcome State Fault Refusal := done (s.feedLoss p.val pg spine)

/-- FEED_RETURN (R466). -/
def execFeedReturn (p : PlaneNo) (s : State) : Host.Outcome State Fault Refusal := done (s.feedReturn p.val)

/-- SPINE_SUPPLY_SWITCHOVER (R461): nothing is reset; whether the multiplexer is then at its current limit. -/
def execSpineSupplySwitchover (limit : Bool) (s : State) : Host.Outcome State Fault Refusal :=
  done (s.onSpine fun s => s.setB Fld.AON_FEED_STATUS_MUX_LIMIT limit)

/-- SPINE_POWER_RETURN (R468): the feed that returns, the strap levels. -/
def execSpinePowerReturn (p : PlaneNo) (twin : Bool) (bootSrc : BitVec 2) (test : Bool) (s : State) :
    Host.Outcome State Fault Refusal := done (s.spineReturn p.val twin bootSrc.toNat test)

/-- CORE_PLL_LOCK (R466). -/
def execCorePllLock (p : PlaneNo) (s : State) : Host.Outcome State Fault Refusal := done (s.coreLock p.val)

/-- PLANE_INIT_COMPLETE (R284, R466). -/
def execPlaneInitComplete (p : PlaneNo) (s : State) : Host.Outcome State Fault Refusal := done (s.planeStarts p.val)

/-- CHIP_SLEEP_ENTER (R472): the word written to AON_SLEEP_CTL. -/
def execChipSleepEnter (v : Word) (s : State) : Host.Outcome State Fault Refusal := done (s.sleepEnter v)

/-- CHIP_SLEEP_ENTRY_COMPLETE (R472). -/
def execChipSleepEntryComplete (s : State) : Host.Outcome State Fault Refusal := done s.sleepComplete

/-- WAKE_EVENT (R474): the comparators that are active, in the bit order of AON_WAKE_CFG. -/
def execWakeEvent (active : BitVec 6) (s : State) : Host.Outcome State Fault Refusal := done (s.wakeEvent active.toNat)

/-- TEMP_COMPARATOR_TRIP (R473): the sensor reading, signed. -/
def execTempComparatorTrip (t : BitVec 8) (s : State) : Host.Outcome State Fault Refusal := done (s.tempTrip t.toNat)

/-- SPREAD_CHANGE_APPLY (R477). -/
def execSpreadChangeApply (p : PlaneNo) (s : State) : Host.Outcome State Fault Refusal := done (s.spreadApply p.val)

/-- XTAL32K_OK_RISE (R471). -/
def execXtal32kOkRise (s : State) : Host.Outcome State Fault Refusal := done s.xtalRise

end Sys2Proof.Machine
end

