-- ==== Sys2Proof/Machine/Guards.lean ====
section
/-! DEFINITION. The guard units (R409 to R412) and the interrupt vectors (R419 to R421). -/

namespace Sys2Proof.Machine

/-! ## Guarded pairs -/

/-- The guarded addresses of Table 14.5. -/
def guarded : List Nat :=
  [Reg.GLB_CHIP_RESET, Reg.GLB_OTP_PROG, Reg.TWN_CONFIRM, Reg.TWN_LEASE_FORCE, Reg.TMG_DPLL_PPT 0, Reg.TMG_DPLL_PPT 1,
    Reg.MAP_EPOCH_COMMIT 0, Reg.MAP_EPOCH_COMMIT 1, Reg.FCR_INJ_UNLOCK]

/-- The guard unit of a source (R411). -/
def State.guardOf (s : State) (by' : Agent) : Guard :=
  match by' with
  | .host => s.guardHost
  | .firmware => s.guardMgmt

/-- The pair of a guard unit opens or ends; OPEN shows the one of PCIe. -/
def State.setPair (s : State) (by' : Agent) (p : Option (Nat × Nat)) : State :=
  match by' with
  | .host => { (s.setB Fld.GLB_GUARD_STATUS_OPEN p.isSome) with guardHost := ⟨p⟩ }
  | .firmware => { s with guardMgmt := ⟨p⟩ }

/-- A broken pair (R410): counted for its source, recorded, fault source 602. -/
def State.guardBreak (s : State) (by' : Agent) (a cause : Nat) : State :=
  let s := match by' with
    | .host => s.add Fld.GLB_GUARD_STATUS_BROKEN_PCIE 1
    | .firmware => s.addSat Fld.GLB_GUARD_STATUS_BROKEN_MGMT 1
  let s := (s.set Fld.GLB_GUARD_STATUS_LAST_CAUSE cause).raise Fld.GLB_GUARD_STATUS_BROKEN_EV
  ((s.set Fld.GLB_GUARD_LAST_ADDR a).setB Fld.GLB_GUARD_LAST_MGMT (by' == .firmware)).happen 602

/-- The open pair of a unit is broken with cause 4. -/
def State.breakOpen (s : State) (by' : Agent) : State :=
  match (s.guardOf by').pair with
  | some (b, _) => (s.guardBreak by' b 4).setPair by' none
  | none => s

/-- GUARD_VALUE_WRITE: a value is written to a guarded address (R409, R410). -/
def State.guardValue (s : State) (by' : Agent) (a : Nat) (v : Word) : State :=
  s.onSpine fun s => s.when (guarded.contains a) fun s => (s.breakOpen by').setPair by' (some (a, v.toNat))

/-- The cause of a complete pair: 0 where it takes effect (Table 14.4, R412). -/
def State.pairCause (s : State) (by' : Agent) (a v : Nat) : Nat :=
  let only := a == Reg.GLB_OTP_PROG || a == Reg.TWN_CONFIRM
  let ok :=
    if a = Reg.GLB_OTP_PROG then decide (v < 64)
    else if a = Reg.TWN_CONFIRM then v == 1 || v == 2
    else if a = Reg.TWN_LEASE_FORCE then s.twin && (v == 1 || v == 2)
    else if a = Reg.TMG_DPLL_PPT 0 ∨ a = Reg.TMG_DPLL_PPT 1 then decide (v < 2 ^ 30)
    else if a = Reg.FCR_INJ_UNLOCK then v == 1 && s.power.strapTest && by' == .host
    else v == 1
  if only && by' == .host then 6 else if ok then 0 else 7

/-- The configuration that firmware confirms is the one taken (R262): 1 Wide, 2 Twin. -/
def State.confirmTakes (s : State) (v : Nat) : Bool := v == (if s.twin then 2 else 1)

/-- What the value of a completed pair does (R409, Table 14.5): the register's own command, which is the pair taken whole
(log entry 33); GLB_OTP_PROG blows fuses up to the count (R354), TWN_CONFIRM confirms the configuration taken (R262, R263). -/
def State.guardTake (s : State) (a v : Nat) : State :=
  if a = Reg.GLB_CHIP_RESET then s.chipResetAsk (BitVec.ofNat 32 v)
  else if a = Reg.GLB_OTP_PROG then { s with fuses := { s.fuses with svn := max s.fuses.svn v } }
  else if a = Reg.TWN_CONFIRM then s.when (s.confirmTakes v && !s.confirmed) State.confirm
  else if a = Reg.TWN_LEASE_FORCE then s.leaseForce v
  else if a = Reg.TMG_DPLL_PPT 0 then s.pptWrite 0 v
  else if a = Reg.TMG_DPLL_PPT 1 then s.pptWrite 1 v
  else if a = Reg.MAP_EPOCH_COMMIT 0 then s.epochCommit 0
  else if a = Reg.MAP_EPOCH_COMMIT 1 then s.epochCommit 1
  else s.injUnlock (BitVec.ofNat 32 v)

/-- GUARD_COMPLEMENT_WRITE: a write to the paired address of `a` completes the pair, whose value then takes effect, or breaks it
(R409, Table 14.4). -/
def State.guardComplement (s : State) (by' : Agent) (a : Nat) (w : Word) : State :=
  s.onSpine fun s => s.when (guarded.contains a) fun s =>
    match (s.guardOf by').pair with
    | none => s.guardBreak by' a 3
    | some (b, v) =>
      if b ≠ a then s.guardBreak by' a 3
      else
        let s := s.setPair by' none
        if w.toNat ≠ 2 ^ 32 - 1 - v then s.guardBreak by' a 1
        else
          let c := s.pairCause by' a v
          if c ≠ 0 then s.guardBreak by' a c else s.guardTake a v

/-- GUARD_WINDOW_EXPIRY: the 64 cycles have passed (R410). -/
def State.guardExpiry (s : State) (by' : Agent) : State :=
  s.onSpine fun s =>
    match (s.guardOf by').pair with
    | none => s
    | some (a, _) => (s.guardBreak by' a 2).setPair by' none

/-- GUARD_WIDE_WRITE: one 8-byte write over a guarded address and its pair (Table 14.4, cause 5). -/
def State.guardWide (s : State) (by' : Agent) (a : Nat) : State :=
  s.onSpine fun s => s.when (guarded.contains a) fun s => (s.breakOpen by').guardBreak by' a 5

/-! ## Interrupts -/

/-- Messages of the vectors listed become due. -/
def State.sendVectors (s : State) (l : List Nat) : State := { s with irq := l.foldl s.message s.irq }

/-- IRQ_REARM: a pulse vector's assertion is cleared; a vector that stays asserted sends its message again (R420). -/
def State.irqRearm (s : State) (v : Nat) : State :=
  s.onSpine fun s =>
    let s := { s with irq := { s.irq with pulse := putBits s.irq.pulse v 1 0 } }
    if s.vectors.testBit v && s.irqEnabled v then s.sendVectors [v] else s

/-- IRQ_ENABLE_WRITE: vectors enabled while asserted send a message (R420). -/
def State.irqEnable (s : State) (r : Nat) (v : Word) : State :=
  s.onSpine fun s =>
    let t := s.writeByCode (Reg.GLB_IRQ_EN r) v
    t.sendVectors ((bitList 64 s.irq.asserted).filter (fun k => !s.irqEnabled k && t.irqEnabled k))

/-- A vector, or the function, is unmasked: messages that are pending and can now go out are sent once (R421). -/
def State.msixUnmask (s : State) (v : Option Nat) : State :=
  s.onSpine fun s =>
    let s : State := match v with
      | some v => s.setB (Fld.MSIX_CTRL_MASK v) false
      | none => { s with pcie := { s.pcie with fnMask := false } }
    s.releaseMessages

/-! ## Meanings -/

/-- GUARD_VALUE_WRITE (R409): the guarded address and the value. -/
def execGuardValueWrite (by' : Agent) (a : BitVec 24) (v : Word) (s : State) : Host.Outcome State Fault Refusal :=
  done (s.guardValue by' a.toNat v)

/-- GUARD_COMPLEMENT_WRITE (R410): the guarded address whose paired address is written, and the word. -/
def execGuardComplementWrite (by' : Agent) (a : BitVec 24) (w : Word) (s : State) : Host.Outcome State Fault Refusal :=
  done (s.guardComplement by' a.toNat w)

/-- GUARD_WINDOW_EXPIRY (R410). -/
def execGuardWindowExpiry (by' : Agent) (s : State) : Host.Outcome State Fault Refusal := done (s.guardExpiry by')

/-- GUARD_WIDE_WRITE (R410): the guarded address. -/
def execGuardWideWrite (by' : Agent) (a : BitVec 24) (s : State) : Host.Outcome State Fault Refusal := done (s.guardWide by' a.toNat)

/-- IRQ_REARM (R420). -/
def execIrqRearm (v : Fin 64) (s : State) : Host.Outcome State Fault Refusal := done (s.irqRearm v.val)

/-- IRQ_ENABLE_WRITE (R420): the register of GLB_IRQ_EN and the word. -/
def execIrqEnableWrite (r : Fin 4) (v : Word) (s : State) : Host.Outcome State Fault Refusal := done (s.irqEnable r.val v)

/-- MSIX_UNMASK (R421): a vector, or the function. -/
def execMsixUnmask (v : Option (Fin 64)) (s : State) : Host.Outcome State Fault Refusal := done (s.msixUnmask (v.map (fun k => k.val)))

end Sys2Proof.Machine
end

