-- ==== Sys2Proof/Machine/Access.lean ====
section
/-! DEFINITION. Accesses to the address spaces of the PCIe function (R11, R12, R402 to R408): what every register of BAR0 reads,
and what a write to it does. -/

namespace Sys2Proof.Machine

/-! ## Reads -/

/-- A register of line `n` or plane `p` that a half without power or a missing half hides (R4, R67, R405). -/
def bar0Half (a : Nat) : Option Nat :=
  if 0x100000 ≤ a ∧ a < 0x400000 then some (halfOf ((a - 0x100000) / 0x8000))
  else if isPlaneReg 0 a then some 0
  else if isPlaneReg 1 a then some 1
  else none

/-- GLB_STRAP: the levels sampled, the configuration taken, the conflict of R5. -/
def State.strapWord (s : State) : Nat :=
  b2n s.power.strapTwin + 2 * s.power.strapBootSrc + 8 * b2n s.power.strapTest + 16 * b2n s.power.twinTaken
    + 32 * b2n (s.power.strapTwin && decide (s.fuses.variant = .lp9648))

/-- GLB_LINE_SUM register `r`: lines with a W1C event bit at 1. -/
def State.lineSum (s : State) (r : Nat) : Nat :=
  (List.range 32).foldl (fun m b =>
    let n := 32 * r + b
    if s.lineOn n && s.regs.any (fun c => decide (0x100000 + n * 0x8000 ≤ c.1 ∧ c.1 < 0x100000 + (n + 1) * 0x8000)
        && (c.2.toNat &&& regW1c c.1) != 0) then setBit m b else m) 0

/-- PIN_GPIO_IN: driven balls show their output, the others the level that the board gives them (R498). -/
def State.gpioIn (s : State) : Nat :=
  let out := s.get Fld.PIN_GPIO_OUT_LO_OUT + 65536 * s.get Fld.PIN_GPIO_OUT_HI_OUT
  let oe := s.get Fld.PIN_GPIO_OE_LO_OE + 65536 * s.get Fld.PIN_GPIO_OE_HI_OE
  (List.range 32).foldl (fun m b =>
    if (if oe.testBit b then out.testBit b else Config.gpioLevel s.fresh b) then setBit m b else m) 0

/-- What MAP_TBL_DATA and PRT_REC_DATA read at a table or record address: zero for a plane that the variant lacks, all ones for one
without power (R402, R405). -/
def State.planeSpaceRead (s : State) (a w : Nat) : Nat :=
  let p := a / 0x800000 % 2
  if !s.hasHalf p then 0 else if !s.halfOn p then 2 ^ 32 - 1 else w

/-- What the spine's registers that show something else than a stored word read. -/
def State.readSpine (s : State) (a : Nat) : Nat :=
  let w := (s.reg a).toNat
  if a = Reg.GLB_ID then 0x01A10000 + s.partCode
  else if a = Reg.GLB_STRAP then s.strapWord
  else if 0x10 ≤ a ∧ a < 0x20 then leNat ((s.fuses.serial.drop (a - 0x10)).take 4)
  else if a = Reg.GLB_IRQ_STAT_LO then s.vectors % 2 ^ 32
  else if a = Reg.GLB_IRQ_STAT_HI then s.vectors / 2 ^ 32
  else if a = Reg.GLB_LINE_SUM 0 then s.lineSum 0
  else if a = Reg.GLB_LINE_SUM 1 then s.lineSum 1
  else if a = Reg.GLB_LINE_SUM 2 then s.lineSum 2
  else if 0x10200 ≤ a ∧ a < 0x1024C then bitsOf s.fcr.live (8 * (a - 0x10200)) 32
  else if a = Reg.FCR_CLASS_UNACK then (List.range 20).foldl (fun m c => if s.unacked c then setBit m c else m) 0
  else if 0x11000 ≤ a ∧ a < 0x11980 then if s.srcExists ((a - 0x11000) / 4) || decide (576 ≤ (a - 0x11000) / 4) then w else 0
  else if 0x20000 ≤ a ∧ a < 0x30000 ∧ !s.twin then
    if a = Reg.TWN_STATUS then w % 4 else if a = Reg.TWN_HOLD_MAX then w else 0
  else if a = Reg.DMA_GLB_STATUS then putBits w 17 1 (b2n !s.pcie.busMaster)
  else if a = Reg.SCC_COEF_DATA then s.coefWord
  else if a = Reg.MAP_TBL_DATA then 
    s.planeSpaceRead (s.get Fld.MAP_TBL_ADDR_ADDR) (s.bar2Num (0x1000000 + s.get Fld.MAP_TBL_ADDR_ADDR / 4 * 4) 4)
  else if a = Reg.PRT_REC_DATA then 
    s.planeSpaceRead (s.get Fld.PRT_REC_ADDR_ADDR) (s.recNum (s.get Fld.PRT_REC_ADDR_ADDR / 4 * 4) 4)
  else if a = Reg.PIN_GPIO_IN then s.gpioIn
  else if a = Reg.MSIX_PBA 0 then s.irq.pba % 2 ^ 32
  else if a = Reg.MSIX_PBA 1 then s.irq.pba / 2 ^ 32
  else w

/-- A Mehrax register of a line of another format: it reads zero and ignores writes (R117). -/
def State.mxfHidden (s : State) (n o : Nat) : Bool :=
  !isMxf (s.format n) && (o == 0x1010 || o == 0x1014 || (decide (0x1130 ≤ o) && decide (o ≤ 0x114C)))

/-- What a 4-byte read of BAR0 offset `a` answers: reserved locations and absent parts zero, a half without power all ones, all
ones during the 100 µs of a chip reset but for GLB_ID, GLB_STRAP and the AON block (R11, R405, R469). -/
def State.readBar0 (s : State) (a : Nat) : Word :=
  if !s.spineOn && !(isAon a || a == Reg.GLB_ID || a == Reg.GLB_STRAP) then 0xFFFFFFFF
  else match bar0Half a with
    | none => BitVec.ofNat 32 (s.readSpine a)
    | some p =>
      if !s.hasHalf p then 0
      else if !s.halfOn p then 0xFFFFFFFF
      else if 0x100000 ≤ a ∧ a < 0x400000 then
        let n := (a - 0x100000) / 0x8000
        if s.mxfHidden n ((a - 0x100000) % 0x8000) then 0
        else if a = Reg.LCH_DPM_DEF n then BitVec.ofNat 32 (s.lineDefWord n)
        else if a = Reg.LCH_FAU_STATUS n then wordPut (s.reg a) 5 1 (b2n (s.nonstd n))
        else s.reg a
      else s.reg a

/-! ## Writes -/

/-- A write to a register of line `n` at offset `o` of its block. -/
def State.writeLine (s : State) (n o : Nat) (v : Word) : State :=
  let a := 0x100000 + n * 0x8000 + o
  if s.mxfHidden n o then s
  else if a = Reg.LCH_LINE_CFG n then s.lineCfgWrite n v
  else if a = Reg.LCH_RX_EQ_CFG n then s.rxEqCfgWrite n v
  else if a = Reg.LCH_TX_DRV_CFG n then s.txDrvCfgWrite n v
  else if a = Reg.LCH_FAU_HUNT_CFG n then s.huntCfgWrite n v
  else if a = Reg.LCH_FAU_FEC_CFG n then s.fecCfgWrite n v
  else if a = Reg.LCH_OHP_TX_TRACE_CTL n then s.txTraceCommit n (BitVec.ofNat 8 v.toNat)
  else if a = Reg.LCH_OHP_THRU_CFG n then s.thruCfgWrite n v
  else if 0x2300 ≤ o ∧ o < 0x2500 then s.onLine n fun s => (s.writeByCode a v).timUpdate n ((o - 0x2300) / 0x40)
  else match [0, 1, 2, 3].find? (fun c => a == Reg.LCH_OHP_CAP_RD n c), [0, 1, 2, 3].find? (fun c => a == Reg.LCH_OHP_INS_WR n c) with
    | some c, _ => s.capRdWrite n c v
    | none, some c => s.insWrWrite n c v
    | none, none => s.onLine n fun s =>
      let s := s.writeByCode a v
      if a = Reg.LCH_DPM_CFG n then s.lineTiming n else s

/-- A write to the read pointer of a ring: ignored where it would lie beyond the write pointer or more than `k` below it. -/
def State.ringRdWrite (s : State) (wr rd : FRef) (k : Nat) (v : Word) : State :=
  if ringFill (s.get wr) v.toNat ≤ k then s.set rd v.toNat else s

/-- A write to a register of plane `p` in every plane that it reaches (R187, R228, R259, R267). -/
def State.writePlane (s : State) (p a : Nat) (v : Word) : State :=
  s.onWrite p fun s q =>
    if a = Reg.DPM_TCA_RD p then s.ringRdWrite (Fld.DPM_TCA_WR_WR q) (Fld.DPM_TCA_RD_RD q) 4096 v
    else if a = Reg.PRT_PV_RD p then s.ringRdWrite (Fld.PRT_PV_WR_WR q) (Fld.PRT_PV_RD_RD q) 256 v
    else s.writeByCode (a + q * 0x100 - p * 0x100) v

/-- A write to a register of DMA channel `c` (R423, R439). -/
def State.writeDma (s : State) (by' : Agent) (c a : Nat) (v : Word) : State :=
  if a = Reg.DMA_CH_CFG c then s.dmaCfg by' c v
  else if a = Reg.DMA_CH_CTL c then
    s.dmaBy by' c fun s =>
      let s := if wordBits v 1 1 = 1 then s.dmaHalt c 9 else s
      if wordBits v 0 1 = 1 then s.dmaSoft c else s
  else if a = Reg.DMA_CH_HPTR c then s.dmaHptr by' c v.toNat
  else s.dmaBy by' c fun s => s.writeByCode a v

/-- A write to a register of check-value unit `k` (R423, R436). -/
def State.writeCvu (s : State) (by' : Agent) (k a : Nat) (v : Word) : State :=
  if a = Reg.CVU_CTL k then (if wordBits v 0 1 = 1 then s.cvuStart by' k else s)
  else if a = Reg.CVU_DATA32 k then s.cvuData by' k (leBytes 4 v.toNat)
  else if a = Reg.CVU_DATA8 k then s.cvuData by' k [BitVec.ofNat 8 v.toNat]
  else if !s.cvuMay by' k then s.raise (Fld.CVU_STATUS_RSV_EV k)
  else if a = Reg.CVU_SEQ k then s.cvuSeq k v.toNat
  else s.writeByCode a v

/-- A write to FCR_INJ_CTL (R457, R458). -/
def State.injWrite (s : State) (v : Word) : State :=
  if !s.flag Fld.FCR_STATUS_INJ_READY then s
  else if wordBits v 12 1 = 1 then s.injLock
  else if wordBits v 10 1 = 1 then s.injGo (wordBits v 0 10) (wordBits v 11 1 == 1) (wordBits v 16 16)
  else
    let s := if s.flag Fld.FCR_STATUS_INJ_BUSY then s.injStop else s
    if s.flag Fld.FCR_STATUS_INJ_BUSY then s else s.setReg Reg.FCR_INJ_CTL (v &&& 0xFFFF0BFF)

/-- A write to a register of the FCR block. -/
def State.writeFcr (s : State) (by' : Agent) (a : Nat) (v : Word) : State :=
  if a = Reg.FCR_FF_SRC then (if wordBits v 13 1 = 1 then s.recordEmpty false else s)
  else if a = Reg.FCR_WORST_SRC then (if wordBits v 13 1 = 1 then s.recordEmpty true else s)
  else if 0x10100 ≤ a ∧ a < 0x1014C then s.causeClear ((a - 0x10100) / 4) v
  else if a = Reg.FCR_FW_RAISE then s.fwRaise by' v
  else if a = Reg.FCR_INJ_CTL then s.injWrite v
  else if 0x11000 ≤ a ∧ a < 0x11980 ∧ !(s.srcExists ((a - 0x11000) / 4) || decide (576 ≤ (a - 0x11000) / 4)) then s
  else s.writeByCode a v

/-- A write to a register of the TWN block: in Wide configuration only HOLD_MAX (R294); AUTO_RESYNC set to 1 acts at once
(R285), but not in the wait after a re-synchronisation without success (R288; log entry 98). -/
def State.writeTwn (s : State) (a : Nat) (v : Word) : State :=
  if !s.twin && a != Reg.TWN_HOLD_MAX then s
  else
    let was := s.flag Fld.TWN_LEASE_CFG_AUTO_RESYNC
    let s := s.writeByCode a v
    if s.flag Fld.TWN_LEASE_CFG_AUTO_RESYNC && !was && !s.tw.resyncEnded then s.autoResync else s

/-- A write to a register of the timing unit. -/
def State.writeTmg (s : State) (a : Nat) (v : Word) : State :=
  if 0x60800 ≤ a ∧ a < 0x60860 then s.clkWrite ((a - 0x60800) / 8) (if a % 8 = 0 then .cfg else .freq) v
  else if 0x60400 ≤ a ∧ a < 0x60600 then
    let d := (a - 0x60400) / 0x40
    if a = Reg.TMG_DPLL_FREQ d then s.freqWordWrite d v
    else if a = Reg.TMG_DPLL_CFG d then
      let old := s.get (Fld.TMG_DPLL_CFG_MODE d)
      (s.writeByCode a v).modeFollow d old
    else (s.writeByCode a v).timingFollow
  else if a < 0x60400 then
    let s := s.writeByCode a v
    (if 0x60100 ≤ a then s.candFollow ((a - 0x60100) / 0x20) else s).timingFollow
  else s.writeByCode a v

/-- A write to a register of the sample chain. -/
def State.writeScc (s : State) (a : Nat) (v : Word) : State :=
  if a = Reg.SCC_GLB_CTL then (if wordBits v 0 1 = 1 then s.sccSyncAll else s)
  else if a = Reg.SCC_COEF_DATA then s.coefAccess (.write v)
  else if a = Reg.SCC_COEF_LOAD then s.coefLoad v
  else if 0x71000 ≤ a ∧ a < 0x73000 then
    let k := (a - 0x71000) / 0x40
    match (a - 0x71000) % 0x40 with
    | 0x00 => s.sccCfgWrite k v
    | 0x0C => s.sccFirWrite k v
    | 0x14 => if k < 64 then s else s.sccThrWrite k 0 v
    | 0x18 => if k < 64 then s else s.sccThrWrite k 1 v
    | 0x1C => if k < 64 then s else s.sccThrWrite k 2 v
    | 0x20 => if wordBits v 0 1 = 1 then s.sccSync k else s
    | _ => s.writeByCode a v
  else s.writeByCode a v

/-- A write to a register of the always-on domain. -/
def State.writeAon (s : State) (a : Nat) (v : Word) : State :=
  if a = Reg.AON_TK_CTL then
    let s := s.writeByCode a (v &&& 0xFFFFFFFC)
    let s := if wordBits v 0 1 = 1 then s.tkCapture else s
    if wordBits v 1 1 = 1 then s.tkStep else s
  else if a = Reg.AON_SLEEP_CTL then s.sleepEnter v
  else s.writeByCode a v

/-- A write to a register of the mailbox block: MBX_PMX_RD within its ring (R397). -/
def State.writeMbx (s : State) (a : Nat) (v : Word) : State :=
  if 0x30000 ≤ a ∧ a < 0x30010 then s.doorbell (Fin.ofNat 4 ((a - 0x30000) / 4)) (wordBits v 0 16)
  else if a = Reg.MBX_EVQ_RD then s.evqRd v.toNat
  else if a = Reg.MBX_PMX_RD then
    match s.mbx.pmx with
    | some (_, n) => if ringFill (s.get Fld.MBX_PMX_WR_V) v.toNat ≤ n / 64 then s.set Fld.MBX_PMX_RD_V v.toNat else s
    | none => s
  else s.writeByCode a v

/-- A write to a register of the GLB block or the MSI-X table. -/
def State.writeGlb (s : State) (a : Nat) (v : Word) : State :=
  if 0x200 ≤ a ∧ a < 0x210 then s.irqEnable ((a - 0x200) / 4) v
  else if a = Reg.GLB_IRQ_REARM then s.irqRearm (wordBits v 0 6)
  else if 0xF00000 ≤ a ∧ a < 0xF00400 ∧ a % 16 = 12 then
    let s := s.writeByCode a v
    if wordBits v 0 1 = 0 then s.msixUnmask (some ((a - 0xF00000) / 16)) else s
  else s.writeByCode a v

/-- A 4-byte write to BAR0 (R12, R402, R407, R409). A read-only or reserved location ignores it. -/
def State.writeReg (s : State) (by' : Agent) (a : Nat) (v : Word) : State :=
  s.onSpine fun s =>
    if guarded.contains a then s.guardValue by' a v
    else if guarded.contains (a - 4) && decide (4 ≤ a) then s.guardComplement by' (a - 4) v
    else if 0x100000 ≤ a ∧ a < 0x400000 then s.writeLine ((a - 0x100000) / 0x8000) ((a - 0x100000) % 0x8000) v
    else if isPlaneReg 0 a then s.writePlane 0 a v
    else if isPlaneReg 1 a then s.writePlane 1 a v
    else if a = Reg.MAP_TBL_DATA then s.mapTblData (some v)
    else if a = Reg.PRT_REC_DATA then s.recAccess (.write v)
    else match a / 0x10000 with
      | 0x00 | 0xF0 => s.writeGlb a v
      | 0x01 => s.writeFcr by' a v
      | 0x02 => s.writeTwn a v
      | 0x03 => s.writeMbx a v
      | 0x04 => if 0x41000 ≤ a ∧ a < 0x41400 then s.writeDma by' ((a - 0x41000) / 0x40) a v else s.writeByCode a v
      | 0x05 => if 0x51000 ≤ a ∧ a < 0x51400 then s.writeCvu by' ((a - 0x51000) / 0x40) a v else s.writeByCode a v
      | 0x06 => s.writeTmg a v
      | 0x07 => s.writeScc a v
      | 0x08 => s.writeAon a v
      | 0x09 =>
        if a = Reg.MGMT_PUSH_CTL then (if wordBits v 0 1 = 1 then s.pushGo else s)
        -- a write does not clear FORCE_PUSH (R357; log entry 97)
        else if a = Reg.MGMT_BOOT_CTL then (if wordBits v 0 1 = 1 then s.raise Fld.MGMT_BOOT_CTL_FORCE_PUSH else s)
        else s.writeByCode a v
      | _ => s.writeByCode a v

/-- The sizes and alignments that BAR0 accepts (R406). -/
def bar0SizeOk (a n : Nat) : Bool := (n == 4 || n == 8) && a % n == 0

/-- A write of bytes to an address window (R403, R406, R407). In D3hot the function decodes no memory (R400). -/
def State.writeAccess (s : State) (by' : Agent) (bar : Bar) (a : Nat) (bs : List Byte) : State :=
  s.onSpine fun s => s.when (!(by' == .host && s.pcie.d3hot)) fun s =>
    match bar with
    | .bar0 =>
      if !bar0SizeOk a bs.length then s.badAccess false a true bs.length
      else if bs.length = 4 then s.writeReg by' a (BitVec.ofNat 32 (leNat bs))
      else if guarded.contains a then s.guardWide by' a
      else (s.writeReg by' a (BitVec.ofNat 32 (leNat (bs.take 4)))).writeReg by' (a + 4) (BitVec.ofNat 32 (leNat (bs.drop 4)))
    | .bar2 => if bar2SizeOk a bs.length then s.bar2Write a bs else s.badAccess true a true bs.length

/-- An access outside the sizes of R406. -/
def State.refused (s : State) (bar : Bar) (a : Nat) (write : Bool) (n : Nat) : State :=
  s.onSpine fun s =>
    match bar with
    | .bar0 => s.when (!bar0SizeOk a n) fun s => s.badAccess false a write n
    | .bar2 => s.when (!bar2SizeOk a n) fun s => s.badAccess true a write n

/-! ## Meanings -/

/-- REGISTER_WRITE (R12): a write of bytes at an offset of a window; registers with a command of their own act as that command. -/
def execRegisterWrite (by' : Agent) (bar : Bar) (a : BitVec 26) (bytes : List Byte) (s : State) : Host.Outcome State Fault Refusal :=
  done (s.writeAccess by' bar a.toNat bytes)

/-- BAD_ACCESS (R406): a read or a write, its length in bytes. -/
def execBadAccess (bar : Bar) (a : BitVec 26) (write : Bool) (n : Nat) (s : State) : Host.Outcome State Fault Refusal :=
  done (s.refused bar a.toNat write n)

end Sys2Proof.Machine
end

