-- ==== Sys2Proof/Machine/JtagPort.lean ====
section
/-! DEFINITION. The JTAG port (R495): instructions, what they select, what drives the pins. -/

namespace Sys2Proof.Machine

/-- EXTEST, EXTEST_PULSE, EXTEST_TRAIN, HIGHZ and CLAMP act only while PWR_GOOD_1 and PWR_GOOD_2 are high. -/
def State.jtagActs (s : State) : Bool := s.flag Fld.AON_FEED_STATUS_PG1 && s.flag Fld.AON_FEED_STATUS_PG2

/-- The register that the port shifts (Table 18.15). -/
def State.jtagSel (s : State) : JtagReg :=
  match s.jtag.ir with
  | 1 => .idcode
  | 2 => .boundary
  | 0 | 3 | 4 => if s.jtagActs then .boundary else .bypass
  | _ => .bypass

/-- What drives the pins. -/
def State.pinSource (s : State) : PinSource :=
  if !s.jtagActs then .device
  else match s.jtag.ir with
    | 0 | 6 => .boundary
    | 3 => .pulse
    | 4 => .train
    | 5 => .highZ
    | _ => .device

/-- The identification register. -/
def State.idcode (s : State) : Word :=
  match s.fuses.variant with
  | .lp9672 => 0x19672BE5
  | .lp9648 => 0x19648BE5

/-- An instruction is loaded. -/
def State.jtagIr (s : State) (v : Nat) : State := { s with jtag := { s.jtag with ir := v } }

/-- JTAG_TAP_RESET (R495): IDCODE is the default. -/
def execJtagTapReset (s : State) : Host.Outcome State Fault Refusal := done (s.jtagIr 1)

/-- JTAG_EXTEST (R495). -/
def execJtagExtest (s : State) : Host.Outcome State Fault Refusal := done (s.jtagIr 0)

/-- JTAG_IDCODE (R495). -/
def execJtagIdcode (s : State) : Host.Outcome State Fault Refusal := done (s.jtagIr 0x01)

/-- JTAG_SAMPLE_PRELOAD (R495): the levels of the pins as captured, the data shifted in and loaded. -/
def execJtagSamplePreload (pins data : List Bool) (s : State) : Host.Outcome State Fault Refusal :=
  done { s with jtag := ⟨2, pins, data⟩ }

/-- JTAG_EXTEST_PULSE (R495). -/
def execJtagExtestPulse (s : State) : Host.Outcome State Fault Refusal := done (s.jtagIr 3)

/-- JTAG_EXTEST_TRAIN (R495). -/
def execJtagExtestTrain (s : State) : Host.Outcome State Fault Refusal := done (s.jtagIr 4)

/-- JTAG_HIGHZ (R495). -/
def execJtagHighz (s : State) : Host.Outcome State Fault Refusal := done (s.jtagIr 5)

/-- JTAG_CLAMP (R495). -/
def execJtagClamp (s : State) : Host.Outcome State Fault Refusal := done (s.jtagIr 6)

/-- JTAG_BYPASS (R495): the code, 0xFF or one that Table 18.15 does not list. -/
def execJtagBypass (code : BitVec 8) (s : State) : Host.Outcome State Fault Refusal :=
  done (if code.toNat ≤ 6 then s else s.jtagIr code.toNat)

end Sys2Proof.Machine
end

