-- ==== Sys2Proof/Machine/Dispatch.lean ====
section
/-! DEFINITION. The dispatch: one arm per constructor of Instr, each a direct call of its meaning. -/

namespace Sys2Proof.Machine

/-- The effect of a command on everything but the queue. -/
def exec (i : Instr) (s : State) : Host.Outcome State Fault Refusal :=
  match i with
  | .registerWrite by' bar a bytes => Sys2Proof.Machine.execRegisterWrite by' bar a bytes s
  | .badAccess bar a write n => Sys2Proof.Machine.execBadAccess bar a write n s
  | .guardValueWrite by' a v => Sys2Proof.Machine.execGuardValueWrite by' a v s
  | .guardComplementWrite by' a w => Sys2Proof.Machine.execGuardComplementWrite by' a w s
  | .guardWindowExpiry by' => Sys2Proof.Machine.execGuardWindowExpiry by' s
  | .guardWideWrite by' a => Sys2Proof.Machine.execGuardWideWrite by' a s
  | .glbChipReset v => Sys2Proof.Machine.execGlbChipReset v s
  | .chipReset => Sys2Proof.Machine.execChipReset s
  | .chipResetRelease => Sys2Proof.Machine.execChipResetRelease s
  | .irqRearm v => Sys2Proof.Machine.execIrqRearm v s
  | .irqEnableWrite r v => Sys2Proof.Machine.execIrqEnableWrite r v s
  | .msixUnmask v => Sys2Proof.Machine.execMsixUnmask v s
  | .perstNAssert => Sys2Proof.Machine.execPerstNAssert s
  | .perstNRelease => Sys2Proof.Machine.execPerstNRelease s
  | .d3hotEntry => Sys2Proof.Machine.execD3hotEntry s
  | .busMasterDisable => Sys2Proof.Machine.execBusMasterDisable s
  | .vaonPowerOn => Sys2Proof.Machine.execVaonPowerOn s
  | .resetNAssert => Sys2Proof.Machine.execResetNAssert s
  | .resetNRelease => Sys2Proof.Machine.execResetNRelease s
  | .internalResetRelease twin bootSrc test => Sys2Proof.Machine.execInternalResetRelease twin bootSrc test s
  | .feedLoss p pg spine => Sys2Proof.Machine.execFeedLoss p pg spine s
  | .feedReturn p => Sys2Proof.Machine.execFeedReturn p s
  | .spineSupplySwitchover limit => Sys2Proof.Machine.execSpineSupplySwitchover limit s
  | .spinePowerReturn p twin bootSrc test => Sys2Proof.Machine.execSpinePowerReturn p twin bootSrc test s
  | .corePllLock p => Sys2Proof.Machine.execCorePllLock p s
  | .chipSleepEnter v => Sys2Proof.Machine.execChipSleepEnter v s
  | .chipSleepEntryComplete => Sys2Proof.Machine.execChipSleepEntryComplete s
  | .wakeEvent active => Sys2Proof.Machine.execWakeEvent active s
  | .tempComparatorTrip t => Sys2Proof.Machine.execTempComparatorTrip t s
  | .spreadChangeApply p => Sys2Proof.Machine.execSpreadChangeApply p s
  | .flashBootAttempt slot sfdp img readErr => Sys2Proof.Machine.execFlashBootAttempt slot sfdp img readErr s
  | .pushGo => Sys2Proof.Machine.execPushGo s
  | .pushFetchComplete img readErr => Sys2Proof.Machine.execPushFetchComplete img readErr s
  | .berentReady good => Sys2Proof.Machine.execBerentReady good s
  | .mgmtWatchdogLapse => Sys2Proof.Machine.execMgmtWatchdogLapse s
  | .mgmtRestart => Sys2Proof.Machine.execMgmtRestart s
  | .managementRestart => Sys2Proof.Machine.execManagementRestart s
  | .mbxEvqRdWrite v => Sys2Proof.Machine.execMbxEvqRdWrite v s
  | .loadWindowEnd load => Sys2Proof.Machine.execLoadWindowEnd load s
  | .mbxDoorbell ring pi => Sys2Proof.Machine.execMbxDoorbell ring pi s
  | .unknownOpcode => Sys2Proof.Machine.execUnknownOpcode s
  | .ping => Sys2Proof.Machine.execPing s
  | .getStatus => Sys2Proof.Machine.execGetStatus s
  | .evqSet => Sys2Proof.Machine.execEvqSet s
  | .configConfirm => Sys2Proof.Machine.execConfigConfirm s
  | .enterService => Sys2Proof.Machine.execEnterService s
  | .enterMaintenance => Sys2Proof.Machine.execEnterMaintenance s
  | .leaveMaintenance => Sys2Proof.Machine.execLeaveMaintenance s
  | .opCancel => Sys2Proof.Machine.execOpCancel s
  | .lineConfig => Sys2Proof.Machine.execLineConfig s
  | .lineDoze => Sys2Proof.Machine.execLineDoze s
  | .moduleAccess => Sys2Proof.Machine.execModuleAccess s
  | .moduleHostTransaction k o => Sys2Proof.Machine.execModuleHostTransaction k o s
  | .throughConfig => Sys2Proof.Machine.execThroughConfig s
  | .epochRebuild data => Sys2Proof.Machine.execEpochRebuild data s
  | .epochRebuildDone k => Sys2Proof.Machine.execEpochRebuildDone k s
  | .pgCreate => Sys2Proof.Machine.execPgCreate s
  | .mgCreate => Sys2Proof.Machine.execMgCreate s
  | .pgRemove => Sys2Proof.Machine.execPgRemove s
  | .lineTxTiming => Sys2Proof.Machine.execLineTxTiming s
  | .todConfig => Sys2Proof.Machine.execTodConfig s
  | .pmExportSet => Sys2Proof.Machine.execPmExportSet s
  | .scrub => Sys2Proof.Machine.execScrub s
  | .scrubDone k corrected uncorrectable => Sys2Proof.Machine.execScrubDone k corrected uncorrectable s
  | .resync => Sys2Proof.Machine.execResync s
  | .fwLoad data => Sys2Proof.Machine.execFwLoad data s
  | .fwLoadDone k readBack => Sys2Proof.Machine.execFwLoadDone k readBack s
  | .otpProgram => Sys2Proof.Machine.execOtpProgram s
  | .attest => Sys2Proof.Machine.execAttest s
  | .prbsTest => Sys2Proof.Machine.execPrbsTest s
  | .prbsTestDone k => Sys2Proof.Machine.execPrbsTestDone k s
  | .prbsWordCheck n w => Sys2Proof.Machine.execPrbsWordCheck n w s
  | .longOpProgress k pct pos => Sys2Proof.Machine.execLongOpProgress k pct pos s
  | .lineCfgWrite n v => Sys2Proof.Machine.execLineCfgWrite n v s
  | .rxEqCfgWrite n v => Sys2Proof.Machine.execRxEqCfgWrite n v s
  | .eqAdaptDone n v => Sys2Proof.Machine.execEqAdaptDone n v s
  | .txDrvCfgWrite n v => Sys2Proof.Machine.execTxDrvCfgWrite n v s
  | .sdChange n sd => Sys2Proof.Machine.execSdChange n sd s
  | .cdrLockRise n => Sys2Proof.Machine.execCdrLockRise n s
  | .cdrLockFall n => Sys2Proof.Machine.execCdrLockFall n s
  | .signalReplaced n cdrFalls => Sys2Proof.Machine.execSignalReplaced n cdrFalls s
  | .dozeEntryComplete n => Sys2Proof.Machine.execDozeEntryComplete n s
  | .dozeExitComplete n cdrLocked => Sys2Proof.Machine.execDozeExitComplete n cdrLocked s
  | .dozeMoveComplete n => Sys2Proof.Machine.execDozeMoveComplete n s
  | .wakeOnSd n => Sys2Proof.Machine.execWakeOnSd n s
  | .pollPassStart k => Sys2Proof.Machine.execPollPassStart k s
  | .pollItemComplete k o => Sys2Proof.Machine.execPollItemComplete k o s
  | .pollPassEnd k us => Sys2Proof.Machine.execPollPassEnd k us s
  | .moduleAlarmChange m item => Sys2Proof.Machine.execModuleAlarmChange m item s
  | .modulePresenceChange m => Sys2Proof.Machine.execModulePresenceChange m s
  | .busRecoveryRetry k ok => Sys2Proof.Machine.execBusRecoveryRetry k ok s
  | .clockStretchTimeout k => Sys2Proof.Machine.execClockStretchTimeout k s
  | .lineQueueDrop n => Sys2Proof.Machine.execLineQueueDrop n s
  | .fauWord n w => Sys2Proof.Machine.execFauWord n w s
  | .fauLockAcquire n => Sys2Proof.Machine.execFauLockAcquire n s
  | .fauLockLoss n => Sys2Proof.Machine.execFauLockLoss n s
  | .fauSlipMove n => Sys2Proof.Machine.execFauSlipMove n s
  | .mfLockChange n => Sys2Proof.Machine.execMfLockChange n s
  | .fauRestart n => Sys2Proof.Machine.execFauRestart n s
  | .fauHuntCfgWrite n v => Sys2Proof.Machine.execFauHuntCfgWrite n v s
  | .fecCfgWrite n v => Sys2Proof.Machine.execFecCfgWrite n v s
  | .fecCodeword n c => Sys2Proof.Machine.execFecCodeword n c s
  | .mxfFrameRx n x => Sys2Proof.Machine.execMxfFrameRx n x s
  | .qlAccept n => Sys2Proof.Machine.execQlAccept n s
  | .mxfFrameTx n => Sys2Proof.Machine.execMxfFrameTx n s
  | .pmcMessageRx n => Sys2Proof.Machine.execPmcMessageRx n s
  | .pmcSendRequest n m => Sys2Proof.Machine.execPmcSendRequest n m s
  | .pmcAckTimeout n => Sys2Proof.Machine.execPmcAckTimeout n s
  | .ohpFrameRx n f => Sys2Proof.Machine.execOhpFrameRx n f s
  | .traceAccept x => Sys2Proof.Machine.execTraceAccept x s
  | .s1Accept n => Sys2Proof.Machine.execS1Accept n s
  | .apsAccept n => Sys2Proof.Machine.execApsAccept n s
  | .labelAccept x => Sys2Proof.Machine.execLabelAccept x s
  | .ohpFrameTx n => Sys2Proof.Machine.execOhpFrameTx n s
  | .txTraceCommit n v => Sys2Proof.Machine.execTxTraceCommit n v s
  | .txTraceLoad n t => Sys2Proof.Machine.execTxTraceLoad n t s
  | .capRdWrite n c v => Sys2Proof.Machine.execCapRdWrite n c v s
  | .insWrWrite n c v => Sys2Proof.Machine.execInsWrWrite n c v s
  | .esmcFrameRx n bytes fcsGood => Sys2Proof.Machine.execEsmcFrameRx n bytes fcsGood s
  | .esmcFrameTx n => Sys2Proof.Machine.execEsmcFrameTx n s
  | .throughStart n => Sys2Proof.Machine.execThroughStart n s
  | .throughUnit n u => Sys2Proof.Machine.execThroughUnit n u s
  | .throughFallback n => Sys2Proof.Machine.execThroughFallback n s
  | .throughResume n => Sys2Proof.Machine.execThroughResume n s
  | .thruCfgWrite n v => Sys2Proof.Machine.execThruCfgWrite n v s
  | .tableWrite a bytes => Sys2Proof.Machine.execTableWrite a bytes s
  | .mapTblDataAccess w => Sys2Proof.Machine.execMapTblDataAccess w s
  | .epochCommit p => Sys2Proof.Machine.execEpochCommit p s
  | .epochSideSwitch n d => Sys2Proof.Machine.execEpochSideSwitch n d s
  | .epochCommitForce p => Sys2Proof.Machine.execEpochCommitForce p s
  | .removedQueueEmpty p q => Sys2Proof.Machine.execRemovedQueueEmpty p q s
  | .epochIntegrityCheck p => Sys2Proof.Machine.execEpochIntegrityCheck p s
  | .clientPacketRx n bytes cut => Sys2Proof.Machine.execClientPacketRx n bytes cut s
  | .clientPacketTx p f => Sys2Proof.Machine.execClientPacketTx p f s
  | .queueFlush p q => Sys2Proof.Machine.execQueueFlush p q s
  | .queueFlushApply p q => Sys2Proof.Machine.execQueueFlushApply p q s
  | .gfpFrameRx p f g => Sys2Proof.Machine.execGfpFrameRx p f g s
  | .gfpDelineationChange p f => Sys2Proof.Machine.execGfpDelineationChange p f s
  | .pointerRx p f => Sys2Proof.Machine.execPointerRx p f s
  | .pointerStateChange p f => Sys2Proof.Machine.execPointerStateChange p f s
  | .pointerGenerate p f => Sys2Proof.Machine.execPointerGenerate p f s
  | .gmpControlWordRx p f => Sys2Proof.Machine.execGmpControlWordRx p f s
  | .gmpLossOfSync p f => Sys2Proof.Machine.execGmpLossOfSync p f s
  | .mehraxGmpTx p f => Sys2Proof.Machine.execMehraxGmpTx p f s
  | .defectEvaluate x dt => Sys2Proof.Machine.execDefectEvaluate x dt s
  | .defectRaise x => Sys2Proof.Machine.execDefectRaise x s
  | .defectClear x => Sys2Proof.Machine.execDefectClear x s
  | .failureDeclare x => Sys2Proof.Machine.execFailureDeclare x s
  | .failureClear x => Sys2Proof.Machine.execFailureClear x s
  | .csfSend p f => Sys2Proof.Machine.execCsfSend p f s
  | .dcsfTimeout p f => Sys2Proof.Machine.execDcsfTimeout p f s
  | .tkSecondRollover => Sys2Proof.Machine.execTkSecondRollover s
  | .henPassEnd p us => Sys2Proof.Machine.execHenPassEnd p us s
  | .pmExport p x day replaced => Sys2Proof.Machine.execPmExport p x day replaced s
  | .tcaForward p => Sys2Proof.Machine.execTcaForward p s
  | .lgCmdClear p g => Sys2Proof.Machine.execLgCmdClear p g s
  | .lgCmdLockout p g => Sys2Proof.Machine.execLgCmdLockout p g s
  | .lgCmdForcedSwitch p g => Sys2Proof.Machine.execLgCmdForcedSwitch p g s
  | .lgCmdManualP p g => Sys2Proof.Machine.execLgCmdManualP p g s
  | .lgCmdExercise p g => Sys2Proof.Machine.execLgCmdExercise p g s
  | .lgCmdManualW p g => Sys2Proof.Machine.execLgCmdManualW p g s
  | .mgCmdClear p g => Sys2Proof.Machine.execMgCmdClear p g s
  | .mgCmdLockout p g => Sys2Proof.Machine.execMgCmdLockout p g s
  | .mgCmdForced p g => Sys2Proof.Machine.execMgCmdForced p g s
  | .mgCmdManualP p g => Sys2Proof.Machine.execMgCmdManualP p g s
  | .mgCmdManualW p g => Sys2Proof.Machine.execMgCmdManualW p g s
  | .mgCmdReanchor p g => Sys2Proof.Machine.execMgCmdReanchor p g s
  | .prtRecDataAccess x => Sys2Proof.Machine.execPrtRecDataAccess x s
  | .protHoldoffExpiry p g k => Sys2Proof.Machine.execProtHoldoffExpiry p g k s
  | .wtrExpiry p g => Sys2Proof.Machine.execWtrExpiry p g s
  | .partnerViolationDetect x c => Sys2Proof.Machine.execPartnerViolationDetect x c s
  | .pvEpisodeEnd x c => Sys2Proof.Machine.execPvEpisodeEnd x c s
  | .mergeCmdRequeue p g => Sys2Proof.Machine.execMergeCmdRequeue p g s
  | .mergeCopyWrite n t => Sys2Proof.Machine.execMergeCopyWrite n t s
  | .mergeOutputRead p g r => Sys2Proof.Machine.execMergeOutputRead p g r s
  | .mergeRefMove p g overdue => Sys2Proof.Machine.execMergeRefMove p g overdue s
  | .mergeUnanchor p g => Sys2Proof.Machine.execMergeUnanchor p g s
  | .mergeAnchor p g => Sys2Proof.Machine.execMergeAnchor p g s
  | .mergeOutOfWindow p g b => Sys2Proof.Machine.execMergeOutOfWindow p g b s
  | .mergeAutoRealign p g => Sys2Proof.Machine.execMergeAutoRealign p g s
  | .mergeImmediateReanchor p g => Sys2Proof.Machine.execMergeImmediateReanchor p g s
  | .frameMarker => Sys2Proof.Machine.execFrameMarker s
  | .lineBlockRelease n => Sys2Proof.Machine.execLineBlockRelease n s
  | .linePresentMarker n => Sys2Proof.Machine.execLinePresentMarker n s
  | .signatureCompare => Sys2Proof.Machine.execSignatureCompare s
  | .signatureMissing p => Sys2Proof.Machine.execSignatureMissing p s
  | .heartbeatWindow a b => Sys2Proof.Machine.execHeartbeatWindow a b s
  | .heartbeatPathSilent k => Sys2Proof.Machine.execHeartbeatPathSilent k s
  | .heartbeatPathLive k => Sys2Proof.Machine.execHeartbeatPathLive k s
  | .leaseRenew k => Sys2Proof.Machine.execLeaseRenew k s
  | .holderLocalTimerExpiry => Sys2Proof.Machine.execHolderLocalTimerExpiry s
  | .leaseExpiry => Sys2Proof.Machine.execLeaseExpiry s
  | .leaseGrant t => Sys2Proof.Machine.execLeaseGrant t s
  | .firstLeaseTimeout => Sys2Proof.Machine.execFirstLeaseTimeout s
  | .plannedTransfer => Sys2Proof.Machine.execPlannedTransfer s
  | .twnLeaseForce target => Sys2Proof.Machine.execTwnLeaseForce target s
  | .revert => Sys2Proof.Machine.execRevert s
  | .lineWordTx n a b starts => Sys2Proof.Machine.execLineWordTx n a b starts s
  | .holdMaxExpiry n => Sys2Proof.Machine.execHoldMaxExpiry n s
  | .planeInitComplete p => Sys2Proof.Machine.execPlaneInitComplete p s
  | .autoResyncStart => Sys2Proof.Machine.execAutoResyncStart s
  | .resyncPassEnd d => Sys2Proof.Machine.execResyncPassEnd d s
  | .resyncTimeout => Sys2Proof.Machine.execResyncTimeout s
  | .candActivityChange c act => Sys2Proof.Machine.execCandActivityChange c act s
  | .freqMonitorUpdate c v => Sys2Proof.Machine.execFreqMonitorUpdate c v s
  | .candWtrExpiry c => Sys2Proof.Machine.execCandWtrExpiry c s
  | .candHoldoffExpiry c => Sys2Proof.Machine.execCandHoldoffExpiry c s
  | .qlFwWrite c v => Sys2Proof.Machine.execQlFwWrite c v s
  | .qlFwTimeout c => Sys2Proof.Machine.execQlFwTimeout c s
  | .refSwitchComplete d lost mean => Sys2Proof.Machine.execRefSwitchComplete d lost mean s
  | .phaseSample d v dco => Sys2Proof.Machine.execPhaseSample d v dco s
  | .dpllLocked d => Sys2Proof.Machine.execDpllLocked d s
  | .hoValidSet d => Sys2Proof.Machine.execHoValidSet d s
  | .dpllModeAuto d => Sys2Proof.Machine.execDpllModeAuto d s
  | .dpllForcedHoldover d => Sys2Proof.Machine.execDpllForcedHoldover d s
  | .dpllForcedFreeRun d => Sys2Proof.Machine.execDpllForcedFreeRun d s
  | .dpllSoftwareMode d => Sys2Proof.Machine.execDpllSoftwareMode d s
  | .dpllCmdNone d => Sys2Proof.Machine.execDpllCmdNone d s
  | .dpllCmdManual d c => Sys2Proof.Machine.execDpllCmdManual d c s
  | .dpllCmdForced d c => Sys2Proof.Machine.execDpllCmdForced d c s
  | .freqWordWrite d v => Sys2Proof.Machine.execFreqWordWrite d v s
  | .dpllPpt d v => Sys2Proof.Machine.execDpllPpt d v s
  | .swTmoExpiry d => Sys2Proof.Machine.execSwTmoExpiry d s
  | .esmcPduSend n event => Sys2Proof.Machine.execEsmcPduSend n event s
  | .clkoutCfgWrite k r v => Sys2Proof.Machine.execClkoutCfgWrite k r v s
  | .ppsOutEdge k => Sys2Proof.Machine.execPpsOutEdge k s
  | .ppsInEdge k width since => Sys2Proof.Machine.execPpsInEdge k width since s
  | .todZdaSend => Sys2Proof.Machine.execTodZdaSend s
  | .todRxGroup bytes sec ns => Sys2Proof.Machine.execTodRxGroup bytes sec ns s
  | .tkCapture => Sys2Proof.Machine.execTkCapture s
  | .tkStep => Sys2Proof.Machine.execTkStep s
  | .sccRawSample k v => Sys2Proof.Machine.execSccRawSample k v s
  | .sccMidSample k => Sys2Proof.Machine.execSccMidSample k s
  | .sccOutputTick => Sys2Proof.Machine.execSccOutputTick s
  | .sccThresholdCross k => Sys2Proof.Machine.execSccThresholdCross k s
  | .sccThresholdWrite k r v => Sys2Proof.Machine.execSccThresholdWrite k r v s
  | .sccDlyWrite k v => Sys2Proof.Machine.execSccDlyWrite k v s
  | .sccCoefDataAccess a => Sys2Proof.Machine.execSccCoefDataAccess a s
  | .sccCoefLoad v => Sys2Proof.Machine.execSccCoefLoad v s
  | .sccBankSwapRequest k v => Sys2Proof.Machine.execSccBankSwapRequest k v s
  | .sccFadeEnd k => Sys2Proof.Machine.execSccFadeEnd k s
  | .sccSlotSync k => Sys2Proof.Machine.execSccSlotSync k s
  | .sccSyncAll => Sys2Proof.Machine.execSccSyncAll s
  | .sccSlotEnRise k => Sys2Proof.Machine.execSccSlotEnRise k s
  | .sccSlotEnFall k => Sys2Proof.Machine.execSccSlotEnFall k s
  | .sccSettleEnd k => Sys2Proof.Machine.execSccSettleEnd k s
  | .dmaStart by' c => Sys2Proof.Machine.execDmaStart by' c s
  | .dmaStop by' c => Sys2Proof.Machine.execDmaStop by' c s
  | .dmaChannelEnable by' c cfg => Sys2Proof.Machine.execDmaChannelEnable by' c cfg s
  | .dmaChannelDisable by' c cfg => Sys2Proof.Machine.execDmaChannelDisable by' c cfg s
  | .dmaTimerTick t => Sys2Proof.Machine.execDmaTimerTick t s
  | .dmaBurst list x => Sys2Proof.Machine.execDmaBurst list x s
  | .dmaFenceComplete c => Sys2Proof.Machine.execDmaFenceComplete c s
  | .dmaRunEnd c => Sys2Proof.Machine.execDmaRunEnd c s
  | .dmaHptrWrite by' c v => Sys2Proof.Machine.execDmaHptrWrite by' c v s
  | .cvuStart by' k => Sys2Proof.Machine.execCvuStart by' k s
  | .cvuData32Write by' k lo hi => Sys2Proof.Machine.execCvuData32Write by' k lo hi s
  | .cvuData8Write by' k b => Sys2Proof.Machine.execCvuData8Write by' k b s
  | .faultEvent raised ended => Sys2Proof.Machine.execFaultEvent raised ended s
  | .planeStopRelease p => Sys2Proof.Machine.execPlaneStopRelease p s
  | .fcrCauseClear r v => Sys2Proof.Machine.execFcrCauseClear r v s
  | .fcrRecordEmpty worst => Sys2Proof.Machine.execFcrRecordEmpty worst s
  | .fcrFwRaise by' v => Sys2Proof.Machine.execFcrFwRaise by' v s
  | .fcrInjUnlock v => Sys2Proof.Machine.execFcrInjUnlock v s
  | .fcrInjGo src hold pulse => Sys2Proof.Machine.execFcrInjGo src hold pulse s
  | .fcrInjPulseEnd => Sys2Proof.Machine.execFcrInjPulseEnd s
  | .fcrInjStop => Sys2Proof.Machine.execFcrInjStop s
  | .fcrInjLock => Sys2Proof.Machine.execFcrInjLock s
  | .jtagTapReset => Sys2Proof.Machine.execJtagTapReset s
  | .jtagExtest => Sys2Proof.Machine.execJtagExtest s
  | .jtagIdcode => Sys2Proof.Machine.execJtagIdcode s
  | .jtagSamplePreload pins data => Sys2Proof.Machine.execJtagSamplePreload pins data s
  | .jtagExtestPulse => Sys2Proof.Machine.execJtagExtestPulse s
  | .jtagExtestTrain => Sys2Proof.Machine.execJtagExtestTrain s
  | .jtagHighz => Sys2Proof.Machine.execJtagHighz s
  | .jtagClamp => Sys2Proof.Machine.execJtagClamp s
  | .jtagBypass code => Sys2Proof.Machine.execJtagBypass code s
  | .xtal32kOkRise => Sys2Proof.Machine.execXtal32kOkRise s
  | .pcieEndpointReady => Sys2Proof.Machine.execPcieEndpointReady s

end Sys2Proof.Machine
end

