-- ==== Sys2Proof/Safety.lean ====
section
/-! DEFINITION. What statements about steps are said in: which parts of the state a command may change, and when a
step is safe. -/

namespace Sys2Proof.Machine

/-- A step is safe: it ends in a next state, neither in a fault nor in a refusal. -/
def State.safe (s : State) : Prop := ∃ t, step s = .next t

/-- The parts of the state but its registers. -/
inductive Part where
  | bar2
  | prtRec
  | host
  | flash
  | fuses
  | power
  | pcie
  | irq
  | guardHost
  | guardMgmt
  | tk
  | fcr
  | boot
  | mbx
  | buses
  | modules
  | lines
  | planes
  | tw
  | tmg
  | scc
  | dma
  | cvu
  | jtag
  | fresh
  | pending
  deriving DecidableEq, Repr

/-- Part `p` of `s` is the same in `t`. Of the interrupt state this is the set pulse vectors, and of the fault
collector all but the live bits: the rest follows the state after every command. -/
def State.keeps (s t : State) (p : Part) : Prop :=
  match p with
  | .bar2 => t.bar2 = s.bar2
  | .prtRec => t.prtRec = s.prtRec
  | .host => t.host = s.host
  | .flash => t.flash = s.flash
  | .fuses => t.fuses = s.fuses
  | .power => t.power = s.power
  | .pcie => t.pcie = s.pcie
  | .irq => t.irq.pulse = s.irq.pulse
  | .guardHost => t.guardHost = s.guardHost
  | .guardMgmt => t.guardMgmt = s.guardMgmt
  | .tk => t.tk = s.tk
  | .fcr => { t.fcr with live := 0 } = { s.fcr with live := 0 }
  | .boot => t.boot = s.boot
  | .mbx => t.mbx = s.mbx
  | .buses => t.buses = s.buses
  | .modules => t.modules = s.modules
  | .lines => t.lines = s.lines
  | .planes => t.planes = s.planes
  | .tw => t.tw = s.tw
  | .tmg => t.tmg = s.tmg
  | .scc => t.scc = s.scc
  | .dma => t.dma = s.dma
  | .cvu => t.cvu = s.cvu
  | .jtag => t.jtag = s.jtag
  | .fresh => t.fresh = s.fresh
  | .pending => t.pending = s.pending

/-- From `s` to `t` no register changes but the listed ones, and no other part but the listed ones. -/
def State.frame (s t : State) (regs : List Nat) (parts : List Part) : Prop :=
  (∀ a, a ∉ regs → t.reg a = s.reg a) ∧ ∀ p, p ∉ parts → s.keeps t p

/-- No line but line `n` changes what it holds beside its registers. -/
def State.onlyLine (s t : State) (n : Nat) : Prop := ∀ m, m ≠ n → t.line m = s.line m

/-- Vectors and live bits follow the state: the asserted vectors are those of the state, and every live bit is one
that stays. -/
def State.settled (s : State) : Prop :=
  s.irq.asserted = s.vectors ∧ ∀ k, s.fcr.live.testBit k = true → s.staysLive k = true

/-! ## Fault events -/

/-- The escalation level of the class of source `k` at its next event (R445). -/
def State.eventLevel (s : State) (k : Nat) : Nat :=
  if s.unacked (srcClass k) && !(s.get Fld.FCR_ESC_DIS_DIS).testBit (srcClass k) then s.escOf (srcClass k) + 1
  else s.escOf (srcClass k)

/-- The effective severity of the next event of source `k`: SEV, 5 to 7 as 4, raised by the level, at most 4 (R445). -/
def State.eventSeverity (s : State) (k : Nat) : Nat := min 4 (min 4 (s.get (Fld.FCR_SRC_CFG_SEV k)) + s.eventLevel k)

/-- A happening of the type E source `k` awaits registration; the source exists, is enabled and not held (R441 to R444). -/
def State.awaits (s : State) (k : Nat) : Prop :=
  s.spineOn = true ∧ s.srcExists k = true ∧ s.srcHeld k = false ∧ s.fcr.live.testBit k = false ∧ s.fcr.due.testBit k = true
    ∧ (srcInfo k).any (fun i => i.typeE) = true ∧ s.flag (Fld.FCR_SRC_CFG_EN k) = true

/-! ## Messages -/

/-- The `n`-byte number at offset `o` of the slot of message `m` (Table 13.3). -/
def State.slotNum (s : State) (m : Posted) (o n : Nat) : Nat := s.bar2Num (slotAddr m.ring.val (m.num % 64) + o) n

/-- The payload of message `m`. -/
def State.slotPayload (s : State) (m : Posted) : List Byte :=
  s.bar2Bytes (slotAddr m.ring.val (m.num % 64) + 16) (s.slotNum m 4 4)

/-- Berent runs, takes `m` next, and the message carries opcode `op`. -/
def State.atHead (s : State) (op : Nat) (m : Posted) : Prop :=
  s.berentRuns = true ∧ s.nextPost = some m ∧ s.slotNum m 0 2 = op

/-- The CRC-32C of message `m` is the one of its header and payload (R372). -/
def State.crcGood (s : State) (m : Posted) : Prop :=
  crc32c (s.bar2Bytes (slotAddr m.ring.val (m.num % 64)) 12 ++ leBytes 4 0 ++ s.slotPayload m) = s.slotNum m 12 4

/-- Berent takes `m` next, with opcode `op`, and it passes every check of Table 13.4 (R382). -/
def State.serves (s : State) (op : Nat) (m : Posted) : Prop :=
  s.atHead op m ∧ s.slotNum m 4 4 ≤ 4080 ∧ s.crcGood m ∧ opLength op (s.slotNum m 4 4) = true
    ∧ (opRow op).any (fun x => x.states.contains s.fwState && (x.urgent || m.ring != 0)) = true
    ∧ (m.ring = 0 ∨ s.flag Fld.MGMT_FW_STATE_OVERLOAD = false ∨ m.ovl = false)

/-- The bytes that answer message `m`: its opcode and tag, FLAGS with ANS, PROG, OVL and the state given, the status (R375). -/
def State.answerTo (s : State) (m : Posted) (state status : Nat) (payload : List Byte) : List Byte :=
  messageBytes (s.slotNum m 0 2) (s.slotNum m 2 2)
    (1 + 2 * b2n (bitOf (s.slotNum m 8 2) 1) + 4 * b2n (s.flag Fld.MGMT_FW_STATE_OVERLOAD) + 256 * state) status payload

/-- From `s` to `t` message `m` has been taken: TAKEN counts it and it waits no more (R373). -/
def State.took (s t : State) (m : Posted) : Prop :=
  t.get (Fld.MBX_CI_TAKEN m.ring.val) = (s.get (Fld.MBX_CI_TAKEN m.ring.val) + 1) % 65536
    ∧ ∀ x, x ∈ t.mbx.posts → x.ring = m.ring → x.num ≠ m.num

/-- From `s` to `t` message `m` has been taken and answered in its slot, counted in ANSWERED, with the interrupt of its ring; no
other byte of the BAR2 spaces has changed (R373, R375). -/
def State.answered (s t : State) (m : Posted) (state status : Nat) (payload : List Byte) : Prop :=
  s.took t m ∧ t.bar2 = Sparse.setList bar2Default s.bar2 (slotAddr m.ring.val (m.num % 64)) (s.answerTo m state status payload)
    ∧ t.get (Fld.MBX_CI_ANSWERED m.ring.val) = (s.get (Fld.MBX_CI_ANSWERED m.ring.val) + 1) % 65536
    ∧ t.irq.pulse.testBit (2 + m.ring.val) = true

/-- From `s` to `t` message `m` has been answered BAD_ARG with the offset of a payload byte, whatever its DETAIL and VALUE. -/
def State.answeredBad (s t : State) (m : Posted) (offset : Nat) : Prop :=
  ∃ d v, s.answered t m s.fwState 0x0103 (leBytes 2 offset ++ leBytes 1 d ++ leBytes 1 0 ++ leBytes 4 v)

/-- The `n`-byte number at offset `o` of the payload of message `m`. -/
def State.pay (s : State) (m : Posted) (o n : Nat) : Nat := payNum (s.slotPayload m) o n

/-- Line `n` exists and no flow of an active epoch, no group and no Through pair uses it. -/
def State.lineIdle (s : State) (n : Nat) : Prop :=
  n < 96 ∧ s.hasLine n = true ∧ s.flowing n = false ∧ s.grouped n = false ∧ s.inThrough n = false

/-- The registers of the epochs' CHECKED bits, which a change of a line may clear (R190). -/
def checkedRegs : List Nat := [Reg.MAP_EPOCH_STATUS 0, Reg.MAP_EPOCH_STATUS 1]

/-- From `s` to `t` long operation `o` has begun in entry `k`, which shows its opcode, tag, ring and slot with PCT 0 (R388). -/
def State.opBegan (s t : State) (k : Nat) (o : LongOp) : Prop :=
  s.op k = none ∧ t.op k = some o ∧ t.get (Fld.MBX_OP_PROG_ACTIVE k) = 1 ∧ t.get (Fld.MBX_OP_ID_OPCODE k) = o.cmd.opcode % 65536
    ∧ t.get (Fld.MBX_OP_ID_TAG k) = o.cmd.tag % 65536 ∧ t.get (Fld.MBX_OP_PROG_PCT k) = 0 ∧ t.get (Fld.MBX_OP_POS_V k) = 0

/-- The command that message `m` is, once taken. -/
def State.taken (s : State) (m : Posted) : Taken :=
  ⟨m.ring, m.num % 64, s.slotNum m 0 2, s.slotNum m 2 2, bitOf (s.slotNum m 8 2) 1, s.flag Fld.MGMT_FW_STATE_OVERLOAD, s.fwState⟩

/-- The registers of entry `k` of the operations. -/
def opRegs (k : Nat) : List Nat := [Reg.MBX_OP_ID k, Reg.MBX_OP_PROG k, Reg.MBX_OP_POS k]

/-- From `s` to `t` the operation of entry `k` has ended with a status and a payload: the entry is free, and the answer stands in the
slot of its command (R388). -/
def State.opEnded (s t : State) (k : Nat) (o : LongOp) (status : Nat) (payload : List Byte) : Prop :=
  s.op k = some o ∧ t.op k = none ∧ t.get (Fld.MBX_OP_PROG_ACTIVE k) = 0
    ∧ (o.auto = false → t.bar2Bytes (slotAddr o.cmd.ring.val o.cmd.slot) (16 + payload.length)
          = messageBytes o.cmd.opcode o.cmd.tag (1 + 2 * b2n o.cmd.prog + 4 * b2n o.cmd.ovl + 256 * o.cmd.state) status payload
        ∧ t.irq.pulse.testBit (2 + o.cmd.ring.val) = true)

/-- The registers that an event of Berent may change (R386). -/
def eventRegs : List Nat := [Reg.MBX_EVQ_WR, Reg.MBX_EVQ_LOST, Reg.MBX_STATUS]

/-- The registers that taking and answering a message of ring `r` may change. -/
def mailRegs (r : Nat) : List Nat := [Reg.MBX_CI r, Reg.MGMT_LOAD, Reg.MGMT_FW_STATE]

/-! ## Lines and timing -/

/-- The registers of the timing unit that follow a change of a line's signal (R296 to R304). -/
def timingRegs : List Nat :=
  (List.range 24).flatMap (fun c => [Reg.TMG_CAND_STATUS c, Reg.TMG_CAND_FOFS c])
    ++ (List.range 8).flatMap (fun d => [Reg.TMG_DPLL_STATUS d, Reg.TMG_DPLL_FREQ d, Reg.TMG_DPLL_PPT_RD d])

/-- The registers of line `n` that a FAU leaving lock may change (R73, R101). -/
def fauRegs (n : Nat) : List Nat :=
  [Reg.LCH_FAU_STATUS n, Reg.LCH_FAU_HUNT_CFG n, Reg.LCH_FAU_LOSS_CNT_LO n, Reg.LCH_FAU_LOSS_CNT_HI n, Reg.LCH_DPM_CNT2_LO n,
    Reg.LCH_DPM_CNT2_HI n]

/-- The registers of line `n` that a received Mehrax frame may change (R98 to R101, R105 to R112). -/
def mxfRegs (n : Nat) : List Nat :=
  [Reg.LCH_MXF_STATUS n, Reg.LCH_FAU_STATUS n, Reg.LCH_MXF_OHCRC_ERR_LO n, Reg.LCH_MXF_OHCRC_ERR_HI n, Reg.LCH_MXF_PCRC_ERR_LO n,
    Reg.LCH_MXF_PCRC_ERR_HI n, Reg.LCH_MXF_FSN_JUMP_LO n, Reg.LCH_MXF_FSN_JUMP_HI n, Reg.LCH_DPM_CNT0_LO n, Reg.LCH_DPM_CNT0_HI n,
    Reg.LCH_DPM_CNT1_LO n, Reg.LCH_DPM_CNT1_HI n, Reg.LCH_DPM_CNT2_LO n, Reg.LCH_DPM_CNT2_HI n, Reg.LCH_DPM_CNT3_LO n,
    Reg.LCH_DPM_CNT3_HI n]

/-- From `s` to `t` the FAU of line `n` has gone to IDLE with every tracker clear; a line that was in lock counts a loss (R73). -/
def State.fauWentIdle (s t : State) (n : Nat) : Prop :=
  t.get (Fld.LCH_FAU_STATUS_STATE n) = 0 ∧ t.get (Fld.LCH_FAU_STATUS_CAND n) = 0 ∧ (t.line n).fau.trackers = [] ∧ (t.line n).fau.lock = none
    ∧ (s.fauLocked n = true → t.get (Fld.LCH_FAU_STATUS_LOSS_EV n) = 1
        ∧ t.get64 (Reg.LCH_FAU_LOSS_CNT_LO n) = (s.get64 (Reg.LCH_FAU_LOSS_CNT_LO n) + 1) % 2 ^ 48)

/-! ## Overhead, flows and records -/

/-- No byte of the BAR2 spaces changes from `s` to `t` but those of the ranges listed as address and length. -/
def State.bar2Except (s t : State) (ranges : List (Nat × Nat)) : Prop :=
  ∀ a, (∀ r, r ∈ ranges → a < r.1 ∨ r.1 + r.2 ≤ a) → t.bar2Byte a = s.bar2Byte a

/-- From `s` to `t` the twin control changes by the WRITE marker of a write to plane state of plane `p` alone: in a confirmed Twin
configuration it takes the next global block number (R264, R267). -/
def State.marked (s t : State) (p : Nat) : Prop := t.tw = (s.writeMark p).tw

/-- No byte of the record space of the protection engines changes but those of the ranges listed. -/
def State.recExcept (s t : State) (ranges : List (Nat × Nat)) : Prop :=
  ∀ a, (∀ r, r ∈ ranges → a < r.1 ∨ r.1 + r.2 ≤ a) → t.recNum a 1 = s.recNum a 1

/-- Of the planes only the contexts of flow `f` change. -/
def State.onlyFlow (s t : State) (f : Nat) : Prop :=
  ∀ q, { t.plane q with flows := [] } = { s.plane q with flows := [] } ∧ ∀ g, g ≠ f → t.flow q g = s.flow q g

/-- The registers of line `n` that a frame into its receive overhead processor may change (R120 to R139, R214). -/
def ohpRegs (n : Nat) : List Nat :=
  [Reg.LCH_OHP_RX_STATUS n, Reg.LCH_OHP_RX_SNAP n, Reg.LCH_DPM_CNT0_LO n, Reg.LCH_DPM_CNT0_HI n, Reg.LCH_DPM_CNT1_LO n,
    Reg.LCH_DPM_CNT1_HI n, Reg.LCH_DPM_CNT2_LO n, Reg.LCH_DPM_CNT2_HI n, Reg.LCH_DPM_CNT3_LO n, Reg.LCH_DPM_CNT3_HI n]
    ++ (List.range 4).flatMap (fun c => [Reg.LCH_OHP_CAP_WR n c, Reg.LCH_OHP_CAP_DROP n c])

/-- What a run of blocks of an Ethernet line shows: invalid header, invalid type, ordered set of each. -/
def blockList (bypass : Bool) : Nat → List (BitVec 66) → List (Bool × Bool × Nat)
  | _, [] => []
  | st, b :: t =>
    let (plain, st') := selfDescr 64 (bitsOf b.toNat 0 64) 0 st
    blockParts (bitsOf b.toNat 64 2) (if bypass then bitsOf b.toNat 0 64 else plain) :: blockList bypass st' t

/-- The table space of both planes, which holds the state records of their flows (Table 14.3). -/
def tableSpace : Nat × Nat := (0x1000000, 0x1000000)

/-- The capture buffer of line `n` (R135). -/
def capRange (n : Nat) : Nat × Nat := (0x3000000 + n * 0x8000, 0x4000)

/-- The PM records of both layers of line `n` in both planes (Table 7.7). -/
def lineRecs (n : Nat) : List (Nat × Nat) := [0, 1].map (fun p => (lineRec p n 0, 192))

/-- From `s` to `t` line `n` may have left lock: its own state, the registers listed and the kinds of state listed change; on a
Mehrax line the frame that awaited its check result also adds to the errored blocks of the line and is tagged in the merge
copies (R101, R216, R248). -/
def State.lossFrame (s t : State) (n : Nat) (regs : List Nat) (also : List Part) : Prop :=
  s.bar2Except t (if isMxf (s.format n) then lineRecs n else [])
    ∧ (∀ q, { t.plane q with mgs := [] } = { s.plane q with mgs := [] })
    ∧ s.frame t regs (if isMxf (s.format n) then .bar2 :: .planes :: .lines :: also else .lines :: also)

/-- The state records of flow `f` in both planes (Table 6.8). -/
def stateRecs (f : Nat) : List (Nat × Nat) := [0, 1].map (fun p => (stateAddr p f, 16))

/-- The PM records of flow `f` in both planes (Table 7.7). -/
def flowRecs (f : Nat) : List (Nat × Nat) := [0, 1].map (fun p => (flowRec p f, 96))

/-- The records of queue `q` in both planes (Table 6.9). -/
def queueRecs (q : Nat) : List (Nat × Nat) := [0, 1].map (fun p => (queueAddr p q, 64))

/-- The registers of line `n` that sending overhead may change: read pointers and underflow counts of the insertion channels,
FULL. -/
def txRegs (n : Nat) : List Nat :=
  Reg.LCH_FRB_STATUS n :: (List.range 4).flatMap (fun c => [Reg.LCH_OHP_INS_RD n c, Reg.LCH_OHP_INS_UNDER n c])

/-- The registers that a commit of an epoch may change (R191 to R195, R169, R206). -/
def epochRegs : List Nat :=
  [0, 1].flatMap (fun p => [Reg.MAP_EPOCH_STATUS p, Reg.DPM_FLOW_SUM0 p, Reg.DPM_FLOW_SUM1 p] ++ [0, 1, 2].map (Reg.MAP_EPOCH_FORCED p))
    ++ (List.range 96).map Reg.LCH_MXF_STATUS

/-- The registers that the decisions of the protection engines may change (R228, R240). -/
def protRegs : List Nat := [Reg.PRT_STATUS 0, Reg.PRT_STATUS 1]

/-- The registers that the passes of the Hens may change (R220 to R226). -/
def pmRegs : List Nat :=
  [0, 1].flatMap (fun p => [Reg.DPM_PM_SEQ p, Reg.DPM_PM_STATUS p, Reg.DPM_TCA_WR p])

/-- The records of line group `g` in both planes (Table 8.9). -/
def lgRecs (g : Nat) : List (Nat × Nat) := [0, 1].map (fun p => (lgAddr p g, 32))

/-- The records of merge group `g` in both planes (Table 8.10). -/
def mgRecs (g : Nat) : List (Nat × Nat) := [0, 1].map (fun p => (mgAddr p g, 64))

/-- The rings of partner-violation records of both planes (R242). -/
def pvRings : List (Nat × Nat) := [0, 1].map (fun p => (p * 0x800000 + 0x20000, 4096))

/-- The registers that a partner violation may change. -/
def pvRegs : List Nat := protRegs ++ [Reg.PRT_PV_WR 0, Reg.PRT_PV_WR 1]

/-- From `s` to `t` the merge group re-anchors: counted, marked, its REF the earlier copy, none out of window (R255). -/
def State.realigned (s t : State) (q g : Nat) : Prop :=
  t.mgGet q g MG.realignCnt = (s.mgGet q g MG.realignCnt + 1) % 2 ^ 32 ∧ t.get (Fld.PRT_STATUS_REALIGN_EV q) = 1
    ∧ t.mgGet q g MG.ref = b2n (s.mg q g).earlier

/-! ## Twin configuration -/

/-- The registers that follow a change of the plane states: the twin control's, the operations', the mailbox's (R283, R285, R364). -/
def twinRegs : List Nat :=
  [Reg.TWN_STATUS, Reg.TWN_MISMATCH_CNT, Reg.TWN_MISMATCH_LAST, Reg.TWN_RESYNC_PROG, Reg.MGMT_FW_STATE]
    ++ eventRegs ++ (List.range 8).flatMap opRegs ++ (List.range 4).map Reg.MBX_CI

/-- The result registers of the check-value units that hold the signatures of the planes (R269). -/
def signatureRegs : List Nat := [Reg.CVU_RES_LO 12, Reg.CVU_RES_HI 12, Reg.CVU_RES_LO 13, Reg.CVU_RES_HI 13]

/-- The addresses of the MAP, DPM and PRT registers of plane `p`. -/
def planeRegs (p : Nat) : List Nat :=
  (List.range 256).flatMap (fun k => [0x400100 + p * 0x100 + k, 0x800100 + p * 0x100 + k]) ++ (List.range 256).map (0x900000 + p * 0x100 + ·)

/-- Twin configuration is confirmed and the spine runs (R294). -/
def State.inTwin (s : State) : Prop := s.spineOn = true ∧ s.twin = true ∧ s.confirmed = true

/-! ## The timing unit -/

/-- Candidate `c` has its signal: activity with a nominal frequency in range, or a line without a reason of R296. -/
def State.candActive (s : State) (c : Nat) : Bool :=
  if c < 8 then (s.cand c).pin && s.nomOk c else !s.candSf c

/-- The registers that follow a change of candidate `c`: its own and those of the DPLLs (R296 to R306). -/
def candRegs (c : Nat) : List Nat :=
  [Reg.TMG_CAND_STATUS c, Reg.TMG_CAND_FOFS c]
    ++ (List.range 8).flatMap (fun d => [Reg.TMG_DPLL_STATUS d, Reg.TMG_DPLL_FREQ d, Reg.TMG_DPLL_PPT_RD d])

/-- DPLL `d` in AUTO mode switches, or follows what selection chooses: the candidate in ACQUIRING or LOCKED, in holdover while the
candidate is in hold-off, or none in free-run or holdover (R302 to R304). -/
def State.selSettled (s : State) (d : Nat) : Prop :=
  s.get (Fld.TMG_DPLL_CFG_MODE d) = 0 →
    s.get (Fld.TMG_DPLL_STATUS_STATE d) = 4 ∨
      match s.selChoice d with
      | some c => s.get (Fld.TMG_DPLL_STATUS_SEL d) = c
          ∧ (if s.holdsFor d c = true then s.get (Fld.TMG_DPLL_STATUS_STATE d) = 3
            else s.get (Fld.TMG_DPLL_STATUS_STATE d) = 1 ∨ s.get (Fld.TMG_DPLL_STATUS_STATE d) = 2)
      | none => s.get (Fld.TMG_DPLL_STATUS_SEL d) = 31
          ∧ (s.get (Fld.TMG_DPLL_STATUS_STATE d) = 0 ∨ s.get (Fld.TMG_DPLL_STATUS_STATE d) = 3)

/-- Candidate `c` is one that selection of DPLL `d` may choose without a forced command: open, QUAL, and in QL-enabled mode
selectable (R297, R303). -/
def State.selFit (s : State) (d c : Nat) : Prop :=
  s.candOpen d c = true ∧ s.get (Fld.TMG_CAND_STATUS_STATE c) = 2 ∧ (s.flag (Fld.TMG_DPLL_CFG_QL_EN d) = true → s.qlAdmits d c = true)

/-! ## The sample chain -/

/-- From `s` to `t` slot `k` has been through a synchronising reset: configuration and source taken, every state register clear, a fade
ended with its target active, a held request discarded, SETTLING while the slot is enabled (R340, R341). -/
def State.slotCleared (s t : State) (k : Nat) : Prop :=
  (t.sccSlot k).cfg = (s.reg (Reg.SCC_SLOT_CFG k)).toNat ∧ (t.sccSlot k).src = (s.reg (Reg.SCC_SLOT_SRC k)).toNat
    ∧ (t.sccSlot k).restart = s.flag (Fld.SCC_SLOT_CFG_EN k) ∧ (t.sccSlot k).run = false ∧ (t.sccSlot k).win = [] ∧ (t.sccSlot k).line = []
    ∧ (t.sccSlot k).hist = [] ∧ (t.sccSlot k).outs = [] ∧ (t.sccSlot k).mean = 0 ∧ (t.sccSlot k).loaded = false ∧ (t.sccSlot k).fade = none
    ∧ (t.sccSlot k).origin = none ∧ (t.sccSlot k).ints = List.replicate (t.sccSlot k).order 0
    ∧ (t.sccSlot k).combs = List.replicate (t.sccSlot k).order 0
    ∧ (∀ f : Nat × Nat × Nat, (s.sccSlot k).fade = some f → t.get (Fld.SCC_SLOT_FIR_ACTIVE k) = f.1 % 2)
    ∧ ((s.sccSlot k).fade = none → t.get (Fld.SCC_SLOT_FIR_ACTIVE k) = s.get (Fld.SCC_SLOT_FIR_ACTIVE k))
    ∧ t.get (Fld.SCC_SLOT_FIR_FADING k) = 0 ∧ t.get (Fld.SCC_SLOT_FIR_PEND k) = 0 ∧ t.get (Fld.SCC_SLOT_STATUS_HI k) = 0
    ∧ t.get (Fld.SCC_SLOT_STATUS_LO k) = 0 ∧ t.flag (Fld.SCC_SLOT_STATUS_SETTLING k) = s.flag (Fld.SCC_SLOT_CFG_EN k)
    ∧ t.flag (Fld.SCC_SLOT_STATUS_CFG_ERR k) = (s.flag (Fld.SCC_SLOT_CFG_EN k)
        && decide (16 * rawHz k < (t.sccSlot k).ratio * t.get Fld.SCC_OUT_HZ_ACT_OUT_HZ
            ∨ 16 * ((t.sccSlot k).ratio * t.get Fld.SCC_OUT_HZ_ACT_OUT_HZ) < rawHz k))

/-! ## DMA and check values -/

/-- The DMA registers that a trigger, a halt or an end of a run of channel `c` may change (R428 to R430). -/
def dmaRegs (c : Nat) : List Nat := [Reg.DMA_CH_STATUS c, Reg.DMA_CH_BYTES c, Reg.DMA_GLB_STATUS]

/-- From `s` to `t` the run of channel `c` has halted with an error: STATE, ERR and ERR_EV show it, DESC_IDX names the descriptor, no
trigger is held, the halt awaits its fault event (R428, R429). -/
def State.dmaHalted (s t : State) (c err : Nat) : Prop :=
  (t.dmaOf c).run = none ∧ t.get (Fld.DMA_CH_STATUS_STATE c) = 2 ∧ t.get (Fld.DMA_CH_STATUS_ERR c) = err
    ∧ t.get (Fld.DMA_CH_STATUS_ERR_EV c) = 1 ∧ t.get (Fld.DMA_CH_STATUS_PEND c) = 0
    ∧ (t.get Fld.DMA_GLB_STATUS_BUSY).testBit c = false ∧ t.fcr.due = s.fcr.due ||| 2 ^ (584 + c)

/-- From `s` to `t` a run of channel `c` has started with the registers of that moment, and the device can write (R430, R439). -/
def State.dmaStarted (s t : State) (c : Nat) : Prop :=
  t.get (Fld.DMA_CH_STATUS_STATE c) = 1 ∧ t.get (Fld.DMA_CH_STATUS_ERR c) = 0 ∧ t.get (Fld.DMA_CH_STATUS_DESC_IDX c) = 0
    ∧ t.get (Fld.DMA_CH_BYTES_V c) = 0 ∧ (t.get Fld.DMA_GLB_STATUS_BUSY).testBit c = true
    ∧ ∀ r, (t.dmaOf c).run = some r → r.cfg = (if s.dmaHost c then putBits (s.reg (Reg.DMA_CH_CFG c)).toNat 18 1 0
          else (s.reg (Reg.DMA_CH_CFG c)).toNat) ∧ r.list = s.get64 (Reg.DMA_CH_LIST_LO c) / 16 * 16
        ∧ r.hostBase = s.get64 (Reg.DMA_CH_HWIN_BASE_LO c) ∧ r.hostLim = s.get64 (Reg.DMA_CH_HWIN_LIM_LO c)
        ∧ r.devBase = s.get (Fld.DMA_CH_DWIN_BASE_V c) ∧ r.devLim = s.get (Fld.DMA_CH_DWIN_LIM_V c) ∧ r.idx = 0 ∧ r.desc = none

/-- The word that the pattern checker of line `n` sees in a word period in which `w` is received: in a near-end loopback what the
generator sends (R48, R395). -/
def State.prbsSeen (s : State) (n : Nat) (w : Word64) : Word64 := (s.prbsSend n).laneWord n w w

/-- The registers that a halt of every run may change. -/
def dmaHaltRegs : List Nat := (List.range 16).flatMap dmaRegs ++ (List.range 16).map Reg.CVU_STATUS

/-- From `s` to `t` every running channel has halted with an error, and no other channel has changed (R428, R429). -/
def State.runsHalted (s t : State) (err : Nat) : Prop :=
  ∀ c, c < 16 → ((s.dmaOf c).run.isSome = true → (t.dmaOf c).run = none ∧ t.get (Fld.DMA_CH_STATUS_STATE c) = 2
      ∧ t.get (Fld.DMA_CH_STATUS_ERR c) = err ∧ t.get (Fld.DMA_CH_STATUS_ERR_EV c) = 1 ∧ t.get (Fld.DMA_CH_STATUS_PEND c) = 0
      ∧ (t.get Fld.DMA_GLB_STATUS_BUSY).testBit c = false ∧ t.fcr.due.testBit (584 + c) = true)
    ∧ ((s.dmaOf c).run = none → t.reg (Reg.DMA_CH_STATUS c) = s.reg (Reg.DMA_CH_STATUS c) ∧ t.dmaOf c = s.dmaOf c)

/-- The registers of check-value unit `k` that its commands may change. -/
def cvuRegs (k : Nat) : List Nat :=
  [Reg.CVU_STATUS k, Reg.CVU_BYTES k, Reg.CVU_RES_LO k, Reg.CVU_RES_HI k, Reg.CVU_SEQ k]

/-- All registers of check-value unit `k` that Berent sets for a check of its own. -/
def cvuSetRegs (k : Nat) : List Nat :=
  cvuRegs k ++ [Reg.CVU_CFG k, Reg.CVU_POLY_LO k, Reg.CVU_POLY_HI k, Reg.CVU_INIT_LO k, Reg.CVU_INIT_HI k, Reg.CVU_XOROUT_LO k,
    Reg.CVU_XOROUT_HI k]

/-- From `s` to `t` check-value unit `k` has taken data bytes, each through its register, and shows count and result; no fold was due
(R436, R437). -/
def State.cvuTook (s t : State) (k : Nat) (bs : List Byte) : Prop :=
  (t.cvuOf k).reg = bs.foldl (crcByte (s.cvuOf k).width (s.cvuOf k).poly (s.cvuOf k).refin) (s.cvuOf k).reg
    ∧ (t.cvuOf k).seq = (s.cvuOf k).seq
    ∧ t.get (Fld.CVU_BYTES_V k) = (s.get (Fld.CVU_BYTES_V k) + bs.length) % 2 ^ 32
    ∧ t.get64 (Reg.CVU_RES_LO k) = (t.cvuOf k).result % 2 ^ 64 ∧ s.frame t (cvuRegs k) [.cvu]

end Sys2Proof.Machine
end

