-- ==== Sys2Proof/Certificates/Slice0/Obligations.lean ====
section
/-! DEFINITION. The statements about the model, for the provers. -/

open Sys2Proof Sys2Proof.Machine


/-! ## The queue, and what follows every command -/

/-- A step takes the command at the front of the queue and runs it on the state with the queue's rest. -/
def Obligations.StepRunsFrontCommand : Prop :=
  ∀ (c : Instr) (rest : List Instr) (s : State), s.pending = c :: rest → step s = exec c { s with pending := rest }

/-- On an empty queue time passes: a time-keeper that runs advances by one cycle of its clock, 8 ns, and nothing else changes
but at a second boundary; one that does not run stands. That an idle step is a tick is the model's own (log entry 44). -/
def Obligations.EmptyQueueTicksTimeKeeper : Prop :=
  ∀ s : State, s.pending = [] →
    (s.tk.running = false → ∃ t, step s = .next t ∧ s.frame t [] [])
    ∧ (s.tk.running = true → s.flag Fld.AON_TK_CTL_SLEEP_CLK = false → s.tk.frac < 2048 → s.tk.ns + 8 < 1000000000 →
        ∃ t, step s = .next t ∧ s.frame t [] [.tk] ∧ t.tk = { s.tk with ns := s.tk.ns + 8 })

/-- No step from any state ends in a fault or a refusal: every command of the table has an effect. -/
def Obligations.EveryStepAnswersNextState : Prop := ∀ s : State, s.safe

/-- After every step the asserted vectors are those that the event bits, the fault records and the set pulse vectors give, and a
registered live bit of the fault collector stands only while its condition holds or an injection forces it, and nothing holds it
at 0. -/
def Obligations.StepKeepsSettled : Prop := ∀ s t : State, s.settled → step s = .next t → t.settled

/-- The state at power-on is settled. -/
def Obligations.ResetIsSettled : Prop := State.reset.settled

/-! ## Host access, guards, interrupts, JTAG -/

/-- R406: a BAR0 access that is neither 4 bytes aligned to 4 nor 8 bytes aligned to 8, and a window access outside the sizes of
Table 14.3, changes nothing but ACC_CNT, BAD_ACC_EV, GLB_ACC_LAST and the happening of fault source 601. An access of a legal
size is no bad access: nothing changes. -/
def Obligations.BadAccessIsCountedAndRecorded : Prop :=
  ∀ (bar : Bar) (a : BitVec 26) (w : Bool) (n : Nat) (s : State), s.spineOn = true →
    let bad : Bool := match bar with
      | .bar0 => !((n == 4 && a.toNat % 4 == 0) || (n == 8 && a.toNat % 8 == 0))
      | .bar2 => !bar2SizeOk a.toNat n
    (bad = true → ∃ t, exec (.badAccess bar a w n) s = .next t
      ∧ t.get Fld.GLB_ACC_STATUS_ACC_CNT = (s.get Fld.GLB_ACC_STATUS_ACC_CNT + 1) % 2 ^ 16
      ∧ t.get Fld.GLB_ACC_STATUS_BAD_ACC_EV = 1
      ∧ t.get Fld.GLB_ACC_LAST_OFFSET = a.toNat ∧ t.get Fld.GLB_ACC_LAST_BAR2 = b2n (bar == .bar2)
      ∧ t.get Fld.GLB_ACC_LAST_WRITE = b2n w ∧ t.get Fld.GLB_ACC_LAST_SIZE = min n 15
      ∧ t.fcr.due = s.fcr.due ||| 2 ^ 601 ∧ s.frame t [Reg.GLB_ACC_STATUS, Reg.GLB_ACC_LAST] [.fcr])
    ∧ (bad = false → ∃ t, exec (.badAccess bar a w n) s = .next t ∧ s.frame t [] [])

/-- R12, R408: a 4-byte write to a register of the PIN block, whose registers have no command of their own: RW bits take the
value, W1C bits written 1 are cleared, every other bit keeps its value; a WM register changes only the bits of [15:0] whose mask
bit in [31:16] is 1. No other register and no other part changes. -/
def Obligations.RegisterWriteFollowsAccessCodes : Prop :=
  ∀ (by' : Agent) (a : BitVec 26) (v : BitVec 32) (s : State), s.spineOn = true → (by' = .host → s.pcie.d3hot = false) →
    0xC00000 ≤ a.toNat → a.toNat < 0xD00000 → a.toNat % 4 = 0 →
    ∃ t, exec (.registerWrite by' .bar0 a (leBytes 4 v.toNat)) s = .next t ∧ s.frame t [a.toNat] []
      ∧ (regWm a.toNat = false → ∀ i, i < 32 → (t.reg a.toNat).getLsbD i =
          if (regRw a.toNat).testBit i then v.getLsbD i
          else if (regW1c a.toNat).testBit i && v.getLsbD i then false else (s.reg a.toNat).getLsbD i)
      ∧ (regWm a.toNat = true → ∀ i, i < 16 → (t.reg a.toNat).getLsbD i =
          if v.getLsbD (16 + i) then v.getLsbD i else (s.reg a.toNat).getLsbD i)

/-- R409, R411: the value of a pair, with no pair open, opens one and changes no register but OPEN of GLB_GUARD_STATUS; the
guarded register takes nothing. The guard commands of PCIe and those of the management processor leave each other's pair and
count alone. -/
def Obligations.GuardValueOpensPairInItsUnit : Prop :=
  (∀ (a : BitVec 24) (v : BitVec 32) (s : State), s.spineOn = true → a.toNat ∈ guarded →
    (s.guardHost.pair = none → ∃ t, exec (.guardValueWrite .host a v) s = .next t
      ∧ t.guardHost.pair = some (a.toNat, v.toNat) ∧ t.get Fld.GLB_GUARD_STATUS_OPEN = 1
      ∧ t.get Fld.GLB_GUARD_STATUS_BROKEN_PCIE = s.get Fld.GLB_GUARD_STATUS_BROKEN_PCIE
      ∧ s.frame t [Reg.GLB_GUARD_STATUS] [.guardHost])
    ∧ (s.guardMgmt.pair = none → ∃ t, exec (.guardValueWrite .firmware a v) s = .next t
      ∧ t.guardMgmt.pair = some (a.toNat, v.toNat) ∧ s.frame t [] [.guardMgmt]))
  ∧ (∀ (a : BitVec 24) (w : BitVec 32) (s t : State), ∀ c ∈ [Agent.host, Agent.firmware],
    ∀ i ∈ [Instr.guardValueWrite c a w, .guardComplementWrite c a w, .guardWindowExpiry c, .guardWideWrite c a],
    exec i s = .next t →
      (c = .host → t.guardMgmt = s.guardMgmt ∧ t.get Fld.GLB_GUARD_STATUS_BROKEN_MGMT = s.get Fld.GLB_GUARD_STATUS_BROKEN_MGMT)
      ∧ (c = .firmware → t.guardHost = s.guardHost ∧ t.get Fld.GLB_GUARD_STATUS_BROKEN_PCIE = s.get Fld.GLB_GUARD_STATUS_BROKEN_PCIE
        ∧ t.get Fld.GLB_GUARD_STATUS_OPEN = s.get Fld.GLB_GUARD_STATUS_OPEN))

/-- R409, R410, R412: the complement in time completes the pair of a legal value, which then takes effect as the command of
its register does, which is the pair taken whole (log entry 33): a chip reset is requested, fuses are blown up to the count,
the configuration is confirmed. What breaks a pair is counted, recorded and shown with its cause: the complement of another
value (1), the end of the window (2), a write to A + 4 with no pair open for A (3), a value while a pair is open (4), one
8-byte write (5). -/
def Obligations.GuardPairsCompleteOrBreak : Prop :=
  (∀ (by' : Agent) (a : BitVec 24) (v : Nat) (w : BitVec 32) (s : State), s.spineOn = true → a.toNat ∈ guarded →
    (s.guardOf by').pair = some (a.toNat, v) → w.toNat = 2 ^ 32 - 1 - v → s.pairCause by' a.toNat v = 0 →
    (∃ t, exec (.guardComplementWrite by' a w) s = .next t ∧ (t.guardOf by').pair = none
      ∧ t.get Fld.GLB_GUARD_STATUS_BROKEN_PCIE = s.get Fld.GLB_GUARD_STATUS_BROKEN_PCIE
      ∧ t.get Fld.GLB_GUARD_STATUS_BROKEN_MGMT = s.get Fld.GLB_GUARD_STATUS_BROKEN_MGMT
      ∧ (by' = .host → t.get Fld.GLB_GUARD_STATUS_OPEN = 0)
      ∧ (a.toNat = Reg.GLB_OTP_PROG → t.fuses.svn = max s.fuses.svn v ∧ s.frame t [] [.fuses, .guardMgmt])
      ∧ (a.toNat = Reg.TWN_CONFIRM → s.confirmTakes v = true → t.get Fld.TWN_STATUS_CONFIRMED = 1))
    ∧ (∀ x ∈ [(Reg.GLB_CHIP_RESET, Instr.glbChipReset (BitVec.ofNat 32 v)), (Reg.TWN_LEASE_FORCE, .twnLeaseForce (BitVec.ofNat 2 v)),
        (Reg.TMG_DPLL_PPT 0, .dpllPpt 0 (BitVec.ofNat 30 v)), (Reg.TMG_DPLL_PPT 1, .dpllPpt 1 (BitVec.ofNat 30 v)),
        (Reg.MAP_EPOCH_COMMIT 0, .epochCommit 0), (Reg.MAP_EPOCH_COMMIT 1, .epochCommit 1),
        (Reg.FCR_INJ_UNLOCK, .fcrInjUnlock (BitVec.ofNat 32 v))], x.1 = a.toNat →
      exec (.guardComplementWrite by' a w) s = exec x.2 (s.setPair by' none)))
  ∧ (∀ (s : State), s.spineOn = true → s.power.crstDue = none →
    ∃ t, exec (.glbChipReset 1) s = .next t ∧ t.power.crstDue = some false ∧ s.frame t [] [.power])
  ∧ (∀ (a : BitVec 24) (w : BitVec 32) (s : State), s.spineOn = true → a.toNat ∈ guarded →
    let broken := fun (t : State) (addr cause : Nat) =>
      t.get Fld.GLB_GUARD_STATUS_BROKEN_PCIE = (s.get Fld.GLB_GUARD_STATUS_BROKEN_PCIE + 1) % 2 ^ 16
      ∧ t.get Fld.GLB_GUARD_STATUS_LAST_CAUSE = cause ∧ t.get Fld.GLB_GUARD_STATUS_BROKEN_EV = 1
      ∧ t.get Fld.GLB_GUARD_LAST_ADDR = addr ∧ t.get Fld.GLB_GUARD_LAST_MGMT = 0
      ∧ s.frame t [Reg.GLB_GUARD_STATUS, Reg.GLB_GUARD_LAST] [.guardHost, .fcr]
    (∀ v, s.guardHost.pair = some (a.toNat, v) → w.toNat ≠ 2 ^ 32 - 1 - v →
      ∃ t, exec (.guardComplementWrite .host a w) s = .next t ∧ t.guardHost.pair = none ∧ broken t a.toNat 1)
    ∧ (∀ v, s.guardHost.pair = some (a.toNat, v) →
      ∃ t, exec (.guardWindowExpiry .host) s = .next t ∧ t.guardHost.pair = none ∧ broken t a.toNat 2)
    ∧ (s.guardHost.pair.map (fun x => x.1) ≠ some a.toNat →
      ∃ t, exec (.guardComplementWrite .host a w) s = .next t ∧ t.guardHost = s.guardHost ∧ broken t a.toNat 3)
    ∧ (∀ b v, b < 2 ^ 24 → s.guardHost.pair = some (b, v) →
      ∃ t, exec (.guardValueWrite .host a w) s = .next t ∧ t.guardHost.pair = some (a.toNat, w.toNat) ∧ broken t b 4)
    ∧ (s.guardHost.pair = none →
      ∃ t, exec (.guardWideWrite .host a) s = .next t ∧ t.guardHost.pair = none ∧ broken t a.toNat 5))

/-- R420, R421: each rise of the assertion of an enabled vector sends one message, or sets its pending bit where it is masked.
A rearm of a vector that stays asserted sends again, one of a pulse vector clears its assertion; the enabling of asserted
vectors sends their messages, and unmasking sends a pending one once. For a link that is down and an endpoint that is not
ready the model's choice of log entry 151 holds. -/
def Obligations.VectorsSendMessages : Prop :=
  (∀ s : State,
    (settle s).irq.sent = s.irq.sent ++ (List.range 64).filter (fun v => s.vectors.testBit v && !s.irq.asserted.testBit v
        && s.irqEnabled v && !s.irqMasked v && s.pcie.cfgReady)
    ∧ ∀ v, (settle s).irq.pba.testBit v = (s.irq.pba.testBit v
        || (decide (v < 64) && s.vectors.testBit v && !s.irq.asserted.testBit v && s.irqEnabled v && s.irqMasked v
          && s.pcie.cfgReady)))
  ∧ (∀ (v : Fin 64) (r : Fin 4) (w : BitVec 32) (s : State), s.spineOn = true → s.pcie.cfgReady = true → s.irq.asserted = s.vectors →
    ((s.eventVectors ||| s.faultVectors).testBit v.val = true → s.irq.pulse.testBit v.val = false → s.irqEnabled v.val = true →
      s.irqMasked v.val = false →
      ∃ t, exec (.irqRearm v) s = .next t ∧ t.irq.sent = s.irq.sent ++ [v.val] ∧ s.frame t [] [.irq])
    ∧ ((s.eventVectors ||| s.faultVectors).testBit v.val = false → s.irq.pulse.testBit v.val = true →
      ∃ t, exec (.irqRearm v) s = .next t ∧ t.irq.sent = s.irq.sent ∧ t.irq.pulse.testBit v.val = false ∧ s.frame t [] [.irq])
    ∧ (∃ t, exec (.irqEnableWrite r w) s = .next t ∧ s.frame t [Reg.GLB_IRQ_EN r.val] [.irq]
      ∧ ∀ k, k < 64 → s.vectors.testBit k = true → s.irqEnabled k = false → t.irqEnabled k = true → s.irqMasked k = false →
          k ∈ t.irq.sent)
    ∧ (s.irq.pba.testBit v.val = true → s.pcie.fnMask = false → s.pcie.linkUp = true → s.pcie.busMaster = true →
      ∃ t, exec (.msixUnmask (some v)) s = .next t ∧ v.val ∈ t.irq.sent ∧ t.irq.pba.testBit v.val = false
        ∧ t.get (Fld.MSIX_CTRL_MASK v.val) = 0)
    ∧ (∃ t, exec (.msixUnmask none) s = .next t ∧ t.pcie.fnMask = false
      ∧ ∀ k, k < 64 → s.irq.pba.testBit k = true →
        (s.flag (Fld.MSIX_CTRL_MASK k) = false → s.pcie.linkUp = true → s.pcie.busMaster = true →
          k ∈ t.irq.sent ∧ t.irq.pba.testBit k = false)
        ∧ (s.flag (Fld.MSIX_CTRL_MASK k) = true → t.irq.pba.testBit k = true)))

/-- R495, Table 18.15: each JTAG instruction is held as its code and changes nothing else; SAMPLE/PRELOAD captures the pins and
loads the boundary register; a code that the table does not list selects the bypass register. -/
def Obligations.JtagInstructionSelects : Prop :=
  ∀ (pins data : List Bool) (code : BitVec 8) (s : State),
    (∃ t, exec .jtagTapReset s = .next t ∧ t.jtag = { s.jtag with ir := 1 } ∧ t.jtagSel = .idcode ∧ s.frame t [] [.jtag])
    ∧ (∃ t, exec .jtagExtest s = .next t ∧ t.jtag = { s.jtag with ir := 0 } ∧ s.frame t [] [.jtag]
        ∧ (s.jtagActs = true → t.jtagSel = .boundary ∧ t.pinSource = .boundary))
    ∧ (∃ t, exec .jtagIdcode s = .next t ∧ t.jtag = { s.jtag with ir := 1 } ∧ t.jtagSel = .idcode ∧ t.pinSource = .device
        ∧ s.frame t [] [.jtag])
    ∧ (∃ t, exec (.jtagSamplePreload pins data) s = .next t ∧ t.jtag = { ir := 2, captured := pins, loaded := data }
        ∧ t.jtagSel = .boundary ∧ t.pinSource = .device ∧ s.frame t [] [.jtag])
    ∧ (∃ t, exec .jtagExtestPulse s = .next t ∧ t.jtag = { s.jtag with ir := 3 } ∧ s.frame t [] [.jtag]
        ∧ (s.jtagActs = true → t.pinSource = .pulse))
    ∧ (∃ t, exec .jtagExtestTrain s = .next t ∧ t.jtag = { s.jtag with ir := 4 } ∧ s.frame t [] [.jtag]
        ∧ (s.jtagActs = true → t.pinSource = .train))
    ∧ (∃ t, exec .jtagHighz s = .next t ∧ t.jtag = { s.jtag with ir := 5 } ∧ s.frame t [] [.jtag]
        ∧ (s.jtagActs = true → t.pinSource = .highZ))
    ∧ (∃ t, exec .jtagClamp s = .next t ∧ t.jtag = { s.jtag with ir := 6 } ∧ s.frame t [] [.jtag]
        ∧ (s.jtagActs = true → t.pinSource = .boundary))
    ∧ (6 < code.toNat → ∃ t, exec (.jtagBypass code) s = .next t ∧ t.jtag = { s.jtag with ir := code.toNat }
        ∧ t.jtagSel = .bypass ∧ t.pinSource = .device ∧ s.frame t [] [.jtag])

/-! ## Resets, feeds, sleep -/

/-- R467, R468, Table 17.2: power-on of VAON leaves every register at its reset value; RESET_N low resets everything outside
the always-on domain, whose registers and time-keeper stand, and wakes a sleeping device; RESET_N high changes nothing but its
level; PERST_N resets the PCIe endpoint alone, which comes ready after its release (R470). After the loss of both feeds the
first that returns starts the device again, with cause 3. Where the rules leave a point open, the model's choice of log entry
88 holds. -/
def Obligations.ResetPinPowerOnAndReturn : Prop :=
  (∀ s : State,
    (∃ t, exec .vaonPowerOn s = .next t ∧ (∀ a, t.reg a = regReset a)
      ∧ (∀ p, p ∉ [Part.host, .flash, .fuses, .jtag, .fresh, .pending, .power] → State.reset.keeps t p)
      ∧ (∀ p, p ∈ [Part.host, .flash, .fuses, .jtag, .fresh, .pending] → s.keeps t p)
      ∧ t.power = { Power.reset with resetN := s.power.resetN, perstN := s.power.perstN, coreEn := true })
    ∧ (s.power.sleep = .awake → s.power.inReset = false → ∃ t, exec .resetNAssert s = .next t
      ∧ (∀ a, isAon a = true → t.reg a = s.reg a)
      ∧ (∀ a, isAon a = false → a ≠ Reg.GLB_CLK_STATUS → t.reg a = regReset a)
      ∧ t.get Fld.GLB_CLK_STATUS_XTAL32K_OK = s.get Fld.GLB_CLK_STATUS_XTAL32K_OK
      ∧ (∀ p, p ∉ [Part.host, .flash, .fuses, .tk, .jtag, .fresh, .pending, .power] → State.reset.keeps t p)
      ∧ (∀ p, p ∈ [Part.host, .flash, .fuses, .tk, .jtag, .fresh, .pending] → s.keeps t p)
      ∧ t.power.resetN = false ∧ t.power.inReset = true ∧ t.power.nextCause = 1)
    ∧ (s.power.sleep = .asleep → ∃ t, exec .resetNAssert s = .next t ∧ t.power.sleep = .awake ∧ t.power.coreEn = true
      ∧ t.power.nextCause = 2 ∧ t.get Fld.AON_WAKE_STATUS_WAKE_RST = 1 ∧ s.frame t [Reg.AON_WAKE_STATUS] [.power])
    ∧ (∃ t, exec .resetNRelease s = .next t ∧ t.power = { s.power with resetN := true } ∧ s.frame t [] [.power])
    ∧ (∃ t, exec .perstNAssert s = .next t ∧ t.power = { s.power with perstN := false } ∧ t.irq.pba = 0
      ∧ (∀ a, a < 0x1008 → t.reg (0xF00000 + a) = regReset (0xF00000 + a))
      ∧ (∀ p, p ∉ [Part.power, .pcie, .dma, .fcr] → s.keeps t p))
    ∧ (∃ t, exec .perstNRelease s = .next t ∧ t.power = { s.power with perstN := true } ∧ s.frame t [] [.power])
    ∧ (s.spineOn = true → s.power.perstN = true → ∃ t, exec .pcieEndpointReady s = .next t ∧ t.pcie.cfgReady = true ∧ s.frame t [] [.pcie]))
  ∧ (∀ (p : Fin 2) (twin test : Bool) (bs : BitVec 2) (s : State), s.power.inReset = true → s.power.chipReset = false →
    s.power.nextCause = 3 → s.power.resetN = true → s.power.sleep = .awake → s.power.coreEn = true → s.feedGood 0 = false →
    s.feedGood 1 = false → ∃ t, exec (.spinePowerReturn p twin bs test) s = .next t
      ∧ t.feedGood p.val = true ∧ t.feedGood (1 - p.val) = false ∧ t.get Fld.AON_RST_CAUSE_CAUSE = 3 ∧ t.power.inReset = false
      ∧ t.power.twinTaken = (twin && decide (s.fuses.variant = .lp9672)) ∧ t.tk = s.tk ∧ t.lines = s.lines)

/-- R19, R467, R468: with RESET_N high and a feed good the internal reset is released: the straps are sampled, Twin
configuration is taken only on the LP9672-A, the clocks lock, and the cause of the start is recorded. A chip reset resets
everything but what Table 17.2 keeps, and its release is a start with cause 4. -/
def Obligations.StartSamplesStrapsAndRecordsCause : Prop :=
  ∀ (twin test : Bool) (bs : BitVec 2) (s : State),
    (s.power.inReset = true → s.power.resetN = true → s.power.sleep = .awake → (s.feedGood 0 || s.feedGood 1) = true →
      ∃ t, exec (.internalResetRelease twin bs test) s = .next t
      ∧ t.power = { s.power with
          inReset := false
          chipReset := false
          strapTwin := twin
          strapBootSrc := bs.toNat
          strapTest := test
          twinTaken := twin && decide (s.fuses.variant = .lp9672) }
      ∧ t.get Fld.AON_RST_CAUSE_CAUSE = s.power.nextCause % 8 ∧ t.get Fld.AON_RST_CAUSE_CAUSE_EV = 1
      ∧ t.get Fld.TWN_STATUS_TWIN = b2n (twin && decide (s.fuses.variant = .lp9672))
      ∧ t.get Fld.GLB_CLK_STATUS_MGMT_LOCK = 1 ∧ t.get Fld.GLB_CLK_STATUS_PCIE_LOCK = 1
      ∧ t.get Fld.GLB_CLK_STATUS_TMG_LOCK = 1 ∧ t.get Fld.GLB_CLK_STATUS_OSC_IN_OK = 1
      ∧ t.tk = s.tk ∧ t.lines = s.lines ∧ t.pcie = s.pcie)
    ∧ (∀ b, s.spineOn = true → s.power.crstDue = some b → ∃ t, exec .chipReset s = .next t
      ∧ (∀ a, chipKeeps a = true → a ≠ Reg.FCR_STATUS → t.reg a = s.reg a)
      ∧ (∀ a, chipKeeps a = false → a ≠ Reg.GLB_CLK_STATUS → a ≠ Reg.FCR_STATUS → t.reg a = regReset a)
      ∧ t.get Fld.FCR_STATUS_CRST_PRIOR = b2n b
      ∧ (∀ p, p ∉ [Part.host, .flash, .fuses, .tk, .jtag, .fresh, .pending, .power, .pcie] → State.reset.keeps t p)
      ∧ (∀ p, p ∈ [Part.host, .flash, .fuses, .tk, .jtag, .fresh, .pending, .pcie] → s.keeps t p)
      ∧ t.power.chipReset = true ∧ t.power.crstDue = none ∧ t.power.nextCause = 4 ∧ t.power.coreEn = s.power.coreEn
      ∧ t.power.twinTaken = s.power.twinTaken)
    ∧ (s.power.chipReset = true → s.power.nextCause = 4 → ∃ t, exec .chipResetRelease s = .next t
      ∧ t.power = { s.power with inReset := false, chipReset := false } ∧ t.get Fld.AON_RST_CAUSE_CAUSE = 4
      ∧ t.get Fld.AON_RST_CAUSE_CAUSE_EV = 1 ∧ t.tk = s.tk ∧ t.lines = s.lines)

/-- R464 to R466: a loss of a feed clears FEEDk_GOOD and sets its bit of LOSS_EV; in Wide configuration, with the other feed
good, every line of the half is back at reset and the half's core lock falls. A return sets FEEDk_GOOD and its bit of RET_EV.
The core PLL of a powered half locks, and its spreading follows GLB_CLK_CFG then and at each change. -/
def Obligations.FeedLossResetsItsHalf : Prop :=
  ∀ (p : Fin 2) (pg sp limit : Bool) (s : State), s.power.sleep = .awake →
    (s.feedGood p.val = true → s.feedGood (1 - p.val) = true → (pg && sp) = false → s.spineOn = true → s.hasHalf p.val = true → s.twin = false →
      ∃ t, exec (.feedLoss p pg sp) s = .next t
      ∧ t.feedGood p.val = false ∧ t.feedGood (1 - p.val) = true ∧ (t.get Fld.AON_FEED_STATUS_LOSS_EV).testBit p.val = true
      ∧ (∀ n, n < 96 → halfOf n = p.val → { t.line n with own := LineOwn.reset } = LineState.reset)
      ∧ (∀ n a, n < 96 → halfOf n = p.val → 0x100000 + n * 0x8000 ≤ a → a < 0x100000 + (n + 1) * 0x8000 → t.reg a = regReset a)
      ∧ t.get (if p.val = 0 then Fld.GLB_CLK_STATUS_CORE_A_LOCK else Fld.GLB_CLK_STATUS_CORE_B_LOCK) = 0
      ∧ t.tk = s.tk ∧ t.host = s.host ∧ t.pending = s.pending)
    ∧ (s.feedGood p.val = false → s.power.coreEn = true → ∃ t, exec (.feedReturn p) s = .next t
      ∧ t.feedGood p.val = true ∧ t.feedGood (1 - p.val) = s.feedGood (1 - p.val)
      ∧ (t.get Fld.AON_FEED_STATUS_RET_EV).testBit p.val = true ∧ t.lines = s.lines ∧ t.tk = s.tk)
    ∧ (s.spineOn = true → ∃ t, exec (.spineSupplySwitchover limit) s = .next t ∧ t.get Fld.AON_FEED_STATUS_MUX_LIMIT = b2n limit
      ∧ s.frame t [Reg.AON_FEED_STATUS] [])
    ∧ (s.halfOn p.val = true → s.coreLocked p.val = false → ∃ t, exec (.corePllLock p) s = .next t
      ∧ t.coreLocked p.val = true ∧ t.coreLocked (1 - p.val) = s.coreLocked (1 - p.val) ∧ t.tk = s.tk)
    ∧ (s.halfOn p.val = true → s.coreLocked p.val = true → ∃ t, exec (.spreadChangeApply p) s = .next t
      ∧ s.frame t [Reg.GLB_CLK_STATUS] []
      ∧ (p.val = 0 → t.get Fld.GLB_CLK_STATUS_CORE_A_SPREAD = s.get Fld.GLB_CLK_CFG_SPREAD_A)
      ∧ (p.val = 1 → t.get Fld.GLB_CLK_STATUS_CORE_B_SPREAD = s.get Fld.GLB_CLK_CFG_SPREAD_B))

/-- R471 to R475: the write of ENTER with KEY = 0xA55A begins chip sleep and counts it, any other KEY does nothing; at the end
of entry the core enables fall and the time-keeper runs on from CK_AON; an enabled comparator wakes the device, or, during
entry, as soon as entry has completed; the temperature comparator trips at its threshold; the crystal's start starts the
time-keeper from 0. -/
def Obligations.ChipSleepAndWake : Prop :=
  ∀ (v : BitVec 32) (active : BitVec 6) (b : BitVec 8) (s : State),
    (s.spineOn = true → s.power.sleep = .awake → v.extractLsb' 16 16 = 0xA55A#16 → v.getLsbD 0 = true → ∃ t,
      exec (.chipSleepEnter v) s = .next t ∧ t.power.sleep = .entering
      ∧ t.get Fld.AON_WAKE_STATUS_SLEEP_CNT = (s.get Fld.AON_WAKE_STATUS_SLEEP_CNT + 1) % 2 ^ 16
      ∧ t.lines = s.lines ∧ t.planes = s.planes ∧ t.tk = s.tk)
    ∧ (v.extractLsb' 16 16 ≠ 0xA55A#16 → ∃ t, exec (.chipSleepEnter v) s = .next t ∧ s.frame t [] [])
    ∧ (s.power.sleep = .entering → s.power.wakeDue = 0 → s.power.resetN = true → s.flag Fld.AON_TEMP_CFG_TRIP = false → ∃ t,
      exec .chipSleepEntryComplete s = .next t ∧ t.power.sleep = .asleep ∧ t.power.coreEn = false ∧ t.power.nextCause = 2
      ∧ t.get Fld.AON_TK_CTL_SLEEP_CLK = 1 ∧ t.tk = s.tk ∧ t.spineOn = false
      ∧ (∀ a, isAon a = true → a ≠ Reg.AON_TK_CTL → a ≠ Reg.AON_FEED_STATUS → t.reg a = s.reg a))
    ∧ (s.power.sleep = .entering → (active.toNat &&& (s.reg Reg.AON_WAKE_CFG).toNat) % 64 ≠ 0 → s.flag Fld.AON_TEMP_CFG_TRIP = false → ∃ t,
      exec (.wakeEvent active) s = .next t ∧ t.power.sleep = .entering
      ∧ t.power.wakeDue = s.power.wakeDue ||| (active.toNat &&& (s.reg Reg.AON_WAKE_CFG).toNat) % 64 ∧ s.frame t [] [.power])
    ∧ (s.power.sleep = .entering → s.power.wakeDue % 64 ≠ 0 → s.power.resetN = true → s.flag Fld.AON_TEMP_CFG_TRIP = false → ∃ t,
      exec .chipSleepEntryComplete s = .next t ∧ t.power.sleep = .awake ∧ t.power.coreEn = true ∧ t.power.nextCause = 2
      ∧ t.get Fld.AON_WAKE_STATUS_WAKE_SRC = s.power.wakeDue % 64 ∧ t.spineOn = false)
    ∧ (s.power.sleep = .asleep → (active.toNat &&& (s.reg Reg.AON_WAKE_CFG).toNat) % 64 ≠ 0 → s.flag Fld.AON_TEMP_CFG_TRIP = false → ∃ t,
      exec (.wakeEvent active) s = .next t ∧ t.power.sleep = .awake ∧ t.power.coreEn = true ∧ t.power.nextCause = 2
      ∧ t.get Fld.AON_WAKE_STATUS_WAKE_SRC = (active.toNat &&& (s.reg Reg.AON_WAKE_CFG).toNat) % 64
      ∧ t.get Fld.AON_WAKE_STATUS_WAKE_RST = 0 ∧ s.frame t [Reg.AON_WAKE_STATUS] [.power])
    ∧ (s.power.sleep = .awake → ∃ t, exec (.tempComparatorTrip b) s = .next t ∧ t.get Fld.AON_TEMP_CFG_TEMP = b.toNat
      ∧ (s.tempThr ≤ b.toInt → t.get Fld.AON_TEMP_CFG_TRIP = 1) ∧ (b.toInt ≤ s.tempThr - 5 → t.get Fld.AON_TEMP_CFG_TRIP = 0)
      ∧ (b.toInt < s.tempThr → s.tempThr - 5 < b.toInt → t.get Fld.AON_TEMP_CFG_TRIP = s.get Fld.AON_TEMP_CFG_TRIP)
      ∧ s.frame t [Reg.AON_TEMP_CFG] [])
    ∧ (s.flag Fld.GLB_CLK_STATUS_XTAL32K_OK = false → s.tk.running = false → ∃ t, exec .xtal32kOkRise s = .next t
      ∧ t.get Fld.GLB_CLK_STATUS_XTAL32K_OK = 1 ∧ t.tk = ⟨true, 0, 0, 0⟩ ∧ s.frame t [Reg.GLB_CLK_STATUS] [.tk])

/-! ## Faults -/

/-- R442, R445, R447, R450, R452, R453: the event of a type E source with EN = 1 sets the cause bit, records its effective
severity, the source's severity raised by the escalation level of its class and at most 4, and counts. It fills an empty
first-fault record, and takes the worst-fault record where that is empty or holds a strictly lower severity. A trap enters
Berent's retained record, or waits in NMI_PEND; a Fatal event of class 4 resets its plane at once where nothing Fatal stays
live (R447, R450). Without a reaction it changes nothing else. Where the rules leave a point open, the model's choice of log
entry 148 holds. -/
def Obligations.FaultEventIsCountedAndRecorded : Prop :=
  ∀ (k : Fin 608) (s : State), s.awaits k.val → ∃ t, exec (.faultEvent [k] []) s = .next t
    ∧ t.cause k.val = true ∧ t.get (Fld.FCR_SRC_CFG_LAST_SEV k.val) = s.eventSeverity k.val
    ∧ t.get Fld.FCR_EVENT_CNT_CNT = (s.get Fld.FCR_EVENT_CNT_CNT + 1) % 2 ^ Fld.FCR_EVENT_CNT_CNT.len
    ∧ t.escOf (srcClass k.val) = s.eventLevel k.val ∧ t.unacked (srcClass k.val) = true
    ∧ (s.get Fld.FCR_FF_SRC_VALID = 0 → t.get Fld.FCR_FF_SRC_VALID = 1 ∧ t.get Fld.FCR_FF_SRC_SRC = k.val
        ∧ t.get Fld.FCR_FF_SRC_SEV = s.eventSeverity k.val ∧ t.get Fld.FCR_FF_SRC_CLASS = srcClass k.val
        ∧ t.get Fld.FCR_FF_SRC_MULTI = 0 ∧ t.get Fld.FCR_FF_SRC_INJ = 0
        ∧ t.reg Reg.FCR_FF_TK_NS = BitVec.ofNat 32 s.tk.ns ∧ t.reg Reg.FCR_FF_TK_S = BitVec.ofNat 32 s.tk.sec)
    ∧ (s.get Fld.FCR_FF_SRC_VALID = 1 → t.reg Reg.FCR_FF_SRC = s.reg Reg.FCR_FF_SRC ∧ t.reg Reg.FCR_FF_TK_NS = s.reg Reg.FCR_FF_TK_NS
        ∧ t.reg Reg.FCR_FF_TK_S = s.reg Reg.FCR_FF_TK_S)
    ∧ (s.get Fld.FCR_WORST_SRC_VALID = 0 ∨ s.get Fld.FCR_WORST_SRC_SEV < s.eventSeverity k.val →
        t.get Fld.FCR_WORST_SRC_VALID = 1 ∧ t.get Fld.FCR_WORST_SRC_SRC = k.val ∧ t.get Fld.FCR_WORST_SRC_SEV = s.eventSeverity k.val)
    ∧ (s.get Fld.FCR_WORST_SRC_VALID = 1 → s.eventSeverity k.val ≤ s.get Fld.FCR_WORST_SRC_SEV →
        t.reg Reg.FCR_WORST_SRC = s.reg Reg.FCR_WORST_SRC)
    ∧ ((s.flag (Fld.FCR_SRC_CFG_NMI k.val) = true ∨ s.flag (Fld.FCR_SEV_REACT_NMI (s.eventSeverity k.val)) = true) →
        (s.fwState = 0 → t.get Fld.FCR_STATUS_NMI_PEND = 1 ∧ t.boot.trapDue = s.boot.trapDue ++ [(k.val, s.eventSeverity k.val)])
        ∧ (s.fwState ≠ 0 → t.boot.trapped = s.boot.trapped ++ [(k.val, s.eventSeverity k.val)]))
    ∧ (∀ p, srcClass k.val = 4 → s.eventSeverity k.val = 4 → p = (k.val - 32) / 32 → s.fatalLive p = false → s.halfOn p = true →
        s.coreLocked p = true → s.power.crstDue = none → s.flag (Fld.FCR_SRC_CFG_CRST k.val) = false →
        s.flag (Fld.FCR_SEV_REACT_CRST 4) = false → (t.planeTw p).initDue = true ∧ (t.plane p).stopped = false)
    ∧ (∀ p, p ∈ [Part.flash, .fuses, .tk, .jtag, .pending, .guardHost, .guardMgmt, .pcie, .buses, .modules, .cvu] → s.keeps t p)
    ∧ (srcClass k.val ≠ 4 → s.flag (Fld.FCR_SRC_CFG_BRST k.val) = false →
        s.flag (Fld.FCR_SRC_CFG_NMI k.val) = false → s.flag (Fld.FCR_SEV_REACT_NMI (s.eventSeverity k.val)) = false →
        s.flag (Fld.FCR_SRC_CFG_CRST k.val) = false → s.flag (Fld.FCR_SEV_REACT_CRST (s.eventSeverity k.val)) = false →
        s.frame t ([Reg.FCR_CAUSE (k.val / 32), Reg.FCR_SRC_CFG k.val, Reg.FCR_EVENT_CNT, Reg.FCR_CLASS_E 0, Reg.FCR_CLASS_E 1, Reg.FCR_STATUS,
            Reg.FCR_FF_SRC, Reg.FCR_FF_TK_NS, Reg.FCR_FF_TK_S, Reg.FCR_WORST_SRC, Reg.FCR_WORST_TK_NS, Reg.FCR_WORST_TK_S,
            Reg.MGMT_FW_STATE] ++ eventRegs) [.fcr, .mbx, .irq, .host])

/-- R442, R445, R449, R450, R452, R456: writing 1 clears cause bits and no other bit; a class without a cause bit returns to
level 0. Writing VALID empties a record. FCR_FW_RAISE from Berent makes sources 36 and 68 happen, from PCIe it is a refused
access. A stopped plane with no Fatal class 4 source live receives a plane block reset. -/
def Obligations.CausesClearAndStopsRelease : Prop :=
  (∀ (r : Fin 19) (v : BitVec 32) (s : State), s.spineOn = true →
    (∃ t, exec (.fcrCauseClear r v) s = .next t ∧ t.reg (Reg.FCR_CAUSE r.val) = (s.reg (Reg.FCR_CAUSE r.val) &&& ~~~v)
      ∧ (∀ j, j < 19 → j ≠ r.val → t.reg (Reg.FCR_CAUSE j) = s.reg (Reg.FCR_CAUSE j))
      ∧ (∀ c, c < 20 → t.unacked c = false → t.escOf c = 0) ∧ (∀ c, c < 20 → t.unacked c = true → t.escOf c = s.escOf c)
      ∧ s.frame t [Reg.FCR_CAUSE r.val, Reg.FCR_CLASS_E 0, Reg.FCR_CLASS_E 1, Reg.FCR_STATUS] [.fcr])
    ∧ (∃ t, exec (.fcrRecordEmpty false) s = .next t ∧ t.reg Reg.FCR_FF_SRC = 0
      ∧ s.frame t [Reg.FCR_FF_SRC, Reg.FCR_FF_TK_NS, Reg.FCR_FF_TK_S] [])
    ∧ (∃ t, exec (.fcrRecordEmpty true) s = .next t ∧ t.reg Reg.FCR_WORST_SRC = 0
      ∧ s.frame t [Reg.FCR_WORST_SRC, Reg.FCR_WORST_TK_NS, Reg.FCR_WORST_TK_S] [])
    ∧ (∃ t, exec (.fcrFwRaise .firmware v) s = .next t ∧ t.fcr.due.testBit 36 = (s.fcr.due.testBit 36 || v.getLsbD 0)
      ∧ t.fcr.due.testBit 68 = (s.fcr.due.testBit 68 || v.getLsbD 1) ∧ s.frame t [] [.fcr])
    ∧ (∃ t, exec (.fcrFwRaise .host v) s = .next t ∧ t.get Fld.GLB_ACC_STATUS_BAD_ACC_EV = 1
      ∧ t.get Fld.GLB_ACC_STATUS_ACC_CNT = (s.get Fld.GLB_ACC_STATUS_ACC_CNT + 1) % 2 ^ 16
      ∧ t.get Fld.GLB_ACC_LAST_OFFSET = Reg.FCR_FW_RAISE ∧ t.get Fld.GLB_ACC_LAST_BAR2 = 0
      ∧ t.fcr.due.testBit 36 = s.fcr.due.testBit 36 ∧ t.fcr.due.testBit 68 = s.fcr.due.testBit 68
      ∧ s.frame t [Reg.GLB_ACC_STATUS, Reg.GLB_ACC_LAST] [.fcr]))
  ∧ (∀ (p : Fin 2) (s : State), s.spineOn = true → s.halfOn p.val = true → s.coreLocked p.val = true → (s.plane p.val).stopped = true →
    s.fatalLive p.val = false →
    ∃ t, exec (.planeStopRelease p) s = .next t ∧ (t.plane p.val).stopped = false ∧ (t.planeTw p.val).initDue = true
      ∧ (s.twin = true → t.planeState p.val = 1) ∧ (s.twin = false → (s.planeTw p.val).initDue = false → (t.planeTw p.val).keep = true)
      ∧ t.lines = s.lines ∧ t.tk = s.tk)

/-- R457, R458: with TESTMODE high a completed pair of value 1 unlocks injection; GO then forces the live bit of a source that
exists and is not held, with its cause set and the record's INJ bit at 1, and shows INJ_BUSY; a second GO does nothing; the
end of PULSE, a cleared GO with HOLD, or LOCK ends it. -/
def Obligations.InjectionForcesLiveBit : Prop :=
  ∀ (src : BitVec 10) (hold : Bool) (pulse : BitVec 16) (s : State), s.spineOn = true →
    (s.power.strapTest = true → ∃ t, exec (.fcrInjUnlock 1) s = .next t ∧ t.get Fld.FCR_STATUS_INJ_READY = 1
      ∧ t.boot.meas0 = s.boot.meas0 ∧ t.boot.meas1 = s.boot.meas1 ∧ s.frame t [Reg.FCR_STATUS] [.boot])
    ∧ (s.power.strapTest = false → ∃ t, exec (.fcrInjUnlock 1) s = .next t ∧ s.frame t [] [])
    ∧ (s.flag Fld.FCR_STATUS_INJ_READY = true → s.flag Fld.FCR_STATUS_INJ_BUSY = false → s.srcExists src.toNat = true →
        s.srcHeld src.toNat = false → s.fcr.live.testBit src.toNat = false → s.flag (Fld.FCR_SRC_CFG_EN src.toNat) = true →
        s.get Fld.FCR_FF_SRC_VALID = 0 → 97 ≤ src.toNat →
        ∃ t, exec (.fcrInjGo src hold pulse) s = .next t ∧ t.fcr.injected = some src.toNat ∧ t.get Fld.FCR_STATUS_INJ_BUSY = 1
          ∧ t.cause src.toNat = true ∧ t.get Fld.FCR_FF_SRC_INJ = 1 ∧ t.get Fld.FCR_INJ_CTL_PULSE = pulse.toNat)
    ∧ (s.flag Fld.FCR_STATUS_INJ_BUSY = true → ∃ t, exec (.fcrInjGo src hold pulse) s = .next t ∧ s.frame t [] [])
    ∧ (s.fcr.injected.isSome = true → s.flag Fld.FCR_INJ_CTL_HOLD = false → ∃ t, exec .fcrInjPulseEnd s = .next t
        ∧ t.fcr.injected = none ∧ t.get Fld.FCR_STATUS_INJ_BUSY = 0 ∧ s.frame t [Reg.FCR_STATUS, Reg.FCR_INJ_CTL] [.fcr])
    ∧ (s.fcr.injected.isSome = true → s.flag Fld.FCR_INJ_CTL_HOLD = true → ∃ t, exec .fcrInjStop s = .next t
        ∧ t.fcr.injected = none ∧ t.get Fld.FCR_STATUS_INJ_BUSY = 0 ∧ s.frame t [Reg.FCR_STATUS, Reg.FCR_INJ_CTL] [.fcr])
    ∧ (s.flag Fld.FCR_STATUS_INJ_READY = true → ∃ t, exec .fcrInjLock s = .next t ∧ t.fcr.injected = none
        ∧ t.get Fld.FCR_STATUS_INJ_READY = 0 ∧ t.get Fld.FCR_STATUS_INJ_BUSY = 0 ∧ s.frame t [Reg.FCR_STATUS, Reg.FCR_INJ_CTL] [.fcr])

/-! ## The mailbox -/

/-- R373: a doorbell at most 64 past TAKEN shows PI, and then exactly the messages from TAKEN up to PI wait in its ring; one
further is ignored and sets the ring's bit of DB_ERR_EV. -/
def Obligations.DoorbellPostsOrIsIgnored : Prop :=
  ∀ (r : Fin 4) (pi : BitVec 16) (s : State), s.spineOn = true →
    ((pi.toNat + 65536 - s.get (Fld.MBX_CI_TAKEN r.val)) % 65536 ≤ 64 → ∃ t, exec (.mbxDoorbell r pi) s = .next t
      ∧ t.get (Fld.MBX_DB_PI r.val) = pi.toNat
      ∧ (∀ k, k < 65536 → (t.mbx.posts.any (fun m => m.ring == r && m.num == k) = true ↔
          (k + 65536 - s.get (Fld.MBX_CI_TAKEN r.val)) % 65536 < (pi.toNat + 65536 - s.get (Fld.MBX_CI_TAKEN r.val)) % 65536))
      ∧ (t.mbx.posts.filter (fun m => m.ring != r)).map (fun m => (m.ring.val, m.num))
        = (s.mbx.posts.filter (fun m => m.ring != r)).map (fun m => (m.ring.val, m.num))
      ∧ s.frame t [Reg.MBX_DB r.val, Reg.MGMT_LOAD, Reg.MGMT_FW_STATE] [.mbx])
    ∧ (64 < (pi.toNat + 65536 - s.get (Fld.MBX_CI_TAKEN r.val)) % 65536 → ∃ t, exec (.mbxDoorbell r pi) s = .next t
      ∧ (t.get Fld.MBX_STATUS_DB_ERR_EV).testBit r.val = true ∧ s.frame t [Reg.MBX_STATUS] [])

/-- R382: the checks of a message and their order. An opcode that Table 13.8 lacks is answered UNKNOWN_OP, a LENGTH over 4,080
or one that the opcode does not accept BAD_LENGTH, a wrong check value BAD_CRC, a command that the state does not allow
STATE_REFUSED, a command on ring 0 whose opcode is not marked U BAD_ARG. -/
def Obligations.MessageChecksAnswerInOrder : Prop :=
  ∀ (op : Nat) (m : Posted) (s : State), s.atHead op m →
    (s.slotNum m 4 4 ≤ 4080 → s.crcGood m → opRow op = none → ∃ t, exec .unknownOpcode s = .next t
      ∧ s.answered t m s.fwState 0x0106 [] ∧ s.frame t (mailRegs m.ring.val) [.bar2, .mbx, .irq])
    ∧ (4080 < s.slotNum m 4 4 → (op = 0x0001 → ∃ t, exec .ping s = .next t ∧ s.answered t m s.fwState 0x0107 []
        ∧ s.frame t (mailRegs m.ring.val) [.bar2, .mbx, .irq])
      ∧ (op = 0x0011 → ∃ t, exec .enterService s = .next t ∧ s.answered t m s.fwState 0x0107 [] ∧ t.fwState = s.fwState))
    ∧ (s.slotNum m 4 4 ≤ 4080 → ¬ s.crcGood m → (op = 0x0001 → ∃ t, exec .ping s = .next t ∧ s.answered t m s.fwState 0x0108 []
        ∧ s.frame t (mailRegs m.ring.val) [.bar2, .mbx, .irq])
      ∧ (op = 0x0011 → ∃ t, exec .enterService s = .next t ∧ s.answered t m s.fwState 0x0108 [] ∧ t.fwState = s.fwState))
    ∧ (s.slotNum m 4 4 ≤ 4080 → s.crcGood m → (op = 0x0002 → s.slotNum m 4 4 ≠ 0 → ∃ t, exec .getStatus s = .next t
        ∧ s.answered t m s.fwState 0x0107 [] ∧ s.frame t (mailRegs m.ring.val) [.bar2, .mbx, .irq])
      ∧ (op = 0x0011 → s.slotNum m 4 4 = 0 → m.ring ≠ 0 → s.fwState ≠ 2 → ∃ t, exec .enterService s = .next t
        ∧ s.answered t m s.fwState 0x0102 [] ∧ t.fwState = s.fwState ∧ s.frame t (mailRegs m.ring.val) [.bar2, .mbx, .irq])
      ∧ (op = 0x0011 → s.slotNum m 4 4 = 0 → m.ring = 0 → ∃ t, exec .enterService s = .next t
        ∧ s.answeredBad t m 0 ∧ t.fwState = s.fwState))

/-- R386, R391: PING echoes its payload, GET_STATUS answers the status of Table 13.8, EVQ_SET names the event queue with both
indices 0, PM_EXPORT_SET the export ring likewise, TOD_CONFIG takes a baud rate of 9,600 to 115,200 and refuses others;
MBX_EVQ_RD takes a value between WR less the records of the queue and WR. -/
def Obligations.PlainMailboxCommands : Prop :=
  ∀ (m : Posted) (s : State),
    (s.serves 0x0001 m → ∃ t, exec .ping s = .next t ∧ s.answered t m s.fwState 0 (s.slotPayload m)
      ∧ s.frame t (mailRegs m.ring.val) [.bar2, .mbx, .irq])
    ∧ (s.serves 0x0002 m → ∃ t, exec .getStatus s = .next t ∧ s.answered t m s.fwState 0 ((s.takePost m).statusBytes)
      ∧ s.frame t (mailRegs m.ring.val) [.bar2, .mbx, .irq])
    ∧ (s.serves 0x0003 m → payNum (s.slotPayload m) 0 8 % 4096 = 0 →
        isPow 12 20 (payNum (s.slotPayload m) 8 4) = true → payNum (s.slotPayload m) 12 2 = 1 → ∃ t, exec .evqSet s = .next t
      ∧ s.answered t m s.fwState 0 [] ∧ t.mbx.evq = some (payNum (s.slotPayload m) 0 8, payNum (s.slotPayload m) 8 4)
      ∧ t.mbx.tcaFwd = bitOf (payNum (s.slotPayload m) 16 4) 0
      ∧ t.get Fld.MBX_EVQ_RD_V = 0 ∧ (s.mbx.evWait = [] → s.mbx.evLost = 0 → t.get Fld.MBX_EVQ_WR_V = 0)
      ∧ t.get Fld.MBX_STATUS_EVQ_ON = 1
      ∧ s.frame t (mailRegs m.ring.val ++ eventRegs ++ [Reg.MBX_EVQ_RD]) [.bar2, .mbx, .irq, .host])
    ∧ (s.serves 0x0500 m → payNum (s.slotPayload m) 0 8 % 8 = 0 → isPow 12 26 (payNum (s.slotPayload m) 8 4) = true →
        payNum (s.slotPayload m) 12 2 = 1 → ∃ t, exec .pmExportSet s = .next t ∧ s.answered t m s.fwState 0 []
      ∧ t.mbx.pmx = some (payNum (s.slotPayload m) 0 8, payNum (s.slotPayload m) 8 4)
      ∧ t.get Fld.MBX_PMX_WR_V = 0 ∧ t.get Fld.MBX_PMX_RD_V = 0 ∧ t.get Fld.MBX_STATUS_PMX_ON = 1
      ∧ s.frame t (mailRegs m.ring.val ++ [Reg.MBX_PMX_WR, Reg.MBX_PMX_RD, Reg.MBX_STATUS]) [.bar2, .mbx, .irq])
    ∧ (s.serves 0x0401 m → (9600 ≤ payNum (s.slotPayload m) 0 4 → payNum (s.slotPayload m) 0 4 ≤ 115200 → ∃ t, exec .todConfig s = .next t
        ∧ s.answered t m s.fwState 0 [] ∧ t.mbx.todBaud = payNum (s.slotPayload m) 0 4
        ∧ t.mbx.todZda = bitOf (payNum (s.slotPayload m) 4 1) 0 ∧ t.mbx.todRx = bitOf (payNum (s.slotPayload m) 4 1) 1
        ∧ s.frame t (mailRegs m.ring.val) [.bar2, .mbx, .irq])
      ∧ (payNum (s.slotPayload m) 0 4 < 9600 ∨ 115200 < payNum (s.slotPayload m) 0 4 → ∃ t, exec .todConfig s = .next t
        ∧ s.answeredBad t m 0 ∧ t.mbx.todBaud = s.mbx.todBaud ∧ s.frame t (mailRegs m.ring.val) [.bar2, .mbx, .irq, .fresh]))
    ∧ (∀ v : BitVec 32, s.spineOn = true → ∀ q, s.mbx.evq = some q →
        (s.get Fld.MBX_EVQ_WR_V + 2 ^ 32 - v.toNat) % 2 ^ 32 ≤ q.2 / 64 →
        ∃ t, exec (.mbxEvqRdWrite v) s = .next t ∧ t.get Fld.MBX_EVQ_RD_V = v.toNat ∧ s.frame t (Reg.MBX_EVQ_RD :: eventRegs) [.mbx, .host, .irq])

/-- R262, R354, R362, R364, R390, R348: the commands that move the firmware state. CONFIG_CONFIRM confirms the configuration
taken and enters CONFIGURED, the other one is refused; ENTER_SERVICE enters IN_SERVICE or DEGRADED by the degrading
conditions; ENTER_MAINTENANCE and LEAVE_MAINTENANCE; MGMT_RESTART makes a restart due; OTP_PROGRAM raises the fused SVN and
refuses a lower one; ATTEST writes a certificate or a quote. -/
def Obligations.FirmwareStateCommands : Prop :=
  ∀ (m : Posted) (s : State),
    (s.serves 0x0010 m → s.mbx.degr = s.degrading → s.twin = false →
      (payNum (s.slotPayload m) 0 1 = 1 → ∃ t, exec .configConfirm s = .next t ∧ t.fwState = 2 ∧ t.confirmed = true
        ∧ s.answered t m s.fwState 0 [])
      ∧ (payNum (s.slotPayload m) 0 1 = 2 → ∃ t, exec .configConfirm s = .next t ∧ t.fwState = s.fwState ∧ t.confirmed = s.confirmed
        ∧ s.answered t m s.fwState 0x0102 []))
    ∧ (s.serves 0x0011 m → ∃ t, exec .enterService s = .next t ∧ t.fwState = (if s.degrading = 0 then 3 else 4)
        ∧ s.answered t m (if s.degrading = 0 then 3 else 4) 0 []
        ∧ s.frame t (mailRegs m.ring.val ++ eventRegs) [.bar2, .mbx, .irq, .host])
    ∧ (s.serves 0x0012 m → ∃ t, exec .enterMaintenance s = .next t ∧ t.fwState = 5 ∧ t.boot.maintFrom = s.fwState
        ∧ s.answered t m s.fwState 0 [] ∧ s.frame t (mailRegs m.ring.val ++ eventRegs) [.bar2, .mbx, .irq, .host, .boot])
    ∧ (s.serves 0x0013 m → s.opsOf 0x0700 = [] → s.opsOf 0x0800 = [] → s.boot.maintFrom = 2 → ∃ t, exec .leaveMaintenance s = .next t
        ∧ t.fwState = 2 ∧ s.answered t m s.fwState 0 []
        ∧ s.frame t (mailRegs m.ring.val ++ eventRegs) [.bar2, .mbx, .irq, .host])
    ∧ (s.serves 0x0701 m → ∃ t, exec .mgmtRestart s = .next t ∧ t.boot.restartDue = true ∧ s.answered t m s.fwState 0 []
        ∧ s.frame t (mailRegs m.ring.val) [.bar2, .mbx, .irq, .boot])
    ∧ (s.serves 0x0702 m → (s.fuses.svn < payNum (s.slotPayload m) 0 1 → payNum (s.slotPayload m) 0 1 ≤ s.get Fld.MGMT_FW_STATE_SVN →
          ∃ t, exec .otpProgram s = .next t ∧ t.fuses = { s.fuses with svn := payNum (s.slotPayload m) 0 1 }
          ∧ s.answered t m s.fwState 0 (leBytes 1 (payNum (s.slotPayload m) 0 1) ++ List.replicate 3 0)
          ∧ s.frame t (mailRegs m.ring.val) [.bar2, .mbx, .irq, .fuses])
      ∧ (payNum (s.slotPayload m) 0 1 ≤ s.fuses.svn → ∃ t, exec .otpProgram s = .next t ∧ t.fuses = s.fuses
          ∧ s.answeredBad t m 0))
    ∧ (s.serves 0x0703 m → payNum (s.slotPayload m) 0 1 = 0 → payNum (s.slotPayload m) 36 8 % 8 = 0 →
        7251 ≤ payNum (s.slotPayload m) 44 4 → payNum (s.slotPayload m) 48 2 = 1 → s.hostWrites = true → ∃ t, exec .attest s = .next t
        ∧ t.host = (s.putHost (payNum (s.slotPayload m) 36 8) ((Config.deviceCertificate s.fuses.serial ++ List.replicate 7251 0).take 7251)).host
        ∧ s.answered t m s.fwState 0 (leBytes 4 7251) ∧ s.frame t (mailRegs m.ring.val) [.bar2, .mbx, .irq, .host])

/-! ## Mailbox commands about lines, modules and groups -/

/-- R42, R51, R115, R392: LINE_CONFIG takes an ACTIVE line through deep doze, stores the change of a line that dozes by
command, and is refused for a line the variant lacks, for an unknown format and for a line in use; LINE_DOZE starts doze
entry, and wakes. -/
def Obligations.LineConfigAndLineDoze : Prop :=
  ∀ (m : Posted) (s : State), s.twin = false →
    (s.serves 0x0100 m →
      (s.lineIdle (s.pay m 0 1) → s.paritySlots (s.pay m 0 1) = false → s.pay m 1 1 < 0x11 → s.pay m 4 4 = 0 → s.pay m 1 1 ≠ s.format (s.pay m 0 1) →
        s.lineOn (s.pay m 0 1) = true → (s.line (s.pay m 0 1)).lane.trans = .none → (s.line (s.pay m 0 1)).lane.newFormat = none →
        ∃ t, exec .lineConfig s = .next t ∧ s.answered t m s.fwState 0 []
        ∧ (s.lineActive (s.pay m 0 1) = true → t.get (Fld.LCH_LINE_STATUS_PWR_STATE (s.pay m 0 1)) = 3
            ∧ (t.line (s.pay m 0 1)).lane.trans = .entry true
            ∧ (t.line (s.pay m 0 1)).lane.newFormat = some (s.pay m 1 1, bitOf (s.pay m 2 1) 0 && isMxf (s.pay m 1 1), 0))
        ∧ (s.lineActive (s.pay m 0 1) = false → (s.line (s.pay m 0 1)).lane.dozeCmd = true →
            t.format (s.pay m 0 1) = s.format (s.pay m 0 1) ∧ (t.line (s.pay m 0 1)).lane.trans = .none
            ∧ (t.line (s.pay m 0 1)).lane.newFormat = some (s.pay m 1 1, bitOf (s.pay m 2 1) 0 && isMxf (s.pay m 1 1), 0)
            ∧ s.frame t (mailRegs m.ring.val) [.bar2, .mbx, .irq, .lines])
        ∧ s.onlyLine t (s.pay m 0 1))
      ∧ (96 ≤ s.pay m 0 1 ∨ s.hasLine (s.pay m 0 1) = false → ∃ t, exec .lineConfig s = .next t ∧ s.answeredBad t m 0
          ∧ s.frame t (mailRegs m.ring.val) [.bar2, .mbx, .irq, .fresh])
      ∧ (s.pay m 0 1 < 96 → s.hasLine (s.pay m 0 1) = true → 0x11 < s.pay m 1 1 → ∃ t, exec .lineConfig s = .next t
          ∧ s.answeredBad t m 1 ∧ s.frame t (mailRegs m.ring.val) [.bar2, .mbx, .irq, .fresh]))
    ∧ (s.serves 0x0101 m → s.lineOn (s.pay m 0 1) = true → (s.line (s.pay m 0 1)).lane.trans = .none → s.pay m 0 1 < 96 →
      (s.lineIdle (s.pay m 0 1) → s.pay m 1 1 ∈ [1, 2] → s.lineActive (s.pay m 0 1) = true → ∃ t, exec .lineDoze s = .next t
        ∧ s.answered t m s.fwState 0 [] ∧ t.get (Fld.LCH_LINE_STATUS_PWR_STATE (s.pay m 0 1)) = 3
        ∧ (t.line (s.pay m 0 1)).lane.trans = .entry (s.pay m 1 1 == 2) ∧ (t.line (s.pay m 0 1)).lane.dozeCmd = true
        ∧ s.onlyLine t (s.pay m 0 1))
      ∧ (s.pay m 1 1 = 0 → s.lineDozes (s.pay m 0 1) = true → s.targetFormat (s.pay m 0 1) ≠ 0 → ∃ t, exec .lineDoze s = .next t
        ∧ s.answered t m s.fwState 0 [] ∧ t.get (Fld.LCH_LINE_STATUS_PWR_STATE (s.pay m 0 1)) = 3
        ∧ (t.line (s.pay m 0 1)).lane.trans = .exit ∧ t.format (s.pay m 0 1) = s.targetFormat (s.pay m 0 1) % 2 ^ 5
        ∧ s.onlyLine t (s.pay m 0 1))
      ∧ (s.flowing (s.pay m 0 1) = true → s.pay m 1 1 = 1 → ∃ t, exec .lineDoze s = .next t ∧ s.answeredBad t m 0
        ∧ s.frame t (mailRegs m.ring.val) [.bar2, .mbx, .irq, .fresh]))

/-- R62, R378: MODULE_ACCESS makes a transaction wait for its bus and holds the commands of rings 1 to 3 back; a command for a
failed bus is answered BUS_ERROR at once; the transaction's outcome is answered: OK with the bytes read, or BUS_ERROR with its
cause. A change of the firmware state that waited for the answer then follows (R365), by the model's choice of log entry 154. -/
def Obligations.ModuleAccessRunsOnItsBus : Prop :=
  (∀ (m : Posted) (s : State), s.serves 0x0102 m → s.pay m 0 1 < 96 → s.get (Fld.PIN_MOD_DESC_TYPE (s.pay m 0 1)) ∈ [1, 2] →
    s.get (Fld.PIN_MOD_DESC_BUS (s.pay m 0 1)) < 8 → s.pay m 1 1 = 0 → 1 ≤ s.pay m 6 2 → s.pay m 6 2 ≤ 128 →
    (s.slotPayload m).length = 8 →
    (s.flag (Fld.PIN_BUS_STATUS_FAILED (s.get (Fld.PIN_MOD_DESC_BUS (s.pay m 0 1)))) = false → ∃ t, exec .moduleAccess s = .next t
      ∧ s.took t m ∧ t.mbx.busy = some (s.taken m) ∧ (t.bus (s.get (Fld.PIN_MOD_DESC_BUS (s.pay m 0 1)))).hostDue = true
      ∧ t.mbx.access = some (s.get (Fld.PIN_MOD_DESC_BUS (s.pay m 0 1)), s.pay m 0 1, 0, s.slotPayload m)
      ∧ s.frame t (mailRegs m.ring.val) [.mbx, .buses])
    ∧ (s.flag (Fld.PIN_BUS_STATUS_FAILED (s.get (Fld.PIN_MOD_DESC_BUS (s.pay m 0 1)))) = true → ∃ t, exec .moduleAccess s = .next t
      ∧ s.answered t m s.fwState 0x010C (leBytes 1 2 ++ List.replicate 3 0) ∧ s.frame t (mailRegs m.ring.val) [.bar2, .mbx, .irq]))
  ∧ (∀ (k : Fin 10) (bytes pay : List (BitVec 8)) (c : Taken) (m n : Nat) (s : State), s.spineOn = true → s.mbx.busy = some c →
    s.mbx.access = some (k.val, m, 0, pay) → (s.bus k.val).hostDue = true → n = payNum pay 6 2 →
    let next := if s.fwState = 3 ∧ s.mbx.degr ≠ 0 then 4 else if s.fwState = 4 ∧ s.mbx.degr = 0 then 3 else s.fwState
    (∃ t, exec (.moduleHostTransaction k (.ack bytes)) s = .next t ∧ t.mbx.busy = none ∧ t.mbx.access = none
      ∧ t.bar2 = Sparse.setList bar2Default s.bar2 (slotAddr c.ring.val c.slot) (messageBytes c.opcode c.tag
          (1 + 2 * b2n c.prog + 4 * b2n c.ovl + 256 * c.state) 0 ((bytes ++ List.replicate n 0).take n))
      ∧ t.get (Fld.MBX_CI_ANSWERED c.ring.val) = (s.get (Fld.MBX_CI_ANSWERED c.ring.val) + 1) % 65536
      ∧ (t.bus k.val).hostDue = false ∧ (t.bus k.val).channel = none ∧ t.fwState = next
      ∧ (next = s.fwState → s.frame t [Reg.MBX_CI c.ring.val] [.bar2, .mbx, .buses, .irq])
      ∧ s.frame t ([Reg.MBX_CI c.ring.val, Reg.MGMT_FW_STATE] ++ eventRegs) [.bar2, .mbx, .buses, .irq, .host])
    ∧ (∃ t, exec (.moduleHostTransaction k .noAck) s = .next t ∧ t.mbx.busy = none
      ∧ t.bar2 = Sparse.setList bar2Default s.bar2 (slotAddr c.ring.val c.slot) (messageBytes c.opcode c.tag
          (1 + 2 * b2n c.prog + 4 * b2n c.ovl + 256 * c.state) 0x010C (leBytes 1 0 ++ List.replicate 3 0)) ∧ t.fwState = next
      ∧ (next = s.fwState → s.frame t [Reg.MBX_CI c.ring.val] [.bar2, .mbx, .buses, .irq])
      ∧ s.frame t ([Reg.MBX_CI c.ring.val, Reg.MGMT_FW_STATE] ++ eventRegs) [.bar2, .mbx, .buses, .irq, .host])
    ∧ (∃ t, exec (.moduleHostTransaction k .stretch) s = .next t ∧ t.mbx.busy = none ∧ t.get (Fld.PIN_BUS_STATUS_BUSERR_EV k.val) = 1
      ∧ t.get (Fld.PIN_BUS_CNT_ERR k.val) = (s.get (Fld.PIN_BUS_CNT_ERR k.val) + 1) % 2 ^ (Fld.PIN_BUS_CNT_ERR k.val).len
      ∧ t.fwState = next
      ∧ (next = s.fwState → s.frame t [Reg.MBX_CI c.ring.val, Reg.PIN_BUS_STATUS k.val, Reg.PIN_BUS_CNT k.val] [.bar2, .mbx, .buses, .irq])
      ∧ s.frame t ([Reg.MBX_CI c.ring.val, Reg.PIN_BUS_STATUS k.val, Reg.PIN_BUS_CNT k.val, Reg.MGMT_FW_STATE] ++ eventRegs)
          [.bar2, .mbx, .buses, .irq, .host]))

/-- R142, R313: LINE_TX_TIMING sets the source of every line of its list and of no other; THROUGH_CONFIG creates a pair of two
free lines of one half, one format and one FEC setting, whose output line then sends the maintenance signal, and removes it.
Where the rules leave a point open, the model's choices of log entries 127, 139 hold. -/
def Obligations.LineTimingAndThroughConfig : Prop :=
  ∀ (m : Posted) (s : State), s.twin = false →
    (s.serves 0x0400 m → s.pay m 0 1 ≤ 9 → 1 ≤ s.pay m 1 1 → s.pay m 1 1 ≤ 96 → (s.slotPayload m).length = 2 + s.pay m 1 1 →
      ((List.range (s.pay m 1 1)).all (fun i => decide (s.pay m (2 + i) 1 < 96) && s.hasLine (s.pay m (2 + i) 1)
        && !s.grouped (s.pay m (2 + i) 1))) = true → ∃ t, exec .lineTxTiming s = .next t ∧ s.answered t m s.fwState 0 []
      ∧ (∀ i, i < s.pay m 1 1 → t.get (Fld.TMG_LINE_TXT_SRC (s.pay m (2 + i) 1)) = s.pay m 0 1)
      ∧ s.frame t (mailRegs m.ring.val ++ (List.range (s.pay m 1 1)).map (fun i => Reg.TMG_LINE_TXT (s.pay m (2 + i) 1))) [.bar2, .mbx, .irq])
    ∧ (s.serves 0x0103 m → s.lineIdle (s.pay m 0 1) → s.lineIdle (s.pay m 1 1) → s.pay m 0 1 ≠ s.pay m 1 1 →
      halfOf (s.pay m 0 1) = halfOf (s.pay m 1 1) → thruFormat (s.format (s.pay m 1 1)) = true →
      s.format (s.pay m 0 1) = s.format (s.pay m 1 1) → s.heldFec (s.pay m 0 1) = s.heldFec (s.pay m 1 1) → s.pay m 2 1 = 1 →
      ∃ t, exec .throughConfig s = .next t ∧ s.answered t m s.fwState 0 []
      ∧ t.get (Fld.LCH_OHP_THRU_CFG_ENABLE (s.pay m 1 1)) = 1 ∧ t.get (Fld.LCH_OHP_THRU_CFG_SRC_LINE (s.pay m 1 1)) = s.pay m 0 1
      ∧ t.get (Fld.LCH_OHP_THRU_STATUS_FALLBACK (s.pay m 1 1)) = 1 ∧ s.onlyLine t (s.pay m 1 1)
      ∧ s.frame t (mailRegs m.ring.val ++ checkedRegs ++ [Reg.LCH_OHP_THRU_CFG (s.pay m 1 1), Reg.LCH_OHP_THRU_STATUS (s.pay m 1 1)])
          [.bar2, .mbx, .irq, .lines])
    ∧ (s.serves 0x0103 m → s.pay m 0 1 < 96 → s.pay m 1 1 < 96 → s.hasLine (s.pay m 0 1) = true → s.hasLine (s.pay m 1 1) = true →
      s.pay m 2 1 = 0 → s.flag (Fld.LCH_OHP_THRU_CFG_ENABLE (s.pay m 1 1)) = true →
      s.get (Fld.LCH_OHP_THRU_CFG_SRC_LINE (s.pay m 1 1)) = s.pay m 0 1 → ∃ t, exec .throughConfig s = .next t
      ∧ s.answered t m s.fwState 0 [] ∧ t.get (Fld.LCH_OHP_THRU_CFG_ENABLE (s.pay m 1 1)) = 0
      ∧ t.get (Fld.LCH_OHP_THRU_STATUS_ACTIVE (s.pay m 1 1)) = 0 ∧ t.get (Fld.LCH_OHP_THRU_STATUS_FALLBACK (s.pay m 1 1)) = 0
      ∧ (t.line (s.pay m 1 1)).thru.frame = [] ∧ s.onlyLine t (s.pay m 1 1)
      ∧ s.frame t (mailRegs m.ring.val ++ checkedRegs
          ++ [Reg.LCH_OHP_THRU_CFG (s.pay m 1 1), Reg.LCH_OHP_THRU_STATUS (s.pay m 1 1), Reg.LCH_FRB_STATUS (s.pay m 1 1)])
          [.bar2, .mbx, .irq, .lines, .fresh])

/-- R230, R243, R246, R392: PG_CREATE writes the record of a line group of two free lines of one half and one format;
MG_CREATE that of a merge group, with the pages that its depth and slots need, answered; PG_REMOVE clears a record that no
flow names. -/
def Obligations.GroupsAreCreatedAndRemoved : Prop :=
  ∀ (m : Posted) (s : State), s.twin = false →
    (s.serves 0x0300 m → s.pay m 0 1 < 48 → s.lgExists (halfOf (s.pay m 3 1)) (s.pay m 0 1) = false → s.pay m 1 1 ∈ [1, 2] →
      archOk (s.pay m 1 1) (s.pay m 2 1 % 16) = true → s.lineIdle (s.pay m 3 1) → s.lineIdle (s.pay m 4 1) →
      (s.pay m 1 1 = 1 → isStm (s.format (s.pay m 3 1)) = true) → (s.pay m 1 1 = 2 → s.format (s.pay m 3 1) = 0x0B) →
      s.membersOk (s.pay m 3 1) (s.pay m 4 1) = true → s.destined (halfOf (s.pay m 3 1)) (s.pay m 4 1) = false →
      ∃ t, exec .pgCreate s = .next t ∧ s.answered t m s.fwState 0 []
      ∧ t.lgGet (halfOf (s.pay m 3 1)) (s.pay m 0 1) LG.scheme = s.pay m 1 1
      ∧ t.lgGet (halfOf (s.pay m 3 1)) (s.pay m 0 1) LG.wLine = s.pay m 3 1
      ∧ t.lgGet (halfOf (s.pay m 3 1)) (s.pay m 0 1) LG.pLine = s.pay m 4 1
      ∧ t.lgGet (halfOf (s.pay m 3 1)) (s.pay m 0 1) LG.wtrS = 300
      ∧ s.frame t (mailRegs m.ring.val) [.bar2, .mbx, .irq, .prtRec, .planes])
    ∧ (s.serves 0x0301 m → s.mgExists (halfOf (s.pay m 1 1)) (s.pay m 0 1) = false → s.lineIdle (s.pay m 1 1) → s.lineIdle (s.pay m 2 1) →
      isMxf (s.format (s.pay m 1 1)) = true → s.membersOk (s.pay m 1 1) (s.pay m 2 1) = true →
      s.heldFec (s.pay m 1 1) = s.heldFec (s.pay m 2 1) →
      s.get (Fld.TMG_LINE_TXT_SRC (s.pay m 1 1)) = s.get (Fld.TMG_LINE_TXT_SRC (s.pay m 2 1)) → s.halfOn (halfOf (s.pay m 1 1)) = true →
      s.pay m 8 4 ≠ 0 → s.pay m 8 4 < 2 ^ 24 → s.pay m 12 4 < 2 ^ 24 → popCount 24 (s.pay m 12 4) = popCount 24 (s.pay m 8 4) →
      depthOk (s.format (s.pay m 1 1)) (s.pay m 4 2) (popCount 24 (s.pay m 8 4)) = true →
      s.poolUsed (halfOf (s.pay m 1 1)) + 2 * copyPages (s.pay m 4 2) (popCount 24 (s.pay m 8 4)) ≤ 12288 →
      ∃ t, exec .mgCreate s = .next t
      ∧ s.answered t m s.fwState 0 (leBytes 1 (copyPages (s.pay m 4 2) (popCount 24 (s.pay m 8 4))) ++ List.replicate 3 0)
      ∧ t.mgExists (halfOf (s.pay m 1 1)) (s.pay m 0 1) = true
      ∧ t.mgGet (halfOf (s.pay m 1 1)) (s.pay m 0 1) MG.wMask = s.pay m 8 4
      ∧ t.mgGet (halfOf (s.pay m 1 1)) (s.pay m 0 1) MG.pMask = s.pay m 12 4
      ∧ t.mgGet (halfOf (s.pay m 1 1)) (s.pay m 0 1) MG.pages = copyPages (s.pay m 4 2) (popCount 24 (s.pay m 8 4))
      ∧ (t.line (s.pay m 2 1)).mxf.txFsn = (s.line (s.pay m 1 1)).mxf.txFsn ∧ s.onlyLine t (s.pay m 2 1)
      ∧ s.frame t (mailRegs m.ring.val ++ protRegs) [.bar2, .mbx, .irq, .prtRec, .planes, .lines])
    ∧ (s.serves 0x0302 m → s.pay m 1 1 = 0 → s.pay m 2 1 = 0 → s.pay m 0 1 < 48 → s.halfOn 0 = true → s.halfOn 1 = true →
      s.lgExists 0 (s.pay m 0 1) = true → s.lgExists 1 (s.pay m 0 1) = false → s.groupNamed false 0 (s.pay m 0 1) = false →
      ∃ t, exec .pgRemove s = .next t ∧ s.answered t m s.fwState 0 [] ∧ t.lgExists 0 (s.pay m 0 1) = false
      ∧ (∀ g, g < 48 → g ≠ s.pay m 0 1 → t.lgExists 0 g = s.lgExists 0 g)
      ∧ s.frame t (mailRegs m.ring.val) [.bar2, .mbx, .irq, .prtRec, .planes])

/-! ## Long operations -/

/-- R388, R389: EPOCH_REBUILD, SCRUB, FW_LOAD, PRBS_TEST and RESYNC begin in the first free entry, which then shows the
command with progress 0; a rebuild clears CHECKED of its planes, a pattern test starts generator and checker of every line of
its mask, a re-synchronisation begins COPY. With no free entry the command is answered NO_RESOURCE. -/
def Obligations.LongOperationsBegin : Prop :=
  ∀ (k : Nat) (data : List (BitVec 8)) (m : Posted) (s : State), s.opFree = some k →
    (s.serves 0x0501 m → s.pay m 0 1 ≤ 2 → s.hasHalf 1 = true → s.opOn 0x0501 (planeSet (s.pay m 0 1)) = false →
      ∃ t, exec .scrub s = .next t ∧ s.took t m ∧ s.opBegan t k ⟨s.taken m, false, planeSet (s.pay m 0 1), 0, [], false⟩
      ∧ s.frame t (mailRegs m.ring.val ++ opRegs k) [.mbx])
    ∧ (s.serves 0x0200 m → s.twin = false → s.pay m 0 1 ≤ 1 → s.hasHalf (s.pay m 0 1) = true → (s.slotPayload m).length = 24 →
      refOk (s.slotPayload m) 8 0 (fun l => l == 36 * s.pay m 4 4) = true → s.committing (s.pay m 0 1) = false →
      s.opOn 0x0200 (s.pay m 0 1 + 1) = false → ∃ t, exec (.epochRebuild data) s = .next t ∧ s.took t m
      ∧ s.opBegan t k ⟨s.taken m, false, s.pay m 0 1 + 1, 0, (s.slotPayload m).take 8 ++ data.take (36 * s.pay m 4 4), false⟩
      ∧ t.get (Fld.MAP_EPOCH_STATUS_CHECKED (s.pay m 0 1)) = 0 ∧ t.get (Fld.MAP_EPOCH_PROG_PCT (s.pay m 0 1)) = 0
      ∧ s.frame t (mailRegs m.ring.val ++ opRegs k ++ [Reg.MAP_EPOCH_STATUS (s.pay m 0 1), Reg.MAP_EPOCH_PROG (s.pay m 0 1)]) [.mbx])
    ∧ (s.serves 0x0700 m → s.pay m 0 1 ≤ 1 → refOk (s.slotPayload m) 4 0 (fun l => decide (8193 ≤ l ∧ l ≤ 1581056)) = true →
      s.opsOf 0x0700 = [] → ∃ t, exec (.fwLoad data) s = .next t ∧ s.took t m
      ∧ s.opBegan t k ⟨s.taken m, false, s.pay m 0 1 + 1, 0, leBytes 4 (s.pay m 12 4) ++ data.take (s.pay m 12 4), false⟩
      ∧ t.get Fld.MGMT_FWLOAD_PROG_PCT = 0 ∧ t.get Fld.MGMT_FWLOAD_PROG_POS = 0
      ∧ s.frame t (mailRegs m.ring.val ++ opRegs k ++ [Reg.MGMT_FWLOAD_PROG]) [.mbx])
    ∧ (∀ n, n < 96 → s.serves 0x0800 m → s.pay m 0 12 = 2 ^ n → s.prbsFree n = true → s.pay m 12 1 ≤ 4 → 1 ≤ s.pay m 16 4 →
      s.pay m 16 4 ≤ 86400 → s.opOn 0x0800 (2 ^ n) = false → ∃ t, exec .prbsTest s = .next t ∧ s.took t m
      ∧ s.opBegan t k ⟨s.taken m, false, 2 ^ n, 0, s.slotPayload m, false⟩
      ∧ t.get (Fld.LCH_PRBS_CFG_PATTERN n) = s.pay m 12 1 ∧ t.get (Fld.LCH_PRBS_CFG_GEN_EN n) = 1
      ∧ t.get (Fld.LCH_PRBS_CFG_CHK_EN n) = 1 ∧ t.get (Fld.LCH_PRBS_CFG_INV n) = b2n (bitOf (s.pay m 13 1) 0)
      ∧ t.get64 (Reg.LCH_PRBS_BITS_LO n) = 0 ∧ t.get64 (Reg.LCH_PRBS_ERR_LO n) = 0 ∧ t.get (Fld.LCH_FAU_STATUS_STATE n) = 0
      ∧ s.onlyLine t n)
    ∧ (s.serves 0x0600 m → s.twin = true → s.planeState 0 = 6 → s.planeState 1 = 5 → (s.plane 0).stopped = false →
      s.opOn 0x0600 1 = false → s.opsOf 0x0600 = [] → ∃ t, exec .resync s = .next t ∧ s.took t m
      ∧ s.opBegan t k ⟨s.taken m, false, 1, 0, [], false⟩ ∧ t.planeState 0 = 2 ∧ t.planeState 1 = 5
      ∧ t.tw.resync = some ⟨0, true, 0, []⟩ ∧ t.get Fld.TWN_STATUS_STATE_EV = 1)

/-- R388, R390: a long operation advances to PCT and POS while both may, and a PCT below the one shown changes nothing;
OP_CANCEL ends the operation of an entry, which is answered OP_ABORTED, and is answered BAD_ARG for a free entry. With no free
entry a long operation is answered NO_RESOURCE. -/
def Obligations.LongOperationsAdvanceAndAbort : Prop :=
  (∀ (k : Fin 8) (pct pos : Nat) (o : LongOp) (s : State), s.berentRuns = true → s.op k.val = some o → o.cmd.opcode = 0x0501 →
    (s.get (Fld.MBX_OP_PROG_PCT k.val) ≤ pct → pct ≤ 10000 → ∃ t, exec (.longOpProgress k pct pos) s = .next t
      ∧ t.get (Fld.MBX_OP_PROG_PCT k.val) = pct ∧ t.get (Fld.MBX_OP_POS_V k.val) = pos % 2 ^ 32
      ∧ (t.op k.val).map (fun x => { x with lastPct := 0 }) = some { o with lastPct := 0 }
      ∧ (pct < o.lastPct + 100 ∨ o.cmd.prog = false → s.frame t [Reg.MBX_OP_PROG k.val, Reg.MBX_OP_POS k.val] [])
      ∧ (o.lastPct + 100 ≤ pct → o.cmd.prog = true → o.auto = false → t.mbx.evSeq = (s.mbx.evSeq + 1) % 2 ^ 32
          ∨ t.mbx.evSeq = (s.mbx.evSeq + 2) % 2 ^ 32))
    ∧ (pct < s.get (Fld.MBX_OP_PROG_PCT k.val) → ∃ t, exec (.longOpProgress k pct pos) s = .next t ∧ s.frame t [] []))
  ∧ (∀ (m : Posted) (s : State), s.serves 0x0014 m →
    (∀ o, s.op (s.pay m 0 1) = some o → s.pay m 0 1 < 8 → o.auto = false → o.cmd.prog = false → o.cmd.opcode = 0x0501 →
      o.cmd.ring ≠ m.ring ∨ o.cmd.slot ≠ m.num % 64 → o.cmd.slot < 64 →
      ∃ t, exec .opCancel s = .next t ∧ s.took t m ∧ s.opEnded t (s.pay m 0 1) o 0x010A []
      ∧ t.bar2Bytes (slotAddr m.ring.val (m.num % 64)) 16 = s.answerTo m s.fwState 0 []
      ∧ s.frame t (mailRegs m.ring.val ++ opRegs (s.pay m 0 1) ++ [Reg.MBX_CI o.cmd.ring.val]) [.bar2, .mbx, .irq])
    ∧ (s.op (s.pay m 0 1) = none → ∃ t, exec .opCancel s = .next t ∧ s.answeredBad t m 0
      ∧ s.frame t (mailRegs m.ring.val) [.bar2, .mbx, .irq, .fresh]))
  ∧ (∀ (m : Posted) (s : State), s.serves 0x0501 m → s.pay m 0 1 = 0 → s.opFree = none → ∃ t, exec .scrub s = .next t
    ∧ s.answered t m s.fwState 0x0104 [] ∧ s.frame t (mailRegs m.ring.val) [.bar2, .mbx, .irq])

/-- R36, R189, R393, R395: SCRUB ends with its counts as payload and makes the SRAM sources of its planes happen; a rebuild
whose edit list was not read whole ends with a DMA error; FW_LOAD leaves the slot erased unless the image passes every check
and reads back; PRBS_TEST ends with one record per line, generator and checker off. Where the rules leave a point open, the
model's choice of log entry 50 holds. -/
def Obligations.LongOperationsEnd : Prop :=
  ∀ (k : Fin 8) (o : LongOp) (s : State), s.berentRuns = true → s.op k.val = some o → o.cmd.prog = false → o.auto = false →
    (∀ corrected bad : BitVec 32, o.cmd.opcode = 0x0501 → o.target = 1 → ∃ t, exec (.scrubDone k corrected bad) s = .next t
      ∧ s.opEnded t k.val o 0 (leBytes 4 corrected.toNat ++ leBytes 4 bad.toNat)
      ∧ t.fcr.due.testBit 34 = (s.fcr.due.testBit 34 || corrected != 0) ∧ t.fcr.due.testBit 33 = (s.fcr.due.testBit 33 || bad != 0)
      ∧ s.frame t [Reg.MBX_CI o.cmd.ring.val, Reg.MBX_OP_PROG k.val] [.bar2, .mbx, .irq, .fcr])
    ∧ (o.cmd.opcode = 0x0200 → (o.data.drop 8).length < 36 * payNum o.data 4 4 → ∃ t, exec (.epochRebuildDone k) s = .next t
      ∧ s.opEnded t k.val o 0x0109 (leBytes 4 (o.data.drop 8).length)
      ∧ s.frame t [Reg.MBX_CI o.cmd.ring.val, Reg.MBX_OP_PROG k.val] [.bar2, .mbx, .irq])
    ∧ (o.cmd.opcode = 0x0700 → payNum o.data 0 4 ≤ (o.data.drop 4).length → ∀ readBack : Bool, ∃ t, exec (.fwLoadDone k readBack) s = .next t
      ∧ (s.imageCode (o.data.drop 4) true (some (payNum o.data 0 4)) false = 0 → readBack = true →
          s.opEnded t k.val o 0 [] ∧ t.flash = Sparse.setList flashDefault
            (Sparse.clear (fun a => decide (a / 0x200000 = o.target - 1)) s.flash) ((o.target - 1) * 0x200000) (o.data.drop 4)
          ∧ t.get Fld.MGMT_FWLOAD_PROG_PCT = 10000)
      ∧ (s.headerCode (o.data.drop 4) (some (payNum o.data 0 4)) ≠ 0 →
          s.opEnded t k.val o 0x0105 (leBytes 1 (s.headerCode (o.data.drop 4) (some (payNum o.data 0 4))) ++ List.replicate 3 0)
          ∧ t.flash = Sparse.clear (fun a => decide (a / 0x200000 = o.target - 1)) s.flash))
    ∧ (∀ n, n < 96 → o.cmd.opcode = 0x0800 → o.target = 2 ^ n → s.lineOn n = true → ∃ t, exec (.prbsTestDone k) s = .next t
      ∧ s.opEnded t k.val o 0 (s.prbsRecord n) ∧ t.get (Fld.LCH_PRBS_CFG_GEN_EN n) = 0 ∧ t.get (Fld.LCH_PRBS_CFG_CHK_EN n) = 0
      ∧ s.onlyLine t n)

/-! ## Boot and start-up -/

/-- R350, R353, R355, R356: a flash slot whose image passes every check of Table 12.4 starts Berent, the others show the code
of the first check that failed; after slot B the ROM waits for a push, or stops if the straps allow none. GO starts a fetch
once; the image pushed is checked with its length. Where the rules leave a point open, the model's choices of log entries 49,
150 hold. -/
def Obligations.BootSourcesAreTriedInOrder : Prop :=
  ∀ (img : List (BitVec 8)) (sfdp readErr : Bool) (s : State),
    (∀ slot : Fin 2, s.romTries slot.val = true → ∃ t, exec (.flashBootAttempt slot sfdp img readErr) s = .next t
      ∧ (s.imageCode img sfdp none readErr = 0 → t.get Fld.MGMT_BOOT_STATUS_PHASE = 4
        ∧ t.get Fld.MGMT_BOOT_STATUS_SRC_USED = 1 + slot.val ∧ t.boot.meas1 = imgDigest img
        ∧ t.boot.meas0 = s.meas0 ∧ (s.boot.restart = false → t.boot.meas2 = List.replicate 64 0) ∧ t.boot.seedLocked = true
        ∧ t.boot.fwVer = imgNum img 0x10 4 ∧ s.frame t [Reg.MGMT_BOOT_STATUS, Reg.MGMT_FW_STATE] [.boot])
      ∧ (s.imageCode img sfdp none readErr ≠ 0 →
        t.get Fld.MGMT_BOOT_STATUS_ERR = s.imageCode img sfdp none readErr ∧ t.boot.meas1 = s.boot.meas1 ∧ t.boot.fwVer = s.boot.fwVer
        ∧ (slot = 0 → t.get Fld.MGMT_BOOT_STATUS_ERR_A = s.imageCode img sfdp none readErr
            ∧ (s.imageCode img sfdp none readErr ≠ 1 → t.boot.slot = 1 ∧ s.frame t [Reg.MGMT_BOOT_STATUS] [.boot]))
        ∧ ((slot = 1 ∨ s.imageCode img sfdp none readErr = 1) → t.boot.slot = 2 ∧ t.get Fld.MGMT_BOOT_STATUS_ERR_B = s.imageCode img sfdp none readErr ∧ t.irq.pulse.testBit 8 = true
            ∧ (s.power.strapBootSrc = 2 → t.get Fld.MGMT_BOOT_STATUS_PHASE = 6 ∧ s.frame t [Reg.MGMT_BOOT_STATUS] [.boot, .irq])
            ∧ (s.power.strapBootSrc ≠ 2 → t.get Fld.MGMT_BOOT_STATUS_PHASE = 3 ∧ t.get Fld.MGMT_BOOT_STATUS_PUSH_READY = 1
                ∧ t.get Fld.DMA_GLB_STATUS_OWN14_15 % 4 / 2 = 1))))
    ∧ (s.spineOn = true → s.flag Fld.MGMT_BOOT_STATUS_PUSH_READY = true → ∃ t, exec .pushGo s = .next t
        ∧ t.get Fld.MGMT_PUSH_CTL_GO = 1 ∧ t.get Fld.MGMT_BOOT_STATUS_PUSH_READY = 0
        ∧ s.frame t [Reg.MGMT_PUSH_CTL, Reg.MGMT_BOOT_STATUS] [])
    ∧ (s.spineOn = true → s.flag Fld.MGMT_BOOT_STATUS_PUSH_READY = false → ∃ t, exec .pushGo s = .next t ∧ s.frame t [] [])
    ∧ (s.spineOn = true → s.flag Fld.MGMT_PUSH_CTL_GO = true → s.fwState = 0 →
      ∃ t, exec (.pushFetchComplete img readErr) s = .next t
      ∧ (s.imageCode img true (some (s.get Fld.MGMT_PUSH_LEN_V)) readErr = 0 →
        t.get Fld.MGMT_BOOT_STATUS_PHASE = 4 ∧ t.get Fld.MGMT_BOOT_STATUS_SRC_USED = 3 ∧ t.boot.meas1 = imgDigest img
        ∧ t.get Fld.MGMT_PUSH_CTL_GO = 0 ∧ s.frame t [Reg.MGMT_BOOT_STATUS, Reg.MGMT_FW_STATE, Reg.MGMT_PUSH_CTL] [.boot])
      ∧ (s.imageCode img true (some (s.get Fld.MGMT_PUSH_LEN_V)) readErr ≠ 0 →
        t.get Fld.MGMT_BOOT_STATUS_PHASE = 6 ∧ t.get Fld.MGMT_BOOT_STATUS_PUSH_READY = 1 ∧ t.get Fld.MGMT_PUSH_CTL_GO = 0
        ∧ t.get Fld.MGMT_BOOT_STATUS_ERR = s.imageCode img true (some (s.get Fld.MGMT_PUSH_LEN_V)) readErr
        ∧ t.irq.pulse.testBit 8 = true ∧ s.frame t [Reg.MGMT_BOOT_STATUS, Reg.MGMT_PUSH_CTL] [.irq]))

/-- R348, R358, R367, R368: an accepted image brings Berent up in READY; a management restart resets the Mule with every block
running and comes back in the state retained with a good record, in MAINTENANCE without; a load window shows LOAD, and the
third in a row at 95 or more starts overload; a watchdog that lapses is fault source 5. -/
def Obligations.BerentStartsRestartsAndLoads : Prop :=
  ∀ (s : State), s.spineOn = true →
    (∀ good : Bool, s.get Fld.MGMT_BOOT_STATUS_PHASE = 4 → s.fwState = 0 → s.mbx.degr = s.degrading →
      (s.boot.restart = false → ∃ t, exec (.berentReady good) s = .next t ∧ t.fwState = 1 ∧ t.get Fld.MGMT_BOOT_STATUS_PHASE = 5
        ∧ t.get Fld.DMA_GLB_STATUS_OWN14_15 % 4 = 1 ∧ t.get Fld.FCR_STATUS_NMI_PEND = 0)
      ∧ (s.boot.restart = true → s.boot.retained = some ⟨s.boot.fwVer / 65536, 2, []⟩ → good = true →
        ∃ t, exec (.berentReady good) s = .next t ∧ t.fwState = 2 ∧ t.boot.restart = false ∧ t.boot.retained = none)
      ∧ (s.boot.restart = true → s.boot.retained = none → ∃ t, exec (.berentReady good) s = .next t ∧ t.fwState = 5))
    ∧ (s.boot.restartDue = true → 1 ≤ s.fwState → s.mbx.ops = List.replicate 8 none → s.flag Fld.MGMT_BOOT_CTL_FORCE_PUSH = false →
      s.power.strapBootSrc = 0 → ∃ t, exec .managementRestart s = .next t ∧ t.fwState = 0 ∧ t.reg Reg.MGMT_BOOT_STATUS = 0
      ∧ t.boot.retained = some ⟨s.get Fld.MGMT_FW_STATE_FW_VER, s.fwState, []⟩ ∧ t.boot.restart = true ∧ t.boot.slot = 0
      ∧ t.mbx.posts = s.mbx.posts ∧ t.boot.meas2 = s.boot.meas2
      ∧ s.frame t [Reg.MGMT_BOOT_STATUS, Reg.MGMT_FW_STATE, Reg.MGMT_PUSH_CTL, Reg.MGMT_BOOT_CTL] [.boot, .mbx, .buses])
    ∧ (s.boot.restartDue = false → ∃ t, exec .managementRestart s = .next t ∧ s.frame t [] [])
    ∧ (1 ≤ s.fwState → (∀ load : Fin 101, (s.flag Fld.MGMT_FW_STATE_OVERLOAD = false → s.backlog ≤ s.busyHi →
        ∃ t, exec (.loadWindowEnd load) s = .next t ∧ t.get Fld.MGMT_LOAD_LOAD = load.val
        ∧ t.flag Fld.MGMT_FW_STATE_OVERLOAD = decide (95 ≤ load.val ∧ 2 ≤ s.boot.hot)
        ∧ s.frame t [Reg.MGMT_LOAD, Reg.MGMT_FW_STATE] [.boot, .mbx])
      ∧ (s.flag Fld.MGMT_FW_STATE_OVERLOAD = true → ∃ t, exec (.loadWindowEnd load) s = .next t ∧ t.get Fld.MGMT_LOAD_LOAD = load.val
        ∧ t.flag Fld.MGMT_FW_STATE_OVERLOAD = !decide (s.backlog ≤ s.busyLo ∧ load.val < 80)
        ∧ s.frame t [Reg.MGMT_LOAD, Reg.MGMT_FW_STATE] [.boot]))
      ∧ (∃ t, exec .mgmtWatchdogLapse s = .next t ∧ t.fcr.due.testBit 5 = true ∧ s.frame t [] [.fcr]))

/-! ## PCIe -/

/-- R400, R428, R429, R468, R470: PERST_N low takes the link down, clears the MSI-X table and the pending bits, and changes
nothing else but that, like D3hot and a cleared Bus Master Enable, it halts every running channel with ERR 7. PERST_N high
changes nothing but its level; once it is high the endpoint comes ready and sends the messages that waited. Where the
rules leave a point open, the model's choices of log entries 88 and 151 hold. -/
def Obligations.PcieLossHaltsChannels : Prop :=
  ∀ (s : State),
    (∃ t, exec .perstNAssert s = .next t ∧ t.pcie = ⟨false, false, false, false, false⟩ ∧ t.power = { s.power with perstN := false }
      ∧ t.irq.pba = 0 ∧ (∀ a, a < 0x1008 → t.reg (0xF00000 + a) = regReset (0xF00000 + a)) ∧ s.runsHalted t 7
      ∧ s.frame t ((List.range 0x1008).map (0xF00000 + ·) ++ dmaHaltRegs) [.power, .pcie, .dma, .fcr])
    ∧ (∃ t, exec .perstNRelease s = .next t ∧ t.power = { s.power with perstN := true } ∧ s.frame t [] [.power])
    ∧ (s.spineOn = true → s.power.perstN = true → ∃ t, exec .pcieEndpointReady s = .next t
      ∧ t.pcie = ⟨true, true, true, false, s.pcie.fnMask⟩
      ∧ (∀ k, k < 64 → s.irq.pba.testBit k = true → s.pcie.fnMask = false → s.flag (Fld.MSIX_CTRL_MASK k) = false → k ∈ t.irq.sent)
      ∧ s.frame t [] [.pcie])
    ∧ ((s.spineOn = false ∨ s.power.perstN = false) → ∃ t, exec .pcieEndpointReady s = .next t ∧ s.frame t [] [])
    ∧ (s.spineOn = true → s.pcie.cfgReady = true →
      (∃ t, exec .d3hotEntry s = .next t ∧ t.pcie = { s.pcie with d3hot := true, busMaster := false } ∧ s.runsHalted t 7
        ∧ s.frame t dmaHaltRegs [.pcie, .dma, .fcr])
      ∧ (∃ t, exec .busMasterDisable s = .next t ∧ t.pcie = { s.pcie with busMaster := false } ∧ s.runsHalted t 7
        ∧ s.frame t dmaHaltRegs [.pcie, .dma, .fcr]))
    ∧ ((s.spineOn = false ∨ s.pcie.cfgReady = false) → (∃ t, exec .d3hotEntry s = .next t ∧ s.frame t [] [])
      ∧ (∃ t, exec .busMasterDisable s = .next t ∧ s.frame t [] []))

/-! ## Lanes -/

/-- R31, R43 to R50, R54: writes of a lane's configuration, signal presence, and wake on signal. A loopback change on an
ACTIVE line is an interruption; manual equaliser values are in use at once; PRE + POST above 40 is clamped and shown; every SD
change sets SD_EDGE; a signal on a dozing line with WAKE_ON_SD starts its exit in Wide configuration. Where the rules leave a
point open, the model's choice of log entry 104 holds. -/
def Obligations.LaneConfigurationAndSignal : Prop :=
  ∀ (n : Fin 96) (v : BitVec 32) (s : State), s.lineOn n.val = true →
    (∃ t, exec (.lineCfgWrite n v) s = .next t ∧ t.format n.val = s.format n.val ∧ t.get (Fld.LCH_LINE_CFG_LOOPBACK n.val) = wordBits v 8 2
      ∧ t.get (Fld.LCH_LINE_CFG_WAKE_ON_SD n.val) = wordBits v 14 1
      ∧ (s.lineActive n.val = true → (t.line n.val).lane.loopback = wordBits v 8 2
          ∧ ((s.line n.val).lane.loopback ≠ wordBits v 8 2 → s.fauWentIdle t n.val))
      ∧ (s.lineActive n.val = false → s.frame t [Reg.LCH_LINE_CFG n.val] [])
      ∧ s.onlyLine t n.val ∧ s.lossFrame t n.val (Reg.LCH_LINE_CFG n.val :: fauRegs n.val) [])
    ∧ (∃ t, exec (.rxEqCfgWrite n v) s = .next t ∧ t.reg (Reg.LCH_RX_EQ_CFG n.val) = v
      ∧ (wordBits v 0 2 = 2 → t.get (Fld.LCH_RX_EQ_STATUS_CTLE n.val) = wordBits v 2 4 ∧ t.get (Fld.LCH_RX_EQ_STATUS_DFE1 n.val) = wordBits v 6 6
          ∧ t.get (Fld.LCH_RX_EQ_STATUS_DFE5 n.val) = wordBits v 27 5)
      ∧ (wordBits v 0 2 ≠ 2 → t.reg (Reg.LCH_RX_EQ_STATUS n.val) = s.reg (Reg.LCH_RX_EQ_STATUS n.val))
      ∧ (wordBits v 0 2 = 0 → s.get (Fld.LCH_RX_EQ_CFG_MODE n.val) ≠ 0 → t.get (Fld.LCH_LINE_STATUS_ADAPT_DONE n.val) = 0)
      ∧ s.frame t [Reg.LCH_RX_EQ_CFG n.val, Reg.LCH_RX_EQ_STATUS n.val, Reg.LCH_LINE_STATUS n.val] [])
    ∧ (∀ e : EqValues, s.get (Fld.LCH_RX_EQ_CFG_MODE n.val) = 0 → s.flag (Fld.LCH_LINE_STATUS_CDR_LOCK n.val) = true →
        s.flag (Fld.LCH_LINE_STATUS_SD n.val) = true → ∃ t, exec (.eqAdaptDone n e) s = .next t
      ∧ t.get (Fld.LCH_RX_EQ_STATUS_CTLE n.val) = e.ctle.toNat ∧ t.get (Fld.LCH_RX_EQ_STATUS_DFE1 n.val) = e.dfe1.toNat
      ∧ t.get (Fld.LCH_RX_EQ_STATUS_DFE5 n.val) = e.dfe5.toNat ∧ t.get (Fld.LCH_LINE_STATUS_ADAPT_DONE n.val) = 1
      ∧ s.frame t [Reg.LCH_RX_EQ_STATUS n.val, Reg.LCH_LINE_STATUS n.val] [])
    ∧ (∃ t, exec (.txDrvCfgWrite n v) s = .next t ∧ t.get (Fld.LCH_TX_DRV_CFG_PRE n.val) = wordBits v 0 4
      ∧ t.get (Fld.LCH_TX_DRV_CFG_POST n.val) = wordBits v 4 5
      ∧ t.flag (Fld.LCH_LINE_STATUS_TX_CLAMP n.val) = decide (40 < wordBits v 0 4 + wordBits v 4 5)
      ∧ s.frame t [Reg.LCH_TX_DRV_CFG n.val, Reg.LCH_LINE_STATUS n.val] [])
    ∧ (∀ sd : Bool, ∃ t, exec (.sdChange n sd) s = .next t ∧ t.flag (Fld.LCH_LINE_STATUS_SD n.val) = sd
      ∧ (s.flag (Fld.LCH_LINE_STATUS_SD n.val) ≠ sd → t.get (Fld.LCH_LINE_STATUS_SD_EDGE n.val) = 1)
      ∧ s.frame t (Reg.LCH_LINE_STATUS n.val :: timingRegs) [.tmg, .fresh])
    ∧ (s.twin = false → s.flag (Fld.LCH_LINE_CFG_WAKE_ON_SD n.val) = true → s.lineDozes n.val = true → s.targetFormat n.val ≠ 0 →
        (s.line n.val).lane.trans = .none → ∃ t, exec (.wakeOnSd n) s = .next t ∧ t.get (Fld.LCH_LINE_STATUS_PWR_STATE n.val) = 3
      ∧ (t.line n.val).lane.trans = .exit ∧ t.get (Fld.LCH_LINE_STATUS_SD n.val) = 1 ∧ s.onlyLine t n.val)
    ∧ (∃ t, exec (.lineQueueDrop n) s = .next t ∧ t.fcr.due.testBit (98 + 4 * n.val) = true
      ∧ (s.fauLocked n.val = true → t.get64 (Reg.LCH_FAU_FAS_ERR_LO n.val) = (s.get64 (Reg.LCH_FAU_FAS_ERR_LO n.val) + 1) % 2 ^ 48
        ∧ (isMxf (s.format n.val) = true → (t.line n.val).mxf.frameUnc = true))
      ∧ (s.fauLocked n.val = false → s.frame t [] [.fcr])
      ∧ s.onlyLine t n.val ∧ s.bar2Except t (lineRecs n.val)
      ∧ s.frame t [Reg.LCH_FAU_FAS_ERR_LO n.val, Reg.LCH_FAU_FAS_ERR_HI n.val] [.fcr, .lines, .bar2])

/-- R52, R53, R55, R73, R84, R500, R501: the ends of the doze transitions show the state reached, its PLL lock and its CDR
lock; CDR lock starts the hunt, its loss sends the FAU to IDLE and sets CDR_LOSS on an ACTIVE line; a replaced signal does so
only where the CDR loses lock. -/
def Obligations.DozeEndsAndCdr : Prop :=
  ∀ (n : Fin 96) (s : State), s.lineOn n.val = true →
    ((s.line n.val).lane.held = none → (s.line n.val).lane.newFormat = none →
      (∀ deep : Bool, (s.line n.val).lane.trans = .entry deep → (s.line n.val).lane.dozeCmd = true →
        ∃ t, exec (.dozeEntryComplete n) s = .next t ∧ t.get (Fld.LCH_LINE_STATUS_PWR_STATE n.val) = (if deep then 2 else 1)
        ∧ t.get (Fld.LCH_LINE_STATUS_CDR_LOCK n.val) = 0 ∧ t.flag (Fld.LCH_LINE_STATUS_PLL_LOCK n.val) = !deep
        ∧ (t.line n.val).lane.trans = .none ∧ s.onlyLine t n.val
        ∧ s.frame t (Reg.LCH_LINE_STATUS n.val :: timingRegs) [.lines, .tmg, .fresh])
      ∧ (∀ deep : Bool, (s.line n.val).lane.trans = .move deep → (s.line n.val).lane.dozeCmd = true →
        ∃ t, exec (.dozeMoveComplete n) s = .next t ∧ t.get (Fld.LCH_LINE_STATUS_PWR_STATE n.val) = (if deep then 2 else 1)
        ∧ t.flag (Fld.LCH_LINE_STATUS_PLL_LOCK n.val) = !deep ∧ (t.line n.val).lane.trans = .none ∧ s.onlyLine t n.val
        ∧ s.frame t (Reg.LCH_LINE_STATUS n.val :: timingRegs) [.lines, .tmg, .fresh])
      ∧ (∀ cdr : Bool, (s.line n.val).lane.trans = .exit → s.fauState n.val = 0 → s.format n.val ≠ 0 → s.format n.val ≠ 0x11 →
        ∃ t, exec (.dozeExitComplete n cdr) s = .next t ∧ t.get (Fld.LCH_LINE_STATUS_PWR_STATE n.val) = 0
        ∧ t.get (Fld.LCH_LINE_STATUS_PLL_LOCK n.val) = 1 ∧ (t.line n.val).lane.trans = .none
        ∧ (t.line n.val).lane.loopback = s.get (Fld.LCH_LINE_CFG_LOOPBACK n.val)
        ∧ (cdr = true → t.get (Fld.LCH_LINE_STATUS_CDR_LOCK n.val) = 1 ∧ t.get (Fld.LCH_FAU_STATUS_STATE n.val) = 1)
        ∧ (isMxf (s.format n.val) = true → (t.line n.val).mxf.txFsn = 0 ∧ (t.line n.val).mxf.nextSeq = 1) ∧ s.onlyLine t n.val))
    ∧ (s.lineActive n.val = true → s.format n.val ≠ 0 → s.format n.val ≠ 0x11 → s.flag (Fld.LCH_LINE_STATUS_CDR_LOCK n.val) = false →
      ∃ t, exec (.cdrLockRise n) s = .next t ∧ t.get (Fld.LCH_LINE_STATUS_CDR_LOCK n.val) = 1
      ∧ (s.fauState n.val = 0 → t.get (Fld.LCH_FAU_STATUS_STATE n.val) = 1)
      ∧ s.frame t ([Reg.LCH_LINE_STATUS n.val, Reg.LCH_FAU_STATUS n.val] ++ timingRegs) [.tmg, .fresh])
    ∧ (s.flag (Fld.LCH_LINE_STATUS_CDR_LOCK n.val) = true →
      (∃ t, exec (.cdrLockFall n) s = .next t ∧ t.get (Fld.LCH_LINE_STATUS_CDR_LOCK n.val) = 0 ∧ s.fauWentIdle t n.val
        ∧ (s.lineActive n.val = true → t.get (Fld.LCH_LINE_STATUS_CDR_LOSS n.val) = 1) ∧ s.onlyLine t n.val
        ∧ s.lossFrame t n.val (Reg.LCH_LINE_STATUS n.val :: fauRegs n.val ++ timingRegs) [.tmg, .fresh])
      ∧ (∃ t, exec (.signalReplaced n true) s = .next t ∧ t.get (Fld.LCH_LINE_STATUS_CDR_LOCK n.val) = 0 ∧ s.fauWentIdle t n.val
        ∧ s.onlyLine t n.val)
      ∧ (∃ t, exec (.signalReplaced n false) s = .next t ∧ t.get (Fld.LCH_LINE_STATUS_CDR_LOCK n.val) = 1
        ∧ s.frame t timingRegs [.tmg, .fresh]))

/-! ## Modules -/

/-- R60, R61, R63, R65, R66: a pass starts with the items of its moment, an item that is acknowledged stores its value and
counts its match, an alarm rises after two matching passes and falls after two failing ones, a module is absent after three
unacknowledged passes and present after two acknowledged ones; a stuck bus fails and recovers. -/
def Obligations.ModulePolling : Prop :=
  (∀ (k : Fin 10) (us : Nat) (ok : Bool) (s : State), s.busOn k.val = true →
    (s.flag (Fld.PIN_BUS_STATUS_FAILED k.val) = false →
      (s.flag (Fld.PIN_BUS_STATUS_RUNNING k.val) = false → ∃ t, exec (.pollPassStart k) s = .next t
        ∧ t.flag (Fld.PIN_BUS_STATUS_RUNNING k.val) = s.flag (Fld.PIN_BUS_CFG_EN k.val)
        ∧ (t.bus k.val).pass = (if s.flag (Fld.PIN_BUS_CFG_EN k.val) then s.passItems k.val else []) ∧ (t.bus k.val).overrun = false
        ∧ s.frame t [Reg.PIN_BUS_STATUS k.val] [.buses])
      ∧ (s.flag (Fld.PIN_BUS_STATUS_RUNNING k.val) = true → ∃ t, exec (.pollPassStart k) s = .next t ∧ (t.bus k.val).overrun = true
        ∧ (t.bus k.val).pass = (s.bus k.val).pass ∧ s.frame t [] [.buses]))
    ∧ (s.flag (Fld.PIN_BUS_STATUS_RUNNING k.val) = true → (s.bus k.val).pass = [] → (s.bus k.val).overrun = false →
      ∃ t, exec (.pollPassEnd k us) s = .next t ∧ t.get (Fld.PIN_BUS_STATUS_PASS_US k.val) = min us 65535
      ∧ t.get (Fld.PIN_BUS_STATUS_RUNNING k.val) = 0 ∧ s.frame t [Reg.PIN_BUS_STATUS k.val] [.modules])
    ∧ (∀ (m i : Nat) (ctl ofs a b : Nat) (bytes : List (BitVec 8)), s.flag (Fld.PIN_BUS_STATUS_RUNNING k.val) = true →
        (s.bus k.val).pass = [(m, i, ctl, ofs, a, b)] → m < 96 → i < 8 →
        (∃ t, exec (.pollItemComplete k (.ack bytes)) s = .next t
          ∧ t.get64 (Reg.PIN_ITEM_VALUE_LO m i) = beNat (bytes.take (itemLen k.val ctl)) ∧ (t.bus k.val).pass = []
          ∧ (t.mdl m).matchRun.getD i 0 = (if compareMatches (bitsOf ctl 20 2) (beNat (bytes.take (itemLen k.val ctl))) a b
              then (s.mdl m).matchRun.getD i 0 + 1 else 0)
          ∧ (s.flag (Fld.PIN_MOD_STATUS_ABSENT m) = false → (t.get (Fld.PIN_MOD_STATUS_STALE m)).testBit i = false)
          ∧ s.frame t [Reg.PIN_ITEM_VALUE_LO m i, Reg.PIN_ITEM_VALUE_HI m i, Reg.PIN_MOD_STATUS m] [.buses, .modules])
        ∧ (∃ t, exec (.pollItemComplete k .noAck) s = .next t ∧ m ∈ (t.bus k.val).nacked ∧ s.frame t [] [.buses])
        ∧ (k.val < 8 → ∃ t, exec (.clockStretchTimeout k) s = .next t ∧ (t.bus k.val).pass = []
          ∧ t.get (Fld.PIN_BUS_STATUS_BUSERR_EV k.val) = 1 ∧ s.frame t [Reg.PIN_BUS_STATUS k.val, Reg.PIN_BUS_CNT k.val] [.buses]))
    ∧ (s.flag (Fld.PIN_BUS_STATUS_FAILED k.val) = true → ∃ t, exec (.busRecoveryRetry k ok) s = .next t
      ∧ t.flag (Fld.PIN_BUS_STATUS_FAILED k.val) = !ok ∧ s.frame t [Reg.PIN_BUS_STATUS k.val] []))
  ∧ (∀ (m : Fin 96) (i : Fin 8) (s : State), s.spineOn = true →
    ((s.get (Fld.PIN_MOD_STATUS_ALARM m.val)).testBit i.val = false → 2 ≤ (s.mdl m.val).matchRun.getD i.val 0 →
      ∃ t, exec (.moduleAlarmChange m i) s = .next t ∧ (t.get (Fld.PIN_MOD_STATUS_ALARM m.val)).testBit i.val = true
      ∧ (t.get (Fld.PIN_MOD_CAUSE_ALARM_EV m.val)).testBit i.val = true ∧ s.frame t [Reg.PIN_MOD_STATUS m.val, Reg.PIN_MOD_CAUSE m.val] [])
    ∧ ((s.get (Fld.PIN_MOD_STATUS_ALARM m.val)).testBit i.val = true → 2 ≤ (s.mdl m.val).failRun.getD i.val 0 →
      ∃ t, exec (.moduleAlarmChange m i) s = .next t ∧ (t.get (Fld.PIN_MOD_STATUS_ALARM m.val)).testBit i.val = false
      ∧ s.frame t [Reg.PIN_MOD_STATUS m.val] [])
    ∧ (s.flag (Fld.PIN_MOD_STATUS_ABSENT m.val) = false → 3 ≤ (s.mdl m.val).nackRun → ∃ t, exec (.modulePresenceChange m) s = .next t
      ∧ t.get (Fld.PIN_MOD_STATUS_ABSENT m.val) = 1 ∧ t.get (Fld.PIN_MOD_CAUSE_ABSENT_EV m.val) = 1 ∧ t.get (Fld.PIN_MOD_STATUS_STALE m.val) = 0xFF
      ∧ s.frame t [Reg.PIN_MOD_STATUS m.val, Reg.PIN_MOD_CAUSE m.val] [.modules])
    ∧ (s.flag (Fld.PIN_MOD_STATUS_ABSENT m.val) = true → 2 ≤ (s.mdl m.val).ackRun → ∃ t, exec (.modulePresenceChange m) s = .next t
      ∧ t.get (Fld.PIN_MOD_STATUS_ABSENT m.val) = 0 ∧ t.get (Fld.PIN_MOD_CAUSE_PRESENT_EV m.val) = 1
      ∧ s.frame t [Reg.PIN_MOD_STATUS m.val, Reg.PIN_MOD_CAUSE m.val] []))

/-! ## Finding frames -/

/-- R47, R69, R70, R78, R395: every offset of the word at the parallel interface is tested for the lock pattern against the
word before it, and the finds are registered in the next word period, in which a tracker noted at a loss takes the line back
into lock; the checker of a pattern test counts the bits of a word and those in error. Where the rules leave a point open, the
model's choice of log entry 53 holds. -/
def Obligations.WordIsTestedAtEveryOffset : Prop :=
  (∀ (n : Fin 96) (w : RxWord) (s : State), s.lineOn n.val = true → s.fauIdleCond n.val = false → isFramed (s.format n.val) = true →
    s.flag (Fld.LCH_PRBS_CFG_CHK_EN n.val) = false → ∃ t, exec (.fauWord n w) s = .next t
    ∧ (∀ o, o < 64 → ((t.line n.val).fau.finds.any (fun x => x.2 == o) = true ↔
        ((s.line n.val).fau.havePrev = true ∨ 47 ≤ o) ∧
          bitsOf ((s.line n.val).fau.prev * 2 ^ 64 + (s.laneWord n.val w.word w.sent).toNat) (63 - o) 48 = lockPattern (s.format n.val)))
    ∧ (t.line n.val).fau.prev = (s.laneWord n.val w.word w.sent).toNat ∧ (t.line n.val).fau.havePrev = true
    ∧ (t.line n.val).fau.pos = ((s.line n.val).fau.pos + 64) % frameBits (s.format n.val)
    ∧ ((s.line n.val).lane.loopback = 0 → s.laneWord n.val w.word w.sent
        = (if s.flag (Fld.LCH_LINE_CFG_RX_INV n.val) then ~~~w.word else w.word))
    ∧ (∀ p, (s.line n.val).fau.relock = some p → t.get (Fld.LCH_FAU_STATUS_STATE n.val) = 3 ∧ (t.line n.val).fau.lock = some p.1
        ∧ t.get (Fld.LCH_FAU_STATUS_IF_EV n.val) = 1)
    ∧ ((s.line n.val).fau.lock = none → (s.line n.val).fau.relock = none → (t.line n.val).fau.trackers
        = (((s.line n.val).fau.finds.foldl Fau.takeFind (s.line n.val).fau).closeTrackers (frameBits (s.format n.val))).trackers)
    ∧ s.onlyLine t n.val
    ∧ s.frame t [Reg.LCH_FAU_STATUS n.val, Reg.LCH_FAU_FAS_ERR_LO n.val, Reg.LCH_FAU_FAS_ERR_HI n.val] [.lines])
  ∧ (∀ (n : Fin 96) (w : BitVec 64) (reg : Nat) (s : State), s.lineOn n.val = true → s.flag (Fld.LCH_PRBS_CFG_CHK_EN n.val) = true →
    s.flag (Fld.LCH_LINE_STATUS_CDR_LOCK n.val) = true → s.get (Fld.LCH_PRBS_CFG_PATTERN n.val) = 0 →
    s.flag (Fld.LCH_PRBS_CFG_INV n.val) = false →
    ((s.line n.val).lane.loopback = 0 → s.prbsSeen n.val w = (if s.flag (Fld.LCH_LINE_CFG_RX_INV n.val) then ~~~w else w))
    ∧ ((s.line n.val).lane.loopback = 3 → s.flag (Fld.LCH_PRBS_CFG_GEN_EN n.val) = true → (s.prbsSeen n.val w).toNat = (prbsBits 6 7 64 0 (s.line n.val).prbs.gen).1)
    ∧ ((s.line n.val).prbs.seed = none → ∃ t, exec (.prbsWordCheck n w) s = .next t
      ∧ (t.line n.val).prbs.seed = (if (s.prbsSeen n.val w).toNat % 128 = 0 then none else some ((s.prbsSeen n.val w).toNat % 128))
      ∧ (s.flag (Fld.LCH_PRBS_CFG_GEN_EN n.val) = true → (t.line n.val).prbs.gen = (prbsBits 6 7 64 0 (s.line n.val).prbs.gen).2
          ∧ ((s.line n.val).lane.loopback = 0 → (t.line n.val).lane.words.map (fun x => x.toNat) = [(prbsBits 6 7 64 0 (s.line n.val).prbs.gen).1]))
      ∧ s.onlyLine t n.val ∧ s.frame t [] [.lines])
    ∧ ((s.line n.val).prbs.seed = some reg → s.flag (Fld.LCH_PRBS_STATUS_SYNC n.val) = true → ∃ t, exec (.prbsWordCheck n w) s = .next t
      ∧ t.get64 (Reg.LCH_PRBS_BITS_LO n.val) = (s.get64 (Reg.LCH_PRBS_BITS_LO n.val) + 64) % 2 ^ 48
      ∧ t.get64 (Reg.LCH_PRBS_ERR_LO n.val) = (s.get64 (Reg.LCH_PRBS_ERR_LO n.val) + popCount 64 ((prbsBits 6 7 64 0 reg).1 ^^^ (s.prbsSeen n.val w).toNat)) % 2 ^ 48
      ∧ s.onlyLine t n.val
      ∧ s.frame t [Reg.LCH_PRBS_BITS_LO n.val, Reg.LCH_PRBS_BITS_HI n.val, Reg.LCH_PRBS_ERR_LO n.val, Reg.LCH_PRBS_ERR_HI n.val,
          Reg.LCH_PRBS_STATUS n.val] [.lines]))

/-- R73, R75, R76, R79, R86, R88, R499: a tracker with enough finds locks the line at its position and bit offset; the loss
criterion ends lock with a loss event and a hunt, a tracker that meets the criterion being noted for the next word period; a
slip is followed; the multiframe locks after two matches and is lost after five differences; a restart goes to IDLE; codewords
are counted by their outcome. -/
def Obligations.LockLossSlipAndCodewords : Prop :=
  ∀ (n : Fin 96) (s : State), s.lineOn n.val = true →
    (s.fauHunts n.val = true → (∀ p, s.lockChoice n.val = some p → ∃ t, exec (.fauLockAcquire n) s = .next t
        ∧ t.get (Fld.LCH_FAU_STATUS_STATE n.val) = 3 ∧ t.get (Fld.LCH_FAU_STATUS_BIT_OFS n.val) = p.2 % 128
        ∧ t.get (Fld.LCH_FAU_STATUS_IF_EV n.val) = 1 ∧ (t.line n.val).fau.lock = some p.1 ∧ s.onlyLine t n.val
        ∧ s.frame t [Reg.LCH_FAU_STATUS n.val] [.lines])
      ∧ (s.lockChoice n.val = none → ∃ t, exec (.fauLockAcquire n) s = .next t ∧ s.frame t [] [])
      ∧ (∀ x, isFramed (s.format n.val) = true → (s.line n.val).fau.trackers = [x] → s.ifCnt n.val ≤ x.count →
          s.lockChoice n.val = some (x.pos, x.ofs)))
    ∧ (s.fauLocked n.val = true → (s.line n.val).fau.lossDue = true → ∃ t, exec (.fauLockLoss n) s = .next t
        ∧ t.get (Fld.LCH_FAU_STATUS_LOSS_EV n.val) = 1
        ∧ t.get64 (Reg.LCH_FAU_LOSS_CNT_LO n.val) = (s.get64 (Reg.LCH_FAU_LOSS_CNT_LO n.val) + 1) % 2 ^ 48
        ∧ t.get (Fld.LCH_FAU_STATUS_STATE n.val) = 1 ∧ (t.line n.val).fau.lock = none
        ∧ (t.line n.val).fau.relock = (if isFramed (s.format n.val) then s.lockChoice n.val else none)
        ∧ s.onlyLine t n.val ∧ s.lossFrame t n.val (fauRegs n.val) [])
    ∧ (∀ x, s.fauLocked n.val = true → s.slipFollows n.val = true → (s.line n.val).fau.miss = 2 → (s.line n.val).fau.followers = [x] →
        ∃ t, exec (.fauSlipMove n) s = .next t ∧ t.get (Fld.LCH_FAU_STATUS_STATE n.val) = 3 ∧ (t.line n.val).fau.lock = some x.pos
        ∧ t.get (Fld.LCH_FAU_STATUS_SLIP_EV n.val) = 1
        ∧ t.get64 (Reg.LCH_FAU_SLIP_CNT_LO n.val) = (s.get64 (Reg.LCH_FAU_SLIP_CNT_LO n.val) + 1) % 2 ^ 48 ∧ s.onlyLine t n.val
        ∧ s.frame t [Reg.LCH_FAU_STATUS n.val, Reg.LCH_FAU_SLIP_CNT_LO n.val, Reg.LCH_FAU_SLIP_CNT_HI n.val] [.lines])
    ∧ (isOtu (s.format n.val) = true → s.fauState n.val = 3 →
        (s.flag (Fld.LCH_FAU_STATUS_MF_LOCK n.val) = false → 2 ≤ (s.line n.val).fau.mfGood → ∃ t, exec (.mfLockChange n) s = .next t
          ∧ t.get (Fld.LCH_FAU_STATUS_MF_LOCK n.val) = 1 ∧ s.frame t [Reg.LCH_FAU_STATUS n.val] [.lines])
        ∧ (s.flag (Fld.LCH_FAU_STATUS_MF_LOCK n.val) = true → 5 ≤ (s.line n.val).fau.mfBad → ∃ t, exec (.mfLockChange n) s = .next t
          ∧ t.get (Fld.LCH_FAU_STATUS_MF_LOCK n.val) = 0 ∧ t.get (Fld.LCH_FAU_STATUS_MF_LOSS_EV n.val) = 1
          ∧ s.frame t [Reg.LCH_FAU_STATUS n.val] [.lines]))
    ∧ (∃ t, exec (.fauRestart n) s = .next t ∧ s.fauWentIdle t n.val ∧ s.onlyLine t n.val ∧ s.lossFrame t n.val (fauRegs n.val) [])
    ∧ (∀ v : BitVec 32, (∃ t, exec (.fauHuntCfgWrite n v) s = .next t ∧ t.get (Fld.LCH_FAU_HUNT_CFG_RESTART n.val) = 0
          ∧ t.get (Fld.LCH_FAU_HUNT_CFG_IF_CNT n.val) = wordBits v 0 3 ∧ t.get (Fld.LCH_FAU_HUNT_CFG_OOF_CNT n.val) = wordBits v 3 4
          ∧ (v.getLsbD 16 = true → s.fauWentIdle t n.val) ∧ (v.getLsbD 16 = false → s.frame t [Reg.LCH_FAU_HUNT_CFG n.val] []))
        ∧ (∃ t, exec (.fecCfgWrite n v) s = .next t ∧ t.get (Fld.LCH_FAU_FEC_CFG_MODE n.val) = wordBits v 0 2
          ∧ s.frame t [Reg.LCH_FAU_FEC_CFG n.val] []))
    ∧ (∀ c : FecBlock, s.fecRuns n.val = true → fecSuits c (s.format n.val) = true → (s.line n.val).fau.fecMode ≠ 2 →
        (∀ k : Nat, fecOutcome c (s.flag (Fld.LCH_FAU_HUNT_CFG_SCR_BYPASS n.val)) = .corrected (k + 1) → ∃ t, exec (.fecCodeword n c) s = .next t
          ∧ t.get64 (Reg.LCH_FAU_FEC_CORR_LO n.val) = (s.get64 (Reg.LCH_FAU_FEC_CORR_LO n.val) + (k + 1)) % 2 ^ 48
          ∧ t.get64 (Reg.LCH_FAU_FEC_CORR_CW_LO n.val) = (s.get64 (Reg.LCH_FAU_FEC_CORR_CW_LO n.val) + 1) % 2 ^ 48
          ∧ s.onlyLine t n.val
          ∧ s.frame t [Reg.LCH_FAU_FEC_CORR_LO n.val, Reg.LCH_FAU_FEC_CORR_HI n.val, Reg.LCH_FAU_FEC_CORR_CW_LO n.val,
              Reg.LCH_FAU_FEC_CORR_CW_HI n.val] [.lines])
        ∧ (fecOutcome c (s.flag (Fld.LCH_FAU_HUNT_CFG_SCR_BYPASS n.val)) = .uncorrectable → ∃ t, exec (.fecCodeword n c) s = .next t
          ∧ t.get64 (Reg.LCH_FAU_FEC_UNC_CW_LO n.val) = (s.get64 (Reg.LCH_FAU_FEC_UNC_CW_LO n.val) + 1) % 2 ^ 48
          ∧ t.get (Fld.LCH_FAU_STATUS_FEC_UNC_EV n.val) = 1
          ∧ s.frame t [Reg.LCH_FAU_STATUS n.val, Reg.LCH_FAU_FEC_UNC_CW_LO n.val, Reg.LCH_FAU_FEC_UNC_CW_HI n.val] [.lines])
        ∧ (fecOutcome c (s.flag (Fld.LCH_FAU_HUNT_CFG_SCR_BYPASS n.val)) = .clean → ∃ t, exec (.fecCodeword n c) s = .next t
          ∧ (t.line n.val).fau.fecMode = s.fecModeSet n.val
          ∧ (t.line n.val).fau.modes = (s.line n.val).fau.modes ++ [(s.line n.val).fau.fecMode] ∧ s.frame t [] [.lines]))
    ∧ (∀ c : FecBlock, s.fecRuns n.val = true → (s.line n.val).fau.fecMode = 2 →
        ∃ t, exec (.fecCodeword n c) s = .next t ∧ s.onlyLine t n.val ∧ s.frame t [] [.lines])

/-! ## Mehrax -/

/-- R94, R98, R99, R101, R107: the fields of a received Mehrax frame are taken only where its OHCRC is good, else an OHCRC
error is counted and the frame is taken to carry the FSN expected; the frame before gets its check result; a quality level is
accepted after three equal frames. -/
def Obligations.MehraxFrameIsChecked : Prop :=
  ∀ (n : Fin 96) (x : List Word64) (s : State), s.lineOn n.val = true → isMxf (s.format n.val) = true →
    (s.inFrame n.val = true → x.length = 2048 → (s.line n.val).mxf.fecRx = false →
      ∀ ws : List Word64, ws = (if s.flag (Fld.LCH_FAU_HUNT_CFG_SCR_BYPASS n.val) then x else scrFrame x) →
      (ohcrcOf (ws.take 8) = mxfField ws 7 0 16 → ∃ t, exec (.mxfFrameRx n x) s = .next t
        ∧ t.get (Fld.LCH_MXF_STATUS_RX_RATE n.val) = mxfField ws 0 12 4 ∧ t.get (Fld.LCH_MXF_STATUS_RX_FEC n.val) = mxfField ws 0 11 1
        ∧ t.flag (Fld.LCH_MXF_STATUS_RATE_MM n.val) = (mxfField ws 0 12 4 != s.format n.val - 0x0C)
        ∧ t.flag (Fld.LCH_MXF_STATUS_VER_MM n.val) = (mxfField ws 0 8 3 != 1)
        ∧ (t.line n.val).mxf.slotUsed = mxfField ws 2 40 24 ∧ (t.line n.val).mxf.slotAis = mxfField ws 2 16 24
        ∧ (t.line n.val).mxf.payload = ws.drop 8 ∧ t.get64 (Reg.LCH_MXF_OHCRC_ERR_LO n.val) = s.get64 (Reg.LCH_MXF_OHCRC_ERR_LO n.val)
        ∧ ((s.line n.val).mxf.expFsn = none → (t.line n.val).mxf.expFsn = some ((mxfField ws 1 24 40 + 1) % 2 ^ 40))
        ∧ (mxfField ws 0 7 1 = 0 → (t.line n.val).mxf.rxMsg = some (peerMsgOf ws))
        ∧ s.onlyLine t n.val ∧ s.frame t (mxfRegs n.val) [.lines, .planes, .bar2])
      ∧ (ohcrcOf (ws.take 8) ≠ mxfField ws 7 0 16 → ∃ t, exec (.mxfFrameRx n x) s = .next t
        ∧ t.get64 (Reg.LCH_MXF_OHCRC_ERR_LO n.val) = (s.get64 (Reg.LCH_MXF_OHCRC_ERR_LO n.val) + 1) % 2 ^ 48
        ∧ t.get (Fld.LCH_MXF_STATUS_OHCRC_EV n.val) = 1 ∧ t.get (Fld.LCH_MXF_STATUS_RX_RATE n.val) = s.get (Fld.LCH_MXF_STATUS_RX_RATE n.val)
        ∧ (t.line n.val).mxf.slotUsed = (s.line n.val).mxf.slotUsed
        ∧ (∀ e, (s.line n.val).mxf.expFsn = some e → (t.line n.val).mxf.expFsn = some ((e + 1) % 2 ^ 40))
        ∧ s.onlyLine t n.val ∧ s.frame t (mxfRegs n.val) [.lines, .bar2])
      ∧ (∀ p, (s.line n.val).mxf.prev = some p → ∃ t, exec (.mxfFrameRx n x) s = .next t
        ∧ (t.line n.val).mxf.result = some (p.fsn, p.ohGood && !p.rpt && !p.unc && ohcrcOf (ws.take 8) == mxfField ws 7 0 16
            && mxfField ws 7 32 32 == p.pcrc)))
    ∧ (3 ≤ (s.line n.val).mxf.qlRun → ∃ t, exec (.qlAccept n) s = .next t
      ∧ (t.line n.val).mxf.qlAcc = (if (s.line n.val).mxf.qlOpt = 3 then none else some ((s.line n.val).mxf.qlOpt, (s.line n.val).mxf.ql))
      ∧ s.onlyLine t n.val ∧ s.frame t timingRegs [.lines, .tmg, .fresh])
    ∧ ((s.line n.val).mxf.qlRun < 3 → ∃ t, exec (.qlAccept n) s = .next t ∧ (t.line n.val).mxf.qlAcc = (s.line n.val).mxf.qlAcc)

/-- R93, R96, R99, R100, R105, R111 to R116: a sent frame starts with the frame alignment, carries the check fields of the
frame before it, the slots that its planes fill and nothing in the others; its FSN is one more, and the frame before it, sent
whole, is kept for a hold. Of reliable messages one is outstanding and at most 16 wait, another is refused with NO_RESOURCE;
it is sent again after its timeout and dropped after PMC_RETRIES; a received number 0 is unknown, one already accepted is not
executed. Where the rules leave a point open, the model's choices of log entries 113, 116 hold. -/
def Obligations.MehraxFramesAndPeerMessages : Prop :=
  ∀ (n : Fin 96) (s : State), s.lineOn n.val = true → isMxf (s.format n.val) = true →
    (s.framesOwn n.val = true → s.sendsHeld n.val = false → s.sendsMaint n.val = false → s.flag (Fld.LCH_FRB_STATUS_HOLD n.val) = false →
      s.flag (Fld.LCH_MXF_CFG_FEC n.val) = false → (s.line n.val).mxf.txFirst = false → (s.line n.val).frb.cut = false →
      ∃ t, exec (.mxfFrameTx n) s = .next t
      ∧ (t.line n.val).mxf.txFrame.length = 2048
      ∧ ((t.line n.val).mxf.txFrame.getD 0 0).toNat / 2 ^ 16 = 0xB4E271C80D9A
      ∧ mxfField (scrFrame (t.line n.val).mxf.txFrame) 1 24 40 = s.nextFsn n.val % 2 ^ 40
      ∧ (t.line n.val).mxf.txFsn = (s.nextFsn n.val + 1) % 2 ^ 40
      ∧ mxfField (scrFrame (t.line n.val).mxf.txFrame) 7 32 32 = (s.line n.val).mxf.txPcrc % 2 ^ 32
      ∧ (t.line n.val).mxf.txPcrc = pcrcOf ((scrFrame (t.line n.val).mxf.txFrame).drop 8)
      ∧ (∀ i, i < 2040 → (mxfField (scrFrame (t.line n.val).mxf.txFrame) 2 40 24).testBit (i % 24) = false →
          (scrFrame (t.line n.val).mxf.txFrame).getD (8 + i) 1 = 0)
      ∧ (t.line n.val).mxf.txBuf = (s.line n.val).mxf.txFrame
      ∧ ((s.line n.val).mxf.txFrame ≠ [] → t.get (Fld.LCH_FRB_STATUS_FULL n.val) = 1) ∧ s.onlyLine t n.val
      ∧ s.bar2Except t [tableSpace]
      ∧ s.frame t [Reg.LCH_FRB_STATUS n.val] [.lines, .planes, .bar2, .fresh])
    ∧ (∀ x : PeerMsg, 0x80 ≤ x.typ → x.typ < 256 → s.lineActive n.val = true →
      ((s.line n.val).mxf.out = none → (s.line n.val).mxf.waiting = [] → ∃ t, exec (.pmcSendRequest n x) s = .next t
        ∧ (t.line n.val).mxf.out = some ⟨{ x with txSeq := (s.line n.val).mxf.nextSeq }, 0, 0, true⟩
        ∧ t.get (Fld.LCH_MXF_STATUS_PMC_BUSY n.val) = 1
        ∧ (t.line n.val).mxf.nextSeq = (if (s.line n.val).mxf.nextSeq = 255 then 1 else (s.line n.val).mxf.nextSeq + 1)
        ∧ s.onlyLine t n.val ∧ s.frame t [Reg.LCH_MXF_STATUS n.val] [.lines])
      ∧ (∀ o, (s.line n.val).mxf.out = some o →
          ((s.line n.val).mxf.waiting.length < 16 → ∃ t, exec (.pmcSendRequest n x) s = .next t ∧ (t.line n.val).mxf.out = some o
            ∧ (t.line n.val).mxf.waiting = (s.line n.val).mxf.waiting ++ [x] ∧ s.frame t [] [.lines])
          ∧ (16 ≤ (s.line n.val).mxf.waiting.length → ∃ t, exec (.pmcSendRequest n x) s = .next t ∧ (t.line n.val).mxf.out = some o
            ∧ (t.line n.val).mxf.waiting = (s.line n.val).mxf.waiting ∧ (t.line n.val).mxf.reqStatus = 0x0104 ∧ s.frame t [] [.lines])))
    ∧ (∀ o, (s.line n.val).mxf.out = some o → s.lineActive n.val = true → o.due = false → s.pmcTimeout n.val ≤ o.waited →
      (o.resends < s.get (Fld.LCH_MXF_CFG_PMC_RETRIES n.val) → ∃ t, exec (.pmcAckTimeout n) s = .next t
        ∧ (t.line n.val).mxf.out = some { o with resends := o.resends + 1, due := true } ∧ s.onlyLine t n.val ∧ s.frame t [] [.lines])
      ∧ (s.get (Fld.LCH_MXF_CFG_PMC_RETRIES n.val) ≤ o.resends → (s.line n.val).mxf.waiting = [] → ∃ t, exec (.pmcAckTimeout n) s = .next t
        ∧ (t.line n.val).mxf.out = none ∧ t.get (Fld.LCH_MXF_STATUS_PMC_UNACK_EV n.val) = 1 ∧ t.get (Fld.LCH_MXF_STATUS_PMC_BUSY n.val) = 0
        ∧ t.get64 (Reg.LCH_MXF_PMC_UNACK_LO n.val) = (s.get64 (Reg.LCH_MXF_PMC_UNACK_LO n.val) + 1) % 2 ^ 48 ∧ s.onlyLine t n.val
        ∧ s.frame t [Reg.LCH_MXF_STATUS n.val, Reg.LCH_MXF_PMC_UNACK_LO n.val, Reg.LCH_MXF_PMC_UNACK_HI n.val] [.lines]))
    ∧ (∀ x, (s.line n.val).mxf.rxMsg = some x → s.thruIn n.val = false →
      (0x80 ≤ x.typ → x.txSeq = 0 → ∃ t, exec (.pmcMessageRx n) s = .next t ∧ t.get (Fld.LCH_MXF_STATUS_PMC_UNK_EV n.val) = 1
        ∧ (t.line n.val).mxf.rxMsg = none ∧ s.onlyLine t n.val ∧ s.frame t [Reg.LCH_MXF_STATUS n.val] [.lines, .planes])
      ∧ (0x80 ≤ x.typ → x.txSeq ≠ 0 → x.txSeq = (s.line n.val).mxf.ackSeq → ∃ t, exec (.pmcMessageRx n) s = .next t
        ∧ (t.line n.val).mxf.rxMsg = none ∧ s.onlyLine t n.val ∧ s.frame t [] [.lines, .planes])
      ∧ (x.typ = 0x01 → ∃ t, exec (.pmcMessageRx n) s = .next t
        ∧ (t.line n.val).mxf.peer = some (x.arg0, bitsOf x.arg1 48 8, x.index) ∧ (t.line n.val).mxf.rxMsg = none
        ∧ s.frame t ((List.range 96).map Reg.LCH_MXF_STATUS) [.lines, .planes, .prtRec])
      ∧ (x.typ < 0x80 → x.typ ∉ [0, 0x01, 0x10, 0x30] → ∃ t, exec (.pmcMessageRx n) s = .next t
        ∧ t.get (Fld.LCH_MXF_STATUS_PMC_UNK_EV n.val) = 1 ∧ (t.line n.val).mxf.rxMsg = none
        ∧ s.frame t [Reg.LCH_MXF_STATUS n.val] [.lines, .planes]))

/-! ## Overhead -/

/-- R85, R86, R120, R127, R131, R152, R163, R205, Table 5.3, Table 5.5: a frame is taken while its line is in frame,
descrambled and decoded: its raw values stand in SNAP, its errors are counted; out of frame nothing is taken or accepted. A
trace seen in 3 periods, an S1 in 8 frames, a label or MSI in 5 frames is accepted, a shorter run is not. Where the rules
leave a point open, the model's choices of log entries 24, 27 hold. -/
def Obligations.ReceivedOverheadIsAccepted : Prop :=
  (∀ (n : Fin 96) (s : State), s.lineOn n.val = true →
    (∀ f : OhpFrame, s.inFrame n.val = false → ∃ t, exec (.ohpFrameRx n f) s = .next t ∧ s.frame t [] [])
    ∧ (s.inFrame n.val = true →
      (∀ bs : List Byte, isStm (s.format n.val) = true → bs.length = stmBytes (stmN (s.format n.val)) →
        ∀ f : List Byte, f = (if s.flag (Fld.LCH_FAU_HUNT_CFG_SCR_BYPASS n.val) then bs else sdhScr (stmN (s.format n.val)) bs) →
        ∀ h : SdhOh, h = sdhOh (stmN (s.format n.val)) f →
        ∃ t, exec (.ohpFrameRx n (.sdh bs)) s = .next t ∧ (t.ohp n.val).rx = some (.sdh f) ∧ (t.ohp n.val).fresh = true
        ∧ t.get (Fld.LCH_OHP_RX_SNAP_SNAP n.val) = h.k1.toNat + 256 * h.k2.toNat + 65536 * h.s1.toNat + 2 ^ 24 * h.m1.toNat
        ∧ (∀ b, (s.ohp n.val).par1 = some b → t.get64 (Reg.LCH_DPM_CNT0_LO n.val)
            = (s.get64 (Reg.LCH_DPM_CNT0_LO n.val) + popCount 8 (b ^^^ h.b1).toNat) % 2 ^ 48)
        ∧ ((s.ohp n.val).par2 ≠ [] → t.get64 (Reg.LCH_DPM_CNT1_LO n.val)
            = (s.get64 (Reg.LCH_DPM_CNT1_LO n.val) + bitErrors (s.ohp n.val).par2 h.b2) % 2 ^ 48)
        ∧ (t.ohp n.val).par1 = some (xorBytes bs) ∧ (t.ohp n.val).par2 = sdhBip24 (stmN (s.format n.val)) f
        ∧ (t.ohp n.val).aps = runOf (s.ohp n.val).aps (h.k1.toNat + 256 * h.k2.toNat)
        ∧ (t.ohp n.val).s1 = runOf (s.ohp n.val).s1 (h.s1.toNat % 16)
        ∧ s.onlyLine t n.val ∧ s.bar2Except t (capRange n.val :: lineRecs n.val) ∧ s.frame t (ohpRegs n.val) [.lines, .bar2])
      ∧ (∀ bs : List Byte, isOtu (s.format n.val) = true → bs.length = 4 * otuCols →
        ∀ f : List Byte, f = otuDecode (fun i => (s.line n.val).fau.modes.getD i (s.line n.val).fau.fecMode)
          (if s.flag (Fld.LCH_FAU_HUNT_CFG_SCR_BYPASS n.val) then bs else otuScr bs) →
        ∀ h : OtuOh, h = otuOh otuCols f →
        ∃ t, exec (.ohpFrameRx n (.otu bs)) s = .next t
        ∧ (t.ohp n.val).rx = some (.otu f) ∧ (t.ohp n.val).fresh = true
        ∧ bitsOf (t.get (Fld.LCH_OHP_RX_SNAP_SNAP n.val)) 8 3 = h.pm.st.toNat % 8
        ∧ (s.fauState n.val = 3 → s.flag (Fld.LCH_FAU_STATUS_MF_LOCK n.val) = false → (t.line n.val).fau.mfGood
            = if (s.line n.val).fau.mfas.map (fun p => (p + 1) % 256) = some h.mfas.toNat then (s.line n.val).fau.mfGood + 1 else 0)
        ∧ (2 ≤ (s.ohp n.val).opuBips.length → t.get64 (Reg.LCH_DPM_CNT0_LO n.val)
            = (s.get64 (Reg.LCH_DPM_CNT0_LO n.val) + popCount 8 ((s.ohp n.val).opuBips.headD 0 ^^^ h.sm.bip).toNat) % 2 ^ 48)
        ∧ t.get64 (Reg.LCH_DPM_CNT1_LO n.val) = (s.get64 (Reg.LCH_DPM_CNT1_LO n.val) + beiOf h.sm.st) % 2 ^ 48
        ∧ t.get64 (Reg.LCH_DPM_CNT3_LO n.val) = (s.get64 (Reg.LCH_DPM_CNT3_LO n.val) + beiOf h.pm.st) % 2 ^ 48
        ∧ s.onlyLine t n.val ∧ s.bar2Except t (capRange n.val :: tableSpace :: lineRecs n.val)
        ∧ s.frame t (ohpRegs n.val) [.lines, .bar2, .planes])
      ∧ (∀ l : List (BitVec 66), isEth (s.format n.val) = true → s.format n.val ≠ 1 →
        ∀ x : List (Bool × Bool × Nat), x = blockList (s.flag (Fld.LCH_FAU_HUNT_CFG_SCR_BYPASS n.val)) (s.ohp n.val).eth.descr l →
        ∃ t, exec (.ohpFrameRx n (.eth l)) s = .next t
        ∧ t.get (Fld.LCH_OHP_RX_SNAP_SNAP n.val)
            = ((x.map (fun b => b.2.2)).filter (· != 0)).getLastD (s.get (Fld.LCH_OHP_RX_SNAP_SNAP n.val))
        ∧ t.get64 (Reg.LCH_DPM_CNT0_LO n.val)
            = (s.get64 (Reg.LCH_DPM_CNT0_LO n.val) + (x.filter (fun b => b.1 || b.2.1)).length) % 2 ^ 48
        ∧ t.get64 (Reg.LCH_DPM_CNT2_LO n.val)
            = (s.get64 (Reg.LCH_DPM_CNT2_LO n.val) + (x.filter (fun b => b.2.2 != 0)).length) % 2 ^ 48
        ∧ s.onlyLine t n.val ∧ s.frame t (ohpRegs n.val) [.lines])
      ∧ (∀ k : Nat, s.format n.val = 1 → ∃ t, exec (.ohpFrameRx n (.codes k)) s = .next t
        ∧ t.get64 (Reg.LCH_DPM_CNT0_LO n.val) = (s.get64 (Reg.LCH_DPM_CNT0_LO n.val) + k) % 2 ^ 48
        ∧ s.onlyLine t n.val ∧ s.frame t (ohpRegs n.val) [.lines])
      ∧ (∀ x : Nat × Option (List Byte), isMxf (s.format n.val) = true → (s.line n.val).mxf.oh = some x →
        ∃ t, exec (.ohpFrameRx n .mxf) s = .next t ∧ t.get (Fld.LCH_OHP_RX_SNAP_SNAP n.val) = x.1 % 2 ^ 32
        ∧ (t.line n.val).mxf.oh = none ∧ s.onlyLine t n.val ∧ s.bar2Except t [capRange n.val]
        ∧ s.frame t (ohpRegs n.val) [.lines, .bar2]))
    ∧ (∀ (k : Fin 8) (x : Trace), (s.ohp n.val).traces.getD k.val Trace.reset = x →
      (s.inFrame n.val = true → 3 ≤ x.run → ∃ t, exec (.traceAccept (.line n k)) s = .next t
        ∧ (t.traceBytes Reg.LCH_OHP_TRACE_ACC n.val k.val).take x.last.length = x.last.take 64
        ∧ ((t.ohp n.val).traces.getD k.val Trace.reset).got = true
        ∧ bitsOf (t.get (Fld.LCH_OHP_RX_TRACE_STATUS_ACC_CNT n.val)) (4 * k.val) 4
            = (bitsOf (s.get (Fld.LCH_OHP_RX_TRACE_STATUS_ACC_CNT n.val)) (4 * k.val) 4
              + b2n ((s.traceBytes Reg.LCH_OHP_TRACE_ACC n.val k.val).take x.last.length != x.last)) % 16
        ∧ s.onlyLine t n.val
        ∧ s.frame t (Reg.LCH_OHP_RX_TRACE_STATUS n.val :: Reg.LCH_OHP_RX_STATUS n.val
            :: (List.range 16).map (fun w => Reg.LCH_OHP_TRACE_ACC n.val (16 * k.val + w))) [.lines])
      ∧ (x.run < 3 ∨ s.inFrame n.val = false → ∃ t, exec (.traceAccept (.line n k)) s = .next t ∧ s.frame t [] []))
    ∧ (isStm (s.format n.val) = true → ∃ t, exec (.s1Accept n) s = .next t
        ∧ (t.ohp n.val).s1Acc = (if 8 ≤ (s.ohp n.val).s1.2 then some (s.ohp n.val).s1.1 else (s.ohp n.val).s1Acc)
        ∧ s.onlyLine t n.val ∧ s.frame t timingRegs [.lines, .tmg, .fresh])
    ∧ (∃ t, exec (.labelAccept (.line n)) s = .next t
        ∧ (t.ohp n.val).ptAcc = (if s.inFrame n.val = true ∧ 5 ≤ (s.ohp n.val).pt.2 then some (s.ohp n.val).pt.1 else (s.ohp n.val).ptAcc)
        ∧ (t.ohp n.val).msiAcc = (if s.inFrame n.val = true ∧ 5 ≤ (s.ohp n.val).msi.2 then some (s.ohp n.val).msi.1 else (s.ohp n.val).msiAcc)
        ∧ s.onlyLine t n.val ∧ s.frame t [] [.lines]))
  ∧ (∀ (p : Fin 2) (f : Fin 65536) (s : State),
    (∃ t, exec (.labelAccept (.flow p f)) s = .next t
      ∧ (∀ q, q ∈ s.runPlanes p.val →
        (5 ≤ (s.flow q f.val).label.2 → t.fget q f.val FS.rxLabel = (s.flow q f.val).label.1 % 256 ∧ (t.flow q f.val).labelled = true)
        ∧ ((s.flow q f.val).label.2 < 5 → t.fget q f.val FS.rxLabel = s.fget q f.val FS.rxLabel))
      ∧ s.onlyFlow t f.val ∧ s.bar2Except t (stateRecs f.val) ∧ s.frame t [] [.bar2, .planes])
    ∧ (∃ t, exec (.traceAccept (.flow p f)) s = .next t
      ∧ (∀ q, q ∈ s.runPlanes p.val → (s.rxSide q f.val).1.valid = true → (s.rxSide q f.val).1.traceEn = true →
        (s.rxSide q f.val).1.traceIdx < 2048 → 3 ≤ (s.flow q f.val).trace.run → (t.flow q f.val).trace.got = true
        ∧ t.bar2Bytes (traceAddr q (s.rxSide q f.val).1.traceIdx) (s.flow q f.val).trace.last.length
            = (if s.bar2Bytes (traceAddr q (s.rxSide q f.val).1.traceIdx) (s.flow q f.val).trace.last.length = (s.flow q f.val).trace.last
                then (s.flow q f.val).trace.last
              else ((s.flow q f.val).trace.last ++ List.replicate 64 0).take 64
                ++ (s.bar2Bytes (traceAddr q (s.rxSide q f.val).1.traceIdx) (s.flow q f.val).trace.last.length).drop 64).take
                  (s.flow q f.val).trace.last.length)
      ∧ s.onlyFlow t f.val ∧ s.frame t [] [.bar2, .planes]))

/-- R129, R133, R136 to R139, Table 5.3, Table 5.5: a pointer write that would make a ring fuller than it is is ignored; a
captured ESMC frame is a whole record or a drop, one to be sent is padded, gets its FCS and leaves as a whole frame, and one
that is too long is discarded whole; a committed transmit trace is copied at the start of its period; a frame to be sent takes
a whole group of an enabled insertion channel, or its fill byte. Where the rules leave a point open, the model's choices of
log entries 24, 125, 134 hold. -/
def Obligations.ChannelsAndTransmitOverhead : Prop :=
  ∀ (n : Fin 96) (s : State), s.lineOn n.val = true →
    (∀ (c : Fin 4) (v : BitVec 32),
      (ringFill (s.get (Fld.LCH_OHP_CAP_WR_V n.val c.val)) v.toNat ≤ (capRing n.val c.val).2 → ∃ t, exec (.capRdWrite n c v) s = .next t
        ∧ t.get (Fld.LCH_OHP_CAP_RD_V n.val c.val) = v.toNat ∧ s.frame t [Reg.LCH_OHP_CAP_RD n.val c.val] [])
      ∧ ((capRing n.val c.val).2 < ringFill (s.get (Fld.LCH_OHP_CAP_WR_V n.val c.val)) v.toNat → ∃ t, exec (.capRdWrite n c v) s = .next t
        ∧ t.get (Fld.LCH_OHP_RX_STATUS_PTR_ERR_EV n.val) = 1 ∧ s.frame t [Reg.LCH_OHP_RX_STATUS n.val] [])
      ∧ (ringFill v.toNat (s.get (Fld.LCH_OHP_INS_RD_V n.val c.val)) ≤ 2048 → ∃ t, exec (.insWrWrite n c v) s = .next t
        ∧ t.get (Fld.LCH_OHP_INS_WR_V n.val c.val) = v.toNat ∧ s.frame t [Reg.LCH_OHP_INS_WR n.val c.val] [])
      ∧ (2048 < ringFill v.toNat (s.get (Fld.LCH_OHP_INS_RD_V n.val c.val)) → ∃ t, exec (.insWrWrite n c v) s = .next t
        ∧ t.get (Fld.LCH_OHP_RX_STATUS_PTR_ERR_EV n.val) = 1 ∧ s.frame t [Reg.LCH_OHP_RX_STATUS n.val] []))
    ∧ (∀ (bs : List Byte), isEth (s.format n.val) = true → s.inFrame n.val = true → s.flag (Fld.LCH_OHP_RX_CFG_ESMC_EN n.val) = true →
      s.flag (Fld.LCH_OHP_CAP_CFG_EN n.val 3) = true → isEsmc bs = true → ∃ t, exec (.esmcFrameRx n bs true) s = .next t
      ∧ (bs.length ≤ 1518 → ringFill (s.get (Fld.LCH_OHP_CAP_WR_V n.val 3)) (s.get (Fld.LCH_OHP_CAP_RD_V n.val 3)) + 1536 ≤ 8192 →
          t.get (Fld.LCH_OHP_CAP_WR_V n.val 3) = (s.get (Fld.LCH_OHP_CAP_WR_V n.val 3) + (s.esmcRecord bs).length) % 2 ^ 32
          ∧ t.ringGet (capRing n.val 3) (s.get (Fld.LCH_OHP_CAP_WR_V n.val 3)) (s.esmcRecord bs).length = s.esmcRecord bs)
      ∧ (1518 < bs.length → t.get (Fld.LCH_OHP_CAP_DROP_V n.val 3) = (s.get (Fld.LCH_OHP_CAP_DROP_V n.val 3) + 1) % 2 ^ 32
          ∧ (t.get (Fld.LCH_OHP_RX_STATUS_CAP_OVF_EV n.val)).testBit 3 = true)
      ∧ s.bar2Except t [capRing n.val 3] ∧ s.onlyLine t n.val
      ∧ s.frame t [Reg.LCH_OHP_CAP_WR n.val 3, Reg.LCH_OHP_CAP_DROP n.val 3, Reg.LCH_OHP_RX_STATUS n.val] [.bar2])
    ∧ (isEth (s.format n.val) = true → s.lineActive n.val = true → s.flag (Fld.LCH_OHP_INS_CFG_EN n.val 3) = true →
      s.flag (Fld.LCH_OHP_THRU_CFG_ENABLE n.val) = false → (s.ohp n.val).esmcSkip = 0 →
      ∀ len : Nat, len = leNat (s.ringGet (insRing n.val 3) (s.get (Fld.LCH_OHP_INS_RD_V n.val 3)) 2) →
      (len ≤ 1518 →
        16 + (len + 7) / 8 * 8 ≤ ringFill (s.get (Fld.LCH_OHP_INS_WR_V n.val 3)) (s.get (Fld.LCH_OHP_INS_RD_V n.val 3)) →
        ∃ t, exec (.esmcFrameTx n) s = .next t
        ∧ (t.ohp n.val).esmcTx = padFrame (s.ringGet (insRing n.val 3) (s.get (Fld.LCH_OHP_INS_RD_V n.val 3) + 16) len)
        ∧ (s.flag (Fld.LCH_FRB_STATUS_HOLD n.val) = false → (t.line n.val).portTx = portFrame (t.ohp n.val).esmcTx)
        ∧ t.get (Fld.LCH_OHP_INS_RD_V n.val 3) = (s.get (Fld.LCH_OHP_INS_RD_V n.val 3) + (16 + (len + 7) / 8 * 8)) % 2 ^ 32
        ∧ s.onlyLine t n.val ∧ s.frame t [Reg.LCH_OHP_INS_RD n.val 3] [.lines])
      ∧ (1518 < len → 16 ≤ ringFill (s.get (Fld.LCH_OHP_INS_WR_V n.val 3)) (s.get (Fld.LCH_OHP_INS_RD_V n.val 3)) →
        ∃ t, exec (.esmcFrameTx n) s = .next t
        ∧ t.get (Fld.LCH_OHP_INS_UNDER_V n.val 3) = (s.get (Fld.LCH_OHP_INS_UNDER_V n.val 3) + 1) % 2 ^ 32
        ∧ (t.get (Fld.LCH_OHP_INS_RD_V n.val 3) + (t.ohp n.val).esmcSkip) % 2 ^ 32
            = (s.get (Fld.LCH_OHP_INS_RD_V n.val 3) + (16 + (len + 7) / 8 * 8)) % 2 ^ 32
        ∧ s.onlyLine t n.val ∧ s.frame t [Reg.LCH_OHP_INS_RD n.val 3, Reg.LCH_OHP_INS_UNDER n.val 3] [.lines]))
    ∧ (∀ v : BitVec 8, ∃ t, exec (.txTraceCommit n v) s = .next t
      ∧ t.get (Fld.LCH_OHP_TX_TRACE_CTL_PEND n.val) = s.get (Fld.LCH_OHP_TX_TRACE_CTL_PEND n.val) ||| v.toNat
      ∧ s.frame t [Reg.LCH_OHP_TX_TRACE_CTL n.val] [])
    ∧ (∀ k : Fin 8, (s.get (Fld.LCH_OHP_TX_TRACE_CTL_PEND n.val)).testBit k.val = true →
      ((s.ohp n.val).txPos % s.txTraceLen n.val = 0 → ∃ t, exec (.txTraceLoad n k) s = .next t
        ∧ (t.ohp n.val).txTraces.getD k.val [] = s.traceBytes Reg.LCH_OHP_TRACE_TX n.val k.val
        ∧ (∀ j, j < 8 → (t.get (Fld.LCH_OHP_TX_TRACE_CTL_PEND n.val)).testBit j
            = (decide (j ≠ k.val) && (s.get (Fld.LCH_OHP_TX_TRACE_CTL_PEND n.val)).testBit j))
        ∧ s.onlyLine t n.val ∧ s.frame t [Reg.LCH_OHP_TX_TRACE_CTL n.val] [.lines])
      ∧ ((s.ohp n.val).txPos % s.txTraceLen n.val ≠ 0 → ∃ t, exec (.txTraceLoad n k) s = .next t ∧ s.frame t [] []))
    ∧ (s.framesOwn n.val = true →
      (isStm (s.format n.val) = true → ∃ t, exec (.ohpFrameTx n) s = .next t
        ∧ (t.ohp n.val).txCfg = (s.reg (Reg.LCH_OHP_TX_CFG n.val)).toNat
        ∧ (s.flag (Fld.LCH_FRB_STATUS_HOLD n.val) = false → (t.ohp n.val).txHold = (s.ohp n.val).tx
            ∧ ((s.ohp n.val).tx ≠ [] → t.get (Fld.LCH_FRB_STATUS_FULL n.val) = 1))
        ∧ (t.ohp n.val).tx.length = stmBytes (stmN (s.format n.val))
        ∧ (sdhOh (stmN (s.format n.val)) (t.ohp n.val).tx).dccR = (s.insGroup n.val 0 3).1
        ∧ (sdhOh (stmN (s.format n.val)) (t.ohp n.val).tx).b1 = (s.ohp n.val).txPar1
        ∧ (t.ohp n.val).txPar1 = xorBytes (sdhScr (stmN (s.format n.val)) (t.ohp n.val).tx)
        ∧ (s.sendsMaint n.val = false → (s.bridgedFrom (s.txPlane n.val) n.val 1).isNone = true →
            (sdhOh (stmN (s.format n.val)) (t.ohp n.val).tx).dccM = (s.insGroup n.val 1 9).1
            ∧ (sdhOh (stmN (s.format n.val)) (t.ohp n.val).tx).s1 = BitVec.ofNat 8 (s.txQl n.val % 16))
        ∧ (s.sendsMaint n.val = false → ∀ w, s.bridgedFrom (s.txPlane n.val) n.val 1 = some w → w ≠ n.val → s.sendsHeld n.val = false →
            (s.ohp w).tx.length = stmBytes (stmN (s.format n.val)) →
            sdhPay (stmN (s.format n.val)) (t.ohp n.val).tx = sdhPay (stmN (s.format n.val)) (s.ohp w).tx)
        ∧ s.onlyLine t n.val ∧ s.bar2Except t [tableSpace] ∧ s.frame t (txRegs n.val) [.lines, .planes, .bar2, .fresh])
      ∧ (isOtu (s.format n.val) = true → ∃ t, exec (.ohpFrameTx n) s = .next t
        ∧ (s.flag (Fld.LCH_FRB_STATUS_HOLD n.val) = false → (t.ohp n.val).txHold = (s.ohp n.val).tx
            ∧ ((s.ohp n.val).tx ≠ [] → t.get (Fld.LCH_FRB_STATUS_FULL n.val) = 1))
        ∧ (otuOh oduCols (t.ohp n.val).tx).gcc0 = (s.insGroup n.val 0 2).1
        ∧ (otuOh oduCols (t.ohp n.val).tx).sm.bip = (if (s.ohp n.val).txBips.length < 2 then 0 else (s.ohp n.val).txBips.headD 0)
        ∧ ((s.bridgedFrom (s.txPlane n.val) n.val 2).isNone = true → (t.ohp n.val).txPos = ((s.ohp n.val).txPos % 256 + 1) % 256
            ∧ (otuOh oduCols (t.ohp n.val).tx).mfas = BitVec.ofNat 8 ((s.ohp n.val).txPos % 256)
            ∧ (s.sendsMaint n.val = false → (otuOh oduCols (t.ohp n.val).tx).gcc1 = (s.insGroup n.val 1 2).1
                ∧ (otuOh oduCols (t.ohp n.val).tx).psi = s.psiOut n.val ((s.ohp n.val).txPos % 256)))
        ∧ s.onlyLine t n.val ∧ s.bar2Except t [tableSpace] ∧ s.frame t (txRegs n.val) [.lines, .planes, .bar2, .fresh])
      ∧ (isMxf (s.format n.val) = true → s.sendsHeld n.val = false → ∃ t, exec (.ohpFrameTx n) s = .next t
        ∧ (t.ohp n.val).txMcc = (s.insRead n.val 0 8 0).1 ∧ s.onlyLine t n.val ∧ s.frame t (txRegs n.val) [.lines])
      ∧ (isEth (s.format n.val) = true → ∃ t, exec (.ohpFrameTx n) s = .next t ∧ (t.ohp n.val).txSets = s.setsOut n.val
        ∧ s.onlyLine t n.val ∧ s.frame t [] [.lines]))
/-! ## Through pairs and the words of a line -/

/-- R143 to R149: a Through output begins to forward once its input is in frame, falls back when the input leaves its lock or
its clock recovery, and resumes two output frame boundaries after the input has returned; a unit passes unchanged where
nothing is rewritten, and in a Mehrax frame FAS is generated and the MCC octets are replaced with the check recomputed in
regenerate mode. -/
def Obligations.ThroughForwardsAndFallsBack : Prop :=
  ∀ (n i : Fin 96) (s : State), s.lineOn n.val = true → s.get (Fld.LCH_OHP_THRU_CFG_SRC_LINE n.val) = i.val →
    (s.flag (Fld.LCH_OHP_THRU_CFG_ENABLE n.val) = true → s.lineOn i.val = true → s.lineActive i.val = true → s.lineActive n.val = true →
      (s.get (Fld.LCH_FAU_STATUS_STATE i.val) = 3 → (s.thru n.val).started = false → ∃ t, exec (.throughStart n) s = .next t
        ∧ t.get (Fld.LCH_OHP_THRU_STATUS_ACTIVE n.val) = 1 ∧ t.get (Fld.LCH_OHP_THRU_STATUS_FALLBACK n.val) = 0
        ∧ t.get (Fld.LCH_OHP_THRU_STATUS_TX_TIMING n.val) = 1
        ∧ t.get (Fld.LCH_OHP_THRU_STATUS_LAT_CYC n.val) = thruCycles (s.format n.val) ∧ (t.thru n.val).started = true
        ∧ s.onlyLine t n.val ∧ s.frame t [Reg.LCH_OHP_THRU_STATUS n.val] [.lines])
      ∧ (s.get (Fld.LCH_FAU_STATUS_STATE i.val) ≠ 3 → (∃ t, exec (.throughStart n) s = .next t ∧ s.frame t [] [])
        ∧ (∃ t, exec (.throughResume n) s = .next t ∧ s.frame t [] []))
      ∧ (s.get (Fld.LCH_FAU_STATUS_STATE i.val) = 3 → (s.thru n.val).started = true →
        s.flag (Fld.LCH_OHP_THRU_STATUS_FALLBACK n.val) = true →
        ((s.thru n.val).back < 2 → ∃ t, exec (.throughResume n) s = .next t ∧ s.frame t [] [])
        ∧ (2 ≤ (s.thru n.val).back → ∃ t, exec (.throughResume n) s = .next t
        ∧ t.get (Fld.LCH_OHP_THRU_STATUS_ACTIVE n.val) = 1 ∧ t.get (Fld.LCH_OHP_THRU_STATUS_FALLBACK n.val) = 0
        ∧ t.get (Fld.LCH_OHP_THRU_STATUS_TX_TIMING n.val) = 1
        ∧ s.onlyLine t n.val ∧ s.frame t [Reg.LCH_OHP_THRU_STATUS n.val] [.lines])))
    ∧ (s.flag (Fld.LCH_OHP_THRU_STATUS_ACTIVE n.val) = true →
      ((s.inFrame i.val = false ∨ s.flag (Fld.LCH_LINE_STATUS_CDR_LOCK i.val) = false) → ∃ t, exec (.throughFallback n) s = .next t
        ∧ t.get (Fld.LCH_OHP_THRU_STATUS_ACTIVE n.val) = 0 ∧ t.get (Fld.LCH_OHP_THRU_STATUS_FALLBACK n.val) = 1
        ∧ t.get (Fld.LCH_OHP_THRU_STATUS_FALLBACK_EV n.val) = 1 ∧ t.get (Fld.LCH_OHP_THRU_STATUS_TX_TIMING n.val) = 0
        ∧ t.get (Fld.LCH_OHP_THRU_STATUS_LAT_CYC n.val) = 0 ∧ (t.thru n.val).back = 0 ∧ (t.thru n.val).frame = [] ∧ s.onlyLine t n.val
        ∧ s.frame t [Reg.LCH_OHP_THRU_STATUS n.val, Reg.LCH_FRB_STATUS n.val] [.lines, .fresh])
      ∧ (s.lineOn i.val = true → s.inFrame i.val = true → s.flag (Fld.LCH_LINE_STATUS_CDR_LOCK i.val) = true →
        ∃ t, exec (.throughFallback n) s = .next t ∧ s.frame t [] [])
      ∧ (s.inFrame i.val = true → s.flag (Fld.LCH_FRB_STATUS_HOLD n.val) = false →
        (∀ a b : BitVec 66, thruBytes (s.format n.val) = 0 → ∃ t, exec (.throughUnit n (.blocks a b)) s = .next t
          ∧ (t.thru n.val).sent = [a.toNat, b.toNat] ∧ s.onlyLine t n.val ∧ s.frame t [] [.lines])
        ∧ (∀ a b : BitVec 64, thruBytes (s.format n.val) ≠ 0 → (s.thru n.val).frame.length = (s.thru n.val).pos →
          (16 ≤ (s.thru n.val).pos → (s.thru n.val).pos + 16 ≤ thruBytes (s.format n.val) → (s.thru n.val).tti = [] → (s.thru n.val).chk = false →
            (∀ x, x ∈ (s.thru n.val).ins → x.1 < (s.thru n.val).pos ∨ (s.thru n.val).pos + 16 ≤ x.1) →
            (isMxf (s.format n.val) = true → (s.thru n.val).pos / 8 = 6 → (s.thru n.val).ins = [] ∧ (s.thru n.val).ohOut = (s.thru n.val).ohIn) →
            (s.thru n.val).d1p = 0 → (s.thru n.val).d2p.all (· == 0) = true →
            (s.thru n.val).rs.all (fun r => r.all (· == 0)) = true →
            ∃ t, exec (.throughUnit n (.words a b)) s = .next t ∧ (t.thru n.val).sent = [a.toNat, b.toNat]
            ∧ (t.thru n.val).pos = ((s.thru n.val).pos + 16) % thruBytes (s.format n.val) ∧ s.onlyLine t n.val
            ∧ ((s.thru n.val).pos + 16 < thruBytes (s.format n.val) → s.frame t [] [.lines])
            ∧ ((s.thru n.val).pos + 16 = thruBytes (s.format n.val) → (t.thru n.val).frame = [] ∧ s.frame t [Reg.LCH_FRB_STATUS n.val] [.lines]))
          ∧ (isMxf (s.format n.val) = true → (s.thru n.val).pos = 0 → ∃ t, exec (.throughUnit n (.words a b)) s = .next t
            ∧ (t.thru n.val).sent = [putBits a.toNat 16 48 0xB4E271C80D9A, b.toNat] ∧ (t.thru n.val).pos = 16
            ∧ s.onlyLine t n.val ∧ s.frame t (txRegs n.val) [.lines])
          ∧ (isMxf (s.format n.val) = true → (s.thru n.val).pos = 48 → (s.thru n.val).ins ≠ [] → (s.thru n.val).chk = true →
            ∀ m : BitVec 64, m = BitVec.ofNat 64 (beNat ((s.thru n.val).ins.map (fun x => x.2))) →
            ∃ t, exec (.throughUnit n (.words a b)) s = .next t
            ∧ (t.thru n.val).sent = [m.toNat, putBits b.toNat 0 16 (ohcrcOf ((s.thru n.val).ohOut ++ [m, b])) % 2 ^ 64]
            ∧ s.onlyLine t n.val ∧ s.frame t [] [.lines]))))
    ∧ (∀ v : BitVec 32, ∃ t, exec (.thruCfgWrite n v) s = .next t ∧ t.get (Fld.LCH_OHP_THRU_CFG_CHK_MODE n.val) = wordBits v 8 1
      ∧ t.get (Fld.LCH_OHP_THRU_CFG_ENABLE n.val) = s.get (Fld.LCH_OHP_THRU_CFG_ENABLE n.val)
      ∧ t.get (Fld.LCH_OHP_THRU_CFG_SRC_LINE n.val) = i.val ∧ s.frame t [Reg.LCH_OHP_THRU_CFG n.val] [])

/-- R269, R274, R278 to R282: a line sends the word of the plane whose enable it has, and in Twin configuration compares it
with the other plane's; without a word it holds, and a hold beyond HOLD_MAX starts the maintenance signal. Where the rules
leave a point open, the model's choices of log entries 41, 42 hold. -/
def Obligations.LineSendsEnabledPlanesWords : Prop :=
  ∀ (n : Fin 96) (a b : Option (BitVec 64)) (st : Bool) (s : State), s.lineOn n.val = true →
    (s.lineSends n.val = true →
      (s.enabledPlane n.val = none → s.flag (Fld.LCH_FRB_STATUS_HOLD n.val) = false → ∃ t, exec (.lineWordTx n a b st) s = .next t
        ∧ t.get (Fld.LCH_FRB_STATUS_HOLD n.val) = 1 ∧ t.get (Fld.LCH_FRB_STATUS_HOLD_EV n.val) = 1
        ∧ t.get (Fld.LCH_FRB_STATUS_SRC_VALID n.val) = 0
        ∧ t.get (Fld.LCH_FRB_HOLD_CNT_CNT n.val) = (s.get (Fld.LCH_FRB_HOLD_CNT_CNT n.val) + 1) % 2 ^ 32
        ∧ (t.line n.val).frb.lwn = ((s.line n.val).frb.lwn + 1) % 2 ^ 16 ∧ s.onlyLine t n.val
        ∧ s.frame t [Reg.LCH_FRB_STATUS n.val, Reg.LCH_FRB_HOLD_CNT n.val] [.lines, .tw, .fresh])
      ∧ (s.enabledPlane n.val = none → s.flag (Fld.LCH_FRB_STATUS_HOLD n.val) = true → ∃ t, exec (.lineWordTx n a b st) s = .next t
        ∧ (t.line n.val).frb.lwn = ((s.line n.val).frb.lwn + 1) % 2 ^ 16 ∧ s.onlyLine t n.val ∧ s.frame t [] [.lines, .tw])
      ∧ (∀ w v : BitVec 64, s.enabledPlane n.val = some 0 → s.halfOn 0 = true → a = some w → b = some v → s.twin = true →
        3 ≤ s.planeState 0 → s.flag (Fld.LCH_FRB_STATUS_HOLD n.val) = true → isEth (s.format n.val) = true → st = false →
        ∃ t, exec (.lineWordTx n a b st) s = .next t ∧ (t.line n.val).frb.lwn = ((s.line n.val).frb.lwn + 1) % 2 ^ 16
        ∧ s.onlyLine t n.val ∧ s.frame t [] [.lines, .tw])
      ∧ (∀ w v : BitVec 64, s.enabledPlane n.val = some 0 → s.halfOn 0 = true → s.halfOn 1 = true → a = some w → b = some v →
        s.twin = true → 3 ≤ s.planeState 0 → 3 ≤ s.planeState 1 → s.flag (Fld.LCH_FRB_STATUS_HOLD n.val) = false →
        ∃ t, exec (.lineWordTx n a b st) s = .next t
        ∧ t.get (Fld.LCH_FRB_STATUS_SRC n.val) = 0 ∧ t.get (Fld.LCH_FRB_STATUS_SRC_VALID n.val) = 1
        ∧ t.get (Fld.LCH_FRB_STATUS_MAINT n.val) = 0 ∧ (t.line n.val).frb.lwn = ((s.line n.val).frb.lwn + 1) % 2 ^ 16
        ∧ (t.line n.val).frb.tag = s.get64 Reg.TWN_SQF_LO % 256
        ∧ (t.planeTw 0).sig = crcBytes 64 0x42F0E1EBA9EA3693 false (s.planeTw 0).sig
            (wordBytes w ++ beBytes 4 (n.val + (s.line n.val).frb.lwn * 2 ^ 16))
        ∧ (t.planeTw 1).sig = crcBytes 64 0x42F0E1EBA9EA3693 false (s.planeTw 1).sig
            (wordBytes v ++ beBytes 4 (n.val + (s.line n.val).frb.lwn * 2 ^ 16))
        ∧ (w = v → s.onlyLine t n.val ∧ s.frame t [Reg.LCH_FRB_STATUS n.val] [.lines, .tw])
        ∧ (w ≠ v → t.get (Fld.LCH_FRB_STATUS_CMP_EV n.val) = 1
          ∧ t.get (Fld.LCH_FRB_CMP_ERR_CNT n.val) = (s.get (Fld.LCH_FRB_CMP_ERR_CNT n.val) + 1) % 2 ^ 32
          ∧ t.fcr.due.testBit (99 + 4 * n.val) = true ∧ s.onlyLine t n.val
          ∧ s.frame t [Reg.LCH_FRB_STATUS n.val, Reg.LCH_FRB_CMP_ERR n.val] [.lines, .tw, .fcr])))
    ∧ (s.lineSends n.val = false → ∃ t, exec (.lineWordTx n a b st) s = .next t ∧ s.frame t [] [])
    ∧ (s.flag (Fld.LCH_FRB_STATUS_HOLD n.val) = true → s.flag (Fld.LCH_FRB_STATUS_MAINT n.val) = false →
      ∃ t, exec (.holdMaxExpiry n) s = .next t ∧ t.get (Fld.LCH_FRB_STATUS_MAINT n.val) = 1
      ∧ t.get (Fld.LCH_FRB_STATUS_MAINT_EV n.val) = 1 ∧ s.frame t [Reg.LCH_FRB_STATUS n.val] [])
    ∧ (s.flag (Fld.LCH_FRB_STATUS_HOLD n.val) = false → ∃ t, exec (.holdMaxExpiry n) s = .next t ∧ s.frame t [] [])

/-! ## Tables and epochs -/

/-- R183, R184, R186 to R188, R190, R200: a table word is written in every plane it reaches, of a descriptor without its
reserved bits; a write to the active epoch or during a commit is ignored and marked, an accepted descriptor write clears
CHECKED, FLUSH requests a flush that takes effect at the commit mark. -/
def Obligations.TableWritesReachInactiveEpoch : Prop :=
  (∀ (a : BitVec 24) (v : BitVec 32) (o : Nat) (s : State), s.spineOn = true → a.toNat % 4 = 0 → o = a.toNat % 0x800000 →
    ∃ t, exec (.tableWrite a (leBytes 4 v.toNat)) s = .next t
    ∧ (∀ q, q ∈ s.writePlanes (a.toNat / 0x800000) →
      (o < 0x400000 → o / 0x200000 ≠ s.active q → s.committing q = false → t.get (Fld.MAP_EPOCH_STATUS_CHECKED q) = 0
        ∧ (o % 32 ≠ 0 → t.bar2Num (tblBase q + o) 4 = v.toNat &&& descMask (o % 32))
        ∧ (o % 32 = 0 → t.bar2Num (tblBase q + o) 4 = putBits (v.toNat &&& 0x01FFFFFF) 20 1 (bitsOf (s.bar2Num (tblBase q + o) 4) 20 1)))
      ∧ (o < 0x400000 → (o / 0x200000 = s.active q ∨ s.committing q = true) → t.get (Fld.MAP_EPOCH_STATUS_WR_IGN_EV q) = 1
        ∧ t.bar2Num (tblBase q + o) 4 = s.bar2Num (tblBase q + o) 4)
      ∧ (0x500000 ≤ o → o < 0x560000 → 64 ≤ (o - 0x500000) % 192 → t.bar2Num (tblBase q + o) 4 = v.toNat)
      ∧ (0x400000 ≤ o → o < 0x500000 → t.bar2Num (tblBase q + o) 4 = s.bar2Num (tblBase q + o) 4))
    ∧ (o < 0x560000 → s.bar2Except t [(tblBase 0 + o, 4), (tblBase 1 + o, 4)] ∧ s.frame t checkedRegs [.bar2, .tw])
    ∧ s.marked t (a.toNat / 0x800000) ∧ s.frame t checkedRegs [.bar2, .planes, .tw])
  ∧ (∀ (a : BitVec 24) (l : List Byte) (o : Nat) (s : State), s.spineOn = true → l.length = 8 → a.toNat % 8 = 0 → o = a.toNat % 0x800000 →
    o < 0x400000 → ∃ t, exec (.tableWrite a l) s = .next t
    ∧ (∀ q, q ∈ s.writePlanes (a.toNat / 0x800000) → (o / 0x200000 = s.active q ∨ s.committing q = true) →
      t.get (Fld.MAP_EPOCH_STATUS_WR_IGN_EV q) = 1 ∧ t.bar2Bytes (tblBase q + o) 8 = s.bar2Bytes (tblBase q + o) 8)
    ∧ s.bar2Except t [(tblBase 0 + o, 8), (tblBase 1 + o, 8)] ∧ s.marked t (a.toNat / 0x800000) ∧ s.frame t checkedRegs [.bar2, .tw])
  ∧ (∀ (a : BitVec 24) (l : List Byte) (s : State), (s.spineOn = false ∨ (l.length ≠ 4 ∧ l.length ≠ 8) ∨ a.toNat % l.length ≠ 0) →
    ∃ t, exec (.tableWrite a l) s = .next t ∧ s.frame t [] [])
  ∧ (∀ (s : State), s.spineOn = true → ∃ t, exec (.mapTblDataAccess none) s = .next t
    ∧ t.get Fld.MAP_TBL_ADDR_ADDR = (s.get Fld.MAP_TBL_ADDR_ADDR + (if s.flag Fld.MAP_TBL_ADDR_AUTOINC then 4 else 0)) % 2 ^ 24
    ∧ s.frame t [Reg.MAP_TBL_ADDR] [])
  ∧ (∀ (v : BitVec 32) (s : State), s.spineOn = true →
    ∃ u, exec (.tableWrite (BitVec.ofNat 24 (s.get Fld.MAP_TBL_ADDR_ADDR / 4 * 4)) (leBytes 4 v.toNat)) s = .next u
    ∧ ∃ t, exec (.mapTblDataAccess (some v)) s = .next t ∧ t.bar2 = u.bar2 ∧ t.planes = u.planes
    ∧ t.get Fld.MAP_TBL_ADDR_ADDR = (s.get Fld.MAP_TBL_ADDR_ADDR + (if s.flag Fld.MAP_TBL_ADDR_AUTOINC then 4 else 0)) % 2 ^ 24
    ∧ u.frame t [Reg.MAP_TBL_ADDR] [])
  ∧ (∀ (p : Fin 2) (k : Fin 4096) (s : State),
    (∃ t, exec (.queueFlush p k) s = .next t
      ∧ (∀ q, q ∈ s.writePlanes p.val → s.flushing q k.val = false →
        (s.qget q k.val 0x10 ≠ s.qget q k.val 0x0C → t.flushing q k.val = true ∧ (t.flow q k.val).queue = (s.flow q k.val).queue)
        ∧ (s.qget q k.val 0x10 = s.qget q k.val 0x0C → t.flushing q k.val = false ∧ (t.flow q k.val).queue = []))
      ∧ s.onlyFlow t k.val ∧ s.bar2Except t (queueRecs k.val) ∧ s.marked t p.val ∧ s.frame t [] [.bar2, .planes, .tw])
    ∧ (∃ t, exec (.queueFlushApply p k) s = .next t
      ∧ (∀ q, q ∈ s.runPlanes p.val → s.flushing q k.val = true → t.flushing q k.val = false ∧ (t.flow q k.val).queue = []
        ∧ t.qget q k.val 0x10 = s.qget q k.val 0x0C
        ∧ t.bar2Num (queueAddr q k.val + 0x38) 8
            = (s.bar2Num (queueAddr q k.val + 0x38) 8 + (s.flow q k.val).queue.length) % 2 ^ 48)
      ∧ s.onlyFlow t k.val ∧ s.bar2Except t (queueRecs k.val) ∧ s.frame t [] [.bar2, .planes]))

/-- R191, R192, R195, R196, R198: a commit is accepted only while CHECKED = 1 and none is in progress; it makes the other
epoch the active one, in which each side is from its own switch on, and after 256 µs every side; a removed queue is emptied
once both ends have switched; check-value unit 15 checks the active epoch, and a value that differs is a fault. Where the
rules leave a point open, the model's choice of log entry 29 holds. -/
def Obligations.EpochCommitSwitchesSides : Prop :=
  (∀ (p : Fin 2) (s : State), s.spineOn = true → ∃ t, exec (.epochCommit p) s = .next t
    ∧ (∀ q, q ∈ s.writePlanes p.val →
      (s.flag (Fld.MAP_EPOCH_STATUS_CHECKED q) = true → s.committing q = false → t.active q = 1 - s.active q
        ∧ t.get (Fld.MAP_EPOCH_STATUS_CHECKED q) = 0 ∧ (∀ k, k < 3 → t.get (Fld.MAP_EPOCH_FORCED_LINES q k) = 0)
        ∧ (t.plane q).crcActive = s.get (Fld.MAP_EPOCH_CRC_CRC q)
        ∧ (t.committing q = false → t.get (Fld.MAP_EPOCH_STATUS_DONE_EV q) = 1)
        ∧ ((s.planeLines q).any (fun n => s.format n != 0 && !s.lineDozes n) = true → t.committing q = true))
      ∧ ((s.flag (Fld.MAP_EPOCH_STATUS_CHECKED q) = false ∨ s.committing q = true) →
        t.get (Fld.MAP_EPOCH_STATUS_COMMIT_REF_EV q) = 1 ∧ t.active q = s.active q ∧ t.committing q = s.committing q
          ∧ t.plane q = s.plane q))
    ∧ t.tw = (s.planeMark (if s.flag (Fld.MAP_EPOCH_STATUS_CHECKED p.val) && !s.committing p.val then .commit else .write) p.val).tw
    ∧ s.frame t epochRegs [.bar2, .planes, .lines, .tw])
  ∧ (∀ (n : Fin 96) (d : Side) (s : State), ∃ t, exec (.epochSideSwitch n d) s = .next t
    ∧ (∀ q, q ∈ s.runPlanes (halfOf n.val) → t.active q = s.active q
      ∧ (d = .receive → t.rxEpoch q n.val = s.active q) ∧ (d = .transmit → t.txEpoch q n.val = s.active q))
    ∧ s.frame t epochRegs [.bar2, .planes, .lines])
  ∧ (∀ (p : Fin 2) (s : State), ∃ t, exec (.epochCommitForce p) s = .next t
    ∧ (∀ q, q ∈ s.runPlanes p.val → s.committing q = true → t.committing q = false ∧ t.get (Fld.MAP_EPOCH_STATUS_DONE_EV q) = 1
      ∧ t.get (Fld.MAP_EPOCH_STATUS_COMMIT_CNT q) = (s.get (Fld.MAP_EPOCH_STATUS_COMMIT_CNT q) + 1) % 2 ^ 16
      ∧ (∀ n, n < 96 → n ∈ s.planeLines q → (s.plane q).rxDone.testBit n = false →
          (t.get (Fld.MAP_EPOCH_FORCED_LINES q (n / 32))).testBit (n % 32) = true))
    ∧ s.frame t epochRegs [.bar2, .planes, .lines])
  ∧ (∀ (p : Fin 2) (k : Fin 4096) (s : State), ∃ t, exec (.removedQueueEmpty p k) s = .next t
    ∧ (∀ q, q ∈ s.runPlanes p.val → s.committing q = false → (s.plane q).removed.contains k.val = true →
      t.qget q k.val 0x10 = s.qget q k.val 0x0C ∧ (t.flow q k.val).queue = [] ∧ (t.plane q).removed.contains k.val = false)
    ∧ s.bar2Except t (queueRecs k.val) ∧ s.frame t [] [.bar2, .planes])
  ∧ (∀ (p : Fin 2) (s : State), s.berentDuty = true → s.planeRuns p.val = true → s.committing p.val = false →
    ((s.plane p.val).committed = true → s.flag (Fld.CVU_STATUS_DMA_OWNED 15) = false → ∃ t, exec (.epochIntegrityCheck p) s = .next t
      ∧ t.get64 (Reg.CVU_RES_LO 15) = s.epochCrc p.val (s.active p.val) ∧ t.get (Fld.CVU_BYTES_V 15) = 0x200000
      ∧ (s.epochCrc p.val (s.active p.val) = (s.plane p.val).crcActive → s.frame t (cvuSetRegs 15) [.cvu])
      ∧ (s.epochCrc p.val (s.active p.val) ≠ (s.plane p.val).crcActive → t.fcr.due.testBit (36 + 32 * p.val) = true)
      ∧ s.frame t (cvuSetRegs 15) [.cvu, .fcr])
    ∧ ((s.plane p.val).committed = false → ∃ t, exec (.epochIntegrityCheck p) s = .next t ∧ s.frame t [] []))
/-! ## What flows carry -/

/-- R170 to R173, R178 to R182: a client packet that passes its checks is committed to its flow's queue in the room it takes,
one that fails is rewound, one without room is lost to overflow; a destination sends the oldest packet of its queue whole, at
its port in its turn and while the port sends data, and none under SSF; of the GFP frames of a delineated source good client
data is queued, and the delineation follows the core headers. Where the rules leave a point open, the model's choices of log
entries 31, 34, 138 hold. -/
def Obligations.PacketsGoThroughTheirQueues : Prop :=
  (∀ (n : Fin 96) (bs : List Byte) (cut : Bool) (s : State), s.lineOn n.val = true → isEth (s.format n.val) = true → isEsmc bs = false →
    ∃ t, exec (.clientPacketRx n bs cut) s = .next t
    ∧ (∀ q, q ∈ s.runPlanes (halfOf n.val) → ∀ f : Fin 4096, ∀ d : Desc, s.packetFlow q n.val bs = some (f.val, d) → s.queueActive q f.val = true →
      (packetRoom bs.length ≤ bitsOf (s.qget q f.val 0) 13 10 * 2048 →
        (s.qget q f.val 0x0C + 2 ^ 32 - s.qget q f.val 0x10) % 2 ^ 32 + packetRoom bs.length ≤ bitsOf (s.qget q f.val 0) 13 10 * 2048 →
        ((cut = false ∧ fcsGood bs = true ∧ 64 ≤ bs.length ∧ bs.length ≤ 16000 ∧ d.strip = false) →
          (t.flow q f.val).queue = (s.flow q f.val).queue ++ [⟨s.rxEpoch q n.val, bs⟩]
          ∧ t.qget q f.val 0x0C = (s.qget q f.val 0x0C + packetRoom bs.length) % 2 ^ 32
          ∧ t.bar2Num (queueAddr q f.val + 0x18) 8 = (s.bar2Num (queueAddr q f.val + 0x18) 8 + 1) % 2 ^ 48)
        ∧ ((cut = true ∨ fcsGood bs = false) → (t.flow q f.val).queue = (s.flow q f.val).queue ∧ t.qget q f.val 0x0C = s.qget q f.val 0x0C
          ∧ t.bar2Num (queueAddr q f.val + 0x20) 8 = (s.bar2Num (queueAddr q f.val + 0x20) 8 + 1) % 2 ^ 48))
      ∧ (packetRoom bs.length ≤ bitsOf (s.qget q f.val 0) 13 10 * 2048 → d.strip = false →
        bitsOf (s.qget q f.val 0) 13 10 * 2048 < (s.qget q f.val 0x0C + 2 ^ 32 - s.qget q f.val 0x10) % 2 ^ 32 + packetRoom bs.length →
        (t.flow q f.val).queue = (s.flow q f.val).queue ∧ t.qget q f.val 0x0C = s.qget q f.val 0x0C
        ∧ t.bar2Num (queueAddr q f.val + 0x28) 8 = (s.bar2Num (queueAddr q f.val + 0x28) 8 + 1) % 2 ^ 48))
    ∧ s.onlyLine t n.val ∧ s.bar2Except t ((List.range 4096).flatMap queueRecs) ∧ s.frame t [] [.bar2, .planes, .lines])
  ∧ (∀ (p : Fin 2) (f : Fin 4096) (s : State),
    (∃ t, exec (.clientPacketTx p f) s = .next t
      ∧ (∀ q, q ∈ s.runPlanes p.val → ∀ d : Desc, d = s.desc q (s.active q) f.val → s.committing q = false →
        d.isPacket = true → d.dstCt ≠ 0 → d.chg = false → s.flushing q f.val = false → s.lineOn d.dstLine = true →
        s.lineActive d.dstLine = true → ∀ (x : Packet) (l : List Packet), (s.flow q f.val).queue = x :: l →
        (s.flowSsf q f.val = false → d.dstCt ≠ 0x40 → (s.flow q f.val).gfpOut = [] →
          (t.flow q f.val).sent = (gfpFrame (s.flow q f.val).scr 0 d.pfcs 1 x.bytes).1 ∧ (t.flow q f.val).gfpOut = (t.flow q f.val).sent
          ∧ (t.flow q f.val).queue = l ∧ t.qget q f.val 0x10 = (s.qget q f.val 0x10 + packetRoom x.bytes.length) % 2 ^ 32)
        ∧ (s.flowSsf q f.val = false → d.dstCt = 0x40 → s.portSets q d.dstLine = 0 →
          s.portNext q d.dstLine (s.line d.dstLine).portLast = some f.val → (pushTag d x.bytes).length ≤ 16000 →
          (t.flow q f.val).sent = pushTag d x.bytes ∧ (t.flow q f.val).queue = l
          ∧ t.qget q f.val 0x10 = (s.qget q f.val 0x10 + packetRoom x.bytes.length) % 2 ^ 32
          ∧ (s.flag (Fld.LCH_FRB_STATUS_HOLD d.dstLine) = false → (t.line d.dstLine).portTx = portFrame (pushTag d x.bytes)))
        ∧ (s.flowSsf q f.val = true ∨ (d.dstCt = 0x40 ∧ (s.portSets q d.dstLine ≠ 0
            ∨ s.portNext q d.dstLine (s.line d.dstLine).portLast ≠ some f.val)) → t.flow q f.val = s.flow q f.val))
      ∧ (∀ m : Fin 96, { t.line m.val with portLast := 0, portTx := [] } = { s.line m.val with portLast := 0, portTx := [] })
      ∧ s.onlyFlow t f.val ∧ s.bar2Except t (queueRecs f.val ++ stateRecs f.val) ∧ s.frame t [] [.bar2, .planes, .lines])
    ∧ (∀ g : GfpFrame, ∃ t, exec (.gfpFrameRx p f g) s = .next t
      ∧ (∀ q, q ∈ s.runPlanes p.val → (s.rxSide q f.val).1.isPacket = true → (s.rxSide q f.val).1.srcCt ≠ 0x40 →
        (s.rxSide q f.val).1.srcCt ≠ 0x41 → s.inFrame (s.rxSide q f.val).2 = true →
        (t.flow q f.val).gfpDue = gfpNext (s.flow q f.val).gfp g.cHec
        ∧ ((s.flow q f.val).gfp ≠ 2 → (t.flow q f.val).queue = (s.flow q f.val).queue)
        ∧ ((s.flow q f.val).gfp = 2 → g.cHec ≠ .bad → g.pti = 4 → g.upi = 1 → g.tHec ≠ .bad → (t.flow q f.val).csf = true
          ∧ (t.flow q f.val).queue = (s.flow q f.val).queue)
        ∧ ((s.flow q f.val).gfp = 2 → g.cHec ≠ .bad → g.pti = 0 → g.upi = 1 → g.exi = 0 → g.tHec ≠ .bad → g.pfi = false → g.cut = false →
          fcsGood g.client = true → g.client.length ≤ 16000 → s.queueActive q f.val = true →
          packetRoom g.client.length ≤ bitsOf (s.qget q f.val 0) 13 10 * 2048 →
          (s.qget q f.val 0x0C + 2 ^ 32 - s.qget q f.val 0x10) % 2 ^ 32 + packetRoom g.client.length
            ≤ bitsOf (s.qget q f.val 0) 13 10 * 2048 →
          (t.flow q f.val).queue = (s.flow q f.val).queue ++ [⟨s.rxEpoch q (s.rxSide q f.val).2, g.client⟩] ∧ (t.flow q f.val).csf = false)
        ∧ ((s.flow q f.val).gfp = 2 → g.cHec ≠ .bad → (g.pti ≠ 0 ∧ g.pti ≠ 4) → (t.flow q f.val).gfpDisc = (s.flow q f.val).gfpDisc + 1))
      ∧ s.onlyFlow t f.val ∧ s.bar2Except t (queueRecs f.val) ∧ s.frame t [] [.bar2, .planes])
    ∧ (∃ t, exec (.gfpDelineationChange p f) s = .next t
      ∧ (∀ q, q ∈ s.runPlanes p.val →
        (∀ k, (s.flow q f.val).gfpDue = some k → (t.flow q f.val).gfp = k ∧ t.fget q f.val FS.rxSt = k % 256 ∧ (t.flow q f.val).gfpDue = none)
        ∧ ((s.flow q f.val).gfpDue = none → t.flow q f.val = s.flow q f.val))
      ∧ s.onlyFlow t f.val ∧ s.bar2Except t (stateRecs f.val) ∧ s.frame t [] [.bar2, .planes]))

/-- R155, R161, R162, R166, R167, R194, R208: the interpreter follows the received pointers, takes the state its counts call
for, and the container bytes of a circuit flow reach every destination that takes them; a generator adjusts by the staging
fill, at most every fourth frame, sends all ones under SSF and a free position while it waits; a Mehrax GMP sink takes C8 from
a good control word and after three bad ones delivers nothing, a GMP source sends C8 bytes that leave 16 to 48 in its store.
Where the rules leave a point open, the model's choices of log entries 31, 134, 135 hold. -/
def Obligations.CircuitFlowsFollowPointersAndGmp : Prop :=
  (∀ (p : Fin 2) (f : Fin 65536) (s : State),
    (∃ t, exec (.pointerRx p f) s = .next t
      ∧ (∀ q, q ∈ s.runPlanes p.val → ∀ z : Desc × Nat, z = s.rxSide q f.val → z.1.valid = true → isVc z.1.srcCt = true →
        isStm (s.format z.2) = true → isLower (s.format z.2) z.1.srcCt (s.srcPosOf q z.1) = false → s.inFrame z.2 = true →
        (s.ohp z.2).frames ≠ (s.flow q f.val).seen → ∀ fr : List Byte, (s.ohp z.2).rx = some (.sdh fr) →
        ∀ w : List Nat × List Byte, w = auPtrs (stmN (s.format z.2)) (s.srcPosOf q z.1 % 128 - 1) (auWidth z.1.srcCt) fr →
        (t.flow q f.val).ptr = (s.flow q f.val).ptr.take (ptrDims z.1.srcCt).mx (w.1.headD 0)
        ∧ t.fget q f.val FS.rxPtr = (t.flow q f.val).ptr.val % 2 ^ 16 ∧ (t.flow q f.val).seen = (s.ohp z.2).frames
        ∧ (w.1.headD 0 = 0xFFFF → (s.flow q f.val).ptr.st ≠ 1 → 2 ≤ (s.flow q f.val).ptr.ais → (t.flow q f.val).ptr.due = some 1)
        ∧ (ndfNormal (w.1.headD 0) = true → w.1.headD 0 ≠ 0xFFFF → (s.flow q f.val).ptr.st = 0 →
            w.1.headD 0 % 1024 ≠ (s.flow q f.val).ptr.val → w.1.headD 0 % 1024 ≤ (ptrDims z.1.srcCt).mx →
            (s.flow q f.val).ptr.eqVal = w.1.headD 0 % 1024 → 2 ≤ (s.flow q f.val).ptr.eqRun →
            (t.flow q f.val).ptr.val = w.1.headD 0 % 1024)
        ∧ (z.1.struct = false → z.1.isPacket = false → (s.flow q f.val).st = 0 → ∀ x, x ∈ s.flowDests q f.val →
            s.takesAt q f.val (s.unitTag q f.val) x.line = true → (t.gen q f.val x.k).stage
              = (s.gen q f.val x.k).stage ++ (ptrBytes (ptrDims z.1.srcCt) (t.flow q f.val).ptr w.2
                  (auPay (stmN (s.format z.2)) (s.srcPosOf q z.1 % 128 - 1) (auWidth z.1.srcCt) (sdhPay (stmN (s.format z.2)) fr))).1))
      ∧ s.onlyFlow t f.val ∧ s.bar2Except t (stateRecs f.val) ∧ s.frame t [] [.bar2, .planes])
    ∧ (∃ t, exec (.pointerStateChange p f) s = .next t
      ∧ (∀ q, q ∈ s.runPlanes p.val →
        ((s.flow q f.val).ptr.due.isSome = true ∨ (s.flow q f.val).conc.any (fun c => c.due.isSome) = true →
          (t.flow q f.val).ptr = (s.flow q f.val).ptr.move ∧ (t.flow q f.val).conc = (s.flow q f.val).conc.map PtrCtx.move
          ∧ (t.flow q f.val).st = ptrState (s.flow q f.val).ptr.move ((s.flow q f.val).conc.map PtrCtx.move)
          ∧ ((t.flow q f.val).st ≠ (s.flow q f.val).st →
              ((s.rxSide q f.val).1.isPacket = false → t.fget q f.val FS.rxSt = (t.flow q f.val).st % 256)
              ∧ ((t.flow q f.val).st = 0 → (t.flow q f.val).gens.all (fun g => g.newPtr) = true)))
        ∧ ((s.flow q f.val).ptr.due = none → (s.flow q f.val).conc.all (fun c => c.due.isNone) = true → t.flow q f.val = s.flow q f.val))
      ∧ s.onlyFlow t f.val ∧ s.bar2Except t (stateRecs f.val) ∧ s.frame t [] [.bar2, .planes])
    ∧ (∃ t, exec (.pointerGenerate p f) s = .next t
      ∧ (∀ q, q ∈ s.runPlanes p.val → ∀ x, x ∈ s.flowDests q f.val → ∀ m : PtrDims, m = ptrDims x.d.dstCt →
        ∀ g : Gen, g = s.gen q f.val x.k → isVc x.d.dstCt = true → x.d.isPacket = false → x.d.struct = false → s.lineOn x.line = true →
        s.lineActive x.line = true → isStm (s.format x.line) = true → isLower (s.format x.line) x.d.dstCt x.pos = false →
        (g.ready = true → t.gen q f.val x.k = g)
        ∧ (g.ready = false → s.waits q x = true → (t.gen q f.val x.k).ptrTx = ptrWord false ((m.len - m.ref) / m.unit)
          ∧ (t.gen q f.val x.k).st = 2 ∧ (t.gen q f.val x.k).out.all (· == 0) = true)
        ∧ (g.ready = false → s.waits q x = false → s.flowSsf q f.val = true → (t.gen q f.val x.k).ptrTx = 0xFFFF
          ∧ (t.gen q f.val x.k).out.all (· == 0xFF) = true)
        ∧ (g.ready = false → s.waits q x = false → s.flowSsf q f.val = false →
          (g.st ≠ 1 ∨ g.newPtr = true → m.len + m.unit ≤ g.stage.length → (t.gen q f.val x.k).ptrTx = ptrWord true (t.gen q f.val x.k).val
            ∧ (t.gen q f.val x.k).st = 1 ∧ (t.gen q f.val x.k).newPtr = false)
          ∧ (g.st = 1 → g.newPtr = false → m.len ≤ g.stage.length + m.unit → ∀ v,
            v = (g.ahead + g.stage.length + 2 * m.len - m.ref) % m.len / m.unit →
            (4 ≤ g.sinceAdj → 2 * g.stage.length < 2 * m.len + m.unit → (t.gen q f.val x.k).ptrTx = ptrWord false (v ^^^ 0x2AA)
              ∧ (t.gen q f.val x.k).val = (v + 1) % (m.mx + 1) ∧ (t.gen q f.val x.k).stage = g.stage.drop (m.len - m.unit))
            ∧ (4 ≤ g.sinceAdj → 2 * m.len + 3 * m.unit < 2 * g.stage.length → (t.gen q f.val x.k).ptrTx = ptrWord false (v ^^^ 0x155)
              ∧ (t.gen q f.val x.k).val = (v + m.mx) % (m.mx + 1) ∧ (t.gen q f.val x.k).stage = g.stage.drop (m.len + m.unit))
            ∧ (g.sinceAdj < 4 → (t.gen q f.val x.k).ptrTx = ptrWord false v ∧ (t.gen q f.val x.k).val = v
              ∧ (t.gen q f.val x.k).stage = g.stage.drop m.len))))
      ∧ s.bar2Except t [tableSpace] ∧ s.frame t [] [.bar2, .planes, .fresh])
    ∧ (∃ t, exec (.gmpControlWordRx p f) s = .next t
      ∧ (∀ q, q ∈ s.runPlanes p.val → ∀ z : Desc × Nat, z = s.rxSide q f.val → z.1.valid = true → z.1.srcCt ≠ 0x30 →
        isMxf (s.format z.2) = true → isLower (s.format z.2) z.1.srcCt z.1.srcPos = false → s.inFrame z.2 = true →
        ∀ g : List Word64 × Bool × Nat × Bool, g = s.groupIn q z.2 z.1 → g.2.2.1 ≠ (s.flow q f.val).seen →
        ∀ k : Nat, k = maskSlots (s.srcPosOf q z.1) → ∀ bs : List Byte, bs = g.1.flatMap wordBytes → bs.length = gmpP k + 8 →
        (t.flow q f.val).seen = g.2.2.1
        ∧ (g.2.1 = true → (t.flow q f.val).client = [] ∧ (t.flow q f.val).c8 = (s.flow q f.val).c8)
        ∧ (g.2.1 = false → crc8Of (bs.take 7) = byteAt bs 7 → beNat (bs.take 2) ≤ gmpP k →
          (t.flow q f.val).c8 = beNat (bs.take 2) ∧ (t.flow q f.val).cwRun = 0 ∧ (t.flow q f.val).st = 0
          ∧ (t.flow q f.val).client = gmpTake (gmpP k) (beNat (bs.take 2)) 1 (bs.drop 8))
        ∧ (g.2.1 = false → crc8Of (bs.take 7) ≠ byteAt bs 7 → (t.flow q f.val).cwRun = (s.flow q f.val).cwRun + 1
          ∧ (t.flow q f.val).cwErrs = (s.flow q f.val).cwErrs + 1 ∧ (t.flow q f.val).c8 = (s.flow q f.val).c8))
      ∧ s.bar2Except t (stateRecs f.val ++ flowRecs f.val) ∧ s.frame t [] [.bar2, .planes])
    ∧ (∃ t, exec (.gmpLossOfSync p f) s = .next t
      ∧ (∀ q, q ∈ s.runPlanes p.val → (3 ≤ (s.flow q f.val).cwRun → (t.flow q f.val).st = 1 ∧ (t.flow q f.val).client = [])
        ∧ ((s.flow q f.val).cwRun < 3 → t.flow q f.val = s.flow q f.val))
      ∧ s.onlyFlow t f.val ∧ s.bar2Except t (stateRecs f.val) ∧ s.frame t [] [.bar2, .planes])
    ∧ (∃ t, exec (.mehraxGmpTx p f) s = .next t
      ∧ (∀ q, q ∈ s.runPlanes p.val → ∀ x, x ∈ s.flowDests q f.val → ∀ g : Gen, g = s.gen q f.val x.k → x.d.dstCt ≠ 0x30 →
        x.d.dstCt ≠ 0x40 → isMxf (s.format x.line) = true → isLower (s.format x.line) x.d.dstCt x.pos = false → s.lineOn x.line = true →
        s.lineActive x.line = true → x.d.isPacket = false → x.d.struct = false → g.ready = false →
        (s.waits q x = true → (t.gen q f.val x.k).out.all (· == 0) = true ∧ (t.gen q f.val x.k).st = 2)
        ∧ (s.waits q x = false → s.flowSsf q f.val = true → (t.gen q f.val x.k).out.all (· == 0xFF) = true)
        ∧ (s.waits q x = false → s.flowSsf q f.val = false → 64 ≤ g.stage.length → g.stage.length ≤ gmpP (maskSlots x.pos) →
          16 ≤ (t.gen q f.val x.k).stage.length ∧ (t.gen q f.val x.k).stage.length ≤ 48
          ∧ (t.gen q f.val x.k).stage = g.stage.drop (g.stage.length - (t.gen q f.val x.k).stage.length)
          ∧ beNat ((t.gen q f.val x.k).out.take 2) = (g.stage.length - (t.gen q f.val x.k).stage.length) % 2 ^ 16
          ∧ (t.gen q f.val x.k).out.length = gmpP (maskSlots x.pos) + 8))
      ∧ s.bar2Except t [tableSpace] ∧ s.frame t [] [.bar2, .planes, .fresh]))
/-! ## Defects, failures and performance -/

/-- R201, R202, R204 to R206, R211, R228: at a frame boundary every integrator follows its criterion, from the first
observation on; a defect is raised or cleared where its criterion of Table 7.1 or 7.2 is met, and only there; a failure is
declared after 2.5 s of an unmasked defect and cleared after 10 s without it; a packet destination under SSF sends client
signal fail. -/
def Obligations.DefectsAndFailuresFollowCriteria : Prop :=
  (∀ (n : Fin 96) (dt : Nat) (s : State), s.lineOn n.val = true → s.format n.val ≠ 0 →
    ∃ t, exec (.defectEvaluate (.line n) dt) s = .next t
    ∧ (∀ b up down, b < 20 → measureOf (s.format n.val) b = .time up down →
      (s.lineRaw n.val b = some true → (t.line n.val).dpm.on.getD b 0
          = (if (s.line n.val).dpm.on.getD b 0 = 0 then 1 else (s.line n.val).dpm.on.getD b 0 + dt)
        ∧ (t.line n.val).dpm.off.getD b 0 = 0)
      ∧ (s.lineRaw n.val b = some false → (t.line n.val).dpm.off.getD b 0
          = (if (s.line n.val).dpm.off.getD b 0 = 0 then 1 else (s.line n.val).dpm.off.getD b 0 + dt)
        ∧ (t.line n.val).dpm.on.getD b 0 = 0))
    ∧ (∀ b up down, b < 20 → measureOf (s.format n.val) b = .frames up down → s.lineRaw n.val b = some true →
      (t.line n.val).dpm.on.getD b 0 = (s.line n.val).dpm.on.getD b 0 + b2n (s.ohp n.val).fresh)
    ∧ (∀ b, b < 20 → (t.line n.val).dpm.gone.getD b 0 = (if s.lineDef n.val b then 0 else (s.line n.val).dpm.gone.getD b 0 + dt)
      ∧ (t.line n.val).dpm.here.getD b 0
        = (if s.unmasked n.val b && !(b == 0 && s.lineAdmin n.val) then (s.line n.val).dpm.here.getD b 0 + dt else 0))
    ∧ (t.ohp n.val).fresh = false ∧ s.onlyLine t n.val ∧ s.bar2Except t (lineRecs n.val)
    ∧ s.frame t protRegs [.lines, .bar2, .prtRec, .planes])
  ∧ (∀ (p : Fin 2) (f : Fin 65536) (x : PathFrame) (dt : Nat) (s : State), ∃ t, exec (.defectEvaluate (.flow p f x) dt) s = .next t
    ∧ (∀ q, q ∈ s.runPlanes p.val → ∀ z : Desc × Nat, s.flowSource q f.val = some z → ∀ b up down, b < 15 → b ≠ 8 →
      flowMeasure (s.format z.2) z.1 b = .time up down →
      (s.flowRaw q f.val z.1 z.2 x b = true → (t.flow q f.val).on.getD b 0
          = (if (s.flow q f.val).on.getD b 0 = 0 then 1 else (s.flow q f.val).on.getD b 0 + dt))
      ∧ (s.flowRaw q f.val z.1 z.2 x b = false → (t.flow q f.val).on.getD b 0 = 0))
    ∧ s.onlyFlow t f.val ∧ s.bar2Except t ([0, 1].map (fun q => (flowRec q f.val, 96))) ∧ s.frame t [] [.bar2, .planes])
  ∧ (∀ (n : Fin 96) (b : Fin 20) (s : State), s.lineOn n.val = true →
    (∃ t, exec (.defectRaise (.line n b)) s = .next t
      ∧ (s.lineUp n.val b.val = true → t.lineDef n.val b.val = true)
      ∧ (s.lineDef n.val b.val = false → s.lineUp n.val b.val = true → (t.get (Fld.LCH_DPM_DEF_EV_RISE n.val)).testBit b.val = true)
      ∧ (s.lineUp n.val b.val = false → t.lineDef n.val b.val = s.lineDef n.val b.val)
      ∧ (∀ k, k < 20 → k ≠ b.val → t.lineDef n.val k = s.lineDef n.val k)
      ∧ s.frame t ([Reg.LCH_DPM_DEF n.val, Reg.LCH_DPM_DEF_EV n.val] ++ protRegs ++ timingRegs) [.prtRec, .planes, .tmg, .fresh])
    ∧ (∃ t, exec (.defectClear (.line n b)) s = .next t
      ∧ (s.lineDown n.val b.val = true → t.lineDef n.val b.val = false)
      ∧ (s.lineDown n.val b.val = false → t.lineDef n.val b.val = s.lineDef n.val b.val)
      ∧ (∀ k, k < 20 → k ≠ b.val → t.lineDef n.val k = s.lineDef n.val k)
      ∧ s.frame t (Reg.LCH_DPM_DEF n.val :: protRegs ++ timingRegs) [.prtRec, .planes, .tmg, .fresh])
    ∧ (∃ t, exec (.failureDeclare (.line n b)) s = .next t
      ∧ (∀ k, k < 20 → (t.get (Fld.LCH_DPM_FAIL_FAIL n.val)).testBit k = ((s.get (Fld.LCH_DPM_FAIL_FAIL n.val)).testBit k
          || (decide (k = b.val) && s.unmasked n.val k && decide (2500000000 ≤ (s.line n.val).dpm.here.getD k 0)
              && !(k == 0 && s.lineAdmin n.val))))
      ∧ s.frame t [Reg.LCH_DPM_FAIL n.val] [])
    ∧ (∃ t, exec (.failureClear (.line n b)) s = .next t
      ∧ (∀ k, k < 20 → (t.get (Fld.LCH_DPM_FAIL_FAIL n.val)).testBit k = ((s.get (Fld.LCH_DPM_FAIL_FAIL n.val)).testBit k
          && !(decide (k = b.val) && !s.lineDef n.val k && decide (10000000000 ≤ (s.line n.val).dpm.gone.getD k 0))))
      ∧ s.frame t [Reg.LCH_DPM_FAIL n.val] [])
    ∧ (∀ (i : Fin 6) (k : Fin 7), isOtu (s.format n.val) = true → tcmMode (s.ohp n.val).tcmRx i.val ≠ 0 →
      (s.tcmUp n.val i.val k.val = true → ∃ t, exec (.defectRaise (.tcm n i k)) s = .next t
        ∧ (t.line n.val).dpm.tcmDef.testBit (7 * i.val + k.val) = true
        ∧ t.get (Fld.LCH_DPM_TCM_DEF_TCM n.val) = tcmWord (t.line n.val).dpm.tcmDef % 2 ^ 30
        ∧ s.onlyLine t n.val ∧ s.frame t [Reg.LCH_DPM_TCM_DEF n.val] [.lines])
      ∧ (s.tcmDown n.val i.val k.val = true → (s.line n.val).dpm.tcmDef.testBit (7 * i.val + k.val) = true →
        ∃ t, exec (.defectClear (.tcm n i k)) s = .next t ∧ (t.line n.val).dpm.tcmDef.testBit (7 * i.val + k.val) = false
        ∧ s.onlyLine t n.val ∧ s.frame t [Reg.LCH_DPM_TCM_DEF n.val] [.lines])))
  ∧ (∀ (p : Fin 2) (f : Fin 65536) (b : Fin 15) (s : State), b ≠ 0 →
    (∃ t, exec (.defectRaise (.flow p f b)) s = .next t
      ∧ (∀ q, q ∈ s.runPlanes p.val → t.flowDef q f.val b.val = (s.flowDef q f.val b.val || s.flowUp q f.val b.val)
        ∧ (s.flowDef q f.val b.val = false → s.flowUp q f.val b.val = true → f.val < 32768 →
            (t.get (Fld.DPM_FLOW_SUM0_GRP q)).testBit (f.val / 1024) = true)
        ∧ (s.flowDef q f.val b.val = false → s.flowUp q f.val b.val = true → 32768 ≤ f.val →
            (t.get (Fld.DPM_FLOW_SUM1_GRP q)).testBit (f.val / 1024 - 32) = true))
      ∧ s.bar2Except t ([0, 1].map (fun q => (flowPmWord q f.val, 4)))
      ∧ s.frame t ([0, 1].flatMap (fun q => [Reg.DPM_FLOW_SUM0 q, Reg.DPM_FLOW_SUM1 q])) [.bar2])
    ∧ (∃ t, exec (.defectClear (.flow p f b)) s = .next t
      ∧ (∀ q, q ∈ s.runPlanes p.val → t.flowDef q f.val b.val = (s.flowDef q f.val b.val && !s.flowDown q f.val b.val))
      ∧ s.bar2Except t ([0, 1].map (fun q => (flowPmWord q f.val, 4)))
      ∧ s.frame t ([0, 1].flatMap (fun q => [Reg.DPM_FLOW_SUM0 q, Reg.DPM_FLOW_SUM1 q])) [.bar2])
    ∧ (∃ t, exec (.failureDeclare (.flow p f b)) s = .next t
      ∧ (∀ q, q ∈ s.runPlanes p.val → (t.flow q f.val).fail.testBit b.val = ((s.flow q f.val).fail.testBit b.val
          || (s.flowDef q f.val b.val && decide (2500000000 ≤ (s.flow q f.val).here.getD b.val 0))))
      ∧ s.onlyFlow t f.val ∧ s.frame t [] [.planes])
    ∧ (∃ t, exec (.failureClear (.flow p f b)) s = .next t
      ∧ (∀ q, q ∈ s.runPlanes p.val → (t.flow q f.val).fail.testBit b.val = ((s.flow q f.val).fail.testBit b.val
          && !(!s.flowDef q f.val b.val && decide (10000000000 ≤ (s.flow q f.val).gone.getD b.val 0))))
      ∧ s.onlyFlow t f.val ∧ s.frame t [] [.planes]))
  ∧ (∀ (p : Fin 2) (f : Fin 4096) (s : State),
    (∃ t, exec (.dcsfTimeout p f) s = .next t
      ∧ (∀ q, q ∈ s.runPlanes p.val → (t.flow q f.val).csf = false ∧ t.flowDef q f.val 13 = false)
      ∧ s.onlyFlow t f.val ∧ s.bar2Except t ([0, 1].map (fun q => (flowPmWord q f.val, 4)))
      ∧ s.frame t ([0, 1].flatMap (fun q => [Reg.DPM_FLOW_SUM0 q, Reg.DPM_FLOW_SUM1 q])) [.bar2, .planes])
    ∧ (∃ t, exec (.csfSend p f) s = .next t
      ∧ (∀ q, q ∈ s.runPlanes p.val → ∀ x : Dest, s.packetDest q f.val = some x → x.d.isPacket = true → x.d.dstCt ≠ 0x40 →
        s.lineOn x.line = true → s.lineActive x.line = true →
        (s.flowSsf q f.val = true → (t.flow q f.val).sent
          = (gfpFrame (s.flow q f.val).scr 4 false (if s.lineDef (s.srcLineOf q x.d) 0 then 1 else 2) []).1
          ∧ (t.flow q f.val).gfpOut = (s.flow q f.val).gfpOut
              ++ (gfpFrame (s.flow q f.val).scr 4 false (if s.lineDef (s.srcLineOf q x.d) 0 then 1 else 2) []).1)
        ∧ (s.flowSsf q f.val = false → t.flow q f.val = s.flow q f.val))
      ∧ s.onlyFlow t f.val ∧ s.frame t [] [.planes]))

/-- R215, R220 to R224, R226, R227, R320, R321, R387, R431: a rollover of the seconds moves the time-keeper and changes the
parity of every plane that runs, whose Hens start a pass unless the last still runs, and counts down WTR_LEFT of groups and
candidates where it runs (log entry 6) and ticks the aligned DMA timers (R431); a capture latches the time, a step moves it
and marks the bins suspect; a final bin is exported into the host's ring, a TCA record forwarded as an event. Where the rules
leave a point open, the model's choices of log entries 44, 147 hold. -/
def Obligations.SecondsPassesAndExports : Prop :=
  (∀ (s : State), s.tk.running = true → ∃ t, exec .tkSecondRollover s = .next t
    ∧ t.tk.sec = (s.tk.sec + 1) % 2 ^ 48 ∧ t.tk.ns = 0
    ∧ (∀ q, q < 2 → s.spineOn = true → s.planeRuns q = true → (s.twin = false ∨ 3 ≤ s.planeState q) →
      (t.plane q).parity = 1 - (s.plane q).parity
      ∧ (s.get (Fld.DPM_PM_SEQ_SEQ q) % 2 = 0 → t.get (Fld.DPM_PM_SEQ_SEQ q) = (s.get (Fld.DPM_PM_SEQ_SEQ q) + 1) % 2 ^ 32
        ∧ ((s.plane q).stale.testBit (s.plane q).parity = true → t.get (Fld.DPM_PM_STATUS_OVERRUN_EV q) = 1)
        ∧ (t.plane q).int15 = max (s.plane q).int15 (s.tk.sec / 900))
      ∧ (s.get (Fld.DPM_PM_SEQ_SEQ q) % 2 = 1 → t.get (Fld.DPM_PM_SEQ_SEQ q) = s.get (Fld.DPM_PM_SEQ_SEQ q)
        ∧ (t.plane q).stale.testBit (s.plane q).parity = true))
    ∧ (∀ q g, q < 2 → g < 48 → s.planeRuns q = true → t.lgGet q g LG.wtrLeft = s.lgGet q g LG.wtrLeft - s.lgGet q g LG.wtrRun)
    ∧ s.recExcept t (((List.range 96).filter (fun i => s.lgGet (i / 48) (i % 48) LG.wtrRun == 1)).map
      (fun i => (lgAddr (i / 48) (i % 48) + 16, 2)))
    ∧ (∀ c, c < 24 → s.get (Fld.TMG_CAND_STATUS_STATE c) = 1 → s.spineOn = true →
      t.get (Fld.TMG_CAND_STATUS_WTR_LEFT c) = s.get (Fld.TMG_CAND_STATUS_WTR_LEFT c) - 1)
    ∧ ((∀ i, i < 8 → s.dma.align.getD i false = false) → t.dma = s.dma)
    ∧ (∀ c, c < 16 → (s.dma.align.getD (s.get (Fld.DMA_CH_CFG_TMR c)) false = true ∧ s.flag (Fld.DMA_TMR_CFG_EN (s.get (Fld.DMA_CH_CFG_TMR c))) = true
        ∧ s.spineOn = true ∧ s.hostWrites = true ∧ s.get (Fld.DMA_CH_CFG_TRIG c) = 1 ∧ s.flag (Fld.DMA_CH_CFG_EN c) = true
        ∧ s.get (Fld.DMA_CH_STATUS_STATE c) ≠ 2 ∧ (s.dmaOf c).run = none ∧ s.flag (Fld.DMA_CH_CFG_CVU_EN c) = false) → s.dmaStarted t c)
    ∧ s.frame t (pmRegs ++ (List.range 24).map Reg.TMG_CAND_STATUS ++ (List.range 16).flatMap dmaRegs)
        [.tk, .tw, .bar2, .planes, .lines, .prtRec, .dma, .fcr])
  ∧ (∀ (p : Fin 2) (us : Nat) (s : State), s.planeRuns p.val = true →
    (s.get (Fld.DPM_PM_SEQ_SEQ p.val) % 2 = 1 → ∃ t, exec (.henPassEnd p us) s = .next t
      ∧ t.get (Fld.DPM_PM_SEQ_SEQ p.val) % 2 = 0 ∧ t.get (Fld.DPM_PM_STATUS_PASS_US p.val) = min us 65535
      ∧ s.frame t [Reg.DPM_PM_SEQ p.val, Reg.DPM_PM_STATUS p.val] [])
    ∧ (s.get (Fld.DPM_PM_SEQ_SEQ p.val) % 2 = 0 → ∃ t, exec (.henPassEnd p us) s = .next t ∧ s.frame t [] []))
  ∧ (∀ (s : State), s.spineOn = true →
    (∃ t, exec .tkCapture s = .next t ∧ t.get Fld.AON_TK_CAP_NS_CAP = s.tk.ns % 2 ^ 32 ∧ t.get Fld.AON_TK_CAP_S_LO_CAP = s.tk.sec % 2 ^ 32
      ∧ t.get Fld.AON_TK_CAP_S_HI_CAP = s.tk.sec / 2 ^ 32 % 2 ^ 16
      ∧ s.frame t [Reg.AON_TK_CAP_NS, Reg.AON_TK_CAP_S_LO, Reg.AON_TK_CAP_S_HI] [])
    ∧ ((signedOf 32 (s.get Fld.AON_TK_STEP_NS_STEP)).natAbs < 1000000000 → ∃ t, exec .tkStep s = .next t
      ∧ ((t.tk.sec : Int) * 1000000000 + t.tk.ns) % (2 ^ 48 * 1000000000)
          = (((s.tk.sec : Int) + signedOf 32 (s.get Fld.AON_TK_STEP_S_STEP)) * 1000000000 + s.tk.ns
              + signedOf 32 (s.get Fld.AON_TK_STEP_NS_STEP)) % (2 ^ 48 * 1000000000)
      ∧ t.tk.ns < 1000000000 ∧ t.get Fld.AON_TK_CTL_TK_STEP_EV = 1
      ∧ (∀ q, q < 2 → s.planeRuns q = true → t.get (Fld.DPM_PM_STATUS_TSTEP_EV q) = 1)
      ∧ s.frame t (Reg.AON_TK_CTL :: pmRegs ++ (List.range 16).flatMap dmaRegs) [.tk, .tw, .bar2, .planes, .lines, .dma, .fcr])
    ∧ (1000000000 ≤ (signedOf 32 (s.get Fld.AON_TK_STEP_NS_STEP)).natAbs → ∃ t, exec .tkStep s = .next t ∧ s.frame t [] []))
  ∧ (∀ (p : Fin 2) (x : PmSource) (day : Bool) (a i l : Nat) (b : Nat × Nat) (s : State), pmItem p.val x = (a, i, l) →
    s.berentService = true → s.halfOn p.val = true → s.mbx.pmx = some b → 0 < (if day then (s.plane p.val).int24 else (s.plane p.val).int15) →
    (s.flag Fld.MGMT_FW_STATE_OVERLOAD = false → s.pmxRoom = true → s.binBit a day true false = false →
      s.pmxLast (2 * a + b2n day) ≤ s.intervalStart p.val day true → ∃ t, exec (.pmExport p x day false) s = .next t
      ∧ t.get Fld.MBX_PMX_WR_V = (s.get Fld.MBX_PMX_WR_V + 1) % 2 ^ 32
      ∧ t.host = Sparse.setList zeroDefault s.host (b.1 + s.get Fld.MBX_PMX_WR_V * 64 % b.2)
          ((leBytes 2 i ++ leBytes 1 (l + 4 * b2n day + 8 * p.val) ++ leBytes 1 0 ++ leBytes 4 (s.intervalStart p.val day true)
            ++ leBytes 4 (s.get Fld.MBX_PMX_WR_V) ++ leBytes 4 0
            ++ s.bar2Bytes (a + binOfs day true) (if day then 24 else 16) ++ List.replicate 64 0).take 64)
      ∧ s.frame t [Reg.MBX_PMX_WR] [.host, .mbx])
    ∧ ((if day then 86400 else 900) ≤ s.intervalStart p.val day true →
      s.pmxLast (2 * a + b2n day) ≤ s.intervalStart p.val day true - (if day then 86400 else 900) → ∃ t, exec (.pmExport p x day true) s = .next t
      ∧ t.get Fld.MBX_PMX_LOST_V = (s.get Fld.MBX_PMX_LOST_V + 1) % 2 ^ 32 ∧ t.get Fld.MBX_STATUS_PMX_LOST_EV = 1
      ∧ s.frame t (Reg.MBX_PMX_LOST :: eventRegs) [.host, .mbx, .irq]))
  ∧ (∀ (p : Fin 2) (s : State), s.berentService = true → s.mbx.tcaFwd = true → s.halfOn p.val = true →
    (s.get (Fld.DPM_TCA_RD_RD p.val) ≠ s.get (Fld.DPM_TCA_WR_WR p.val) → ∃ t, exec (.tcaForward p) s = .next t
      ∧ (∀ q, q ∈ s.writePlanes p.val → t.get (Fld.DPM_TCA_RD_RD q) = (s.get (Fld.DPM_TCA_RD_RD q) + 1) % 2 ^ 32)
      ∧ t.mbx.evSeq % 2 ^ 32 ≠ s.mbx.evSeq % 2 ^ 32
      ∧ (∀ q : Nat × Nat, s.mbx.evq = some q → s.mbx.evWait = [] → s.mbx.evLost = 0 → s.evqRoom = true →
          t.host = Sparse.setList zeroDefault s.host (q.1 + s.get Fld.MBX_EVQ_WR_V * 64 % q.2)
            ((⟨0x0020, 0, s.mbx.evSeq % 2 ^ 32, s.tk.ns, s.tk.sec % 2 ^ 32,
              s.bar2Bytes (pmBase p.val + 0x660000 + s.get (Fld.DPM_TCA_RD_RD p.val) % 4096 * 16) 16 ++ leBytes 1 p.val⟩ : EventRec).bytes))
      ∧ s.marked t p.val ∧ s.frame t (Reg.DPM_TCA_RD 0 :: Reg.DPM_TCA_RD 1 :: eventRegs) [.host, .mbx, .irq, .tw])
    ∧ (s.get (Fld.DPM_TCA_RD_RD p.val) = s.get (Fld.DPM_TCA_WR_WR p.val) → ∃ t, exec (.tcaForward p) s = .next t ∧ s.frame t [] []))
  ∧ (∀ (p : Fin 2) (s : State), (s.berentService = false ∨ s.mbx.tcaFwd = false) → ∃ t, exec (.tcaForward p) s = .next t ∧ s.frame t [] [])

/-! ## Protection -/

/-- R234 to R238, R241, R242, R259: an external command of a line group takes effect unless it ranks below the one in force;
an APS value seen in 3 frames on P is accepted; a failed working member that outlasts the hold-off moves the selector to P,
and WTR back to W; a partner violation is recorded once per episode; the record window reads and writes the groups' fields. -/
def Obligations.LineGroupsSelectAndReport : Prop :=
  (∀ (p : Fin 2) (g : Fin 48) (s : State), s.spineOn = true →
    ∀ c : Nat × Instr, c ∈ [(0, .lgCmdClear p g), (1, .lgCmdLockout p g), (2, .lgCmdForcedSwitch p g), (3, .lgCmdManualP p g),
      (4, .lgCmdExercise p g), (5, .lgCmdManualW p g)] → ∃ t, exec c.2 s = .next t
    ∧ (∀ q, q ∈ s.writePlanes p.val → s.lgExists q g.val = true → t.lgGet q g.val LG.extCmd
        = (if c.1 = 0 ∨ extRank c.1 ≤ extRank (s.lgGet q g.val LG.extCmd) then c.1 else s.lgGet q g.val LG.extCmd))
    ∧ s.recExcept t ([0, 1].map (fun q => (lgAddr q g.val + 8, 4))) ∧ s.marked t p.val ∧ s.frame t [] [.prtRec, .tw])
  ∧ (∀ (n : Fin 96) (s : State), s.lineOn n.val = true →
    (3 ≤ (s.ohp n.val).aps.2 → ∃ t, exec (.apsAccept n) s = .next t
      ∧ (∀ q, q ∈ s.runPlanes (halfOf n.val) → ∀ g : Fin 48, ∀ r : ApsReq, s.lgExists q g.val = true → s.lgGet q g.val LG.pLine = n.val →
        s.lgGet q g.val LG.apsEn = 1 → s.memberSf n.val = false → ∀ a : ApsIn, s.apsIn q g.val (s.ohp n.val).aps.1 = a →
        reqOf (s.lgGet q g.val LG.scheme == 1) a.code a.chan = some r →
        ((a.chan ≤ 1 ∧ a.bridge ≤ 1 ∧ a.arch = true ∧ a.mode = true) → (t.lg q g.val).rx = some (r, a.bridge)
          ∧ t.lgGet q g.val LG.rxReq = a.code % 16 ∧ (t.lg q g.val).refused = none)
        ∧ (a.arch = false → (t.lg q g.val).rx = (s.lg q g.val).rx ∧ (t.lg q g.val).refused = some ((s.ohp n.val).aps.1, true)))
      ∧ s.recExcept t ((List.range 48).flatMap lgRecs) ∧ s.frame t protRegs [.prtRec, .planes])
    ∧ ((s.ohp n.val).aps.2 < 3 → ∃ t, exec (.apsAccept n) s = .next t ∧ s.frame t [] []))
  ∧ (∀ (p : Fin 2) (g : Fin 48) (s : State),
    (∃ t, exec (.protHoldoffExpiry p g 0) s = .next t
      ∧ (∀ q, q ∈ s.runPlanes p.val → s.lgExists q g.val = true →
        (s.memberSf (s.lgGet q g.val LG.wLine) = true → t.lgGet q g.val LG.sfW = 1)
        ∧ (s.memberSf (s.lgGet q g.val LG.wLine) = true → s.memberSf (s.lgGet q g.val LG.pLine) = false → s.lgGet q g.val LG.extCmd = 0 →
          s.lgGet q g.val LG.arch = 0 → s.lgGet q g.val LG.bidir = 0 → t.lgGet q g.val LG.sel = 1
          ∧ (s.lgGet q g.val LG.sel = 0 → t.lgGet q g.val LG.switchCnt = (s.lgGet q g.val LG.switchCnt + 1) % 2 ^ 32
            ∧ t.get (Fld.PRT_STATUS_SWITCH_EV q) = 1))
        ∧ (s.memberSf (s.lgGet q g.val LG.wLine) = false → t.lgGet q g.val LG.sel = s.lgGet q g.val LG.sel))
      ∧ s.recExcept t (lgRecs g.val) ∧ s.frame t protRegs [.prtRec, .planes])
    ∧ (∃ t, exec (.protHoldoffExpiry p g 1) s = .next t
      ∧ (∀ q, q ∈ s.runPlanes p.val → s.lgExists q g.val = true → s.memberSf (s.lgGet q g.val LG.pLine) = true → t.lgGet q g.val LG.sfP = 1)
      ∧ s.recExcept t (lgRecs g.val) ∧ s.frame t protRegs [.prtRec, .planes])
    ∧ (∃ t, exec (.protHoldoffExpiry p g 2) s = .next t
      ∧ (∀ q, q ∈ s.runPlanes p.val → s.lgExists q g.val = true → s.lineSd (s.lgGet q g.val LG.wLine) = true → t.lgGet q g.val LG.sdW = 1)
      ∧ s.recExcept t (lgRecs g.val) ∧ s.frame t protRegs [.prtRec, .planes])
    ∧ (∃ t, exec (.protHoldoffExpiry p g 3) s = .next t
      ∧ (∀ q, q ∈ s.runPlanes p.val → s.lgExists q g.val = true → s.lineSd (s.lgGet q g.val LG.pLine) = true → t.lgGet q g.val LG.sdP = 1)
      ∧ s.recExcept t (lgRecs g.val) ∧ s.frame t protRegs [.prtRec, .planes])
    ∧ (∃ t, exec (.wtrExpiry p g) s = .next t
      ∧ (∀ q, q ∈ s.runPlanes p.val → s.lgExists q g.val = true → s.lgGet q g.val LG.wtrRun = 1 → s.lgGet q g.val LG.extCmd = 0 →
        s.memberSf (s.lgGet q g.val LG.wLine) = false → s.memberSf (s.lgGet q g.val LG.pLine) = false →
        s.lineSd (s.lgGet q g.val LG.wLine) = false → s.lineSd (s.lgGet q g.val LG.pLine) = false →
        s.lgGet q g.val LG.arch = 0 → s.lgGet q g.val LG.bidir = 0 → s.lgGet q g.val LG.revert = 1 →
        t.lgGet q g.val LG.sel = 0 ∧ t.lgGet q g.val LG.wtrRun = 0 ∧ t.lgGet q g.val LG.wtrLeft = 0)
      ∧ s.recExcept t (lgRecs g.val) ∧ s.frame t protRegs [.prtRec, .planes]))
  ∧ (∀ (p : Fin 2) (g : Fin 48) (c : Fin 8) (s : State),
    (∃ t, exec (.partnerViolationDetect (.line p g) c) s = .next t
      ∧ (∀ q, q ∈ s.runPlanes p.val → s.lgExists q g.val = true →
        (s.lgViolation q g.val c.val = true → (s.lg q g.val).pv.testBit c.val = false → (t.lg q g.val).pv.testBit c.val = true
          ∧ (c.val = 1 → s.lgChannel q g.val = false → t.lgGet q g.val LG.pvCnt = s.lgGet q g.val LG.pvCnt))
        ∧ (s.lgViolation q g.val c.val = true → (s.lg q g.val).pv.testBit c.val = false → (c.val = 1 → s.lgChannel q g.val = true) →
          t.lgGet q g.val LG.pvCnt = (s.lgGet q g.val LG.pvCnt + 1) % 2 ^ 32
          ∧ (ringFill (s.get (Fld.PRT_PV_WR_WR q)) (s.get (Fld.PRT_PV_RD_RD q)) < 256 →
              t.get (Fld.PRT_PV_WR_WR q) = (s.get (Fld.PRT_PV_WR_WR q) + 1) % 2 ^ 32 ∧ t.get (Fld.PRT_STATUS_PV_EV q) = 1)
          ∧ (256 ≤ ringFill (s.get (Fld.PRT_PV_WR_WR q)) (s.get (Fld.PRT_PV_RD_RD q)) →
              t.get (Fld.PRT_PV_WR_WR q) = s.get (Fld.PRT_PV_WR_WR q) ∧ t.get (Fld.PRT_STATUS_PV_DROP_EV q) = 1))
        ∧ ((s.lg q g.val).pv.testBit c.val = true → t.lgGet q g.val LG.pvCnt = s.lgGet q g.val LG.pvCnt))
      ∧ s.recExcept t (lgRecs g.val ++ pvRings) ∧ s.frame t pvRegs [.prtRec, .planes])
    ∧ (∃ t, exec (.pvEpisodeEnd (.line p g) c) s = .next t
      ∧ (∀ q, q ∈ s.runPlanes p.val → s.lgExists q g.val = true →
        (t.lg q g.val).pv.testBit c.val = ((s.lg q g.val).pv.testBit c.val && s.lgViolation q g.val c.val))
      ∧ s.recExcept t (lgRecs g.val) ∧ s.frame t protRegs [.prtRec, .planes]))
  ∧ (∀ (s : State), s.spineOn = true →
    (∃ t, exec (.prtRecDataAccess .read) s = .next t
      ∧ t.get Fld.PRT_REC_ADDR_ADDR = (s.get Fld.PRT_REC_ADDR_ADDR + (if s.flag Fld.PRT_REC_ADDR_AUTOINC then 4 else 0)) % 2 ^ 24
      ∧ s.frame t [Reg.PRT_REC_ADDR] [])
    ∧ (∀ (g : Fin 48) (v : BitVec 32), s.get Fld.PRT_REC_ADDR_ADDR = g.val * 32 + 4 → ∃ t, exec (.prtRecDataAccess (.write v)) s = .next t
      ∧ (∀ q, q ∈ s.writePlanes 0 → s.lgExists q g.val = true → t.lgGet q g.val LG.holdoff = wordBits v 0 7
        ∧ t.lgGet q g.val LG.wtrS = wordBits v 16 10)
      ∧ t.get Fld.PRT_REC_ADDR_ADDR = (s.get Fld.PRT_REC_ADDR_ADDR + (if s.flag Fld.PRT_REC_ADDR_AUTOINC then 4 else 0)) % 2 ^ 24
      ∧ s.recExcept t (lgRecs g.val) ∧ s.marked t 0 ∧ s.frame t [Reg.PRT_REC_ADDR] [.prtRec, .tw]))

/-- R248 to R252, R254, R255, R257, R258: an external command of a merge group sets its local request and is sent on both
lines; a copy tags its frames with their FSN, and the output takes the frames in order, under lockout never from P; a group
anchors on its earlier copy, and a copy out of window is realigned only within the compensation. -/
def Obligations.MergeGroupsJoinTwoCopies : Prop :=
  (∀ (p : Fin 2) (g : Fin 256) (s : State), s.spineOn = true →
    (∀ c : Nat × Instr, c ∈ [(0, .mgCmdClear p g), (1, .mgCmdLockout p g), (2, .mgCmdForced p g), (3, .mgCmdManualP p g),
      (4, .mgCmdManualW p g)] → ∃ t, exec c.2 s = .next t
      ∧ (∀ q, q ∈ s.writePlanes p.val → s.mgExists q g.val = true → t.mgGet q g.val MG.extCmd = c.1 ∧ t.mgGet q g.val MG.localReq = localOf c.1)
      ∧ (s.twin = false → s.halfOn p.val = true → s.mgExists p.val g.val = true → s.mgLacks p.val g.val = false →
        s.pmcAccepts (s.mgLine p.val g.val false) = true →
        (((t.line (s.mgLine p.val g.val false)).mxf.out.map (fun o => o.msg)).toList
          ++ (t.line (s.mgLine p.val g.val false)).mxf.waiting).any (isCmdOf g.val) = true)
      ∧ s.recExcept t (mgRecs g.val) ∧ s.marked t p.val
      ∧ s.frame t ((List.range 128).map Reg.LCH_MXF_STATUS) [.prtRec, .planes, .lines, .tw])
    ∧ (∃ t, exec (.mgCmdReanchor p g) s = .next t
      ∧ (∀ q, q ∈ s.writePlanes p.val → s.mgExists q g.val = true →
        (s.mgCanRealign q g.val = true → s.realigned t q g.val ∧ t.mgGet q g.val MG.outOver = 0)
        ∧ (s.mgCanRealign q g.val = false → t.mg q g.val = s.mg q g.val))
      ∧ s.recExcept t (mgRecs g.val) ∧ s.marked t p.val ∧ s.frame t protRegs [.prtRec, .planes, .tw]))
  ∧ (∀ (p : Fin 2) (g : Fin 256) (s : State),
    (∃ t, exec (.mergeCmdRequeue p g) s = .next t
      ∧ (s.planeRuns p.val = true → s.mgExists p.val g.val = true → (s.mg p.val g.val).pv.testBit 6 = true → s.mgUnacked p.val g.val = true →
        s.mgLacks p.val g.val = false → s.pmcAccepts (s.mgLine p.val g.val false) = true →
        (((t.line (s.mgLine p.val g.val false)).mxf.out.map (fun o => o.msg)).toList
          ++ (t.line (s.mgLine p.val g.val false)).mxf.waiting).any (isCmdOf g.val) = true)
      ∧ (s.mgUnacked p.val g.val = false → s.frame t [] [])
      ∧ s.frame t ((List.range 128).map Reg.LCH_MXF_STATUS) [.planes, .lines])
    ∧ (∀ r : MemRead, ∃ t, exec (.mergeOutputRead p g r) s = .next t
      ∧ (∀ q, q ∈ s.runPlanes p.val → s.mgExists q g.val = true → s.mgGet q g.val MG.anchored = 1 → (t.mg q g.val).frames = (s.mg q g.val).frames + 1
        ∧ (t.mg q g.val).bad = (r == .uncorrectable && q == p.val)
        ∧ ((s.mg q g.val).gap ≠ 0 → t.mgGet q g.val MG.sel = 3 ∧ t.mgGet q g.val MG.last = 0 ∧ (t.mg q g.val).output = []
            ∧ (t.mg q g.val).gap = (s.mg q g.val).gap - 1)
        ∧ ((s.mg q g.val).gap = 0 →
        t.outFsn q g.val = (s.mg q g.val).next % 2 ^ 40 ∧ (t.mg q g.val).next = ((s.mg q g.val).next + 1) % 2 ^ 40
        ∧ t.mgGet q g.val MG.last = b2n ((t.mg q g.val).src == some true)
        ∧ (s.mgGet q g.val MG.localReq = 0xF → (t.mg q g.val).src ≠ some true)
        ∧ (s.mgGet q g.val MG.localReq = 0 → (s.mg q g.val).farKept = 0 → s.mgLacks q g.val = false → (s.mg q g.val).farBridge = none →
          ((t.mg q g.val).src, t.mgGet q g.val MG.sel)
            = mergeChoice 0 (((s.mg q g.val).w.buf.find? (fun x => x.fsn == (s.mg q g.val).next)).filter (fun x => x.result.isSome))
                (((s.mg q g.val).p.buf.find? (fun x => x.fsn == (s.mg q g.val).next)).filter (fun x => x.result.isSome)) (s.mg q g.val).src)))
      ∧ (r = .uncorrectable → s.planeRuns p.val = true → t.fcr.due.testBit (33 + 32 * p.val) = true)
      ∧ (r = .corrected → s.planeRuns p.val = true → t.fcr.due.testBit (34 + 32 * p.val) = true)
      ∧ (r = .clean → s.frame t [] [.prtRec, .planes]) ∧ s.recExcept t (mgRecs g.val) ∧ s.frame t [] [.prtRec, .planes, .fcr])
    ∧ (∀ late : Bool, ∃ t, exec (.mergeRefMove p g late) s = .next t
      ∧ (∀ q, q ∈ s.runPlanes p.val → s.mgExists q g.val = true → s.mgGet q g.val MG.anchored = 1 →
        (late = true → t.mgGet q g.val MG.ref = 1 - s.mgGet q g.val MG.ref)
        ∧ (late = false → s.lineOn (s.mgLine q g.val (s.mgGet q g.val MG.ref == 1)) = true →
          s.inFrame (s.mgLine q g.val (s.mgGet q g.val MG.ref == 1)) = true → t.mgGet q g.val MG.ref = s.mgGet q g.val MG.ref))
      ∧ s.recExcept t (mgRecs g.val) ∧ s.frame t [] [.prtRec])
    ∧ (∃ t, exec (.mergeUnanchor p g) s = .next t
      ∧ (∀ q, q ∈ s.runPlanes p.val → s.mgExists q g.val = true → s.mgGet q g.val MG.anchored = 1 →
        (s.mgGet q g.val MG.depth ≤ (s.mg q g.val).dry → t.mgGet q g.val MG.anchored = 0 ∧ (t.mg q g.val).w.buf = [] ∧ (t.mg q g.val).p.buf = [])
        ∧ ((s.mg q g.val).dry < s.mgGet q g.val MG.depth → t.mgGet q g.val MG.anchored = 1 ∧ t.mg q g.val = s.mg q g.val))
      ∧ s.recExcept t (mgRecs g.val) ∧ s.frame t [] [.prtRec, .planes])
    ∧ (∃ t, exec (.mergeAnchor p g) s = .next t
      ∧ (∀ q, q ∈ s.runPlanes p.val → s.mgExists q g.val = true → s.mgGet q g.val MG.anchored = 0 →
        (0 < (s.mg q g.val).w.written → 0 < (s.mg q g.val).p.written → t.mgGet q g.val MG.anchored = 1
          ∧ t.mgGet q g.val MG.ref = b2n (s.mg q g.val).earlier ∧ (t.mg q g.val).next = s.mgNextOf q g.val (s.mg q g.val).earlier
          ∧ t.outFsn q g.val = (s.mgNextOf q g.val (s.mg q g.val).earlier + 2 ^ 40 - 1) % 2 ^ 40)
        ∧ (∀ b : Bool, s.mgGet q g.val MG.depth ≤ ((s.mg q g.val).copy b).written → t.mgGet q g.val MG.anchored = 1)
        ∧ (∀ b : Bool, ∀ x, s.mgLone q g.val b = some x → t.mgGet q g.val MG.anchored = 1)
        ∧ ((s.mg q g.val).w.written = 0 → (s.mg q g.val).p.written = 0 → 0 < s.mgGet q g.val MG.depth →
            s.mgLone q g.val false = none → s.mgLone q g.val true = none → t.mgGet q g.val MG.anchored = 0))
      ∧ s.recExcept t (mgRecs g.val) ∧ s.frame t [] [.prtRec, .planes])
    ∧ (∀ b : Bool, ∃ t, exec (.mergeOutOfWindow p g b) s = .next t
      ∧ (∀ q, q ∈ s.runPlanes p.val → s.mgExists q g.val = true → s.mgPresent q g.val b = true → 8 ≤ ((s.mg q g.val).copy b).unused →
        ((s.mg q g.val).copy b).out = false → t.mgGet q g.val MG.outOver = 1 ∧ t.get (Fld.PRT_STATUS_OVER_EV q) = 1
        ∧ ((t.mg q g.val).copy b).out = true)
      ∧ s.recExcept t (mgRecs g.val) ∧ s.frame t protRegs [.prtRec, .planes])
    ∧ (∃ t, exec (.mergeAutoRealign p g) s = .next t
      ∧ (∀ q, q ∈ s.runPlanes p.val → s.mgExists q g.val = true →
        (s.mgGet q g.val MG.realignS ≠ 0 → s.mgCanRealign q g.val = true → s.realigned t q g.val)
        ∧ ((s.mgGet q g.val MG.realignS = 0 ∨ s.mgCanRealign q g.val = false) → t.mg q g.val = s.mg q g.val))
      ∧ s.recExcept t (mgRecs g.val) ∧ s.frame t protRegs [.prtRec, .planes])
    ∧ (∃ t, exec (.mergeImmediateReanchor p g) s = .next t
      ∧ (∀ q, q ∈ s.runPlanes p.val → s.mgExists q g.val = true → s.mgGet q g.val MG.anchored = 1 → s.mgPresent q g.val false = true →
        s.mgPresent q g.val true = true → 2 ≤ (s.mg q g.val).w.unused → 2 ≤ (s.mg q g.val).p.unused → (s.mg q g.val).w.seven = false →
        (s.mg q g.val).p.seven = false → s.realigned t q g.val ∧ t.mgGet q g.val MG.hitFr = s.mgGet q g.val MG.hitFr)
      ∧ s.recExcept t (mgRecs g.val) ∧ s.frame t protRegs [.prtRec, .planes])
    ∧ (∀ c : Fin 8, ∃ t, exec (.partnerViolationDetect (.merge p g) c) s = .next t
      ∧ (∀ q, q ∈ s.runPlanes p.val → s.mgExists q g.val = true → s.mgViolation q g.val c.val = true → (s.mg q g.val).pv.testBit c.val = false →
        (t.mg q g.val).pv.testBit c.val = true ∧ t.mgGet q g.val MG.pvCnt = (s.mgGet q g.val MG.pvCnt + 1) % 2 ^ 32)
      ∧ s.recExcept t (mgRecs g.val ++ pvRings) ∧ s.frame t pvRegs [.prtRec, .planes])
    ∧ (∀ c : Fin 8, ∃ t, exec (.pvEpisodeEnd (.merge p g) c) s = .next t
      ∧ (∀ q, q ∈ s.runPlanes p.val → (t.mg q g.val).pv.testBit c.val = ((s.mg q g.val).pv.testBit c.val && s.mgViolation q g.val c.val))
      ∧ s.recExcept t (mgRecs g.val) ∧ s.frame t [] [.prtRec, .planes]))
  ∧ (∀ (n : Fin 96) (k : Nat) (s : State), s.lineOn n.val = true → isMxf (s.format n.val) = true → s.inFrame n.val = true →
    ∃ t, exec (.mergeCopyWrite n k) s = .next t
    ∧ (∀ q, q ∈ s.runPlanes (halfOf n.val) → ∀ g, g ∈ s.mgsOf q n.val → ∀ x : MxfPending, ∀ f : Nat, (s.line n.val).mxf.prev = some x → x.fsn = some f →
      1 ≤ s.mgGet q g MG.depth →
      (((t.mg q g).copy (s.mgLine q g true == n.val)).buf.head?.map (fun y => y.fsn)) = some f
      ∧ ((t.mg q g).copy (s.mgLine q g true == n.val)).buf.length ≤ s.mgGet q g MG.depth
      ∧ ((t.mg q g).copy (s.mgLine q g true == n.val)).written = ((s.mg q g).copy (s.mgLine q g true == n.val)).written + 1)
    ∧ s.recExcept t ((List.range 256).flatMap mgRecs) ∧ s.frame t [] [.prtRec, .planes])

/-! ## Twin configuration -/

/-- R264 to R266, R269 to R271, R284 to R289: a frame marker ends a sequencer frame, whose signatures go to the compare and to
their check-value units; a block or marker takes the next number and reaches the planes that consume the stream; signatures
are compared frame by frame, 16 equal ones bring the planes in step, a difference is counted and takes a plane out of step; a
plane that has completed INIT is clear; a re-synchronisation copies the live plane and fails after 64 passes or 1 s. Where the
rules leave a point open, the model's choices of log entries 41, 99, 100 hold. -/
def Obligations.PlanesAreSequencedAndCompared : Prop :=
  (∀ (s : State), s.inTwin →
    (∃ t, exec .frameMarker s = .next t
      ∧ (s.tw.resync = none → t.get64 Reg.TWN_SQF_LO = (s.get64 Reg.TWN_SQF_LO + 1) % 2 ^ 48 ∧ t.tw.gbn = s.tw.gbn + 1)
      ∧ (s.tw.resync = none → (2 ≤ s.planeState 0 ∨ 2 ≤ s.planeState 1) →
          s.frame t ([Reg.TWN_SQF_LO, Reg.TWN_SQF_HI] ++ signatureRegs) [.tw, .lines])
      ∧ (∀ p, p < 2 → s.tw.resync = none → s.consumes p = true → s.coreLocked p = true → s.planeState p ≤ 5 →
          (t.planeTw p).sigs.getLast? = some (s.get64 Reg.TWN_SQF_LO, (s.planeTw p).sig ^^^ (2 ^ 64 - 1))
            ∧ (t.planeTw p).sigs.length ≤ max 8 (s.planeTw p).sigs.length
            ∧ t.get64 (Reg.CVU_RES_LO (12 + p)) = ((s.planeTw p).sig ^^^ (2 ^ 64 - 1)) % 2 ^ 64
            ∧ (t.planeTw p).last = some ⟨.frame, 0, [], s.tw.gbn % 2 ^ 40⟩ ∧ (t.planeTw p).idle = !(s.planeTw p).took)
      ∧ (∀ p, p < 2 → s.tw.resync = none → s.planeState p = 1 → (s.planeTw p).inited = true → s.planeState (1 - p) < 2 →
          (s.tw.initFirst = p ∨ s.planeState (1 - p) = 0 ∨ (s.planeTw (1 - p)).inited = false) → t.planeState p = 5)
      ∧ (∀ r, s.tw.resync = some r → r.plane < 2 → r.copying = true → s.planeState r.plane = 2 → 0 < r.passes → r.dirty = [] →
          t.planeState r.plane = 3))
    ∧ (∀ k a b, k = s.sigNext → s.sigOf 0 k = some a → s.sigOf 1 k = some b → s.comparing = true → ∃ t, exec .signatureCompare s = .next t
      ∧ t.tw.cmp = k + 1
      ∧ (a = b → t.tw.equal = s.tw.equal + 1 ∧ t.get Fld.TWN_MISMATCH_CNT_CNT = s.get Fld.TWN_MISMATCH_CNT_CNT
        ∧ (15 ≤ s.tw.equal → s.get64 Reg.TWN_SQF_LO ≤ k + 3 → t.planeState 0 = 4 ∧ t.planeState 1 = 4))
      ∧ (a ≠ b → t.tw.equal = 0 ∧ t.get Fld.TWN_MISMATCH_CNT_CNT = (s.get Fld.TWN_MISMATCH_CNT_CNT + 1) % 2 ^ 32
        ∧ t.get Fld.TWN_STATUS_MISMATCH_EV = 1 ∧ t.get Fld.TWN_MISMATCH_LAST_FRAME = k % 2 ^ 30 ∧ t.fcr.due.testBit 576 = true
        ∧ (s.tw.resync = none → t.get Fld.TWN_MISMATCH_LAST_ATTR = b2n (s.blamed 0 k) + 2 * b2n (s.blamed 1 k))
        ∧ (∀ r, s.tw.resync = some r → r.plane < 2 → s.planeState r.plane = 3 → (s.blamed (1 - r.plane) k = false ∨ s.blamed r.plane k = true) →
            t.planeState r.plane = 6 ∧ (t.get Fld.TWN_MISMATCH_LAST_ATTR).testBit r.plane = true)
        ∧ (s.tw.resync = none → s.blamed 0 k = true → s.blamed 1 k = false → t.planeState 0 = 6 ∧ t.planeState 1 = 5)
        ∧ (s.tw.resync = none → s.blamed 1 k = true → s.blamed 0 k = false → t.planeState 1 = 6 ∧ t.planeState 0 = 5)
        ∧ (s.tw.resync = none → s.blamed 0 k = s.blamed 1 k →
            (s.holder = 1 → t.planeState 1 = 6 ∧ t.planeState 0 = 5) ∧ (s.holder = 2 → t.planeState 0 = 6 ∧ t.planeState 1 = 5)))
      ∧ s.frame t twinRegs [.tw, .fcr, .mbx, .irq, .bar2])
    ∧ (∀ p : Fin 2, s.comparing = true → s.sigOf p.val s.sigNext = none → s.sigOf (1 - p.val) s.sigNext ≠ none →
      (s.sigNext + 4 < s.get64 Reg.TWN_SQF_LO → ∃ t, exec (.signatureMissing p) s = .next t
        ∧ t.get Fld.TWN_MISMATCH_CNT_CNT = (s.get Fld.TWN_MISMATCH_CNT_CNT + 1) % 2 ^ 32 ∧ t.get Fld.TWN_STATUS_MISMATCH_EV = 1
        ∧ (s.tw.resync = none → (t.get Fld.TWN_MISMATCH_LAST_ATTR).testBit p.val = true) ∧ t.fcr.due.testBit 576 = true
        ∧ t.tw.cmp = s.sigNext + 1 ∧ s.frame t twinRegs [.tw, .fcr, .mbx, .irq, .bar2])
      ∧ (s.get64 Reg.TWN_SQF_LO ≤ s.sigNext + 4 → ∃ t, exec (.signatureMissing p) s = .next t ∧ s.frame t [] []))
    ∧ (∀ p : Fin 2, s.returning = some p.val → s.opFree ≠ none → s.berentDuty = true → s.flag Fld.TWN_LEASE_CFG_AUTO_RESYNC = true →
      s.tw.resync = none → s.copyReady p.val = true → ∃ t, exec .autoResyncStart s = .next t
      ∧ t.tw.resync = some ⟨p.val, true, 0, []⟩ ∧ t.planeState p.val = 2 ∧ t.get Fld.TWN_RESYNC_PROG_PCT = 0
      ∧ s.frame t twinRegs [.tw, .mbx, .irq, .bar2])
    ∧ (∀ r, s.tw.resync = some r → r.plane < 2 → r.copying = true →
      (∃ t, exec .resyncTimeout s = .next t ∧ t.tw.resync = none ∧ t.get Fld.TWN_STATUS_RESYNC_FAIL_EV = 1 ∧ t.fcr.due.testBit 582 = true
        ∧ (2 ≤ s.planeState r.plane → t.planeState r.plane = 6) ∧ s.frame t twinRegs [.tw, .fcr, .mbx, .irq, .bar2])
      ∧ (∀ d : List (Fin 20992), s.planeState r.plane = 2 → (r.passes = 0 ∨ r.dirty ≠ []) → ∃ t, exec (.resyncPassEnd d) s = .next t
        ∧ (∀ a, a < 0x800000 → t.bar2Byte (0x1000000 + r.plane * 0x800000 + a) = s.bar2Byte (0x1000000 + (1 - r.plane) * 0x800000 + a)
            ∧ t.bar2Byte (0x2000000 + r.plane * 0x800000 + a) = s.bar2Byte (0x2000000 + (1 - r.plane) * 0x800000 + a)
            ∧ t.recNum (r.plane * 0x800000 + a) 1 = s.recNum ((1 - r.plane) * 0x800000 + a) 1)
        ∧ ((d = [] ∨ r.passes + 1 < 64) → t.tw.resync = some { r with passes := r.passes + 1, dirty := d.map (fun g => g.val) })
        ∧ (d ≠ [] → 64 ≤ r.passes + 1 → t.tw.resync = none ∧ t.planeState r.plane = 6 ∧ t.get Fld.TWN_STATUS_RESYNC_FAIL_EV = 1))))
  ∧ (∀ (n : Fin 96) (s : State), s.inTwin → s.lineOn n.val = true →
    (∃ t, exec (.lineBlockRelease n) s = .next t
      ∧ ((s.line n.val).frb.absent = false → (31 ≤ (s.line n.val).frb.words.length ∨ ((s.line n.val).frb.words ≠ [] ∧ 4 ≤ (s.line n.val).frb.age)) →
        (t.line n.val).frb.words = (s.line n.val).frb.words.drop 31 ∧ t.tw.gbn = s.tw.gbn + 1
        ∧ ∀ p, p < 2 → s.consumes p = true →
            (t.planeTw p).last = some ⟨.data, n.val, (s.line n.val).frb.words.take 31, s.tw.gbn % 2 ^ 40⟩ ∧ (t.planeTw p).took = true)
      ∧ (((s.line n.val).frb.words.length < 31 ∧ (s.line n.val).frb.age < 4) → s.frame t [] [])
      ∧ s.onlyLine t n.val ∧ s.frame t [] [.lines, .tw])
    ∧ (∃ t, exec (.linePresentMarker n) s = .next t ∧ (t.line n.val).frb.absent = false
      ∧ t.tw.gbn = s.tw.gbn + b2n (s.line n.val).frb.absent ∧ s.onlyLine t n.val ∧ s.frame t [] [.lines, .tw]))
  ∧ (∀ (p : Fin 2) (s : State), s.halfOn p.val = true → s.coreLocked p.val = true → (s.planeTw p.val).initDue = true → s.tw.resync = none →
    ∃ t, exec (.planeInitComplete p) s = .next t ∧ (t.planeTw p.val).initDue = false ∧ (t.planeTw p.val).inited = s.twin
    ∧ ((s.planeTw (1 - p.val)).inited = false → t.tw.initFirst = p.val)
    ∧ ((s.planeTw p.val).keep = false → t.plane p.val = Plane.reset ∧ (∀ a, a ∈ planeRegs p.val → t.reg a = regReset a)
      ∧ (∀ a, a < 0x800000 → t.bar2Byte (0x1000000 + p.val * 0x800000 + a) = bar2Default (0x1000000 + p.val * 0x800000 + a)
          ∧ t.bar2Byte (0x2000000 + p.val * 0x800000 + a) = bar2Default (0x2000000 + p.val * 0x800000 + a)
          ∧ t.recNum (p.val * 0x800000 + a) 1 = 0))
    ∧ ((s.planeTw p.val).keep = true → t.plane p.val = s.plane p.val)
    ∧ s.frame t (planeRegs p.val ++ twinRegs) [.bar2, .prtRec, .planes, .tw, .mbx, .irq])

/-- R273 to R277, R284, R290, R291: the windows of the heartbeats make a path silent or live; the holder of the lease sends
while its local timer runs, an expired lease goes to an eligible plane and counts as unplanned, a planned transfer at its
frame as planned; a forced or a reverted lease names a transfer four frames ahead, or the request is refused. -/
def Obligations.LeaseFollowsHeartbeats : Prop :=
  (∀ (a b : Beat) (s : State), s.inTwin → ∃ t, exec (.heartbeatWindow a b) s = .next t
    ∧ (∀ k, k < 4 → ∀ x, x = (if k < 2 then a else b) →
      (s.beatValid (k / 2) x (k % 2 == 1) = true → s.beats (k / 2) = true → t.get (missField k) = 0 ∧ t.goodRun k = s.goodRun k + 1)
      ∧ ((s.beatValid (k / 2) x (k % 2 == 1) = false ∨ s.beats (k / 2) = false) → t.get (missField k) = min (s.get (missField k) + 1) 15 ∧ t.goodRun k = 0)
      ∧ (∀ v : BitVec 48, x.word = some v → (t.planeTw (k / 2)).beat = some v.toNat))
    ∧ t.get Fld.TWN_HB_STATUS_LIVE = s.get Fld.TWN_HB_STATUS_LIVE ∧ t.holder = s.holder
    ∧ s.frame t [Reg.TWN_HB_STATUS, Reg.TWN_STATUS] [.tw])
  ∧ (∀ (k : Fin 4) (s : State), s.inTwin →
    (s.pathLive k.val = true → s.hbMiss ≤ s.get (missField k.val) → ∃ t, exec (.heartbeatPathSilent k) s = .next t
      ∧ t.pathLive k.val = false ∧ (s.pathHeld (k.val / 2) = false → t.get Fld.TWN_STATUS_PATH_EV = 1)
      ∧ (∀ j, j < 4 → j ≠ k.val → t.pathLive j = s.pathLive j) ∧ s.frame t [Reg.TWN_HB_STATUS, Reg.TWN_STATUS] [.tw])
    ∧ (s.get (missField k.val) < s.hbMiss → ∃ t, exec (.heartbeatPathSilent k) s = .next t ∧ s.frame t [] [])
    ∧ (s.pathLive k.val = false → 8 ≤ s.goodRun k.val → ∃ t, exec (.heartbeatPathLive k) s = .next t ∧ t.pathLive k.val = true
      ∧ (s.pathHeld (k.val / 2) = false → t.get Fld.TWN_STATUS_PATH_EV = 1)
      ∧ (∀ j, j < 4 → j ≠ k.val → t.pathLive j = s.pathLive j) ∧ s.frame t [Reg.TWN_HB_STATUS, Reg.TWN_STATUS] [.tw])
    ∧ (s.holder = k.val / 2 + 1 → s.pathLive k.val = true → s.beats (k.val / 2) = true → ∃ t, exec (.leaseRenew k) s = .next t
      ∧ (t.planeTw (k.val / 2)).output = true ∧ s.frame t [] [.tw])
    ∧ ((s.holder ≠ k.val / 2 + 1 ∨ s.pathLive k.val = false) → ∃ t, exec (.leaseRenew k) s = .next t ∧ s.frame t [] []))
  ∧ (∀ (s : State), s.inTwin →
    (s.holder ≠ 0 → (∃ t, exec .holderLocalTimerExpiry s = .next t ∧ (t.planeTw (s.holder - 1)).output = false ∧ s.frame t [] [.tw])
      ∧ (∃ t, exec .leaseExpiry s = .next t ∧ t.holder = 0 ∧ (t.planeTw (s.holder - 1)).output = false ∧ t.tw.xfer = none
        ∧ t.get Fld.TWN_STATUS_TRANSFER_PEND = 0 ∧ s.frame t [Reg.TWN_STATUS] [.tw]))
    ∧ (∀ (p : Fin 2) (ns : Nat), s.holder = 0 → s.grantee = some p.val → s.tw.leased = true → ∃ t, exec (.leaseGrant ns) s = .next t
      ∧ t.holder = p.val + 1 ∧ (t.planeTw p.val).output = true ∧ (t.planeTw (1 - p.val)).output = false
      ∧ t.get Fld.TWN_GAP_GAP_BOUND_NS = min (ns + 500) (2 ^ 24 - 1) ∧ t.get Fld.TWN_STATUS_HANDOVER_EV = 1
      ∧ t.get Fld.TWN_HANDOVER_CNT_UNPLANNED = (s.get Fld.TWN_HANDOVER_CNT_UNPLANNED + 1) % 2 ^ 16 ∧ t.fcr.due.testBit 581 = true
      ∧ s.frame t [Reg.TWN_STATUS, Reg.TWN_GAP, Reg.TWN_HANDOVER_CNT] [.tw, .fcr])
    ∧ (∀ ns : Nat, (s.holder ≠ 0 ∨ s.grantee = none) → ∃ t, exec (.leaseGrant ns) s = .next t ∧ s.frame t [] [])
    ∧ (∀ (p : Fin 2) (ns : Nat), s.holder = 0 → s.grantee = some p.val → s.tw.leased = false → s.planeState 0 = 4 → s.planeState 1 = 4 →
      ∃ t, exec (.leaseGrant ns) s = .next t ∧ t.holder = p.val + 1
      ∧ t.get Fld.TWN_HANDOVER_CNT_UNPLANNED = s.get Fld.TWN_HANDOVER_CNT_UNPLANNED ∧ s.frame t [Reg.TWN_STATUS] [.tw])
    ∧ (∀ p : Fin 2, s.tw.leased = false → s.tw.firstOver = false → s.grantee = some p.val → ∃ t, exec .firstLeaseTimeout s = .next t
      ∧ t.holder = p.val + 1 ∧ t.tw.leased = true ∧ s.frame t [Reg.TWN_STATUS] [.tw])
    ∧ (∀ x : Transfer, s.tw.xfer = some x → x.target < 2 → x.frame ≤ s.get64 Reg.TWN_SQF_LO → s.eligible x.target = true → s.holder ≠ 0 →
      ∃ t, exec .plannedTransfer s = .next t ∧ t.holder = x.target + 1 ∧ t.tw.xfer = none ∧ t.get Fld.TWN_STATUS_TRANSFER_PEND = 0
      ∧ t.get Fld.TWN_STATUS_TRANSFER_EV = 1
      ∧ t.get Fld.TWN_HANDOVER_CNT_PLANNED = (s.get Fld.TWN_HANDOVER_CNT_PLANNED + 1) % 2 ^ 16
      ∧ s.frame t [Reg.TWN_STATUS, Reg.TWN_HANDOVER_CNT] [.tw])
    ∧ (s.pref ≠ 0 → s.planeFaulty (s.pref - 1) = false → s.holder ≠ 0 → s.holder ≠ s.pref → s.planeState (s.pref - 1) = 4 → s.eligible (s.pref - 1) = true → s.tw.xfer = none →
      ∃ t, exec .revert s = .next t ∧ t.tw.xfer = some ⟨s.pref - 1, s.get64 Reg.TWN_SQF_LO + 4, true⟩
      ∧ t.get Fld.TWN_STATUS_TRANSFER_PEND = 1 ∧ s.frame t [Reg.TWN_STATUS] [.tw])
    ∧ ((s.pref = 0 ∨ s.holder = s.pref ∨ s.planeFaulty (s.pref - 1) = true) → ∃ t, exec .revert s = .next t ∧ s.frame t [] []))
  ∧ (∀ (p : Fin 2) (s : State), s.spineOn = true → s.twin = true →
    (s.holder ≠ p.val + 1 → s.planeState p.val = 4 → s.eligible p.val = true → s.holder ≠ 0 → s.tw.xfer = none →
      ∃ t, exec (.twnLeaseForce (BitVec.ofNat 2 (p.val + 1))) s = .next t
      ∧ t.tw.xfer = some ⟨p.val, s.get64 Reg.TWN_SQF_LO + 4, true⟩ ∧ t.get Fld.TWN_STATUS_TRANSFER_PEND = 1
      ∧ s.frame t [Reg.TWN_STATUS] [.tw])
    ∧ ((s.holder = p.val + 1 ∨ s.planeState p.val ≠ 4 ∨ s.eligible p.val = false ∨ s.holder = 0 ∨ s.tw.xfer ≠ none) →
      ∃ t, exec (.twnLeaseForce (BitVec.ofNat 2 (p.val + 1))) s = .next t ∧ t.get Fld.TWN_STATUS_FORCE_REF_EV = 1
      ∧ s.frame t [Reg.TWN_STATUS] []))

/-! ## Timing -/

/-- R296, R298, R300 to R302: a REFIN candidate has activity only with a nominal frequency in range; the monitor sets and
clears the soft and hard flags; a candidate qualifies by its wait-to-restore, and is disqualified by a hard crossing or by a
signal fail, which a hold-off of the followed candidate delays, in which a DPLL that stays with it holds its frequency; then
selection runs. Where the rules leave a point open, the model's choice of log entry 129 holds. -/
def Obligations.CandidatesQualifyAndFail : Prop :=
  (∀ (c : Fin 8) (act : Bool) (s : State), s.spineOn = true → ∃ t, exec (.candActivityChange c act) s = .next t
    ∧ t.flag (Fld.TMG_CAND_STATUS_ACT c.val) = (act && s.nomOk c.val)
    ∧ t.flag (Fld.TMG_CAND_STATUS_NOM_BAD c.val) = (s.flag (Fld.TMG_CAND_CFG_EN c.val) && !s.nomOk c.val)
    ∧ t.flag (Fld.TMG_CAND_STATUS_SF c.val) = !t.flag (Fld.TMG_CAND_STATUS_ACT c.val)
    ∧ (t.flag (Fld.TMG_CAND_STATUS_SF c.val) = true → t.flag (Fld.TMG_CAND_STATUS_QL_FAILED c.val) = true)
    ∧ (t.flag (Fld.TMG_CAND_STATUS_SF c.val) = true → s.flag (Fld.TMG_CAND_STATUS_HOLDOFF_RUN c.val) = false →
        (s.candHoldoff c.val = 0 ∨ s.followed c.val = false) → t.get (Fld.TMG_CAND_STATUS_STATE c.val) = 0
          ∧ t.get (Fld.TMG_CAND_FOFS_V c.val) = 0
          ∧ (s.get (Fld.TMG_CAND_STATUS_STATE c.val) ≠ 0 → t.get (Fld.TMG_CAND_STATUS_DISQ_EV c.val) = 1))
    ∧ (t.flag (Fld.TMG_CAND_STATUS_SF c.val) = true → s.flag (Fld.TMG_CAND_STATUS_SF c.val) = false →
        s.flag (Fld.TMG_CAND_STATUS_HOLDOFF_RUN c.val) = false → s.candHoldoff c.val ≠ 0 → s.followed c.val = true →
        s.get (Fld.TMG_CAND_STATUS_STATE c.val) = 2 → s.flag (Fld.TMG_CAND_CFG_EN c.val) = true →
        s.flag (Fld.TMG_CAND_STATUS_HARD_FL c.val) = false → s.measured c.val = true →
        t.get (Fld.TMG_CAND_STATUS_HOLDOFF_RUN c.val) = 1 ∧ t.get (Fld.TMG_CAND_STATUS_STATE c.val) = 2
          ∧ ∀ d, d < 8 → s.get (Fld.TMG_DPLL_CFG_MODE d) = 0 → s.get (Fld.TMG_DPLL_STATUS_SEL d) = c.val →
              s.get (Fld.TMG_DPLL_STATUS_STATE d) ≠ 4 → t.get (Fld.TMG_DPLL_STATUS_SEL d) = c.val →
              t.get (Fld.TMG_DPLL_STATUS_STATE d) = 3)
    ∧ (∀ d, d < 8 → t.selSettled d) ∧ s.frame t (candRegs c.val) [.tmg, .fresh])
  ∧ (∀ (c : Fin 24) (s : State), s.spineOn = true →
    (∀ v : Int, s.flag (Fld.TMG_CAND_CFG_EN c.val) = true → s.flag (Fld.TMG_CAND_STATUS_ACT c.val) = true →
      ((s.cand c.val).updates < 9 → ∃ t, exec (.freqMonitorUpdate c v) s = .next t
        ∧ (t.cand c.val).updates = (s.cand c.val).updates + 1 ∧ s.frame t [] [.tmg])
      ∧ (9 ≤ (s.cand c.val).updates → s.candActive c.val = true → ∃ t, exec (.freqMonitorUpdate c v) s = .next t
        ∧ t.get (Fld.TMG_CAND_FOFS_V c.val) = unsignedOf 32 v
        ∧ (s.get (Fld.TMG_CAND_LIM_SOFT c.val) * 10 < v.natAbs → t.flag (Fld.TMG_CAND_STATUS_SOFT_FL c.val) = true
          ∧ (s.flag (Fld.TMG_CAND_STATUS_SOFT_FL c.val) = false → t.get (Fld.TMG_CAND_STATUS_SOFT_EV c.val) = 1))
        ∧ (v.natAbs + s.get (Fld.TMG_CAND_LIM2_HYST c.val) * 10 < s.get (Fld.TMG_CAND_LIM_SOFT c.val) * 10 →
          t.flag (Fld.TMG_CAND_STATUS_SOFT_FL c.val) = false)
        ∧ (s.get (Fld.TMG_CAND_LIM_HARD c.val) * 10 < v.natAbs → t.flag (Fld.TMG_CAND_STATUS_HARD_FL c.val) = true
          ∧ t.get (Fld.TMG_CAND_STATUS_STATE c.val) = 0
          ∧ (s.get (Fld.TMG_CAND_STATUS_STATE c.val) ≠ 0 → t.get (Fld.TMG_CAND_STATUS_DISQ_EV c.val) = 1))
        ∧ (v.natAbs + s.get (Fld.TMG_CAND_LIM2_HYST c.val) * 10 < s.get (Fld.TMG_CAND_LIM_HARD c.val) * 10 →
          t.flag (Fld.TMG_CAND_STATUS_HARD_FL c.val) = false
          ∧ (s.get (Fld.TMG_CAND_STATUS_STATE c.val) ≠ 0 → t.get (Fld.TMG_CAND_STATUS_STATE c.val) = s.get (Fld.TMG_CAND_STATUS_STATE c.val))
          ∧ (s.get (Fld.TMG_CAND_STATUS_STATE c.val) = 0 → s.candWtr c.val = 0 →
              t.get (Fld.TMG_CAND_STATUS_STATE c.val) = 2 ∧ t.get (Fld.TMG_CAND_STATUS_QUAL_EV c.val) = 1)
          ∧ (s.get (Fld.TMG_CAND_STATUS_STATE c.val) = 0 → s.candWtr c.val ≠ 0 →
              t.get (Fld.TMG_CAND_STATUS_STATE c.val) = 1 ∧ t.get (Fld.TMG_CAND_STATUS_WTR_LEFT c.val) = s.candWtr c.val))
        ∧ (∀ d, d < 8 → t.selSettled d) ∧ s.frame t (candRegs c.val) [.tmg, .fresh]))
    ∧ (∀ v : Int, s.flag (Fld.TMG_CAND_CFG_EN c.val) = true → s.flag (Fld.TMG_CAND_STATUS_ACT c.val) = false →
      s.flag (Fld.TMG_CAND_STATUS_HOLDOFF_RUN c.val) = false → s.get (Fld.TMG_CAND_LIM_HARD c.val) * 10 < v.natAbs →
      ∃ t, exec (.freqMonitorUpdate c v) s = .next t ∧ t.flag (Fld.TMG_CAND_STATUS_HARD_FL c.val) = true
        ∧ t.get (Fld.TMG_CAND_STATUS_STATE c.val) = 0 ∧ (∀ d, d < 8 → t.selSettled d) ∧ s.frame t (candRegs c.val) [.tmg, .fresh])
    ∧ (s.get (Fld.TMG_CAND_STATUS_STATE c.val) = 1 → ∃ t, exec (.candWtrExpiry c) s = .next t
      ∧ t.get (Fld.TMG_CAND_STATUS_STATE c.val) = 2 ∧ t.get (Fld.TMG_CAND_STATUS_WTR_LEFT c.val) = 0
      ∧ t.get (Fld.TMG_CAND_STATUS_QUAL_EV c.val) = 1 ∧ (∀ d, d < 8 → t.selSettled d) ∧ s.frame t (candRegs c.val) [.tmg, .fresh])
    ∧ (s.get (Fld.TMG_CAND_STATUS_STATE c.val) ≠ 1 → ∃ t, exec (.candWtrExpiry c) s = .next t ∧ s.frame t [] [])
    ∧ (s.flag (Fld.TMG_CAND_STATUS_HOLDOFF_RUN c.val) = true → s.flag (Fld.TMG_CAND_STATUS_SF c.val) = true → s.candActive c.val = false →
      ∃ t, exec (.candHoldoffExpiry c) s = .next t ∧ t.flag (Fld.TMG_CAND_STATUS_HOLDOFF_RUN c.val) = false
      ∧ t.get (Fld.TMG_CAND_STATUS_STATE c.val) = 0
      ∧ (s.get (Fld.TMG_CAND_STATUS_STATE c.val) ≠ 0 → t.get (Fld.TMG_CAND_STATUS_DISQ_EV c.val) = 1)
      ∧ (∀ d, d < 8 → t.selSettled d) ∧ s.frame t (candRegs c.val) [.tmg, .fresh])
    ∧ (∀ q : BitVec 4, s.berentRuns = true → ∃ t, exec (.qlFwWrite c q) s = .next t
      ∧ t.get (Fld.TMG_CAND_QLFW_QL_FW c.val) = q.toNat ∧ t.flag (Fld.TMG_CAND_STATUS_QL_TMO c.val) = false
      ∧ (s.get (Fld.TMG_CAND_CFG_QL_SRC c.val) = 2 → s.candActive c.val = true →
          t.get (Fld.TMG_CAND_STATUS_QL c.val) = q.toNat ∧ t.flag (Fld.TMG_CAND_STATUS_QL_FAILED c.val) = false)
      ∧ (∀ d, d < 8 → t.selSettled d) ∧ s.frame t (Reg.TMG_CAND_QLFW c.val :: candRegs c.val) [.tmg, .fresh])
    ∧ (s.flag (Fld.TMG_CAND_CFG_EN c.val) = true → s.get (Fld.TMG_CAND_CFG_QL_SRC c.val) = 2 → ∃ t, exec (.qlFwTimeout c) s = .next t
      ∧ t.flag (Fld.TMG_CAND_STATUS_QL_TMO c.val) = true ∧ t.flag (Fld.TMG_CAND_STATUS_QL_FAILED c.val) = true
      ∧ t.candRank c.val = none ∧ (∀ d, d < 8 → t.selSettled d) ∧ s.frame t (candRegs c.val) [.tmg, .fresh])
    ∧ (s.get (Fld.TMG_CAND_CFG_QL_SRC c.val) ≠ 2 → ∃ t, exec (.qlFwTimeout c) s = .next t ∧ s.frame t [] []))

/-- R303 to R312: without a forced command selection takes a fit candidate that none is better than; modes and commands are
followed at once; a switch completes on its target and selection runs again; samples count and lock the loop, and SOFTWARE and
DCO mode take the frequency written, within its limit. Where the rules leave a point open, the model's choices of log entries
43, 130 hold. -/
def Obligations.DpllsSelectAndSwitch : Prop :=
  (∀ (s : State) (d c : Nat), s.selChoice d = some c →
    (s.get (Fld.TMG_DPLL_CFG_CMD d) ≠ 2 → c < 24 ∧ s.selFit d c)
    ∧ (s.get (Fld.TMG_DPLL_CFG_CMD d) = 2 → c = s.get (Fld.TMG_DPLL_CFG_CMD_CAND d) ∧ (s.flag (Fld.TMG_CAND_STATUS_ACT c) = true ∨ s.holdsFor d c = true)
        ∧ s.candOpen d c = true)
    ∧ (s.get (Fld.TMG_DPLL_CFG_CMD d) ≠ 1 → s.get (Fld.TMG_DPLL_CFG_CMD d) ≠ 2 → ∀ b, b < 24 → s.selFit d b →
        s.candBetter d (s.flag (Fld.TMG_DPLL_CFG_QL_EN d)) b c = false))
  ∧ (∀ (d : Fin 8) (s : State), s.spineOn = true →
    ((∃ t, exec (.dpllCmdNone d) s = .next t ∧ t.get (Fld.TMG_DPLL_CFG_CMD d.val) = 0
        ∧ t.get (Fld.TMG_DPLL_CFG_CMD_CAND d.val) = s.get (Fld.TMG_DPLL_CFG_CMD_CAND d.val) ∧ t.selSettled d.val
        ∧ s.frame t [Reg.TMG_DPLL_CFG d.val, Reg.TMG_DPLL_STATUS d.val, Reg.TMG_DPLL_FREQ d.val, Reg.TMG_DPLL_PPT_RD d.val] [.tmg, .fresh])
      ∧ (∀ c : Fin 32, ∃ t, exec (.dpllCmdManual d c) s = .next t ∧ t.get (Fld.TMG_DPLL_CFG_CMD d.val) = 1
        ∧ t.get (Fld.TMG_DPLL_CFG_CMD_CAND d.val) = c.val ∧ t.selSettled d.val
        ∧ s.frame t [Reg.TMG_DPLL_CFG d.val, Reg.TMG_DPLL_STATUS d.val, Reg.TMG_DPLL_FREQ d.val, Reg.TMG_DPLL_PPT_RD d.val] [.tmg, .fresh])
      ∧ (∀ c : Fin 32, ∃ t, exec (.dpllCmdForced d c) s = .next t ∧ t.get (Fld.TMG_DPLL_CFG_CMD d.val) = 2
        ∧ t.get (Fld.TMG_DPLL_CFG_CMD_CAND d.val) = c.val ∧ t.selSettled d.val
        ∧ (c.val < 24 → s.candOpen d.val c.val = true → s.flag (Fld.TMG_CAND_STATUS_ACT c.val) = true →
            s.get (Fld.TMG_DPLL_CFG_MODE d.val) = 0 → s.get (Fld.TMG_DPLL_STATUS_STATE d.val) ≠ 4 →
            t.get (Fld.TMG_DPLL_STATUS_SEL d.val) = c.val
              ∧ (s.get (Fld.TMG_DPLL_STATUS_SEL d.val) ≠ c.val → t.get (Fld.TMG_DPLL_STATUS_STATE d.val) = 4))
        ∧ s.frame t [Reg.TMG_DPLL_CFG d.val, Reg.TMG_DPLL_STATUS d.val, Reg.TMG_DPLL_FREQ d.val, Reg.TMG_DPLL_PPT_RD d.val] [.tmg, .fresh]))
    ∧ (s.get (Fld.TMG_DPLL_CFG_MODE d.val) ≠ 3 → ∃ t, exec (.dpllModeAuto d) s = .next t
      ∧ t.get (Fld.TMG_DPLL_CFG_MODE d.val) = 0 ∧ t.selSettled d.val
      ∧ s.frame t [Reg.TMG_DPLL_CFG d.val, Reg.TMG_DPLL_STATUS d.val, Reg.TMG_DPLL_FREQ d.val] [.tmg, .fresh])
    ∧ (s.get (Fld.TMG_DPLL_STATUS_STATE d.val) = 4 → ∀ x ∈ [(0, Instr.dpllModeAuto d), (1, .dpllForcedHoldover d), (2, .dpllForcedFreeRun d),
      (3, .dpllSoftwareMode d)], ∃ t, exec x.2 s = .next t ∧ t.get (Fld.TMG_DPLL_CFG_MODE d.val) = x.1
      ∧ t.get (Fld.TMG_DPLL_STATUS_STATE d.val) = 4 ∧ t.get (Fld.TMG_DPLL_STATUS_SEL d.val) = s.get (Fld.TMG_DPLL_STATUS_SEL d.val))
    ∧ (s.get (Fld.TMG_DPLL_CFG_MODE d.val) = 3 → s.get (Fld.TMG_DPLL_STATUS_STATE d.val) ≠ 4 → ∃ t, exec (.dpllModeAuto d) s = .next t ∧ t.get (Fld.TMG_DPLL_CFG_MODE d.val) = 0
      ∧ (∀ c, s.selChoice d.val = some c → s.flag (Fld.TMG_CAND_STATUS_HOLDOFF_RUN c) = false →
          t.get (Fld.TMG_DPLL_STATUS_SEL d.val) = c ∧ t.get (Fld.TMG_DPLL_STATUS_STATE d.val) = 1
            ∧ (t.dpll d.val).pbo = if s.flag (Fld.TMG_DPLL_CFG_PBO_EN d.val) then
                (s.dpll d.val).pbo + signedOf 32 (s.get (Fld.TMG_DPLL_PHERR_V d.val)) else 0)
      ∧ (s.selChoice d.val = none → t.get (Fld.TMG_DPLL_STATUS_SEL d.val) = 31
          ∧ t.get (Fld.TMG_DPLL_STATUS_STATE d.val) = if s.flag (Fld.TMG_DPLL_STATUS_HO_VALID d.val) then 3 else 0)
      ∧ s.frame t [Reg.TMG_DPLL_CFG d.val, Reg.TMG_DPLL_STATUS d.val, Reg.TMG_DPLL_FREQ d.val] [.tmg, .fresh])
    ∧ (s.get (Fld.TMG_DPLL_STATUS_STATE d.val) ≠ 4 →
      (∃ t, exec (.dpllForcedHoldover d) s = .next t ∧ t.get (Fld.TMG_DPLL_CFG_MODE d.val) = 1
        ∧ t.get (Fld.TMG_DPLL_STATUS_STATE d.val) = 3 ∧ t.get (Fld.TMG_DPLL_STATUS_SEL d.val) = 31
        ∧ t.get (Fld.TMG_DPLL_STATUS_QL d.val) = s.get (Fld.TMG_DPLL_QLCFG_HO_QL d.val)
        ∧ s.frame t [Reg.TMG_DPLL_CFG d.val, Reg.TMG_DPLL_STATUS d.val, Reg.TMG_DPLL_FREQ d.val] [.tmg, .fresh])
      ∧ (∃ t, exec (.dpllForcedFreeRun d) s = .next t ∧ t.get (Fld.TMG_DPLL_CFG_MODE d.val) = 2
        ∧ t.get (Fld.TMG_DPLL_STATUS_STATE d.val) = 0 ∧ t.get (Fld.TMG_DPLL_STATUS_SEL d.val) = 31 ∧ (t.dpll d.val).dco = 0
        ∧ (s.get (Fld.TMG_DPLL_STATUS_STATE d.val) ≠ 0 → t.flag (Fld.TMG_DPLL_STATUS_HO_VALID d.val) = false)
        ∧ t.get (Fld.TMG_DPLL_STATUS_QL d.val) = s.get (Fld.TMG_DPLL_QLCFG_FR_QL d.val)
        ∧ s.frame t [Reg.TMG_DPLL_CFG d.val, Reg.TMG_DPLL_STATUS d.val, Reg.TMG_DPLL_FREQ d.val] [.tmg])
      ∧ (s.get (Fld.TMG_DPLL_CFG_MODE d.val) ≠ 3 → ∃ t, exec (.dpllSoftwareMode d) s = .next t ∧ t.get (Fld.TMG_DPLL_CFG_MODE d.val) = 3
        ∧ t.get (Fld.TMG_DPLL_STATUS_STATE d.val) = 5 ∧ t.get (Fld.TMG_DPLL_STATUS_QL d.val) = s.get (Fld.TMG_DPLL_QLCFG_HO_QL d.val)
        ∧ (d.val < 2 → t.get (Fld.TMG_DPLL_PPT_RD_V d.val) = unsignedOf 32 (s.dpll d.val).dco ∧ (t.dpll d.val).dco = (s.dpll d.val).dco)
        ∧ (2 ≤ d.val → t.get (Fld.TMG_DPLL_FREQ_V d.val) = unsignedOf 32 (((s.dpll d.val).dco + 50) / 100)
            ∧ (t.dpll d.val).dco = ((s.dpll d.val).dco + 50) / 100 * 100)
        ∧ s.frame t [Reg.TMG_DPLL_CFG d.val, Reg.TMG_DPLL_STATUS d.val, Reg.TMG_DPLL_FREQ d.val, Reg.TMG_DPLL_PPT_RD d.val] [.tmg]))
    ∧ (∀ (lost : Bool) (mean : Int), s.get (Fld.TMG_DPLL_STATUS_STATE d.val) = 4 → ∃ t, exec (.refSwitchComplete d lost mean) s = .next t
      ∧ t.get (Fld.TMG_DPLL_STATUS_SWITCH_EV d.val) = 1
      ∧ (lost = false → s.get (Fld.TMG_DPLL_CFG_MODE d.val) = 0 → s.holdsFor d.val (s.get (Fld.TMG_DPLL_STATUS_SEL d.val)) = false → s.get (Fld.TMG_DPLL_STATUS_SEL d.val) < 24 →
          s.selChoice d.val = some (s.get (Fld.TMG_DPLL_STATUS_SEL d.val)) →
          t.get (Fld.TMG_DPLL_STATUS_STATE d.val) = (if 1000 ≤ (s.dpll d.val).run then 2 else 1)
            ∧ t.get (Fld.TMG_DPLL_STATUS_SEL d.val) = s.get (Fld.TMG_DPLL_STATUS_SEL d.val)
            ∧ t.get (Fld.TMG_DPLL_STATUS_QL d.val) = s.get (Fld.TMG_CAND_STATUS_QL (s.get (Fld.TMG_DPLL_STATUS_SEL d.val)))
            ∧ (t.dpll d.val).pbo = if s.flag (Fld.TMG_DPLL_CFG_PBO_EN d.val) then mean else 0)
      ∧ (lost = true → s.get (Fld.TMG_DPLL_CFG_MODE d.val) = 0 → s.selChoice d.val = none → t.get (Fld.TMG_DPLL_STATUS_SEL d.val) = 31
          ∧ t.get (Fld.TMG_DPLL_STATUS_STATE d.val) = if s.flag (Fld.TMG_DPLL_STATUS_HO_VALID d.val) then 3 else 0)
      ∧ t.selSettled d.val ∧ s.frame t [Reg.TMG_DPLL_STATUS d.val, Reg.TMG_DPLL_FREQ d.val, Reg.TMG_DPLL_PPT_RD d.val] [.tmg, .fresh])
    ∧ (∀ (lost : Bool) (mean : Int), s.get (Fld.TMG_DPLL_STATUS_STATE d.val) ≠ 4 → ∃ t, exec (.refSwitchComplete d lost mean) s = .next t ∧ s.frame t [] [])
    ∧ (∀ v dco : Int, (s.get (Fld.TMG_DPLL_STATUS_SEL d.val) < 24 → ∃ t, exec (.phaseSample d v dco) s = .next t
        ∧ t.get (Fld.TMG_DPLL_PHERR_V d.val) = unsignedOf 32 (v - (s.dpll d.val).pbo)
        ∧ t.get (Fld.TMG_DPLL_PHSEQ_SEQ d.val) = (s.get (Fld.TMG_DPLL_PHSEQ_SEQ d.val) + 1) % 2 ^ 16
        ∧ t.get (Fld.TMG_DPLL_PHSEQ_CAND d.val) = s.get (Fld.TMG_DPLL_STATUS_SEL d.val)
        ∧ (t.dpll d.val).run = (if (v - (s.dpll d.val).pbo).natAbs ≤ 25600 then (s.dpll d.val).run + 1 else 0)
        ∧ ((s.get (Fld.TMG_DPLL_STATUS_STATE d.val) = 1 ∨ s.get (Fld.TMG_DPLL_STATUS_STATE d.val) = 2) → (t.dpll d.val).dco = dco)
        ∧ t.get (Fld.TMG_DPLL_STATUS_STATE d.val) = (if s.get (Fld.TMG_DPLL_STATUS_STATE d.val) = 2 ∧ 256000 < (v - (s.dpll d.val).pbo).natAbs
            then 1 else s.get (Fld.TMG_DPLL_STATUS_STATE d.val))
        ∧ s.frame t [Reg.TMG_DPLL_PHERR d.val, Reg.TMG_DPLL_PHSEQ d.val, Reg.TMG_DPLL_STATUS d.val, Reg.TMG_DPLL_FREQ d.val] [.tmg])
      ∧ (24 ≤ s.get (Fld.TMG_DPLL_STATUS_SEL d.val) → ∃ t, exec (.phaseSample d v dco) s = .next t ∧ s.frame t [] []))
    ∧ (s.get (Fld.TMG_DPLL_STATUS_STATE d.val) = 1 → 1000 ≤ (s.dpll d.val).run → ∃ t, exec (.dpllLocked d) s = .next t
      ∧ t.get (Fld.TMG_DPLL_STATUS_STATE d.val) = 2 ∧ t.get (Fld.TMG_DPLL_STATUS_STATE_EV d.val) = 1
      ∧ s.frame t [Reg.TMG_DPLL_STATUS d.val] [.tmg])
    ∧ ((s.get (Fld.TMG_DPLL_STATUS_STATE d.val) ≠ 1 ∨ (s.dpll d.val).run < 1000) → ∃ t, exec (.dpllLocked d) s = .next t ∧ s.frame t [] [])
    ∧ (s.get (Fld.TMG_DPLL_STATUS_STATE d.val) = 2 → (s.hoAvg d.val + 1) * 1000 ≤ (s.dpll d.val).lockedMs →
      ∃ t, exec (.hoValidSet d) s = .next t ∧ t.get (Fld.TMG_DPLL_STATUS_HO_VALID d.val) = 1 ∧ s.frame t [Reg.TMG_DPLL_STATUS d.val] [])
    ∧ (s.get (Fld.TMG_DPLL_STATUS_STATE d.val) ≠ 2 → ∃ t, exec (.hoValidSet d) s = .next t ∧ s.frame t [] [])
    ∧ (∀ w : BitVec 32, (2 ≤ d.val → s.get (Fld.TMG_DPLL_CFG_MODE d.val) = 3 → s.get (Fld.TMG_DPLL_STATUS_STATE d.val) ≠ 4 → ∃ t, exec (.freqWordWrite d w) s = .next t
        ∧ t.reg (Reg.TMG_DPLL_FREQ d.val) = w ∧ t.get (Fld.TMG_DPLL_STATUS_STATE d.val) = 5
        ∧ (t.dpll d.val).dco = min 100000000 (max (-100000000) (signedOf 32 w.toNat * 100))
        ∧ s.frame t [Reg.TMG_DPLL_FREQ d.val, Reg.TMG_DPLL_STATUS d.val] [.tmg])
      ∧ ((d.val < 2 ∨ s.get (Fld.TMG_DPLL_CFG_MODE d.val) ≠ 3) → ∃ t, exec (.freqWordWrite d w) s = .next t ∧ s.frame t [] []))
    ∧ (s.get (Fld.TMG_DPLL_CFG_MODE d.val) = 3 → s.get (Fld.TMG_DPLL_SWCFG_SW_TMO d.val) ≠ 0 →
      s.get (Fld.TMG_DPLL_STATUS_STATE d.val) = 5 → ∃ t, exec (.swTmoExpiry d) s = .next t
      ∧ t.get (Fld.TMG_DPLL_STATUS_STATE d.val) = 3 ∧ t.get (Fld.TMG_DPLL_STATUS_SW_TMO_EV d.val) = 1
      ∧ (t.dpll d.val).dco = (s.dpll d.val).dco ∧ s.frame t [Reg.TMG_DPLL_STATUS d.val] [.tmg])
    ∧ (s.get (Fld.TMG_DPLL_SWCFG_SW_TMO d.val) = 0 → ∃ t, exec (.swTmoExpiry d) s = .next t ∧ s.frame t [] []))
  ∧ (∀ (d : Fin 2) (v : BitVec 30) (s : State), s.spineOn = true → ∃ t, exec (.dpllPpt d v) s = .next t
    ∧ t.get (Fld.TMG_DPLL_PPT_RD_V d.val) = unsignedOf 32 (min 500000000 (max (-500000000) (signedOf 30 v.toNat)))
    ∧ (s.get (Fld.TMG_DPLL_CFG_MODE d.val) = 3 → s.get (Fld.TMG_DPLL_STATUS_STATE d.val) ≠ 4 → t.get (Fld.TMG_DPLL_STATUS_STATE d.val) = 5
        ∧ (t.dpll d.val).dco = min 500000000 (max (-500000000) (signedOf 30 v.toNat))
        ∧ s.frame t [Reg.TMG_DPLL_PPT_RD d.val, Reg.TMG_DPLL_STATUS d.val] [.tmg])
    ∧ ((s.get (Fld.TMG_DPLL_CFG_MODE d.val) ≠ 3 ∨ s.get (Fld.TMG_DPLL_STATUS_STATE d.val) = 4) → s.frame t [Reg.TMG_DPLL_PPT_RD d.val] []))

/-- R315 to R319: Berent writes an ESMC record with the line's quality into insertion channel 3; a clock output runs by its
configuration; pulse edges are stamped, and short ones counted; the ZDA sentence names the next second; received time-of-day
bytes become an event. Where the rules leave a point open, the model's choices of log entries 45, 46, 149 hold. -/
def Obligations.TimingOutputsAndStamps : Prop :=
  (∀ (n : Fin 96) (event : Bool) (s : State), s.lineOn n.val = true → s.berentDuty = true →
    (isEth (s.format n.val) = true → s.flag (Fld.LCH_OHP_THRU_CFG_ENABLE n.val) = false →
      ringFill (s.get (Fld.LCH_OHP_INS_WR_V n.val 3)) (s.get (Fld.LCH_OHP_INS_RD_V n.val 3)) ≤ 1968 →
      ∃ t, exec (.esmcPduSend n event) s = .next t
      ∧ t.get (Fld.LCH_OHP_INS_WR_V n.val 3) = (s.get (Fld.LCH_OHP_INS_WR_V n.val 3) + 80) % 2 ^ 32
      ∧ t.ringGet (insRing n.val 3) (s.get (Fld.LCH_OHP_INS_WR_V n.val 3)) 2 = leBytes 2 60
      ∧ t.ringGet (insRing n.val 3) (s.get (Fld.LCH_OHP_INS_WR_V n.val 3) + 16) 6 = [0x01, 0x80, 0xC2, 0x00, 0x00, 0x02]
      ∧ t.ringGet (insRing n.val 3) (s.get (Fld.LCH_OHP_INS_WR_V n.val 3) + 28) 6 = [0x88, 0x09, 0x0A, 0x00, 0x19, 0xA7]
      ∧ t.ringGet (insRing n.val 3) (s.get (Fld.LCH_OHP_INS_WR_V n.val 3) + 43) 1 = leBytes 1 (s.txQl n.val)
      ∧ s.bar2Except t [insRing n.val 3] ∧ s.frame t [Reg.LCH_OHP_INS_WR n.val 3] [.bar2, .fresh])
    ∧ (isEth (s.format n.val) = false → ∃ t, exec (.esmcPduSend n event) s = .next t ∧ s.frame t [] []))
  ∧ (∀ (k : Fin 12) (v : BitVec 32) (s : State), s.spineOn = true →
    (∃ t, exec (.clkoutCfgWrite k .cfg v) s = .next t ∧ t.reg (Reg.TMG_CLKOUT_CFG k.val) = v &&& 0x3F
      ∧ t.tmg.clk.getD k.val (0, 0) = (v.toNat % 64, (s.reg (Reg.TMG_CLKOUT_FREQ k.val)).toNat)
      ∧ (v.getLsbD 0 = false → t.clkOut k.val = none)
      ∧ (∀ d, d < 8 → v.getLsbD 0 = true → bitsOf v.toNat 1 3 = d → s.power.sleep = .awake → 1 ≤ s.get (Fld.TMG_CLKOUT_FREQ_FREQ_HZ k.val) →
          s.get (Fld.TMG_CLKOUT_FREQ_FREQ_HZ k.val) ≤ 800000000 →
          (bitsOf v.toNat 4 2 = 0 ∨ s.get (Fld.TMG_DPLL_STATUS_STATE d) = 2) →
          t.clkOut k.val = some (s.get (Fld.TMG_CLKOUT_FREQ_FREQ_HZ k.val)))
      ∧ (∀ d, d < 8 → bitsOf v.toNat 1 3 = d →
          ((bitsOf v.toNat 4 2 ≠ 0 ∧ s.get (Fld.TMG_DPLL_STATUS_STATE d) = 0) ∨ (2 ≤ bitsOf v.toNat 4 2 ∧ s.get (Fld.TMG_DPLL_STATUS_STATE d) = 3)
            ∨ (bitsOf v.toNat 4 2 = 3 ∧ s.get (Fld.TMG_DPLL_STATUS_STATE d) ≠ 2)) → t.clkOut k.val = none)
      ∧ s.frame t [Reg.TMG_CLKOUT_CFG k.val] [.tmg])
    ∧ (∃ t, exec (.clkoutCfgWrite k .freq v) s = .next t ∧ t.reg (Reg.TMG_CLKOUT_FREQ k.val) = v &&& 0x3FFFFFFF
      ∧ (v &&& 0x3FFFFFFF = 0 → t.clkOut k.val = none) ∧ s.frame t [Reg.TMG_CLKOUT_FREQ k.val] [.tmg]))
  ∧ (∀ (i : Fin 2) (s : State), s.spineOn = true →
    (s.flag (Fld.TMG_PPSOUT_CFG_EN i.val) = true → s.power.sleep = .awake → ∃ t, exec (.ppsOutEdge i) s = .next t
      ∧ t.tmg.pps.getD i.val none = some (unsignedOf 48 (s.ppsBoundary i.val / 1000000000), (s.ppsBoundary i.val % 1000000000).toNat, s.ppsWidth i.val)
      ∧ s.ppsBoundary i.val ≤ (s.tk.sec : Int) * 1000000000 + s.tk.ns
      ∧ (s.tk.sec : Int) * 1000000000 + s.tk.ns < s.ppsBoundary i.val + 1000000000
      ∧ (s.ppsBoundary i.val - signedOf 32 (s.get (Fld.TMG_PPSOUT_OFS_OFFSET_NS i.val))) % 1000000000 = 0 ∧ s.frame t [] [.tmg])
    ∧ (s.flag (Fld.TMG_PPSOUT_CFG_EN i.val) = false → ∃ t, exec (.ppsOutEdge i) s = .next t ∧ s.frame t [] [])
    ∧ (∀ width since, 100 ≤ width → 500000000 ≤ since → ∃ t, exec (.ppsInEdge i width since) s = .next t ∧ t.get (Fld.TMG_PPSIN_NS_V i.val) = s.tk.ns % 2 ^ 32
      ∧ t.get (Fld.TMG_PPSIN_S_LO_V i.val) = s.tk.sec % 2 ^ 32 ∧ t.get (Fld.TMG_PPSIN_S_HI_V i.val) = s.tk.sec / 2 ^ 32 % 2 ^ 16
      ∧ t.get (Fld.TMG_PPSIN_SEQ_SEQ i.val) = (s.get (Fld.TMG_PPSIN_SEQ_SEQ i.val) + 1) % 2 ^ 16
      ∧ t.get (Fld.TMG_PPSIN_SEQ_PPS_EV i.val) = 1
      ∧ s.frame t [Reg.TMG_PPSIN_NS i.val, Reg.TMG_PPSIN_S_LO i.val, Reg.TMG_PPSIN_S_HI i.val, Reg.TMG_PPSIN_SEQ i.val] [])
    ∧ (∀ width since, (width < 100 ∨ since < 500000000) → ∃ t, exec (.ppsInEdge i width since) s = .next t
      ∧ t.get (Fld.TMG_PPSIN_SEQ_GLITCH i.val) = min (s.get (Fld.TMG_PPSIN_SEQ_GLITCH i.val) + 1) 255
      ∧ t.get (Fld.TMG_PPSIN_SEQ_SEQ i.val) = s.get (Fld.TMG_PPSIN_SEQ_SEQ i.val) ∧ s.frame t [Reg.TMG_PPSIN_SEQ i.val] []))
  ∧ (∀ (s : State), s.berentDuty = true →
    (s.mbx.todZda = true → ∃ t, exec .todZdaSend s = .next t ∧ t.tmg.zda = some s.nextPps
        ∧ (s.get (Fld.TMG_PPSOUT_OFS_OFFSET_NS 0) ≤ s.tk.ns → s.tk.ns < 1000000000 → t.tmg.zda = some ((s.tk.sec + 1) % 2 ^ 48)) ∧ s.frame t [] [.tmg])
    ∧ (s.mbx.todZda = false → ∃ t, exec .todZdaSend s = .next t ∧ s.frame t [] [])
    ∧ (∀ (bs : List (BitVec 8)) (sec ns : Nat), s.mbx.todRx = true → bs ≠ [] → bs.length ≤ 40 → ∃ t, exec (.todRxGroup bs sec ns) s = .next t
      ∧ (∀ q : Nat × Nat, s.mbx.evq = some q → s.mbx.evWait = [] → s.mbx.evLost = 0 → s.evqRoom = true →
          t.host = Sparse.setList zeroDefault s.host (q.1 + s.get Fld.MBX_EVQ_WR_V * 64 % q.2)
            ((⟨0x0030, 0, s.mbx.evSeq % 2 ^ 32, ns, sec % 2 ^ 32, leBytes 1 bs.length ++ bs⟩ : EventRec).bytes)
          ∧ t.get Fld.MBX_EVQ_WR_V = (s.get Fld.MBX_EVQ_WR_V + 1) % 2 ^ 32 ∧ t.irq.pulse.testBit 6 = true)
      ∧ s.frame t eventRegs [.mbx, .irq, .host])
    ∧ (∀ (bs : List (BitVec 8)) (sec ns : Nat), s.mbx.todRx = false → ∃ t, exec (.todRxGroup bs sec ns) s = .next t ∧ s.frame t [] []))

/-! ## Sample conditioning chain -/

/-- R326 to R333, R337 to R339, R341, R342: an input is clamped to 24 bits or held; the median is the middle of its window;
the FIR sum is rounded to nearest; each output tick writes the record of every running slot; PERSIST samples set and clear HI
and LO of a sense slot. Where the rules leave a point open, the model's choice of log entry 47 holds. -/
def Obligations.SamplesPassTheStages : Prop :=
  (∀ (k : Fin 128) (v : Int) (s : State), s.spineOn = true →
    ((s.sccSlot k.val).run = true → (s.sccSlot k.val).mid = none → ∃ t, exec (.sccRawSample k v) s = .next t
      ∧ t.flag (Fld.SCC_SLOT_STATUS_HOLD k.val) = s.sccHeld k.val
      ∧ (s.sccHeld k.val = true → (t.sccSlot k.val).input = (s.sccSlot k.val).input
          ∧ t.get (Fld.SCC_SLOT_STATUS_SAT_EV k.val) = s.get (Fld.SCC_SLOT_STATUS_SAT_EV k.val))
      ∧ (s.sccHeld k.val = false → k.val < 8 ∨ (64 ≤ k.val ∧ k.val < 82) →
          ((-(2 : Int) ^ 23 ≤ v ∧ v ≤ 2 ^ 23 - 1) → (t.sccSlot k.val).input = v)
          ∧ (2 ^ 23 ≤ v → (t.sccSlot k.val).input = 2 ^ 23 - 1 ∧ t.get (Fld.SCC_SLOT_STATUS_SAT_EV k.val) = 1)
          ∧ (v < -(2 : Int) ^ 23 → (t.sccSlot k.val).input = -(2 : Int) ^ 23 ∧ t.get (Fld.SCC_SLOT_STATUS_SAT_EV k.val) = 1))
      ∧ (t.sccSlot k.val).win = (((t.sccSlot k.val).input, s.sccHeld k.val) :: (s.sccSlot k.val).win).take (s.sccSlot k.val).medLen
      ∧ ((s.sccSlot k.val).ratio = 1 → (s.sccSlot k.val).medLen ≤ (s.sccSlot k.val).win.length + 1 →
          ∀ m : Int × Bool, (t.sccSlot k.val).mid = some m → ∃ x, x ∈ (t.sccSlot k.val).win ∧ m.1 = x.1 * 256
            ∧ 2 * ((t.sccSlot k.val).win.filter (fun y => decide (y.1 < x.1))).length < (s.sccSlot k.val).medLen
            ∧ 2 * ((t.sccSlot k.val).win.filter (fun y => decide (x.1 < y.1))).length < (s.sccSlot k.val).medLen)
      ∧ ((s.sccSlot k.val).ratio ≠ 1 → (s.sccSlot k.val).dec + 1 < (s.sccSlot k.val).ratio →
          (t.sccSlot k.val).mid = none ∧ (t.sccSlot k.val).dec = (s.sccSlot k.val).dec + 1 ∧ (t.sccSlot k.val).combs = (s.sccSlot k.val).combs)
      ∧ ((s.sccSlot k.val).ratio = 1 ∨ (s.sccSlot k.val).ratio ≤ (s.sccSlot k.val).dec + 1 → (t.sccSlot k.val).mid ≠ none)
      ∧ (∀ j, j ≠ k.val → t.sccSlot j = s.sccSlot j) ∧ t.scc.coefs = s.scc.coefs ∧ s.frame t [Reg.SCC_SLOT_STATUS k.val] [.scc])
    ∧ ((s.sccSlot k.val).run = false → ∃ t, exec (.sccRawSample k v) s = .next t ∧ s.frame t [] []))
  ∧ (∀ (s : State) (k bank : Nat) (line : List Int),
    2 * (s.firSum k bank line * 2 ^ 17 - (((List.range 64).map (fun i => s.coef k bank i * line.getD i 0)).foldl (· + ·) 0)).natAbs ≤ 2 ^ 17)
  ∧ (∀ (k : Fin 128) (s : State), s.spineOn = true →
    (∀ x : Int × Bool, (s.sccSlot k.val).mid = some x → ∃ t, exec (.sccMidSample k) s = .next t ∧ (t.sccSlot k.val).mid = none
      ∧ ((64 ≤ k.val ∨ s.flag (Fld.SCC_SLOT_CFG_DCB_EN k.val) = false) →
          (t.sccSlot k.val).line = ((clampSigned 32 x.1, x.2) :: (s.sccSlot k.val).line).take 64 ∧ (t.sccSlot k.val).mean = (s.sccSlot k.val).mean
            ∧ t.get (Fld.SCC_SLOT_STATUS_FROZEN k.val) = 0)
      ∧ (k.val < 64 → s.flag (Fld.SCC_SLOT_CFG_DCB_EN k.val) = true →
          ((s.sccSlot k.val).loaded = false → (s.sccSlot k.val).settled = true → (t.sccSlot k.val).mean = x.1 * 65536
            ∧ (t.sccSlot k.val).loaded = true ∧ (t.sccSlot k.val).line = ((0, x.2) :: (s.sccSlot k.val).line).take 64)
          ∧ ((s.sccSlot k.val).loaded = true → s.sccFrozen k.val = true → (t.sccSlot k.val).mean = (s.sccSlot k.val).mean
            ∧ t.get (Fld.SCC_SLOT_STATUS_FROZEN k.val) = 1))
      ∧ ((s.sccSlot k.val).fade = none → (t.sccSlot k.val).hist.head? =
          some (clampSigned 32 (s.firSum k.val (s.get (Fld.SCC_SLOT_FIR_ACTIVE k.val)) ((t.sccSlot k.val).line.map (fun c => c.1))),
            (t.sccSlot k.val).line.any (fun c => c.2)))
      ∧ (∀ f : Nat × Nat × Nat, (s.sccSlot k.val).fade = some f → f.2.1 < f.2.2 → (t.sccSlot k.val).fade = some (f.1, f.2.1 + 1, f.2.2)
          ∧ (t.sccSlot k.val).faded = true)
      ∧ (∀ j, j ≠ k.val → t.sccSlot j = s.sccSlot j) ∧ t.scc.coefs = s.scc.coefs ∧ s.frame t [Reg.SCC_SLOT_STATUS k.val] [.scc])
    ∧ ((s.sccSlot k.val).mid = none → ∃ t, exec (.sccMidSample k) s = .next t ∧ s.frame t [] [])
    ∧ (s.flag (Fld.SCC_SLOT_STATUS_SETTLING k.val) = false → 64 ≤ k.val → ∃ t, exec (.sccThresholdCross k) s = .next t
      ∧ (s.flag (Fld.SCC_SLOT_THR_CFG_HI_EN k.val) = true →
          (s.flag (Fld.SCC_SLOT_STATUS_HI k.val) = false → s.persist k.val ≤ (s.sccSlot k.val).hiUp →
            t.flag (Fld.SCC_SLOT_STATUS_HI k.val) = true ∧ t.get (Fld.SCC_SLOT_STATUS_HI_EV k.val) = 1)
          ∧ (s.flag (Fld.SCC_SLOT_STATUS_HI k.val) = true → s.persist k.val ≤ (s.sccSlot k.val).hiDown →
            t.flag (Fld.SCC_SLOT_STATUS_HI k.val) = false
              ∧ t.get (Fld.SCC_SLOT_STATUS_HI_EV k.val) = s.get (Fld.SCC_SLOT_STATUS_HI_EV k.val)))
      ∧ (s.flag (Fld.SCC_SLOT_THR_CFG_LO_EN k.val) = true →
          (s.flag (Fld.SCC_SLOT_STATUS_LO k.val) = false → s.persist k.val ≤ (s.sccSlot k.val).loUp →
            t.flag (Fld.SCC_SLOT_STATUS_LO k.val) = true ∧ t.get (Fld.SCC_SLOT_STATUS_LO_EV k.val) = 1)
          ∧ (s.flag (Fld.SCC_SLOT_STATUS_LO k.val) = true → s.persist k.val ≤ (s.sccSlot k.val).loDown →
            t.flag (Fld.SCC_SLOT_STATUS_LO k.val) = false))
      ∧ s.frame t [Reg.SCC_SLOT_STATUS k.val] [])
    ∧ ((k.val < 64 ∨ s.flag (Fld.SCC_SLOT_STATUS_SETTLING k.val) = true) → ∃ t, exec (.sccThresholdCross k) s = .next t ∧ s.frame t [] [])
    ∧ (∀ (r : Fin 3) (v : BitVec 32), ∃ t, exec (.sccThresholdWrite k r v) s = .next t
      ∧ (64 ≤ k.val → t.reg (Reg.SCC_SLOT_THR_HI k.val + 4 * r.val) = v) ∧ (k.val < 64 → s.frame t [] [.scc])
      ∧ (t.sccSlot k.val).hiUp = 0 ∧ (t.sccSlot k.val).hiDown = 0 ∧ (t.sccSlot k.val).loUp = 0 ∧ (t.sccSlot k.val).loDown = 0
      ∧ s.frame t [Reg.SCC_SLOT_THR_HI k.val + 4 * r.val] [.scc])
    ∧ (∀ v : BitVec 32, ∃ t, exec (.sccDlyWrite k v) s = .next t ∧ t.get (Fld.SCC_SLOT_DLY_DLY_INT k.val) = v.toNat % 1024
      ∧ t.get (Fld.SCC_SLOT_DLY_DLY_FRAC k.val) = v.toNat / 1024 % 64 ∧ s.frame t [Reg.SCC_SLOT_DLY k.val] [])
    ∧ (s.get (Fld.SCC_SLOT_STATUS_SETTLE_LEN k.val) ≤ (s.sccSlot k.val).settle → ∃ t, exec (.sccSettleEnd k) s = .next t
      ∧ t.get (Fld.SCC_SLOT_STATUS_SETTLING k.val) = 0 ∧ s.frame t [Reg.SCC_SLOT_STATUS k.val] [])
    ∧ ((s.sccSlot k.val).settle < s.get (Fld.SCC_SLOT_STATUS_SETTLE_LEN k.val) → ∃ t, exec (.sccSettleEnd k) s = .next t ∧ s.frame t [] []))
  ∧ (∀ (s : State) (tick : Nat), s.spineOn = true → tick = (s.get Fld.SCC_TICK_TICK + 1) % 2 ^ 32 → ∃ t, exec .sccOutputTick s = .next t
    ∧ t.get Fld.SCC_TICK_TICK = tick ∧ t.get Fld.SCC_GLB_CTL_SYNC_ALL = 0
    ∧ (∀ k, k < 128 →
      ((s.flag (Fld.SCC_SLOT_CFG_EN k) = true ∧ ((s.sccSlot k).run = true ∨ (s.sccSlot k).restart = true) ∧ s.flag (Fld.SCC_SLOT_STATUS_CFG_ERR k) = false) →
        t.bar2Bytes (0x3300000 + k * 0x800 + tick % 256 * 8) 8 =
          sccRecord ((t.sccSlot k).outs.getD (s.get (Fld.SCC_SLOT_DLY_DLY_INT k)) (0, false)).1 tick
            (decide ((s.sccSlot k).settle < s.get (Fld.SCC_SLOT_STATUS_SETTLE_LEN k))) (s.sccSlot k).sat (s.sccSlot k).faded (s.sccSlot k).frozen
            ((t.sccSlot k).outs.getD (s.get (Fld.SCC_SLOT_DLY_DLY_INT k)) (0, false)).2
        ∧ (t.sccSlot k).outs = ((s.sccSlot k).resample k (s.get Fld.SCC_OUT_HZ_ACT_OUT_HZ) (s.get (Fld.SCC_SLOT_DLY_DLY_FRAC k))
            :: (s.sccSlot k).outs).take 1024
        ∧ (t.sccSlot k).run = true ∧ (t.sccSlot k).pos = (s.sccSlot k).pos + 64 * rawHz k)
      ∧ (s.flag (Fld.SCC_SLOT_CFG_EN k) = false → (t.sccSlot k).run = false
          ∧ t.bar2Bytes (0x3300000 + k * 0x800) 2048 = s.bar2Bytes (0x3300000 + k * 0x800) 2048))
    ∧ s.bar2Except t [(0x3300000, 0x40000)]
    ∧ s.frame t (Reg.SCC_TICK :: Reg.SCC_GLB_CTL :: (List.range 128).map Reg.SCC_SLOT_CTL) [.bar2, .scc])

/-- R333 to R335, R340: a coefficient is written or a library set loaded unless the slot fades; a swap request starts a fade
or is held; the end of a fade takes the held request up; SYNC, SYNC_ALL and a rise of EN clear the slot, a fall of EN keeps
its state. -/
def Obligations.BanksSwapAndSlotsReset : Prop :=
  (∀ (s : State) (k b i : Nat), s.spineOn = true → k = s.get Fld.SCC_COEF_ADDR_SLOT → b = s.get Fld.SCC_COEF_ADDR_BANK →
    i = s.get Fld.SCC_COEF_ADDR_TAP →
    (∃ t, exec (.sccCoefDataAccess .read) s = .next t
      ∧ t.get Fld.SCC_COEF_ADDR_TAP = (if s.flag Fld.SCC_COEF_ADDR_AUTOINC then (i + 1) % 64 else i)
      ∧ s.frame t [Reg.SCC_COEF_ADDR] [])
    ∧ (∀ v : BitVec 32, ∃ t, exec (.sccCoefDataAccess (.write v)) s = .next t
      ∧ t.get Fld.SCC_COEF_ADDR_TAP = (if s.flag Fld.SCC_COEF_ADDR_AUTOINC then (i + 1) % 64 else i)
      ∧ ((s.sccSlot k).fade = none → t.coef k b i = signedOf 18 v.toNat
          ∧ (∀ m c j, m < 128 → c < 2 → j < 64 → (m ≠ k ∨ c ≠ b ∨ j ≠ i) → t.coef m c j = s.coef m c j)
          ∧ s.frame t [Reg.SCC_COEF_ADDR] [.scc])
      ∧ ((s.sccSlot k).fade ≠ none → t.get (Fld.SCC_SLOT_STATUS_WR_REF_EV k) = 1
          ∧ s.frame t [Reg.SCC_COEF_ADDR, Reg.SCC_SLOT_STATUS k] [])))
  ∧ (∀ (k : Fin 128) (bank : Fin 2) (set : Fin 16) (s : State), s.spineOn = true →
    ∀ w : BitVec 32, w.toNat = k.val + bank.val * 2 ^ 7 + set.val * 2 ^ 8 + 2 ^ 12 →
    (set.val ≤ 8 → (s.sccSlot k.val).fade = none → ∃ t, exec (.sccCoefLoad w) s = .next t
      ∧ (∀ i, i < 64 → t.coef k.val bank.val i = libraryTap set.val i)
      ∧ (set.val = 0 → t.coef k.val bank.val 0 = 131071 ∧ ∀ i, i < 64 → 0 < i → t.coef k.val bank.val i = 0)
      ∧ (∀ m c j, m < 128 → c < 2 → j < 64 → (m ≠ k.val ∨ c ≠ bank.val) → t.coef m c j = s.coef m c j)
      ∧ t.get Fld.SCC_COEF_LOAD_GO = 0 ∧ s.frame t [Reg.SCC_COEF_LOAD] [.scc])
    ∧ (set.val ≤ 8 → (s.sccSlot k.val).fade ≠ none → ∃ t, exec (.sccCoefLoad w) s = .next t
      ∧ t.get (Fld.SCC_SLOT_STATUS_WR_REF_EV k.val) = 1 ∧ s.frame t [Reg.SCC_COEF_LOAD, Reg.SCC_SLOT_STATUS k.val] [])
    ∧ (8 < set.val → ∃ t, exec (.sccCoefLoad w) s = .next t ∧ s.frame t [Reg.SCC_COEF_LOAD] []))
  ∧ (∀ (k : Fin 128) (v : BitVec 32) (s : State), s.spineOn = true →
    (v.getLsbD 8 = false → ∃ t, exec (.sccBankSwapRequest k v) s = .next t ∧ t.get (Fld.SCC_SLOT_FIR_FADE_K k.val) = v.toNat / 16 % 16
      ∧ t.get (Fld.SCC_SLOT_FIR_FADING k.val) = s.get (Fld.SCC_SLOT_FIR_FADING k.val)
      ∧ t.get (Fld.SCC_SLOT_FIR_PEND k.val) = s.get (Fld.SCC_SLOT_FIR_PEND k.val) ∧ s.frame t [Reg.SCC_SLOT_FIR k.val] [])
    ∧ (v.getLsbD 8 = true → (s.sccSlot k.val).fade = none → s.get (Fld.SCC_SLOT_FIR_ACTIVE k.val) = wordBits v 9 1 →
      ∃ t, exec (.sccBankSwapRequest k v) s = .next t ∧ t.get (Fld.SCC_SLOT_FIR_ACTIVE k.val) = s.get (Fld.SCC_SLOT_FIR_ACTIVE k.val)
      ∧ s.frame t [Reg.SCC_SLOT_FIR k.val] [])
    ∧ (v.getLsbD 8 = true → (s.sccSlot k.val).fade = none → s.get (Fld.SCC_SLOT_FIR_ACTIVE k.val) ≠ wordBits v 9 1 →
      ∃ t, exec (.sccBankSwapRequest k v) s = .next t ∧ t.get (Fld.SCC_SLOT_FIR_FADING k.val) = 1
      ∧ (t.sccSlot k.val).fade = some (wordBits v 9 1, 0, 2 ^ min 10 (v.toNat / 16 % 16)) ∧ s.frame t [Reg.SCC_SLOT_FIR k.val] [.scc])
    ∧ (v.getLsbD 8 = true → (s.sccSlot k.val).fade ≠ none → ∃ t, exec (.sccBankSwapRequest k v) s = .next t
      ∧ t.get (Fld.SCC_SLOT_FIR_PEND k.val) = 1 ∧ t.get (Fld.SCC_SLOT_FIR_PEND_BANK k.val) = wordBits v 9 1
      ∧ s.frame t [Reg.SCC_SLOT_FIR k.val] []))
  ∧ (∀ (k : Fin 128) (s : State), s.spineOn = true →
    (∀ f : Nat × Nat × Nat, (s.sccSlot k.val).fade = some f → f.1 < 2 →
      (f.2.2 ≤ f.2.1 → ∃ t, exec (.sccFadeEnd k) s = .next t ∧ t.get (Fld.SCC_SLOT_FIR_ACTIVE k.val) = f.1
        ∧ t.get (Fld.SCC_SLOT_FIR_PEND k.val) = 0
        ∧ ((s.get (Fld.SCC_SLOT_FIR_PEND k.val) = 0 ∨ s.get (Fld.SCC_SLOT_FIR_PEND_BANK k.val) = f.1) →
            (t.sccSlot k.val).fade = none ∧ t.get (Fld.SCC_SLOT_FIR_FADING k.val) = 0)
        ∧ (s.get (Fld.SCC_SLOT_FIR_PEND k.val) = 1 → s.get (Fld.SCC_SLOT_FIR_PEND_BANK k.val) ≠ f.1 →
            (t.sccSlot k.val).fade = some (s.get (Fld.SCC_SLOT_FIR_PEND_BANK k.val), 0, 2 ^ s.fadeK k.val)
              ∧ t.get (Fld.SCC_SLOT_FIR_FADING k.val) = 1)
        ∧ s.frame t [Reg.SCC_SLOT_FIR k.val] [.scc])
      ∧ (f.2.1 < f.2.2 → ∃ t, exec (.sccFadeEnd k) s = .next t ∧ s.frame t [] []))
    ∧ (∃ t, exec (.sccSlotSync k) s = .next t ∧ s.slotCleared t k.val ∧ t.get (Fld.SCC_SLOT_CTL_SYNC k.val) = 1
      ∧ (∀ j, j ≠ k.val → t.sccSlot j = s.sccSlot j) ∧ t.scc.coefs = s.scc.coefs
      ∧ s.frame t [Reg.SCC_SLOT_FIR k.val, Reg.SCC_SLOT_STATUS k.val, Reg.SCC_SLOT_CTL k.val] [.scc])
    ∧ (s.flag (Fld.SCC_SLOT_CFG_EN k.val) = false → ∃ t, exec (.sccSlotEnRise k) s = .next t
      ∧ t.flag (Fld.SCC_SLOT_CFG_EN k.val) = true ∧ (s.raise (Fld.SCC_SLOT_CFG_EN k.val)).slotCleared t k.val
      ∧ (∀ j, j ≠ k.val → t.sccSlot j = s.sccSlot j) ∧ t.scc.coefs = s.scc.coefs
      ∧ s.frame t [Reg.SCC_SLOT_CFG k.val, Reg.SCC_SLOT_FIR k.val, Reg.SCC_SLOT_STATUS k.val] [.scc])
    ∧ (s.flag (Fld.SCC_SLOT_CFG_EN k.val) = true → ∃ t, exec (.sccSlotEnRise k) s = .next t ∧ s.frame t [] [])
    ∧ (∃ t, exec (.sccSlotEnFall k) s = .next t ∧ t.flag (Fld.SCC_SLOT_CFG_EN k.val) = false
      ∧ t.get (Fld.SCC_SLOT_CFG_MED k.val) = s.get (Fld.SCC_SLOT_CFG_MED k.val)
      ∧ t.get (Fld.SCC_SLOT_CFG_CIC_R k.val) = s.get (Fld.SCC_SLOT_CFG_CIC_R k.val) ∧ s.frame t [Reg.SCC_SLOT_CFG k.val] []))
  ∧ (∀ (s : State), s.spineOn = true → ∃ t, exec .sccSyncAll s = .next t
    ∧ t.get Fld.SCC_OUT_HZ_ACT_OUT_HZ = max 1000 (min 64000 (s.get Fld.SCC_GLB_CFG_OUT_HZ)) ∧ t.get Fld.SCC_TICK_TICK = 0xFFFFFFFF
    ∧ (∀ k, k < 128 → (s.flag (Fld.SCC_SLOT_CFG_EN k) = true → s.slotCleared t k)
        ∧ (s.flag (Fld.SCC_SLOT_CFG_EN k) = false → t.sccSlot k = s.sccSlot k))
    ∧ t.scc.coefs = s.scc.coefs
    ∧ s.frame t ([Reg.SCC_OUT_HZ_ACT, Reg.SCC_TICK, Reg.SCC_GLB_CTL]
        ++ (List.range 128).flatMap (fun k => [Reg.SCC_SLOT_FIR k, Reg.SCC_SLOT_STATUS k])) [.scc])

/-! ## DMA engine and check-value units -/

/-- R423, R425 to R434: a trigger starts a run, is held or dropped; STOP, a fall of EN, D3hot and a cleared Bus Master Enable
halt it; the arbiter serves a ready channel of the highest priority; a descriptor that fails a check halts the run before its
first byte, one that passes lies in both windows; the end of a run chains and takes the held trigger up. Where the rules leave
a point open, the model's choices of log entries 55, 147 hold. -/
def Obligations.DmaRunsStartMoveAndHalt : Prop :=
  (∀ (by' : Agent) (c : Fin 16) (v : BitVec 32) (s : State), s.spineOn = true →
    (by' = .host → s.dmaHost c.val = false →
      ∀ x : Nat × Instr, x ∈ [(0, .dmaStart by' c), (0, .dmaStop by' c), (0, .dmaChannelEnable by' c v), (0, .dmaChannelDisable by' c v),
        (0, .dmaHptrWrite by' c v)] → ∃ t, exec x.2 s = .next t ∧ t.get Fld.DMA_GLB_STATUS_RSV_WR_EV = 1 ∧ s.frame t [Reg.DMA_GLB_STATUS] [])
    ∧ (by' = .firmware ∨ s.dmaHost c.val = true →
      (s.get (Fld.DMA_CH_CFG_TRIG c.val) ≠ 1 → s.get (Fld.DMA_CH_CFG_TRIG c.val) ≠ 2 → s.flag (Fld.DMA_CH_CFG_EN c.val) = true →
        s.get (Fld.DMA_CH_STATUS_STATE c.val) ≠ 2 →
        ((s.dmaOf c.val).run = none → s.hostWrites = true → s.flag (Fld.DMA_CH_CFG_CVU_EN c.val) = false →
          ∃ t, exec (.dmaStart by' c) s = .next t ∧ s.dmaStarted t c.val ∧ (t.dmaOf c.val).run.isSome = true ∧ s.frame t (dmaRegs c.val) [.dma])
        ∧ ((s.dmaOf c.val).run = none → s.hostWrites = false →
          ∃ t, exec (.dmaStart by' c) s = .next t ∧ s.dmaHalted t c.val 7 ∧ s.frame t (dmaRegs c.val) [.dma, .fcr])
        ∧ ((s.dmaOf c.val).run.isSome = true → s.flag (Fld.DMA_CH_STATUS_PEND c.val) = false →
          ∃ t, exec (.dmaStart by' c) s = .next t ∧ t.get (Fld.DMA_CH_STATUS_PEND c.val) = 1 ∧ s.frame t [Reg.DMA_CH_STATUS c.val] [])
        ∧ ((s.dmaOf c.val).run.isSome = true → s.flag (Fld.DMA_CH_STATUS_PEND c.val) = true →
          ∃ t, exec (.dmaStart by' c) s = .next t ∧ t.get (Fld.DMA_CH_STATUS_TRIG_OVR_EV c.val) = 1 ∧ s.frame t [Reg.DMA_CH_STATUS c.val] []))
      ∧ ((s.get (Fld.DMA_CH_CFG_TRIG c.val) = 1 ∨ s.get (Fld.DMA_CH_CFG_TRIG c.val) = 2 ∨ s.flag (Fld.DMA_CH_CFG_EN c.val) = false
          ∨ s.get (Fld.DMA_CH_STATUS_STATE c.val) = 2) → ∃ t, exec (.dmaStart by' c) s = .next t ∧ s.frame t [] [])
      ∧ ((s.dmaOf c.val).run.isSome = true → ∃ t, exec (.dmaStop by' c) s = .next t ∧ s.dmaHalted t c.val 9
        ∧ s.frame t (Reg.CVU_STATUS (bitsOf (((s.dmaOf c.val).run.map (fun r => r.cfg)).getD 0) 14 4) :: dmaRegs c.val) [.dma, .fcr])
      ∧ ((s.dmaOf c.val).run = none → ∃ t, exec (.dmaStop by' c) s = .next t ∧ s.frame t [] [])
      ∧ (s.flag (Fld.DMA_CH_CFG_EN c.val) = false → ∃ t, exec (.dmaChannelEnable by' c v) s = .next t
        ∧ t.flag (Fld.DMA_CH_CFG_EN c.val) = true ∧ t.get (Fld.DMA_CH_CFG_TRIG c.val) = v.toNat / 8 % 4 ∧ t.get (Fld.DMA_CH_EPTR_V c.val) = 0
        ∧ t.get (Fld.DMA_CH_STATUS_STATE c.val) = 0 ∧ t.get (Fld.DMA_CH_STATUS_ERR c.val) = 0 ∧ (t.dmaOf c.val).run = (s.dmaOf c.val).run
        ∧ s.frame t [Reg.DMA_CH_CFG c.val, Reg.DMA_CH_EPTR c.val, Reg.DMA_CH_STATUS c.val] [.dma])
      ∧ (s.flag (Fld.DMA_CH_CFG_EN c.val) = true → ∃ t, exec (.dmaChannelEnable by' c v) s = .next t
        ∧ t.flag (Fld.DMA_CH_CFG_EN c.val) = true ∧ s.frame t [Reg.DMA_CH_CFG c.val] [])
      ∧ (s.flag (Fld.DMA_CH_CFG_EN c.val) = true → (s.dmaOf c.val).run.isSome = true → ∃ t, exec (.dmaChannelDisable by' c v) s = .next t
        ∧ t.flag (Fld.DMA_CH_CFG_EN c.val) = false ∧ s.dmaHalted t c.val 9
        ∧ s.frame t (Reg.DMA_CH_CFG c.val :: Reg.CVU_STATUS (bitsOf (((s.dmaOf c.val).run.map (fun r => r.cfg)).getD 0) 14 4) :: dmaRegs c.val)
            [.dma, .fcr])
      ∧ (s.flag (Fld.DMA_CH_CFG_EN c.val) = true → (s.dmaOf c.val).run = none → ∃ t, exec (.dmaChannelDisable by' c v) s = .next t
        ∧ t.flag (Fld.DMA_CH_CFG_EN c.val) = false ∧ t.get (Fld.DMA_CH_STATUS_STATE c.val) = 0 ∧ t.get (Fld.DMA_CH_STATUS_PEND c.val) = 0
        ∧ s.frame t [Reg.DMA_CH_CFG c.val, Reg.DMA_CH_STATUS c.val] [])
      ∧ (∀ n, (s.dmaOf c.val).size = some n →
        n < (if s.flag (Fld.DMA_CH_RING_CFG_INS c.val) then ringFill v.toNat (s.get (Fld.DMA_CH_EPTR_V c.val))
          else ringFill (s.get (Fld.DMA_CH_EPTR_V c.val)) v.toNat) → ∃ t, exec (.dmaHptrWrite by' c v) s = .next t
        ∧ t.get (Fld.DMA_CH_STATUS_HPTR_EV c.val) = 1 ∧ s.frame t [Reg.DMA_CH_STATUS c.val] [])
      ∧ ((s.dmaOf c.val).size = none → ∃ t, exec (.dmaHptrWrite by' c v) s = .next t
        ∧ t.get (Fld.DMA_CH_HPTR_V c.val) = v.toNat ∧ s.frame t [Reg.DMA_CH_HPTR c.val] [])))
  ∧ (∀ (i : Fin 8) (s : State), s.spineOn = true →
    (s.flag (Fld.DMA_TMR_CFG_EN i.val) = false → ∃ t, exec (.dmaTimerTick i) s = .next t ∧ s.frame t [] [])
    ∧ (s.flag (Fld.DMA_TMR_CFG_EN i.val) = true → s.hostWrites = true → ∃ t, exec (.dmaTimerTick i) s = .next t
      ∧ (∀ c, c < 16 →
        ((s.get (Fld.DMA_CH_CFG_TRIG c) = 1 ∧ s.get (Fld.DMA_CH_CFG_TMR c) = i.val ∧ s.flag (Fld.DMA_CH_CFG_EN c) = true
            ∧ s.get (Fld.DMA_CH_STATUS_STATE c) ≠ 2 ∧ (s.dmaOf c).run = none ∧ s.flag (Fld.DMA_CH_CFG_CVU_EN c) = false) → s.dmaStarted t c)
        ∧ ((s.get (Fld.DMA_CH_CFG_TRIG c) ≠ 1 ∨ s.get (Fld.DMA_CH_CFG_TMR c) ≠ i.val) →
            t.dmaOf c = s.dmaOf c ∧ t.reg (Reg.DMA_CH_STATUS c) = s.reg (Reg.DMA_CH_STATUS c)))
      ∧ s.frame t ((List.range 16).flatMap dmaRegs) [.dma, .fcr]))
  ∧ (∀ (s : State) (c : Nat), s.dmaChoice = some c → s.dmaReady c = true
    ∧ ((∀ k, k < 16 → s.dmaReady k = true → (s.dmaOf k).passed < 32) → ∀ k, k < 16 → s.dmaReady k = true → s.dmaPrio k ≤ s.dmaPrio c))
  ∧ (∀ (r : DmaRun) (d : DmaDesc), r.check d = 0 →
    (d.dir ≠ 2 → r.hostBase ≤ d.addr ∧ d.addr + d.len ≤ r.hostLim)
    ∧ (r.ringMode = false → d.dir ≠ 3 → r.devBase ≤ d.ofs ∧ d.ofs + d.len ≤ r.devLim ∧ devRangeOk d.ofs d.len = true)
    ∧ (r.ringMode = false → d.dir = 2 → r.devBase ≤ d.addr ∧ d.addr + d.len ≤ r.devLim ∧ devRangeOk d.addr d.len = true) ∧ d.rsv = 0)
  ∧ (∀ (list : List (BitVec 128)) (x : DmaRead) (s : State), s.spineOn = true →
    (s.dmaChoice = none → ∃ t, exec (.dmaBurst list x) s = .next t ∧ s.frame t [] [])
    ∧ (∀ (c : Nat) (r : DmaRun), s.dmaChoice = some c → (s.dmaOf c).run = some r → bitOf r.cfg 13 = false → r.ringMode = false →
      (∀ w l, list = w :: l → x ≠ .hostError → r.desc = none → r.idx < 4096 → r.hostBase < r.hostLim → r.hostBase ≤ r.list + 16 * r.idx →
        r.list + 16 * r.idx + 16 ≤ r.hostLim → ((descOfBits w).len ≠ 0 ∨ (descOfBits w).rsv ≠ 0) → r.check (descOfBits w) ≠ 0 →
        ∃ t, exec (.dmaBurst list x) s = .next t ∧ s.dmaHalted t c (r.check (descOfBits w)) ∧ t.get (Fld.DMA_CH_STATUS_DESC_IDX c) = r.idx % 65536
        ∧ s.frame t (dmaRegs c) [.dma, .fcr])
      ∧ (∀ d : DmaDesc, r.desc = some d → d.dir = 1 → x ≠ .ecc → r.left ≠ 0 → ∃ t, exec (.dmaBurst list x) s = .next t
        ∧ (∀ m, m = min r.left (256 - (d.addr + r.moved) % 256) →
            t.host = Sparse.setList zeroDefault s.host (d.addr + r.moved) ((List.range m).map (fun i => s.bar2See (d.ofs + r.moved + i)))
            ∧ t.get (Fld.DMA_CH_BYTES_V c) = (s.get (Fld.DMA_CH_BYTES_V c) + m) % 2 ^ 32)
        ∧ s.frame t [Reg.DMA_CH_STATUS c, Reg.DMA_CH_BYTES c] [.dma, .host])
      ∧ (∀ d : DmaDesc, r.desc = some d → d.dir = 0 → x = .hostError → ∃ t, exec (.dmaBurst list x) s = .next t ∧ s.dmaHalted t c 4
        ∧ s.frame t (dmaRegs c) [.dma, .fcr])))
  ∧ (∀ (c : Fin 16) (s : State), s.spineOn = true →
    (∀ (r : DmaRun) (d : DmaDesc), (s.dmaOf c.val).run = some r → r.fence = true → r.desc = some d → r.ringMode = false → d.last = true →
      ∃ t, exec (.dmaFenceComplete c) s = .next t ∧ (t.dmaOf c.val).run = some { r with ended := true, fence := false, desc := none }
      ∧ (d.irq = true → t.get (Fld.DMA_CH_STATUS_DESC_EV c.val) = 1) ∧ s.frame t [Reg.DMA_CH_STATUS c.val] [.dma])
    ∧ ((∀ r, (s.dmaOf c.val).run = some r → r.fence = false) → ∃ t, exec (.dmaFenceComplete c) s = .next t ∧ s.frame t [] [])
    ∧ (∀ r : DmaRun, (s.dmaOf c.val).run = some r → r.ended = true → s.hostWrites = true →
      ∃ t, exec (.dmaRunEnd c) s = .next t ∧ t.get (Fld.DMA_CH_STATUS_DONE_EV c.val) = 1
      ∧ t.get (Fld.DMA_CH_RUNS_V c.val) = (s.get (Fld.DMA_CH_RUNS_V c.val) + 1) % 2 ^ 32
      ∧ (s.flag (Fld.DMA_CH_STATUS_PEND c.val) = false → s.get (Fld.DMA_CH_CFG_TRIG c.val) ≠ 2 → (t.dmaOf c.val).run = none
          ∧ t.get (Fld.DMA_CH_STATUS_STATE c.val) = 0 ∧ (t.get Fld.DMA_GLB_STATUS_BUSY).testBit c.val = false)
      ∧ (s.flag (Fld.DMA_CH_STATUS_PEND c.val) = true → s.get (Fld.DMA_CH_CFG_TRIG c.val) ≠ 2 → s.flag (Fld.DMA_CH_CFG_CVU_EN c.val) = false →
          s.dmaStarted t c.val ∧ t.get (Fld.DMA_CH_STATUS_PEND c.val) = 0)
      ∧ (∀ k, k < 16 → k ≠ c.val → s.get (Fld.DMA_CH_CFG_TRIG k) = 2 → s.get (Fld.DMA_CH_CFG_CHAIN_SRC k) = c.val →
          s.flag (Fld.DMA_CH_CFG_EN k) = true → s.get (Fld.DMA_CH_STATUS_STATE k) ≠ 2 → (s.dmaOf k).run = none →
          s.flag (Fld.DMA_CH_CFG_CVU_EN k) = false → s.dmaStarted t k)
      ∧ s.frame t (Reg.DMA_CH_RUNS c.val :: Reg.CVU_STATUS (bitsOf r.cfg 14 4) :: (List.range 16).flatMap dmaRegs) [.dma, .fcr])
    ∧ ((s.dmaOf c.val).run = none → ∃ t, exec (.dmaRunEnd c) s = .next t ∧ s.frame t [] []))
  ∧ (∀ s : State, s.spineOn = true → s.pcie.cfgReady = true →
    (∃ t, exec .d3hotEntry s = .next t ∧ s.runsHalted t 7 ∧ t.pcie.d3hot = true ∧ s.frame t dmaHaltRegs [.pcie, .dma, .fcr])
    ∧ (∃ t, exec .busMasterDisable s = .next t ∧ s.runsHalted t 7 ∧ t.pcie.busMaster = false ∧ s.frame t dmaHaltRegs [.pcie, .dma, .fcr]))

/-- R423, R436 to R438: START latches the parameters, loads INIT and folds SEQ ahead of the data; data bytes go through the
register lowest first and are counted, a fold before every further SEG bytes; a unit of another owner, fed by a DMA run, or
not started refuses. -/
def Obligations.CheckValueUnitsFeedAndFold : Prop :=
  ∀ (by' : Agent) (k : Fin 16) (lo hi : BitVec 32) (b : BitVec 8) (s : State), s.spineOn = true →
    (s.cvuMay by' k.val = false →
      ∀ x : Nat × Instr, x ∈ [(0, .cvuStart by' k), (0, .cvuData32Write by' k lo none), (0, .cvuData32Write by' k lo (some hi)),
        (0, .cvuData8Write by' k b)] → ∃ t, exec x.2 s = .next t ∧ t.get (Fld.CVU_STATUS_RSV_EV k.val) = 1
          ∧ s.frame t [Reg.CVU_STATUS k.val] [])
    ∧ (s.cvuMay by' k.val = true → s.flag (Fld.CVU_STATUS_DMA_OWNED k.val) = true →
      ∀ x : Nat × Instr, x ∈ [(0, .cvuStart by' k), (0, .cvuData32Write by' k lo none), (0, .cvuData32Write by' k lo (some hi)),
        (0, .cvuData8Write by' k b)] → ∃ t, exec x.2 s = .next t ∧ t.get (Fld.CVU_STATUS_REFUSED_EV k.val) = 1
          ∧ s.frame t [Reg.CVU_STATUS k.val] [])
    ∧ (s.cvuMay by' k.val = true → s.flag (Fld.CVU_STATUS_DMA_OWNED k.val) = false →
      (∃ t, exec (.cvuStart by' k) s = .next t ∧ t.get (Fld.CVU_STATUS_STARTED k.val) = 1 ∧ t.get (Fld.CVU_BYTES_V k.val) = 0
        ∧ (t.cvuOf k.val).width = (if 1 ≤ s.get (Fld.CVU_CFG_WIDTH k.val) ∧ s.get (Fld.CVU_CFG_WIDTH k.val) ≤ 64
            then s.get (Fld.CVU_CFG_WIDTH k.val) else 32)
        ∧ (t.cvuOf k.val).poly = s.get64 (Reg.CVU_POLY_LO k.val) ∧ (t.cvuOf k.val).xorout = s.get64 (Reg.CVU_XOROUT_LO k.val)
        ∧ (s.flag (Fld.CVU_CFG_FOLD_EN k.val) = false →
            (t.cvuOf k.val).reg = s.get64 (Reg.CVU_INIT_LO k.val) % 2 ^ (t.cvuOf k.val).width)
        ∧ (s.flag (Fld.CVU_CFG_FOLD_EN k.val) = true → (s.cvuOf k.val).written = none →
            (t.cvuOf k.val).reg = (leBytes 4 (s.get (Fld.CVU_SEQ_V k.val))).foldl
              (crcByte (t.cvuOf k.val).width (s.get64 (Reg.CVU_POLY_LO k.val)) (s.flag (Fld.CVU_CFG_REFIN k.val)))
              (s.get64 (Reg.CVU_INIT_LO k.val) % 2 ^ (t.cvuOf k.val).width)
            ∧ t.get (Fld.CVU_SEQ_V k.val) = (s.get (Fld.CVU_SEQ_V k.val) + 1) % 2 ^ 32)
        ∧ t.get64 (Reg.CVU_RES_LO k.val) = (t.cvuOf k.val).result % 2 ^ 64 ∧ s.frame t (cvuRegs k.val) [.cvu])
      ∧ (s.flag (Fld.CVU_STATUS_STARTED k.val) = false →
        ∀ x : Nat × Instr, x ∈ [(0, .cvuData32Write by' k lo none), (0, .cvuData32Write by' k lo (some hi)), (0, .cvuData8Write by' k b)] →
          ∃ t, exec x.2 s = .next t ∧ t.get (Fld.CVU_STATUS_REFUSED_EV k.val) = 1 ∧ s.frame t [Reg.CVU_STATUS k.val] [])
      ∧ (s.flag (Fld.CVU_STATUS_STARTED k.val) = true → ((s.cvuOf k.val).fold = false ∨ (s.cvuOf k.val).seg = 0 ∨ 8 ≤ (s.cvuOf k.val).left) →
        (∃ t, exec (.cvuData32Write by' k lo none) s = .next t ∧ s.cvuTook t k.val (leBytes 4 lo.toNat))
        ∧ (∃ t, exec (.cvuData32Write by' k lo (some hi)) s = .next t ∧ s.cvuTook t k.val (leBytes 4 lo.toNat ++ leBytes 4 hi.toNat))
        ∧ (∃ t, exec (.cvuData8Write by' k b) s = .next t ∧ s.cvuTook t k.val [b]))
      ∧ (s.flag (Fld.CVU_STATUS_STARTED k.val) = true → (s.cvuOf k.val).fold = true → (s.cvuOf k.val).seg ≠ 0 → (s.cvuOf k.val).left = 0 →
        ∃ t, exec (.cvuData8Write by' k b) s = .next t
        ∧ (t.cvuOf k.val).reg = (leBytes 4 (s.cvuOf k.val).seq ++ [b]).foldl
            (crcByte (s.cvuOf k.val).width (s.cvuOf k.val).poly (s.cvuOf k.val).refin) (s.cvuOf k.val).reg
        ∧ (t.cvuOf k.val).seq = ((s.cvuOf k.val).seq + 1) % 2 ^ 32 ∧ (t.cvuOf k.val).left + 1 = (s.cvuOf k.val).seg
        ∧ t.get (Fld.CVU_BYTES_V k.val) = (s.get (Fld.CVU_BYTES_V k.val) + 1) % 2 ^ 32 ∧ s.frame t (cvuRegs k.val) [.cvu]))
end

