-- ==== Sys2Proof/Laws/Bits.lean ====
section
/-! SUPPORT. Lemmas about bit fields, bytes and lists. -/

namespace Sys2Proof.Machine

@[simp] theorem b2n_true : b2n true = 1 := rfl
@[simp] theorem b2n_false : b2n false = 0 := rfl

/-- Bit `i` of a word after a field of it has been replaced. -/
theorem wordPut_getLsbD (w : Word) (lo len x i : Nat) (hi : i < 32) :
    (wordPut w lo len x).getLsbD i = if lo ≤ i ∧ i < lo + len then x.testBit (i - lo) else w.getLsbD i := by
  simp only [wordPut, maskOf, BitVec.getLsbD_or, BitVec.getLsbD_and, BitVec.getLsbD_not, BitVec.getLsbD_ofNat, hi, decide_true,
    Bool.true_and, Nat.testBit_shiftLeft, Nat.testBit_two_pow_sub_one, Nat.testBit_mod_two_pow]
  by_cases h1 : lo ≤ i
  · by_cases h2 : i < lo + len
    · have h3 : i - lo < len := by omega
      simp [h1, h2, h3]
    · have h3 : ¬ i - lo < len := by omega
      simp [h1, h2, h3]
  · simp [h1]

/-- Bit `i` of a field. -/
theorem wordBits_testBit (w : Word) (lo len i : Nat) :
    (wordBits w lo len).testBit i = (decide (i < len) && w.getLsbD (lo + i)) := by
  simp [wordBits, bitsOf, Nat.testBit_mod_two_pow, Nat.testBit_shiftRight, BitVec.testBit_toNat]

/-- A field reads what has been put into it. -/
theorem wordBits_wordPut (w : Word) (lo len x : Nat) (h : lo + len ≤ 32) :
    wordBits (wordPut w lo len x) lo len = x % 2 ^ len := by
  apply Nat.eq_of_testBit_eq
  intro i
  rw [wordBits_testBit, Nat.testBit_mod_two_pow]
  by_cases hi : i < len
  · rw [wordPut_getLsbD _ _ _ _ _ (by omega)]
    have : lo ≤ lo + i ∧ lo + i < lo + len := by omega
    simp [hi, this]
  · simp [hi]

/-- A field keeps its value where another field that shares no bit with it is replaced. -/
theorem wordBits_wordPut_other (w : Word) (lo len x lo' len' : Nat) (h' : lo' + len' ≤ 32)
    (hd : lo + len ≤ lo' ∨ lo' + len' ≤ lo) : wordBits (wordPut w lo len x) lo' len' = wordBits w lo' len' := by
  apply Nat.eq_of_testBit_eq
  intro i
  rw [wordBits_testBit, wordBits_testBit]
  by_cases hi : i < len'
  · rw [wordPut_getLsbD _ _ _ _ _ (by omega)]
    have : ¬ (lo ≤ lo' + i ∧ lo' + i < lo + len) := by omega
    simp [hi, this]
  · simp [hi]

@[simp] theorem modAt_length {α : Type} (l : List α) (i : Nat) (f : α → α) : (modAt l i f).length = l.length := by
  induction l generalizing i with
  | nil => rfl
  | cons x t ih => cases i <;> simp [modAt, ih]

/-- An element of a list after one has been changed. -/
theorem modAt_getD {α : Type} (l : List α) (i j : Nat) (f : α → α) (d : α) :
    (modAt l i f).getD j d = if i = j ∧ j < l.length then f (l.getD j d) else l.getD j d := by
  induction l generalizing i j with
  | nil => simp [modAt]
  | cons x t ih =>
    cases i with
    | zero => cases j <;> simp [modAt]
    | succ i =>
      cases j with
      | zero => simp [modAt]
      | succ j => simpa [modAt] using ih i j

theorem modAt_getD_same {α : Type} (l : List α) (i : Nat) (f : α → α) (d : α) (h : i < l.length) :
    (modAt l i f).getD i d = f (l.getD i d) := by
  rw [modAt_getD, if_pos ⟨rfl, h⟩]

theorem modAt_getD_other {α : Type} (l : List α) (i j : Nat) (f : α → α) (d : α) (h : i ≠ j) :
    (modAt l i f).getD j d = l.getD j d := by
  rw [modAt_getD, if_neg (fun hc => h hc.1)]

/-- Element `j` of a list after element `i` has been changed, the list filled up where it is too short. -/
theorem modD_getD {α : Type} (d : α) (l : List α) (i j : Nat) (f : α → α) :
    (modD d l i f).getD j d = if i = j then f (l.getD j d) else l.getD j d := by
  induction i generalizing l j with
  | zero => cases l <;> cases j <;> simp [modD]
  | succ i ih =>
    cases l with
    | nil =>
      cases j with
      | zero => simp [modD]
      | succ j => simpa [modD] using ih [] j
    | cons x t =>
      cases j with
      | zero => simp [modD]
      | succ j => simpa [modD] using ih t j

@[simp] theorem modD_getD_same {α : Type} (d : α) (l : List α) (i : Nat) (f : α → α) :
    (modD d l i f).getD i d = f (l.getD i d) := by
  rw [modD_getD, if_pos rfl]

theorem modD_getD_other {α : Type} (d : α) (l : List α) (i j : Nat) (f : α → α) (h : i ≠ j) :
    (modD d l i f).getD j d = l.getD j d := by
  rw [modD_getD, if_neg h]

@[simp] theorem putD_getD_same {α : Type} (d : α) (l : List α) (i : Nat) (x : α) : (putD d l i x).getD i d = x :=
  modD_getD_same _ _ _ _

theorem putD_getD_other {α : Type} (d : α) (l : List α) (i j : Nat) (x : α) (h : i ≠ j) :
    (putD d l i x).getD j d = l.getD j d := modD_getD_other _ _ _ _ _ h

@[simp] theorem putAt_length {α : Type} (l : List α) (i : Nat) (x : α) : (putAt l i x).length = l.length := modAt_length _ _ _

theorem putAt_getD_same {α : Type} (l : List α) (i : Nat) (x d : α) (h : i < l.length) : (putAt l i x).getD i d = x :=
  modAt_getD_same _ _ _ _ h

@[simp] theorem leBytes_length (n v : Nat) : (leBytes n v).length = n := by
  induction n generalizing v with
  | zero => rfl
  | succ n ih => simp [leBytes, ih]

/-- The bytes of a number give it back. -/
theorem leNat_leBytes (n v : Nat) : leNat (leBytes n v) = v % 256 ^ n := by
  induction n generalizing v with
  | zero => simp [leBytes, leNat, Nat.mod_one]
  | succ n ih =>
    have h256 : 256 ^ (n + 1) = 256 * 256 ^ n := by rw [Nat.pow_succ, Nat.mul_comm]
    rw [leBytes, leNat, ih, h256, Nat.mod_mul]
    simp [BitVec.toNat_ofNat]

end Sys2Proof.Machine
end

