-- ==== Sys2Proof/Laws/Sparse.lean ====
section
/-! SUPPORT. Sparse data: a read after a write, and that every operation keeps the canonical form. -/

namespace Sys2Proof.Machine

variable {β : Type} (d : Nat → β)

/-- What an address holds after entries have been removed by their address. -/
theorem Sparse.get_filter (p : Nat → Bool) (m : List (Nat × β)) (j : Nat) :
    Sparse.get d (m.filter (fun c => p c.1)) j = if p j then Sparse.get d m j else d j := by
  induction m with
  | nil => by_cases h : p j <;> simp [Sparse.get, h]
  | cons c t ih =>
    obtain ⟨a, w⟩ := c
    by_cases ha : p a
    · rw [List.filter_cons_of_pos (by simpa using ha)]
      by_cases hj : a = j
      · subst hj; simp [Sparse.get, ha]
      · simp [Sparse.get, hj, ih]
    · rw [List.filter_cons_of_neg (by simpa using ha), ih]
      by_cases hj : a = j
      · subst hj; simp [ha]
      · simp [Sparse.get, hj]

/-- What an address holds after an entry has been put in where there was none. -/
theorem Sparse.get_insert (m : List (Nat × β)) (k j : Nat) (v : β) (h : ∀ c ∈ m, c.1 ≠ k) :
    Sparse.get d (Sparse.insert m k v) j = if j = k then v else Sparse.get d m j := by
  induction m with
  | nil => simp only [Sparse.insert, Sparse.get, eq_comm (a := k)]
  | cons c t ih =>
    obtain ⟨a, w⟩ := c
    have ha : a ≠ k := h (a, w) (by simp)
    have ht := ih (fun c hc => h c (by simp [hc]))
    by_cases h1 : k < a
    · by_cases hj : j = k
      · simp [Sparse.insert, h1, Sparse.get, hj]
      · simp [Sparse.insert, h1, Sparse.get, hj, Ne.symm hj]
    · by_cases hj : j = k
      · subst hj; simp [Sparse.insert, h1, Sparse.get, ha, ht]
      · simp [Sparse.insert, h1, Sparse.get, ht, hj]

variable [DecidableEq β]

/-- What an address holds after a write. -/
theorem Sparse.get_set (m : List (Nat × β)) (k j : Nat) (v : β) :
    Sparse.get d (Sparse.set d m k v) j = if j = k then v else Sparse.get d m j := by
  have hf := Sparse.get_filter d (fun a => a != k) m j
  simp only [Sparse.set]
  by_cases hv : v = d k
  · rw [if_pos hv, hf]
    by_cases hj : j = k <;> simp [hj, hv]
  · rw [if_neg hv, Sparse.get_insert d _ _ _ _ (by simp), hf]
    by_cases hj : j = k <;> simp [hj]

theorem Sparse.get_set_same (m : List (Nat × β)) (k : Nat) (v : β) : Sparse.get d (Sparse.set d m k v) k = v := by
  simp [Sparse.get_set]

theorem Sparse.get_set_other (m : List (Nat × β)) (k j : Nat) (v : β) (h : j ≠ k) :
    Sparse.get d (Sparse.set d m k v) j = Sparse.get d m j := by simp [Sparse.get_set, h]

omit [DecidableEq β] in
/-- What an address holds after some have been put back at their default. -/
theorem Sparse.get_clear (p : Nat → Bool) (m : List (Nat × β)) (j : Nat) :
    Sparse.get d (Sparse.clear p m) j = if p j then d j else Sparse.get d m j := by
  have := Sparse.get_filter d (fun a => !p a) m j
  simp only [Sparse.clear, this]
  by_cases h : p j <;> simp [h]

/-- What an address holds after a list of values has been written. -/
theorem Sparse.get_setList (l : List β) (m : List (Nat × β)) (k j : Nat) :
    Sparse.get d (Sparse.setList d m k l) j =
      if k ≤ j ∧ j < k + l.length then l.getD (j - k) (d j) else Sparse.get d m j := by
  induction l generalizing m k with
  | nil => rw [if_neg (by simp only [List.length_nil]; omega), Sparse.setList]
  | cons v t ih =>
    rw [Sparse.setList, ih, Sparse.get_set]
    by_cases h1 : k + 1 ≤ j ∧ j < k + 1 + t.length
    · have h2 : k ≤ j ∧ j < k + (v :: t).length := by simp only [List.length_cons]; omega
      have h3 : j - k = (j - (k + 1)) + 1 := by omega
      rw [if_pos h1, if_pos h2, h3, List.getD_cons_succ]
    · rw [if_neg h1]
      by_cases h3 : j = k
      · subst h3; simp
      · have h2 : ¬ (k ≤ j ∧ j < k + (v :: t).length) := by simp only [List.length_cons]; omega
        rw [if_neg h3, if_neg h2]

theorem Sparse.get_setList_other (l : List β) (m : List (Nat × β)) (k j : Nat) (h : j < k ∨ k + l.length ≤ j) :
    Sparse.get d (Sparse.setList d m k l) j = Sparse.get d m j := by
  rw [Sparse.get_setList, if_neg (by omega)]

/-- Reading back a list of values just written. -/
theorem Sparse.getList_setList (l : List β) (m : List (Nat × β)) (k : Nat) :
    Sparse.getList d (Sparse.setList d m k l) k l.length = l := by
  apply List.ext_getElem
  · simp [Sparse.getList]
  · intro i h1 h2
    simp only [Sparse.getList, List.getElem_map, List.getElem_range, Sparse.get_setList]
    rw [if_pos (by omega), Nat.add_sub_cancel_left]
    simp [h2]

/-! ## The canonical form -/

theorem Sparse.wf_cons {a : Nat} {w : β} {t : List (Nat × β)} :
    Sparse.wf d ((a, w) :: t) = true ↔ w ≠ d a ∧ (∀ c ∈ t, a < c.1) ∧ Sparse.wf d t = true := by
  simp [Sparse.wf, and_assoc]

theorem Sparse.wf_filter (p : Nat × β → Bool) (m : List (Nat × β)) (h : Sparse.wf d m = true) :
    Sparse.wf d (m.filter p) = true := by
  induction m with
  | nil => rfl
  | cons c t ih =>
    obtain ⟨a, w⟩ := c
    obtain ⟨h1, h2, h3⟩ := (Sparse.wf_cons d).1 h
    rw [List.filter_cons]
    split
    · exact (Sparse.wf_cons d).2 ⟨h1, fun c hc => h2 c (List.mem_filter.1 hc).1, ih h3⟩
    · exact ih h3

theorem Sparse.wf_insert (m : List (Nat × β)) (k : Nat) (v : β) (h : Sparse.wf d m = true) (hv : v ≠ d k)
    (hk : ∀ c ∈ m, c.1 ≠ k) : Sparse.wf d (Sparse.insert m k v) = true := by
  induction m with
  | nil => simp [Sparse.insert, Sparse.wf, hv]
  | cons c t ih =>
    obtain ⟨a, w⟩ := c
    obtain ⟨h1, h2, h3⟩ := (Sparse.wf_cons d).1 h
    have ha : a ≠ k := hk (a, w) (by simp)
    rw [Sparse.insert]
    by_cases hlt : k < a
    · rw [if_pos hlt]
      refine (Sparse.wf_cons d).2 ⟨hv, fun c hc => ?_, h⟩
      rcases List.mem_cons.1 hc with rfl | hc
      · exact hlt
      · exact Nat.lt_trans hlt (h2 c hc)
    · rw [if_neg hlt]
      refine (Sparse.wf_cons d).2 ⟨h1, fun c hc => ?_, ih h3 (fun c hc => hk c (by simp [hc]))⟩
      have key : ∀ (t : List (Nat × β)), c ∈ Sparse.insert t k v → c ∈ t ∨ c.1 = k := by
        intro t
        induction t with
        | nil => intro h; simp [Sparse.insert] at h; simp [h]
        | cons b t ih =>
          intro h
          rw [Sparse.insert] at h
          split at h
          · rcases List.mem_cons.1 h with rfl | h
            · exact .inr rfl
            · exact .inl h
          · rcases List.mem_cons.1 h with rfl | h
            · simp
            · rcases ih h with h | h
              · simp [h]
              · exact .inr h
      rcases key t hc with h | h
      · exact h2 c h
      · omega

theorem Sparse.wf_set (m : List (Nat × β)) (k : Nat) (v : β) (h : Sparse.wf d m = true) :
    Sparse.wf d (Sparse.set d m k v) = true := by
  have hf := Sparse.wf_filter d (fun c => c.1 != k) m h
  simp only [Sparse.set]
  by_cases hv : v = d k
  · rw [if_pos hv]; exact hf
  · rw [if_neg hv]; exact Sparse.wf_insert d _ _ _ hf hv (by simp)

theorem Sparse.wf_setList (l : List β) (m : List (Nat × β)) (k : Nat) (h : Sparse.wf d m = true) :
    Sparse.wf d (Sparse.setList d m k l) = true := by
  induction l generalizing m k with
  | nil => exact h
  | cons v t ih => exact ih _ _ (Sparse.wf_set d m k v h)

theorem Sparse.wf_clear (p : Nat → Bool) (m : List (Nat × β)) (h : Sparse.wf d m = true) :
    Sparse.wf d (Sparse.clear p m) = true := Sparse.wf_filter d _ m h

end Sys2Proof.Machine
end

