-- ==== Sys2Proof/Laws/State.lean ====
section
/-! SUPPORT. The updates of the state: per update, every part of the state it does not change, and what it changes. -/

namespace Sys2Proof.Machine

variable (s : State)

/-! `setReg` changes regs only. -/
@[simp] theorem State.setReg_bar2 (a : Nat) (w : Word) : (s.setReg a w).bar2 = s.bar2 := rfl
@[simp] theorem State.setReg_prtRec (a : Nat) (w : Word) : (s.setReg a w).prtRec = s.prtRec := rfl
@[simp] theorem State.setReg_host (a : Nat) (w : Word) : (s.setReg a w).host = s.host := rfl
@[simp] theorem State.setReg_flash (a : Nat) (w : Word) : (s.setReg a w).flash = s.flash := rfl
@[simp] theorem State.setReg_fuses (a : Nat) (w : Word) : (s.setReg a w).fuses = s.fuses := rfl
@[simp] theorem State.setReg_power (a : Nat) (w : Word) : (s.setReg a w).power = s.power := rfl
@[simp] theorem State.setReg_pcie (a : Nat) (w : Word) : (s.setReg a w).pcie = s.pcie := rfl
@[simp] theorem State.setReg_irq (a : Nat) (w : Word) : (s.setReg a w).irq = s.irq := rfl
@[simp] theorem State.setReg_guardHost (a : Nat) (w : Word) : (s.setReg a w).guardHost = s.guardHost := rfl
@[simp] theorem State.setReg_guardMgmt (a : Nat) (w : Word) : (s.setReg a w).guardMgmt = s.guardMgmt := rfl
@[simp] theorem State.setReg_tk (a : Nat) (w : Word) : (s.setReg a w).tk = s.tk := rfl
@[simp] theorem State.setReg_fcr (a : Nat) (w : Word) : (s.setReg a w).fcr = s.fcr := rfl
@[simp] theorem State.setReg_boot (a : Nat) (w : Word) : (s.setReg a w).boot = s.boot := rfl
@[simp] theorem State.setReg_mbx (a : Nat) (w : Word) : (s.setReg a w).mbx = s.mbx := rfl
@[simp] theorem State.setReg_buses (a : Nat) (w : Word) : (s.setReg a w).buses = s.buses := rfl
@[simp] theorem State.setReg_modules (a : Nat) (w : Word) : (s.setReg a w).modules = s.modules := rfl
@[simp] theorem State.setReg_lines (a : Nat) (w : Word) : (s.setReg a w).lines = s.lines := rfl
@[simp] theorem State.setReg_planes (a : Nat) (w : Word) : (s.setReg a w).planes = s.planes := rfl
@[simp] theorem State.setReg_tw (a : Nat) (w : Word) : (s.setReg a w).tw = s.tw := rfl
@[simp] theorem State.setReg_tmg (a : Nat) (w : Word) : (s.setReg a w).tmg = s.tmg := rfl
@[simp] theorem State.setReg_scc (a : Nat) (w : Word) : (s.setReg a w).scc = s.scc := rfl
@[simp] theorem State.setReg_dma (a : Nat) (w : Word) : (s.setReg a w).dma = s.dma := rfl
@[simp] theorem State.setReg_cvu (a : Nat) (w : Word) : (s.setReg a w).cvu = s.cvu := rfl
@[simp] theorem State.setReg_jtag (a : Nat) (w : Word) : (s.setReg a w).jtag = s.jtag := rfl
@[simp] theorem State.setReg_fresh (a : Nat) (w : Word) : (s.setReg a w).fresh = s.fresh := rfl
@[simp] theorem State.setReg_pending (a : Nat) (w : Word) : (s.setReg a w).pending = s.pending := rfl
@[simp] theorem State.setReg_line (a : Nat) (w : Word) (x : Nat) : (s.setReg a w).line x = s.line x := rfl

/-! `set` changes regs only. -/
@[simp] theorem State.set_bar2 (f : FRef) (v : Nat) : (s.set f v).bar2 = s.bar2 := rfl
@[simp] theorem State.set_prtRec (f : FRef) (v : Nat) : (s.set f v).prtRec = s.prtRec := rfl
@[simp] theorem State.set_host (f : FRef) (v : Nat) : (s.set f v).host = s.host := rfl
@[simp] theorem State.set_flash (f : FRef) (v : Nat) : (s.set f v).flash = s.flash := rfl
@[simp] theorem State.set_fuses (f : FRef) (v : Nat) : (s.set f v).fuses = s.fuses := rfl
@[simp] theorem State.set_power (f : FRef) (v : Nat) : (s.set f v).power = s.power := rfl
@[simp] theorem State.set_pcie (f : FRef) (v : Nat) : (s.set f v).pcie = s.pcie := rfl
@[simp] theorem State.set_irq (f : FRef) (v : Nat) : (s.set f v).irq = s.irq := rfl
@[simp] theorem State.set_guardHost (f : FRef) (v : Nat) : (s.set f v).guardHost = s.guardHost := rfl
@[simp] theorem State.set_guardMgmt (f : FRef) (v : Nat) : (s.set f v).guardMgmt = s.guardMgmt := rfl
@[simp] theorem State.set_tk (f : FRef) (v : Nat) : (s.set f v).tk = s.tk := rfl
@[simp] theorem State.set_fcr (f : FRef) (v : Nat) : (s.set f v).fcr = s.fcr := rfl
@[simp] theorem State.set_boot (f : FRef) (v : Nat) : (s.set f v).boot = s.boot := rfl
@[simp] theorem State.set_mbx (f : FRef) (v : Nat) : (s.set f v).mbx = s.mbx := rfl
@[simp] theorem State.set_buses (f : FRef) (v : Nat) : (s.set f v).buses = s.buses := rfl
@[simp] theorem State.set_modules (f : FRef) (v : Nat) : (s.set f v).modules = s.modules := rfl
@[simp] theorem State.set_lines (f : FRef) (v : Nat) : (s.set f v).lines = s.lines := rfl
@[simp] theorem State.set_planes (f : FRef) (v : Nat) : (s.set f v).planes = s.planes := rfl
@[simp] theorem State.set_tw (f : FRef) (v : Nat) : (s.set f v).tw = s.tw := rfl
@[simp] theorem State.set_tmg (f : FRef) (v : Nat) : (s.set f v).tmg = s.tmg := rfl
@[simp] theorem State.set_scc (f : FRef) (v : Nat) : (s.set f v).scc = s.scc := rfl
@[simp] theorem State.set_dma (f : FRef) (v : Nat) : (s.set f v).dma = s.dma := rfl
@[simp] theorem State.set_cvu (f : FRef) (v : Nat) : (s.set f v).cvu = s.cvu := rfl
@[simp] theorem State.set_jtag (f : FRef) (v : Nat) : (s.set f v).jtag = s.jtag := rfl
@[simp] theorem State.set_fresh (f : FRef) (v : Nat) : (s.set f v).fresh = s.fresh := rfl
@[simp] theorem State.set_pending (f : FRef) (v : Nat) : (s.set f v).pending = s.pending := rfl
@[simp] theorem State.set_line (f : FRef) (v : Nat) (x : Nat) : (s.set f v).line x = s.line x := rfl

/-! `setB` changes regs only. -/
@[simp] theorem State.setB_bar2 (f : FRef) (b : Bool) : (s.setB f b).bar2 = s.bar2 := rfl
@[simp] theorem State.setB_prtRec (f : FRef) (b : Bool) : (s.setB f b).prtRec = s.prtRec := rfl
@[simp] theorem State.setB_host (f : FRef) (b : Bool) : (s.setB f b).host = s.host := rfl
@[simp] theorem State.setB_flash (f : FRef) (b : Bool) : (s.setB f b).flash = s.flash := rfl
@[simp] theorem State.setB_fuses (f : FRef) (b : Bool) : (s.setB f b).fuses = s.fuses := rfl
@[simp] theorem State.setB_power (f : FRef) (b : Bool) : (s.setB f b).power = s.power := rfl
@[simp] theorem State.setB_pcie (f : FRef) (b : Bool) : (s.setB f b).pcie = s.pcie := rfl
@[simp] theorem State.setB_irq (f : FRef) (b : Bool) : (s.setB f b).irq = s.irq := rfl
@[simp] theorem State.setB_guardHost (f : FRef) (b : Bool) : (s.setB f b).guardHost = s.guardHost := rfl
@[simp] theorem State.setB_guardMgmt (f : FRef) (b : Bool) : (s.setB f b).guardMgmt = s.guardMgmt := rfl
@[simp] theorem State.setB_tk (f : FRef) (b : Bool) : (s.setB f b).tk = s.tk := rfl
@[simp] theorem State.setB_fcr (f : FRef) (b : Bool) : (s.setB f b).fcr = s.fcr := rfl
@[simp] theorem State.setB_boot (f : FRef) (b : Bool) : (s.setB f b).boot = s.boot := rfl
@[simp] theorem State.setB_mbx (f : FRef) (b : Bool) : (s.setB f b).mbx = s.mbx := rfl
@[simp] theorem State.setB_buses (f : FRef) (b : Bool) : (s.setB f b).buses = s.buses := rfl
@[simp] theorem State.setB_modules (f : FRef) (b : Bool) : (s.setB f b).modules = s.modules := rfl
@[simp] theorem State.setB_lines (f : FRef) (b : Bool) : (s.setB f b).lines = s.lines := rfl
@[simp] theorem State.setB_planes (f : FRef) (b : Bool) : (s.setB f b).planes = s.planes := rfl
@[simp] theorem State.setB_tw (f : FRef) (b : Bool) : (s.setB f b).tw = s.tw := rfl
@[simp] theorem State.setB_tmg (f : FRef) (b : Bool) : (s.setB f b).tmg = s.tmg := rfl
@[simp] theorem State.setB_scc (f : FRef) (b : Bool) : (s.setB f b).scc = s.scc := rfl
@[simp] theorem State.setB_dma (f : FRef) (b : Bool) : (s.setB f b).dma = s.dma := rfl
@[simp] theorem State.setB_cvu (f : FRef) (b : Bool) : (s.setB f b).cvu = s.cvu := rfl
@[simp] theorem State.setB_jtag (f : FRef) (b : Bool) : (s.setB f b).jtag = s.jtag := rfl
@[simp] theorem State.setB_fresh (f : FRef) (b : Bool) : (s.setB f b).fresh = s.fresh := rfl
@[simp] theorem State.setB_pending (f : FRef) (b : Bool) : (s.setB f b).pending = s.pending := rfl
@[simp] theorem State.setB_line (f : FRef) (b : Bool) (x : Nat) : (s.setB f b).line x = s.line x := rfl

/-! `raise` changes regs only. -/
@[simp] theorem State.raise_bar2 (f : FRef) : (s.raise f).bar2 = s.bar2 := rfl
@[simp] theorem State.raise_prtRec (f : FRef) : (s.raise f).prtRec = s.prtRec := rfl
@[simp] theorem State.raise_host (f : FRef) : (s.raise f).host = s.host := rfl
@[simp] theorem State.raise_flash (f : FRef) : (s.raise f).flash = s.flash := rfl
@[simp] theorem State.raise_fuses (f : FRef) : (s.raise f).fuses = s.fuses := rfl
@[simp] theorem State.raise_power (f : FRef) : (s.raise f).power = s.power := rfl
@[simp] theorem State.raise_pcie (f : FRef) : (s.raise f).pcie = s.pcie := rfl
@[simp] theorem State.raise_irq (f : FRef) : (s.raise f).irq = s.irq := rfl
@[simp] theorem State.raise_guardHost (f : FRef) : (s.raise f).guardHost = s.guardHost := rfl
@[simp] theorem State.raise_guardMgmt (f : FRef) : (s.raise f).guardMgmt = s.guardMgmt := rfl
@[simp] theorem State.raise_tk (f : FRef) : (s.raise f).tk = s.tk := rfl
@[simp] theorem State.raise_fcr (f : FRef) : (s.raise f).fcr = s.fcr := rfl
@[simp] theorem State.raise_boot (f : FRef) : (s.raise f).boot = s.boot := rfl
@[simp] theorem State.raise_mbx (f : FRef) : (s.raise f).mbx = s.mbx := rfl
@[simp] theorem State.raise_buses (f : FRef) : (s.raise f).buses = s.buses := rfl
@[simp] theorem State.raise_modules (f : FRef) : (s.raise f).modules = s.modules := rfl
@[simp] theorem State.raise_lines (f : FRef) : (s.raise f).lines = s.lines := rfl
@[simp] theorem State.raise_planes (f : FRef) : (s.raise f).planes = s.planes := rfl
@[simp] theorem State.raise_tw (f : FRef) : (s.raise f).tw = s.tw := rfl
@[simp] theorem State.raise_tmg (f : FRef) : (s.raise f).tmg = s.tmg := rfl
@[simp] theorem State.raise_scc (f : FRef) : (s.raise f).scc = s.scc := rfl
@[simp] theorem State.raise_dma (f : FRef) : (s.raise f).dma = s.dma := rfl
@[simp] theorem State.raise_cvu (f : FRef) : (s.raise f).cvu = s.cvu := rfl
@[simp] theorem State.raise_jtag (f : FRef) : (s.raise f).jtag = s.jtag := rfl
@[simp] theorem State.raise_fresh (f : FRef) : (s.raise f).fresh = s.fresh := rfl
@[simp] theorem State.raise_pending (f : FRef) : (s.raise f).pending = s.pending := rfl
@[simp] theorem State.raise_line (f : FRef) (x : Nat) : (s.raise f).line x = s.line x := rfl

/-! `add` changes regs only. -/
@[simp] theorem State.add_bar2 (f : FRef) (k : Nat) : (s.add f k).bar2 = s.bar2 := rfl
@[simp] theorem State.add_prtRec (f : FRef) (k : Nat) : (s.add f k).prtRec = s.prtRec := rfl
@[simp] theorem State.add_host (f : FRef) (k : Nat) : (s.add f k).host = s.host := rfl
@[simp] theorem State.add_flash (f : FRef) (k : Nat) : (s.add f k).flash = s.flash := rfl
@[simp] theorem State.add_fuses (f : FRef) (k : Nat) : (s.add f k).fuses = s.fuses := rfl
@[simp] theorem State.add_power (f : FRef) (k : Nat) : (s.add f k).power = s.power := rfl
@[simp] theorem State.add_pcie (f : FRef) (k : Nat) : (s.add f k).pcie = s.pcie := rfl
@[simp] theorem State.add_irq (f : FRef) (k : Nat) : (s.add f k).irq = s.irq := rfl
@[simp] theorem State.add_guardHost (f : FRef) (k : Nat) : (s.add f k).guardHost = s.guardHost := rfl
@[simp] theorem State.add_guardMgmt (f : FRef) (k : Nat) : (s.add f k).guardMgmt = s.guardMgmt := rfl
@[simp] theorem State.add_tk (f : FRef) (k : Nat) : (s.add f k).tk = s.tk := rfl
@[simp] theorem State.add_fcr (f : FRef) (k : Nat) : (s.add f k).fcr = s.fcr := rfl
@[simp] theorem State.add_boot (f : FRef) (k : Nat) : (s.add f k).boot = s.boot := rfl
@[simp] theorem State.add_mbx (f : FRef) (k : Nat) : (s.add f k).mbx = s.mbx := rfl
@[simp] theorem State.add_buses (f : FRef) (k : Nat) : (s.add f k).buses = s.buses := rfl
@[simp] theorem State.add_modules (f : FRef) (k : Nat) : (s.add f k).modules = s.modules := rfl
@[simp] theorem State.add_lines (f : FRef) (k : Nat) : (s.add f k).lines = s.lines := rfl
@[simp] theorem State.add_planes (f : FRef) (k : Nat) : (s.add f k).planes = s.planes := rfl
@[simp] theorem State.add_tw (f : FRef) (k : Nat) : (s.add f k).tw = s.tw := rfl
@[simp] theorem State.add_tmg (f : FRef) (k : Nat) : (s.add f k).tmg = s.tmg := rfl
@[simp] theorem State.add_scc (f : FRef) (k : Nat) : (s.add f k).scc = s.scc := rfl
@[simp] theorem State.add_dma (f : FRef) (k : Nat) : (s.add f k).dma = s.dma := rfl
@[simp] theorem State.add_cvu (f : FRef) (k : Nat) : (s.add f k).cvu = s.cvu := rfl
@[simp] theorem State.add_jtag (f : FRef) (k : Nat) : (s.add f k).jtag = s.jtag := rfl
@[simp] theorem State.add_fresh (f : FRef) (k : Nat) : (s.add f k).fresh = s.fresh := rfl
@[simp] theorem State.add_pending (f : FRef) (k : Nat) : (s.add f k).pending = s.pending := rfl
@[simp] theorem State.add_line (f : FRef) (k : Nat) (x : Nat) : (s.add f k).line x = s.line x := rfl

/-! `addSat` changes regs only. -/
@[simp] theorem State.addSat_bar2 (f : FRef) (k : Nat) : (s.addSat f k).bar2 = s.bar2 := rfl
@[simp] theorem State.addSat_prtRec (f : FRef) (k : Nat) : (s.addSat f k).prtRec = s.prtRec := rfl
@[simp] theorem State.addSat_host (f : FRef) (k : Nat) : (s.addSat f k).host = s.host := rfl
@[simp] theorem State.addSat_flash (f : FRef) (k : Nat) : (s.addSat f k).flash = s.flash := rfl
@[simp] theorem State.addSat_fuses (f : FRef) (k : Nat) : (s.addSat f k).fuses = s.fuses := rfl
@[simp] theorem State.addSat_power (f : FRef) (k : Nat) : (s.addSat f k).power = s.power := rfl
@[simp] theorem State.addSat_pcie (f : FRef) (k : Nat) : (s.addSat f k).pcie = s.pcie := rfl
@[simp] theorem State.addSat_irq (f : FRef) (k : Nat) : (s.addSat f k).irq = s.irq := rfl
@[simp] theorem State.addSat_guardHost (f : FRef) (k : Nat) : (s.addSat f k).guardHost = s.guardHost := rfl
@[simp] theorem State.addSat_guardMgmt (f : FRef) (k : Nat) : (s.addSat f k).guardMgmt = s.guardMgmt := rfl
@[simp] theorem State.addSat_tk (f : FRef) (k : Nat) : (s.addSat f k).tk = s.tk := rfl
@[simp] theorem State.addSat_fcr (f : FRef) (k : Nat) : (s.addSat f k).fcr = s.fcr := rfl
@[simp] theorem State.addSat_boot (f : FRef) (k : Nat) : (s.addSat f k).boot = s.boot := rfl
@[simp] theorem State.addSat_mbx (f : FRef) (k : Nat) : (s.addSat f k).mbx = s.mbx := rfl
@[simp] theorem State.addSat_buses (f : FRef) (k : Nat) : (s.addSat f k).buses = s.buses := rfl
@[simp] theorem State.addSat_modules (f : FRef) (k : Nat) : (s.addSat f k).modules = s.modules := rfl
@[simp] theorem State.addSat_lines (f : FRef) (k : Nat) : (s.addSat f k).lines = s.lines := rfl
@[simp] theorem State.addSat_planes (f : FRef) (k : Nat) : (s.addSat f k).planes = s.planes := rfl
@[simp] theorem State.addSat_tw (f : FRef) (k : Nat) : (s.addSat f k).tw = s.tw := rfl
@[simp] theorem State.addSat_tmg (f : FRef) (k : Nat) : (s.addSat f k).tmg = s.tmg := rfl
@[simp] theorem State.addSat_scc (f : FRef) (k : Nat) : (s.addSat f k).scc = s.scc := rfl
@[simp] theorem State.addSat_dma (f : FRef) (k : Nat) : (s.addSat f k).dma = s.dma := rfl
@[simp] theorem State.addSat_cvu (f : FRef) (k : Nat) : (s.addSat f k).cvu = s.cvu := rfl
@[simp] theorem State.addSat_jtag (f : FRef) (k : Nat) : (s.addSat f k).jtag = s.jtag := rfl
@[simp] theorem State.addSat_fresh (f : FRef) (k : Nat) : (s.addSat f k).fresh = s.fresh := rfl
@[simp] theorem State.addSat_pending (f : FRef) (k : Nat) : (s.addSat f k).pending = s.pending := rfl
@[simp] theorem State.addSat_line (f : FRef) (k : Nat) (x : Nat) : (s.addSat f k).line x = s.line x := rfl

/-! `orBits` changes regs only. -/
@[simp] theorem State.orBits_bar2 (f : FRef) (m : Nat) : (s.orBits f m).bar2 = s.bar2 := rfl
@[simp] theorem State.orBits_prtRec (f : FRef) (m : Nat) : (s.orBits f m).prtRec = s.prtRec := rfl
@[simp] theorem State.orBits_host (f : FRef) (m : Nat) : (s.orBits f m).host = s.host := rfl
@[simp] theorem State.orBits_flash (f : FRef) (m : Nat) : (s.orBits f m).flash = s.flash := rfl
@[simp] theorem State.orBits_fuses (f : FRef) (m : Nat) : (s.orBits f m).fuses = s.fuses := rfl
@[simp] theorem State.orBits_power (f : FRef) (m : Nat) : (s.orBits f m).power = s.power := rfl
@[simp] theorem State.orBits_pcie (f : FRef) (m : Nat) : (s.orBits f m).pcie = s.pcie := rfl
@[simp] theorem State.orBits_irq (f : FRef) (m : Nat) : (s.orBits f m).irq = s.irq := rfl
@[simp] theorem State.orBits_guardHost (f : FRef) (m : Nat) : (s.orBits f m).guardHost = s.guardHost := rfl
@[simp] theorem State.orBits_guardMgmt (f : FRef) (m : Nat) : (s.orBits f m).guardMgmt = s.guardMgmt := rfl
@[simp] theorem State.orBits_tk (f : FRef) (m : Nat) : (s.orBits f m).tk = s.tk := rfl
@[simp] theorem State.orBits_fcr (f : FRef) (m : Nat) : (s.orBits f m).fcr = s.fcr := rfl
@[simp] theorem State.orBits_boot (f : FRef) (m : Nat) : (s.orBits f m).boot = s.boot := rfl
@[simp] theorem State.orBits_mbx (f : FRef) (m : Nat) : (s.orBits f m).mbx = s.mbx := rfl
@[simp] theorem State.orBits_buses (f : FRef) (m : Nat) : (s.orBits f m).buses = s.buses := rfl
@[simp] theorem State.orBits_modules (f : FRef) (m : Nat) : (s.orBits f m).modules = s.modules := rfl
@[simp] theorem State.orBits_lines (f : FRef) (m : Nat) : (s.orBits f m).lines = s.lines := rfl
@[simp] theorem State.orBits_planes (f : FRef) (m : Nat) : (s.orBits f m).planes = s.planes := rfl
@[simp] theorem State.orBits_tw (f : FRef) (m : Nat) : (s.orBits f m).tw = s.tw := rfl
@[simp] theorem State.orBits_tmg (f : FRef) (m : Nat) : (s.orBits f m).tmg = s.tmg := rfl
@[simp] theorem State.orBits_scc (f : FRef) (m : Nat) : (s.orBits f m).scc = s.scc := rfl
@[simp] theorem State.orBits_dma (f : FRef) (m : Nat) : (s.orBits f m).dma = s.dma := rfl
@[simp] theorem State.orBits_cvu (f : FRef) (m : Nat) : (s.orBits f m).cvu = s.cvu := rfl
@[simp] theorem State.orBits_jtag (f : FRef) (m : Nat) : (s.orBits f m).jtag = s.jtag := rfl
@[simp] theorem State.orBits_fresh (f : FRef) (m : Nat) : (s.orBits f m).fresh = s.fresh := rfl
@[simp] theorem State.orBits_pending (f : FRef) (m : Nat) : (s.orBits f m).pending = s.pending := rfl
@[simp] theorem State.orBits_line (f : FRef) (m : Nat) (x : Nat) : (s.orBits f m).line x = s.line x := rfl

/-! `set64` changes regs only. -/
@[simp] theorem State.set64_bar2 (a v : Nat) : (s.set64 a v).bar2 = s.bar2 := rfl
@[simp] theorem State.set64_prtRec (a v : Nat) : (s.set64 a v).prtRec = s.prtRec := rfl
@[simp] theorem State.set64_host (a v : Nat) : (s.set64 a v).host = s.host := rfl
@[simp] theorem State.set64_flash (a v : Nat) : (s.set64 a v).flash = s.flash := rfl
@[simp] theorem State.set64_fuses (a v : Nat) : (s.set64 a v).fuses = s.fuses := rfl
@[simp] theorem State.set64_power (a v : Nat) : (s.set64 a v).power = s.power := rfl
@[simp] theorem State.set64_pcie (a v : Nat) : (s.set64 a v).pcie = s.pcie := rfl
@[simp] theorem State.set64_irq (a v : Nat) : (s.set64 a v).irq = s.irq := rfl
@[simp] theorem State.set64_guardHost (a v : Nat) : (s.set64 a v).guardHost = s.guardHost := rfl
@[simp] theorem State.set64_guardMgmt (a v : Nat) : (s.set64 a v).guardMgmt = s.guardMgmt := rfl
@[simp] theorem State.set64_tk (a v : Nat) : (s.set64 a v).tk = s.tk := rfl
@[simp] theorem State.set64_fcr (a v : Nat) : (s.set64 a v).fcr = s.fcr := rfl
@[simp] theorem State.set64_boot (a v : Nat) : (s.set64 a v).boot = s.boot := rfl
@[simp] theorem State.set64_mbx (a v : Nat) : (s.set64 a v).mbx = s.mbx := rfl
@[simp] theorem State.set64_buses (a v : Nat) : (s.set64 a v).buses = s.buses := rfl
@[simp] theorem State.set64_modules (a v : Nat) : (s.set64 a v).modules = s.modules := rfl
@[simp] theorem State.set64_lines (a v : Nat) : (s.set64 a v).lines = s.lines := rfl
@[simp] theorem State.set64_planes (a v : Nat) : (s.set64 a v).planes = s.planes := rfl
@[simp] theorem State.set64_tw (a v : Nat) : (s.set64 a v).tw = s.tw := rfl
@[simp] theorem State.set64_tmg (a v : Nat) : (s.set64 a v).tmg = s.tmg := rfl
@[simp] theorem State.set64_scc (a v : Nat) : (s.set64 a v).scc = s.scc := rfl
@[simp] theorem State.set64_dma (a v : Nat) : (s.set64 a v).dma = s.dma := rfl
@[simp] theorem State.set64_cvu (a v : Nat) : (s.set64 a v).cvu = s.cvu := rfl
@[simp] theorem State.set64_jtag (a v : Nat) : (s.set64 a v).jtag = s.jtag := rfl
@[simp] theorem State.set64_fresh (a v : Nat) : (s.set64 a v).fresh = s.fresh := rfl
@[simp] theorem State.set64_pending (a v : Nat) : (s.set64 a v).pending = s.pending := rfl
@[simp] theorem State.set64_line (a v : Nat) (x : Nat) : (s.set64 a v).line x = s.line x := rfl

/-! `count` changes regs only. -/
@[simp] theorem State.count_bar2 (a k : Nat) : (s.count a k).bar2 = s.bar2 := rfl
@[simp] theorem State.count_prtRec (a k : Nat) : (s.count a k).prtRec = s.prtRec := rfl
@[simp] theorem State.count_host (a k : Nat) : (s.count a k).host = s.host := rfl
@[simp] theorem State.count_flash (a k : Nat) : (s.count a k).flash = s.flash := rfl
@[simp] theorem State.count_fuses (a k : Nat) : (s.count a k).fuses = s.fuses := rfl
@[simp] theorem State.count_power (a k : Nat) : (s.count a k).power = s.power := rfl
@[simp] theorem State.count_pcie (a k : Nat) : (s.count a k).pcie = s.pcie := rfl
@[simp] theorem State.count_irq (a k : Nat) : (s.count a k).irq = s.irq := rfl
@[simp] theorem State.count_guardHost (a k : Nat) : (s.count a k).guardHost = s.guardHost := rfl
@[simp] theorem State.count_guardMgmt (a k : Nat) : (s.count a k).guardMgmt = s.guardMgmt := rfl
@[simp] theorem State.count_tk (a k : Nat) : (s.count a k).tk = s.tk := rfl
@[simp] theorem State.count_fcr (a k : Nat) : (s.count a k).fcr = s.fcr := rfl
@[simp] theorem State.count_boot (a k : Nat) : (s.count a k).boot = s.boot := rfl
@[simp] theorem State.count_mbx (a k : Nat) : (s.count a k).mbx = s.mbx := rfl
@[simp] theorem State.count_buses (a k : Nat) : (s.count a k).buses = s.buses := rfl
@[simp] theorem State.count_modules (a k : Nat) : (s.count a k).modules = s.modules := rfl
@[simp] theorem State.count_lines (a k : Nat) : (s.count a k).lines = s.lines := rfl
@[simp] theorem State.count_planes (a k : Nat) : (s.count a k).planes = s.planes := rfl
@[simp] theorem State.count_tw (a k : Nat) : (s.count a k).tw = s.tw := rfl
@[simp] theorem State.count_tmg (a k : Nat) : (s.count a k).tmg = s.tmg := rfl
@[simp] theorem State.count_scc (a k : Nat) : (s.count a k).scc = s.scc := rfl
@[simp] theorem State.count_dma (a k : Nat) : (s.count a k).dma = s.dma := rfl
@[simp] theorem State.count_cvu (a k : Nat) : (s.count a k).cvu = s.cvu := rfl
@[simp] theorem State.count_jtag (a k : Nat) : (s.count a k).jtag = s.jtag := rfl
@[simp] theorem State.count_fresh (a k : Nat) : (s.count a k).fresh = s.fresh := rfl
@[simp] theorem State.count_pending (a k : Nat) : (s.count a k).pending = s.pending := rfl
@[simp] theorem State.count_line (a k : Nat) (x : Nat) : (s.count a k).line x = s.line x := rfl

/-! `clearRegs` changes regs only. -/
@[simp] theorem State.clearRegs_bar2 (p : Nat → Bool) : (s.clearRegs p).bar2 = s.bar2 := rfl
@[simp] theorem State.clearRegs_prtRec (p : Nat → Bool) : (s.clearRegs p).prtRec = s.prtRec := rfl
@[simp] theorem State.clearRegs_host (p : Nat → Bool) : (s.clearRegs p).host = s.host := rfl
@[simp] theorem State.clearRegs_flash (p : Nat → Bool) : (s.clearRegs p).flash = s.flash := rfl
@[simp] theorem State.clearRegs_fuses (p : Nat → Bool) : (s.clearRegs p).fuses = s.fuses := rfl
@[simp] theorem State.clearRegs_power (p : Nat → Bool) : (s.clearRegs p).power = s.power := rfl
@[simp] theorem State.clearRegs_pcie (p : Nat → Bool) : (s.clearRegs p).pcie = s.pcie := rfl
@[simp] theorem State.clearRegs_irq (p : Nat → Bool) : (s.clearRegs p).irq = s.irq := rfl
@[simp] theorem State.clearRegs_guardHost (p : Nat → Bool) : (s.clearRegs p).guardHost = s.guardHost := rfl
@[simp] theorem State.clearRegs_guardMgmt (p : Nat → Bool) : (s.clearRegs p).guardMgmt = s.guardMgmt := rfl
@[simp] theorem State.clearRegs_tk (p : Nat → Bool) : (s.clearRegs p).tk = s.tk := rfl
@[simp] theorem State.clearRegs_fcr (p : Nat → Bool) : (s.clearRegs p).fcr = s.fcr := rfl
@[simp] theorem State.clearRegs_boot (p : Nat → Bool) : (s.clearRegs p).boot = s.boot := rfl
@[simp] theorem State.clearRegs_mbx (p : Nat → Bool) : (s.clearRegs p).mbx = s.mbx := rfl
@[simp] theorem State.clearRegs_buses (p : Nat → Bool) : (s.clearRegs p).buses = s.buses := rfl
@[simp] theorem State.clearRegs_modules (p : Nat → Bool) : (s.clearRegs p).modules = s.modules := rfl
@[simp] theorem State.clearRegs_lines (p : Nat → Bool) : (s.clearRegs p).lines = s.lines := rfl
@[simp] theorem State.clearRegs_planes (p : Nat → Bool) : (s.clearRegs p).planes = s.planes := rfl
@[simp] theorem State.clearRegs_tw (p : Nat → Bool) : (s.clearRegs p).tw = s.tw := rfl
@[simp] theorem State.clearRegs_tmg (p : Nat → Bool) : (s.clearRegs p).tmg = s.tmg := rfl
@[simp] theorem State.clearRegs_scc (p : Nat → Bool) : (s.clearRegs p).scc = s.scc := rfl
@[simp] theorem State.clearRegs_dma (p : Nat → Bool) : (s.clearRegs p).dma = s.dma := rfl
@[simp] theorem State.clearRegs_cvu (p : Nat → Bool) : (s.clearRegs p).cvu = s.cvu := rfl
@[simp] theorem State.clearRegs_jtag (p : Nat → Bool) : (s.clearRegs p).jtag = s.jtag := rfl
@[simp] theorem State.clearRegs_fresh (p : Nat → Bool) : (s.clearRegs p).fresh = s.fresh := rfl
@[simp] theorem State.clearRegs_pending (p : Nat → Bool) : (s.clearRegs p).pending = s.pending := rfl
@[simp] theorem State.clearRegs_line (p : Nat → Bool) (x : Nat) : (s.clearRegs p).line x = s.line x := rfl

/-! `putBar2` changes bar2 only. -/
@[simp] theorem State.putBar2_regs (a : Nat) (bs : List Byte) : (s.putBar2 a bs).regs = s.regs := rfl
@[simp] theorem State.putBar2_prtRec (a : Nat) (bs : List Byte) : (s.putBar2 a bs).prtRec = s.prtRec := rfl
@[simp] theorem State.putBar2_host (a : Nat) (bs : List Byte) : (s.putBar2 a bs).host = s.host := rfl
@[simp] theorem State.putBar2_flash (a : Nat) (bs : List Byte) : (s.putBar2 a bs).flash = s.flash := rfl
@[simp] theorem State.putBar2_fuses (a : Nat) (bs : List Byte) : (s.putBar2 a bs).fuses = s.fuses := rfl
@[simp] theorem State.putBar2_power (a : Nat) (bs : List Byte) : (s.putBar2 a bs).power = s.power := rfl
@[simp] theorem State.putBar2_pcie (a : Nat) (bs : List Byte) : (s.putBar2 a bs).pcie = s.pcie := rfl
@[simp] theorem State.putBar2_irq (a : Nat) (bs : List Byte) : (s.putBar2 a bs).irq = s.irq := rfl
@[simp] theorem State.putBar2_guardHost (a : Nat) (bs : List Byte) : (s.putBar2 a bs).guardHost = s.guardHost := rfl
@[simp] theorem State.putBar2_guardMgmt (a : Nat) (bs : List Byte) : (s.putBar2 a bs).guardMgmt = s.guardMgmt := rfl
@[simp] theorem State.putBar2_tk (a : Nat) (bs : List Byte) : (s.putBar2 a bs).tk = s.tk := rfl
@[simp] theorem State.putBar2_fcr (a : Nat) (bs : List Byte) : (s.putBar2 a bs).fcr = s.fcr := rfl
@[simp] theorem State.putBar2_boot (a : Nat) (bs : List Byte) : (s.putBar2 a bs).boot = s.boot := rfl
@[simp] theorem State.putBar2_mbx (a : Nat) (bs : List Byte) : (s.putBar2 a bs).mbx = s.mbx := rfl
@[simp] theorem State.putBar2_buses (a : Nat) (bs : List Byte) : (s.putBar2 a bs).buses = s.buses := rfl
@[simp] theorem State.putBar2_modules (a : Nat) (bs : List Byte) : (s.putBar2 a bs).modules = s.modules := rfl
@[simp] theorem State.putBar2_lines (a : Nat) (bs : List Byte) : (s.putBar2 a bs).lines = s.lines := rfl
@[simp] theorem State.putBar2_planes (a : Nat) (bs : List Byte) : (s.putBar2 a bs).planes = s.planes := rfl
@[simp] theorem State.putBar2_tw (a : Nat) (bs : List Byte) : (s.putBar2 a bs).tw = s.tw := rfl
@[simp] theorem State.putBar2_tmg (a : Nat) (bs : List Byte) : (s.putBar2 a bs).tmg = s.tmg := rfl
@[simp] theorem State.putBar2_scc (a : Nat) (bs : List Byte) : (s.putBar2 a bs).scc = s.scc := rfl
@[simp] theorem State.putBar2_dma (a : Nat) (bs : List Byte) : (s.putBar2 a bs).dma = s.dma := rfl
@[simp] theorem State.putBar2_cvu (a : Nat) (bs : List Byte) : (s.putBar2 a bs).cvu = s.cvu := rfl
@[simp] theorem State.putBar2_jtag (a : Nat) (bs : List Byte) : (s.putBar2 a bs).jtag = s.jtag := rfl
@[simp] theorem State.putBar2_fresh (a : Nat) (bs : List Byte) : (s.putBar2 a bs).fresh = s.fresh := rfl
@[simp] theorem State.putBar2_pending (a : Nat) (bs : List Byte) : (s.putBar2 a bs).pending = s.pending := rfl
@[simp] theorem State.putBar2_reg (a : Nat) (bs : List Byte) (x : Nat) : (s.putBar2 a bs).reg x = s.reg x := rfl
@[simp] theorem State.putBar2_get (a : Nat) (bs : List Byte) (x : FRef) : (s.putBar2 a bs).get x = s.get x := rfl
@[simp] theorem State.putBar2_flag (a : Nat) (bs : List Byte) (x : FRef) : (s.putBar2 a bs).flag x = s.flag x := rfl
@[simp] theorem State.putBar2_get64 (a : Nat) (bs : List Byte) (x : Nat) : (s.putBar2 a bs).get64 x = s.get64 x := rfl
@[simp] theorem State.putBar2_line (a : Nat) (bs : List Byte) (x : Nat) : (s.putBar2 a bs).line x = s.line x := rfl

/-! `putBar2Num` changes bar2 only. -/
@[simp] theorem State.putBar2Num_regs (a n v : Nat) : (s.putBar2Num a n v).regs = s.regs := rfl
@[simp] theorem State.putBar2Num_prtRec (a n v : Nat) : (s.putBar2Num a n v).prtRec = s.prtRec := rfl
@[simp] theorem State.putBar2Num_host (a n v : Nat) : (s.putBar2Num a n v).host = s.host := rfl
@[simp] theorem State.putBar2Num_flash (a n v : Nat) : (s.putBar2Num a n v).flash = s.flash := rfl
@[simp] theorem State.putBar2Num_fuses (a n v : Nat) : (s.putBar2Num a n v).fuses = s.fuses := rfl
@[simp] theorem State.putBar2Num_power (a n v : Nat) : (s.putBar2Num a n v).power = s.power := rfl
@[simp] theorem State.putBar2Num_pcie (a n v : Nat) : (s.putBar2Num a n v).pcie = s.pcie := rfl
@[simp] theorem State.putBar2Num_irq (a n v : Nat) : (s.putBar2Num a n v).irq = s.irq := rfl
@[simp] theorem State.putBar2Num_guardHost (a n v : Nat) : (s.putBar2Num a n v).guardHost = s.guardHost := rfl
@[simp] theorem State.putBar2Num_guardMgmt (a n v : Nat) : (s.putBar2Num a n v).guardMgmt = s.guardMgmt := rfl
@[simp] theorem State.putBar2Num_tk (a n v : Nat) : (s.putBar2Num a n v).tk = s.tk := rfl
@[simp] theorem State.putBar2Num_fcr (a n v : Nat) : (s.putBar2Num a n v).fcr = s.fcr := rfl
@[simp] theorem State.putBar2Num_boot (a n v : Nat) : (s.putBar2Num a n v).boot = s.boot := rfl
@[simp] theorem State.putBar2Num_mbx (a n v : Nat) : (s.putBar2Num a n v).mbx = s.mbx := rfl
@[simp] theorem State.putBar2Num_buses (a n v : Nat) : (s.putBar2Num a n v).buses = s.buses := rfl
@[simp] theorem State.putBar2Num_modules (a n v : Nat) : (s.putBar2Num a n v).modules = s.modules := rfl
@[simp] theorem State.putBar2Num_lines (a n v : Nat) : (s.putBar2Num a n v).lines = s.lines := rfl
@[simp] theorem State.putBar2Num_planes (a n v : Nat) : (s.putBar2Num a n v).planes = s.planes := rfl
@[simp] theorem State.putBar2Num_tw (a n v : Nat) : (s.putBar2Num a n v).tw = s.tw := rfl
@[simp] theorem State.putBar2Num_tmg (a n v : Nat) : (s.putBar2Num a n v).tmg = s.tmg := rfl
@[simp] theorem State.putBar2Num_scc (a n v : Nat) : (s.putBar2Num a n v).scc = s.scc := rfl
@[simp] theorem State.putBar2Num_dma (a n v : Nat) : (s.putBar2Num a n v).dma = s.dma := rfl
@[simp] theorem State.putBar2Num_cvu (a n v : Nat) : (s.putBar2Num a n v).cvu = s.cvu := rfl
@[simp] theorem State.putBar2Num_jtag (a n v : Nat) : (s.putBar2Num a n v).jtag = s.jtag := rfl
@[simp] theorem State.putBar2Num_fresh (a n v : Nat) : (s.putBar2Num a n v).fresh = s.fresh := rfl
@[simp] theorem State.putBar2Num_pending (a n v : Nat) : (s.putBar2Num a n v).pending = s.pending := rfl
@[simp] theorem State.putBar2Num_reg (a n v : Nat) (x : Nat) : (s.putBar2Num a n v).reg x = s.reg x := rfl
@[simp] theorem State.putBar2Num_get (a n v : Nat) (x : FRef) : (s.putBar2Num a n v).get x = s.get x := rfl
@[simp] theorem State.putBar2Num_flag (a n v : Nat) (x : FRef) : (s.putBar2Num a n v).flag x = s.flag x := rfl
@[simp] theorem State.putBar2Num_get64 (a n v : Nat) (x : Nat) : (s.putBar2Num a n v).get64 x = s.get64 x := rfl
@[simp] theorem State.putBar2Num_line (a n v : Nat) (x : Nat) : (s.putBar2Num a n v).line x = s.line x := rfl

/-! `clearBar2` changes bar2 only. -/
@[simp] theorem State.clearBar2_regs (p : Nat → Bool) : (s.clearBar2 p).regs = s.regs := rfl
@[simp] theorem State.clearBar2_prtRec (p : Nat → Bool) : (s.clearBar2 p).prtRec = s.prtRec := rfl
@[simp] theorem State.clearBar2_host (p : Nat → Bool) : (s.clearBar2 p).host = s.host := rfl
@[simp] theorem State.clearBar2_flash (p : Nat → Bool) : (s.clearBar2 p).flash = s.flash := rfl
@[simp] theorem State.clearBar2_fuses (p : Nat → Bool) : (s.clearBar2 p).fuses = s.fuses := rfl
@[simp] theorem State.clearBar2_power (p : Nat → Bool) : (s.clearBar2 p).power = s.power := rfl
@[simp] theorem State.clearBar2_pcie (p : Nat → Bool) : (s.clearBar2 p).pcie = s.pcie := rfl
@[simp] theorem State.clearBar2_irq (p : Nat → Bool) : (s.clearBar2 p).irq = s.irq := rfl
@[simp] theorem State.clearBar2_guardHost (p : Nat → Bool) : (s.clearBar2 p).guardHost = s.guardHost := rfl
@[simp] theorem State.clearBar2_guardMgmt (p : Nat → Bool) : (s.clearBar2 p).guardMgmt = s.guardMgmt := rfl
@[simp] theorem State.clearBar2_tk (p : Nat → Bool) : (s.clearBar2 p).tk = s.tk := rfl
@[simp] theorem State.clearBar2_fcr (p : Nat → Bool) : (s.clearBar2 p).fcr = s.fcr := rfl
@[simp] theorem State.clearBar2_boot (p : Nat → Bool) : (s.clearBar2 p).boot = s.boot := rfl
@[simp] theorem State.clearBar2_mbx (p : Nat → Bool) : (s.clearBar2 p).mbx = s.mbx := rfl
@[simp] theorem State.clearBar2_buses (p : Nat → Bool) : (s.clearBar2 p).buses = s.buses := rfl
@[simp] theorem State.clearBar2_modules (p : Nat → Bool) : (s.clearBar2 p).modules = s.modules := rfl
@[simp] theorem State.clearBar2_lines (p : Nat → Bool) : (s.clearBar2 p).lines = s.lines := rfl
@[simp] theorem State.clearBar2_planes (p : Nat → Bool) : (s.clearBar2 p).planes = s.planes := rfl
@[simp] theorem State.clearBar2_tw (p : Nat → Bool) : (s.clearBar2 p).tw = s.tw := rfl
@[simp] theorem State.clearBar2_tmg (p : Nat → Bool) : (s.clearBar2 p).tmg = s.tmg := rfl
@[simp] theorem State.clearBar2_scc (p : Nat → Bool) : (s.clearBar2 p).scc = s.scc := rfl
@[simp] theorem State.clearBar2_dma (p : Nat → Bool) : (s.clearBar2 p).dma = s.dma := rfl
@[simp] theorem State.clearBar2_cvu (p : Nat → Bool) : (s.clearBar2 p).cvu = s.cvu := rfl
@[simp] theorem State.clearBar2_jtag (p : Nat → Bool) : (s.clearBar2 p).jtag = s.jtag := rfl
@[simp] theorem State.clearBar2_fresh (p : Nat → Bool) : (s.clearBar2 p).fresh = s.fresh := rfl
@[simp] theorem State.clearBar2_pending (p : Nat → Bool) : (s.clearBar2 p).pending = s.pending := rfl
@[simp] theorem State.clearBar2_reg (p : Nat → Bool) (x : Nat) : (s.clearBar2 p).reg x = s.reg x := rfl
@[simp] theorem State.clearBar2_get (p : Nat → Bool) (x : FRef) : (s.clearBar2 p).get x = s.get x := rfl
@[simp] theorem State.clearBar2_flag (p : Nat → Bool) (x : FRef) : (s.clearBar2 p).flag x = s.flag x := rfl
@[simp] theorem State.clearBar2_get64 (p : Nat → Bool) (x : Nat) : (s.clearBar2 p).get64 x = s.get64 x := rfl
@[simp] theorem State.clearBar2_line (p : Nat → Bool) (x : Nat) : (s.clearBar2 p).line x = s.line x := rfl

/-! `putRec` changes prtRec only. -/
@[simp] theorem State.putRec_regs (a n v : Nat) : (s.putRec a n v).regs = s.regs := rfl
@[simp] theorem State.putRec_bar2 (a n v : Nat) : (s.putRec a n v).bar2 = s.bar2 := rfl
@[simp] theorem State.putRec_host (a n v : Nat) : (s.putRec a n v).host = s.host := rfl
@[simp] theorem State.putRec_flash (a n v : Nat) : (s.putRec a n v).flash = s.flash := rfl
@[simp] theorem State.putRec_fuses (a n v : Nat) : (s.putRec a n v).fuses = s.fuses := rfl
@[simp] theorem State.putRec_power (a n v : Nat) : (s.putRec a n v).power = s.power := rfl
@[simp] theorem State.putRec_pcie (a n v : Nat) : (s.putRec a n v).pcie = s.pcie := rfl
@[simp] theorem State.putRec_irq (a n v : Nat) : (s.putRec a n v).irq = s.irq := rfl
@[simp] theorem State.putRec_guardHost (a n v : Nat) : (s.putRec a n v).guardHost = s.guardHost := rfl
@[simp] theorem State.putRec_guardMgmt (a n v : Nat) : (s.putRec a n v).guardMgmt = s.guardMgmt := rfl
@[simp] theorem State.putRec_tk (a n v : Nat) : (s.putRec a n v).tk = s.tk := rfl
@[simp] theorem State.putRec_fcr (a n v : Nat) : (s.putRec a n v).fcr = s.fcr := rfl
@[simp] theorem State.putRec_boot (a n v : Nat) : (s.putRec a n v).boot = s.boot := rfl
@[simp] theorem State.putRec_mbx (a n v : Nat) : (s.putRec a n v).mbx = s.mbx := rfl
@[simp] theorem State.putRec_buses (a n v : Nat) : (s.putRec a n v).buses = s.buses := rfl
@[simp] theorem State.putRec_modules (a n v : Nat) : (s.putRec a n v).modules = s.modules := rfl
@[simp] theorem State.putRec_lines (a n v : Nat) : (s.putRec a n v).lines = s.lines := rfl
@[simp] theorem State.putRec_planes (a n v : Nat) : (s.putRec a n v).planes = s.planes := rfl
@[simp] theorem State.putRec_tw (a n v : Nat) : (s.putRec a n v).tw = s.tw := rfl
@[simp] theorem State.putRec_tmg (a n v : Nat) : (s.putRec a n v).tmg = s.tmg := rfl
@[simp] theorem State.putRec_scc (a n v : Nat) : (s.putRec a n v).scc = s.scc := rfl
@[simp] theorem State.putRec_dma (a n v : Nat) : (s.putRec a n v).dma = s.dma := rfl
@[simp] theorem State.putRec_cvu (a n v : Nat) : (s.putRec a n v).cvu = s.cvu := rfl
@[simp] theorem State.putRec_jtag (a n v : Nat) : (s.putRec a n v).jtag = s.jtag := rfl
@[simp] theorem State.putRec_fresh (a n v : Nat) : (s.putRec a n v).fresh = s.fresh := rfl
@[simp] theorem State.putRec_pending (a n v : Nat) : (s.putRec a n v).pending = s.pending := rfl
@[simp] theorem State.putRec_reg (a n v : Nat) (x : Nat) : (s.putRec a n v).reg x = s.reg x := rfl
@[simp] theorem State.putRec_get (a n v : Nat) (x : FRef) : (s.putRec a n v).get x = s.get x := rfl
@[simp] theorem State.putRec_flag (a n v : Nat) (x : FRef) : (s.putRec a n v).flag x = s.flag x := rfl
@[simp] theorem State.putRec_get64 (a n v : Nat) (x : Nat) : (s.putRec a n v).get64 x = s.get64 x := rfl
@[simp] theorem State.putRec_line (a n v : Nat) (x : Nat) : (s.putRec a n v).line x = s.line x := rfl

/-! `putHost` changes host only. -/
@[simp] theorem State.putHost_regs (a : Nat) (bs : List Byte) : (s.putHost a bs).regs = s.regs := rfl
@[simp] theorem State.putHost_bar2 (a : Nat) (bs : List Byte) : (s.putHost a bs).bar2 = s.bar2 := rfl
@[simp] theorem State.putHost_prtRec (a : Nat) (bs : List Byte) : (s.putHost a bs).prtRec = s.prtRec := rfl
@[simp] theorem State.putHost_flash (a : Nat) (bs : List Byte) : (s.putHost a bs).flash = s.flash := rfl
@[simp] theorem State.putHost_fuses (a : Nat) (bs : List Byte) : (s.putHost a bs).fuses = s.fuses := rfl
@[simp] theorem State.putHost_power (a : Nat) (bs : List Byte) : (s.putHost a bs).power = s.power := rfl
@[simp] theorem State.putHost_pcie (a : Nat) (bs : List Byte) : (s.putHost a bs).pcie = s.pcie := rfl
@[simp] theorem State.putHost_irq (a : Nat) (bs : List Byte) : (s.putHost a bs).irq = s.irq := rfl
@[simp] theorem State.putHost_guardHost (a : Nat) (bs : List Byte) : (s.putHost a bs).guardHost = s.guardHost := rfl
@[simp] theorem State.putHost_guardMgmt (a : Nat) (bs : List Byte) : (s.putHost a bs).guardMgmt = s.guardMgmt := rfl
@[simp] theorem State.putHost_tk (a : Nat) (bs : List Byte) : (s.putHost a bs).tk = s.tk := rfl
@[simp] theorem State.putHost_fcr (a : Nat) (bs : List Byte) : (s.putHost a bs).fcr = s.fcr := rfl
@[simp] theorem State.putHost_boot (a : Nat) (bs : List Byte) : (s.putHost a bs).boot = s.boot := rfl
@[simp] theorem State.putHost_mbx (a : Nat) (bs : List Byte) : (s.putHost a bs).mbx = s.mbx := rfl
@[simp] theorem State.putHost_buses (a : Nat) (bs : List Byte) : (s.putHost a bs).buses = s.buses := rfl
@[simp] theorem State.putHost_modules (a : Nat) (bs : List Byte) : (s.putHost a bs).modules = s.modules := rfl
@[simp] theorem State.putHost_lines (a : Nat) (bs : List Byte) : (s.putHost a bs).lines = s.lines := rfl
@[simp] theorem State.putHost_planes (a : Nat) (bs : List Byte) : (s.putHost a bs).planes = s.planes := rfl
@[simp] theorem State.putHost_tw (a : Nat) (bs : List Byte) : (s.putHost a bs).tw = s.tw := rfl
@[simp] theorem State.putHost_tmg (a : Nat) (bs : List Byte) : (s.putHost a bs).tmg = s.tmg := rfl
@[simp] theorem State.putHost_scc (a : Nat) (bs : List Byte) : (s.putHost a bs).scc = s.scc := rfl
@[simp] theorem State.putHost_dma (a : Nat) (bs : List Byte) : (s.putHost a bs).dma = s.dma := rfl
@[simp] theorem State.putHost_cvu (a : Nat) (bs : List Byte) : (s.putHost a bs).cvu = s.cvu := rfl
@[simp] theorem State.putHost_jtag (a : Nat) (bs : List Byte) : (s.putHost a bs).jtag = s.jtag := rfl
@[simp] theorem State.putHost_fresh (a : Nat) (bs : List Byte) : (s.putHost a bs).fresh = s.fresh := rfl
@[simp] theorem State.putHost_pending (a : Nat) (bs : List Byte) : (s.putHost a bs).pending = s.pending := rfl
@[simp] theorem State.putHost_reg (a : Nat) (bs : List Byte) (x : Nat) : (s.putHost a bs).reg x = s.reg x := rfl
@[simp] theorem State.putHost_get (a : Nat) (bs : List Byte) (x : FRef) : (s.putHost a bs).get x = s.get x := rfl
@[simp] theorem State.putHost_flag (a : Nat) (bs : List Byte) (x : FRef) : (s.putHost a bs).flag x = s.flag x := rfl
@[simp] theorem State.putHost_get64 (a : Nat) (bs : List Byte) (x : Nat) : (s.putHost a bs).get64 x = s.get64 x := rfl
@[simp] theorem State.putHost_line (a : Nat) (bs : List Byte) (x : Nat) : (s.putHost a bs).line x = s.line x := rfl

/-! `happen` changes fcr only. -/
@[simp] theorem State.happen_regs (src : Nat) : (s.happen src).regs = s.regs := rfl
@[simp] theorem State.happen_bar2 (src : Nat) : (s.happen src).bar2 = s.bar2 := rfl
@[simp] theorem State.happen_prtRec (src : Nat) : (s.happen src).prtRec = s.prtRec := rfl
@[simp] theorem State.happen_host (src : Nat) : (s.happen src).host = s.host := rfl
@[simp] theorem State.happen_flash (src : Nat) : (s.happen src).flash = s.flash := rfl
@[simp] theorem State.happen_fuses (src : Nat) : (s.happen src).fuses = s.fuses := rfl
@[simp] theorem State.happen_power (src : Nat) : (s.happen src).power = s.power := rfl
@[simp] theorem State.happen_pcie (src : Nat) : (s.happen src).pcie = s.pcie := rfl
@[simp] theorem State.happen_irq (src : Nat) : (s.happen src).irq = s.irq := rfl
@[simp] theorem State.happen_guardHost (src : Nat) : (s.happen src).guardHost = s.guardHost := rfl
@[simp] theorem State.happen_guardMgmt (src : Nat) : (s.happen src).guardMgmt = s.guardMgmt := rfl
@[simp] theorem State.happen_tk (src : Nat) : (s.happen src).tk = s.tk := rfl
@[simp] theorem State.happen_boot (src : Nat) : (s.happen src).boot = s.boot := rfl
@[simp] theorem State.happen_mbx (src : Nat) : (s.happen src).mbx = s.mbx := rfl
@[simp] theorem State.happen_buses (src : Nat) : (s.happen src).buses = s.buses := rfl
@[simp] theorem State.happen_modules (src : Nat) : (s.happen src).modules = s.modules := rfl
@[simp] theorem State.happen_lines (src : Nat) : (s.happen src).lines = s.lines := rfl
@[simp] theorem State.happen_planes (src : Nat) : (s.happen src).planes = s.planes := rfl
@[simp] theorem State.happen_tw (src : Nat) : (s.happen src).tw = s.tw := rfl
@[simp] theorem State.happen_tmg (src : Nat) : (s.happen src).tmg = s.tmg := rfl
@[simp] theorem State.happen_scc (src : Nat) : (s.happen src).scc = s.scc := rfl
@[simp] theorem State.happen_dma (src : Nat) : (s.happen src).dma = s.dma := rfl
@[simp] theorem State.happen_cvu (src : Nat) : (s.happen src).cvu = s.cvu := rfl
@[simp] theorem State.happen_jtag (src : Nat) : (s.happen src).jtag = s.jtag := rfl
@[simp] theorem State.happen_fresh (src : Nat) : (s.happen src).fresh = s.fresh := rfl
@[simp] theorem State.happen_pending (src : Nat) : (s.happen src).pending = s.pending := rfl
@[simp] theorem State.happen_reg (src : Nat) (x : Nat) : (s.happen src).reg x = s.reg x := rfl
@[simp] theorem State.happen_get (src : Nat) (x : FRef) : (s.happen src).get x = s.get x := rfl
@[simp] theorem State.happen_flag (src : Nat) (x : FRef) : (s.happen src).flag x = s.flag x := rfl
@[simp] theorem State.happen_get64 (src : Nat) (x : Nat) : (s.happen src).get64 x = s.get64 x := rfl
@[simp] theorem State.happen_line (src : Nat) (x : Nat) : (s.happen src).line x = s.line x := rfl

/-! `modTw` changes tw only. -/
@[simp] theorem State.modTw_regs (p : Nat) (f : PlaneTwin → PlaneTwin) : (s.modTw p f).regs = s.regs := rfl
@[simp] theorem State.modTw_bar2 (p : Nat) (f : PlaneTwin → PlaneTwin) : (s.modTw p f).bar2 = s.bar2 := rfl
@[simp] theorem State.modTw_prtRec (p : Nat) (f : PlaneTwin → PlaneTwin) : (s.modTw p f).prtRec = s.prtRec := rfl
@[simp] theorem State.modTw_host (p : Nat) (f : PlaneTwin → PlaneTwin) : (s.modTw p f).host = s.host := rfl
@[simp] theorem State.modTw_flash (p : Nat) (f : PlaneTwin → PlaneTwin) : (s.modTw p f).flash = s.flash := rfl
@[simp] theorem State.modTw_fuses (p : Nat) (f : PlaneTwin → PlaneTwin) : (s.modTw p f).fuses = s.fuses := rfl
@[simp] theorem State.modTw_power (p : Nat) (f : PlaneTwin → PlaneTwin) : (s.modTw p f).power = s.power := rfl
@[simp] theorem State.modTw_pcie (p : Nat) (f : PlaneTwin → PlaneTwin) : (s.modTw p f).pcie = s.pcie := rfl
@[simp] theorem State.modTw_irq (p : Nat) (f : PlaneTwin → PlaneTwin) : (s.modTw p f).irq = s.irq := rfl
@[simp] theorem State.modTw_guardHost (p : Nat) (f : PlaneTwin → PlaneTwin) : (s.modTw p f).guardHost = s.guardHost := rfl
@[simp] theorem State.modTw_guardMgmt (p : Nat) (f : PlaneTwin → PlaneTwin) : (s.modTw p f).guardMgmt = s.guardMgmt := rfl
@[simp] theorem State.modTw_tk (p : Nat) (f : PlaneTwin → PlaneTwin) : (s.modTw p f).tk = s.tk := rfl
@[simp] theorem State.modTw_fcr (p : Nat) (f : PlaneTwin → PlaneTwin) : (s.modTw p f).fcr = s.fcr := rfl
@[simp] theorem State.modTw_boot (p : Nat) (f : PlaneTwin → PlaneTwin) : (s.modTw p f).boot = s.boot := rfl
@[simp] theorem State.modTw_mbx (p : Nat) (f : PlaneTwin → PlaneTwin) : (s.modTw p f).mbx = s.mbx := rfl
@[simp] theorem State.modTw_buses (p : Nat) (f : PlaneTwin → PlaneTwin) : (s.modTw p f).buses = s.buses := rfl
@[simp] theorem State.modTw_modules (p : Nat) (f : PlaneTwin → PlaneTwin) : (s.modTw p f).modules = s.modules := rfl
@[simp] theorem State.modTw_lines (p : Nat) (f : PlaneTwin → PlaneTwin) : (s.modTw p f).lines = s.lines := rfl
@[simp] theorem State.modTw_planes (p : Nat) (f : PlaneTwin → PlaneTwin) : (s.modTw p f).planes = s.planes := rfl
@[simp] theorem State.modTw_tmg (p : Nat) (f : PlaneTwin → PlaneTwin) : (s.modTw p f).tmg = s.tmg := rfl
@[simp] theorem State.modTw_scc (p : Nat) (f : PlaneTwin → PlaneTwin) : (s.modTw p f).scc = s.scc := rfl
@[simp] theorem State.modTw_dma (p : Nat) (f : PlaneTwin → PlaneTwin) : (s.modTw p f).dma = s.dma := rfl
@[simp] theorem State.modTw_cvu (p : Nat) (f : PlaneTwin → PlaneTwin) : (s.modTw p f).cvu = s.cvu := rfl
@[simp] theorem State.modTw_jtag (p : Nat) (f : PlaneTwin → PlaneTwin) : (s.modTw p f).jtag = s.jtag := rfl
@[simp] theorem State.modTw_fresh (p : Nat) (f : PlaneTwin → PlaneTwin) : (s.modTw p f).fresh = s.fresh := rfl
@[simp] theorem State.modTw_pending (p : Nat) (f : PlaneTwin → PlaneTwin) : (s.modTw p f).pending = s.pending := rfl
@[simp] theorem State.modTw_reg (p : Nat) (f : PlaneTwin → PlaneTwin) (x : Nat) : (s.modTw p f).reg x = s.reg x := rfl
@[simp] theorem State.modTw_get (p : Nat) (f : PlaneTwin → PlaneTwin) (x : FRef) : (s.modTw p f).get x = s.get x := rfl
@[simp] theorem State.modTw_flag (p : Nat) (f : PlaneTwin → PlaneTwin) (x : FRef) : (s.modTw p f).flag x = s.flag x := rfl
@[simp] theorem State.modTw_get64 (p : Nat) (f : PlaneTwin → PlaneTwin) (x : Nat) : (s.modTw p f).get64 x = s.get64 x := rfl
@[simp] theorem State.modTw_line (p : Nat) (f : PlaneTwin → PlaneTwin) (x : Nat) : (s.modTw p f).line x = s.line x := rfl

/-! `modLine` changes lines only. -/
@[simp] theorem State.modLine_regs (n : Nat) (f : LineState → LineState) : (s.modLine n f).regs = s.regs := rfl
@[simp] theorem State.modLine_bar2 (n : Nat) (f : LineState → LineState) : (s.modLine n f).bar2 = s.bar2 := rfl
@[simp] theorem State.modLine_prtRec (n : Nat) (f : LineState → LineState) : (s.modLine n f).prtRec = s.prtRec := rfl
@[simp] theorem State.modLine_host (n : Nat) (f : LineState → LineState) : (s.modLine n f).host = s.host := rfl
@[simp] theorem State.modLine_flash (n : Nat) (f : LineState → LineState) : (s.modLine n f).flash = s.flash := rfl
@[simp] theorem State.modLine_fuses (n : Nat) (f : LineState → LineState) : (s.modLine n f).fuses = s.fuses := rfl
@[simp] theorem State.modLine_power (n : Nat) (f : LineState → LineState) : (s.modLine n f).power = s.power := rfl
@[simp] theorem State.modLine_pcie (n : Nat) (f : LineState → LineState) : (s.modLine n f).pcie = s.pcie := rfl
@[simp] theorem State.modLine_irq (n : Nat) (f : LineState → LineState) : (s.modLine n f).irq = s.irq := rfl
@[simp] theorem State.modLine_guardHost (n : Nat) (f : LineState → LineState) : (s.modLine n f).guardHost = s.guardHost := rfl
@[simp] theorem State.modLine_guardMgmt (n : Nat) (f : LineState → LineState) : (s.modLine n f).guardMgmt = s.guardMgmt := rfl
@[simp] theorem State.modLine_tk (n : Nat) (f : LineState → LineState) : (s.modLine n f).tk = s.tk := rfl
@[simp] theorem State.modLine_fcr (n : Nat) (f : LineState → LineState) : (s.modLine n f).fcr = s.fcr := rfl
@[simp] theorem State.modLine_boot (n : Nat) (f : LineState → LineState) : (s.modLine n f).boot = s.boot := rfl
@[simp] theorem State.modLine_mbx (n : Nat) (f : LineState → LineState) : (s.modLine n f).mbx = s.mbx := rfl
@[simp] theorem State.modLine_buses (n : Nat) (f : LineState → LineState) : (s.modLine n f).buses = s.buses := rfl
@[simp] theorem State.modLine_modules (n : Nat) (f : LineState → LineState) : (s.modLine n f).modules = s.modules := rfl
@[simp] theorem State.modLine_planes (n : Nat) (f : LineState → LineState) : (s.modLine n f).planes = s.planes := rfl
@[simp] theorem State.modLine_tw (n : Nat) (f : LineState → LineState) : (s.modLine n f).tw = s.tw := rfl
@[simp] theorem State.modLine_tmg (n : Nat) (f : LineState → LineState) : (s.modLine n f).tmg = s.tmg := rfl
@[simp] theorem State.modLine_scc (n : Nat) (f : LineState → LineState) : (s.modLine n f).scc = s.scc := rfl
@[simp] theorem State.modLine_dma (n : Nat) (f : LineState → LineState) : (s.modLine n f).dma = s.dma := rfl
@[simp] theorem State.modLine_cvu (n : Nat) (f : LineState → LineState) : (s.modLine n f).cvu = s.cvu := rfl
@[simp] theorem State.modLine_jtag (n : Nat) (f : LineState → LineState) : (s.modLine n f).jtag = s.jtag := rfl
@[simp] theorem State.modLine_fresh (n : Nat) (f : LineState → LineState) : (s.modLine n f).fresh = s.fresh := rfl
@[simp] theorem State.modLine_pending (n : Nat) (f : LineState → LineState) : (s.modLine n f).pending = s.pending := rfl
@[simp] theorem State.modLine_reg (n : Nat) (f : LineState → LineState) (x : Nat) : (s.modLine n f).reg x = s.reg x := rfl
@[simp] theorem State.modLine_get (n : Nat) (f : LineState → LineState) (x : FRef) : (s.modLine n f).get x = s.get x := rfl
@[simp] theorem State.modLine_flag (n : Nat) (f : LineState → LineState) (x : FRef) : (s.modLine n f).flag x = s.flag x := rfl
@[simp] theorem State.modLine_get64 (n : Nat) (f : LineState → LineState) (x : Nat) : (s.modLine n f).get64 x = s.get64 x := rfl

/-! `modLane` changes lines only. -/
@[simp] theorem State.modLane_regs (n : Nat) (f : Lane → Lane) : (s.modLane n f).regs = s.regs := rfl
@[simp] theorem State.modLane_bar2 (n : Nat) (f : Lane → Lane) : (s.modLane n f).bar2 = s.bar2 := rfl
@[simp] theorem State.modLane_prtRec (n : Nat) (f : Lane → Lane) : (s.modLane n f).prtRec = s.prtRec := rfl
@[simp] theorem State.modLane_host (n : Nat) (f : Lane → Lane) : (s.modLane n f).host = s.host := rfl
@[simp] theorem State.modLane_flash (n : Nat) (f : Lane → Lane) : (s.modLane n f).flash = s.flash := rfl
@[simp] theorem State.modLane_fuses (n : Nat) (f : Lane → Lane) : (s.modLane n f).fuses = s.fuses := rfl
@[simp] theorem State.modLane_power (n : Nat) (f : Lane → Lane) : (s.modLane n f).power = s.power := rfl
@[simp] theorem State.modLane_pcie (n : Nat) (f : Lane → Lane) : (s.modLane n f).pcie = s.pcie := rfl
@[simp] theorem State.modLane_irq (n : Nat) (f : Lane → Lane) : (s.modLane n f).irq = s.irq := rfl
@[simp] theorem State.modLane_guardHost (n : Nat) (f : Lane → Lane) : (s.modLane n f).guardHost = s.guardHost := rfl
@[simp] theorem State.modLane_guardMgmt (n : Nat) (f : Lane → Lane) : (s.modLane n f).guardMgmt = s.guardMgmt := rfl
@[simp] theorem State.modLane_tk (n : Nat) (f : Lane → Lane) : (s.modLane n f).tk = s.tk := rfl
@[simp] theorem State.modLane_fcr (n : Nat) (f : Lane → Lane) : (s.modLane n f).fcr = s.fcr := rfl
@[simp] theorem State.modLane_boot (n : Nat) (f : Lane → Lane) : (s.modLane n f).boot = s.boot := rfl
@[simp] theorem State.modLane_mbx (n : Nat) (f : Lane → Lane) : (s.modLane n f).mbx = s.mbx := rfl
@[simp] theorem State.modLane_buses (n : Nat) (f : Lane → Lane) : (s.modLane n f).buses = s.buses := rfl
@[simp] theorem State.modLane_modules (n : Nat) (f : Lane → Lane) : (s.modLane n f).modules = s.modules := rfl
@[simp] theorem State.modLane_planes (n : Nat) (f : Lane → Lane) : (s.modLane n f).planes = s.planes := rfl
@[simp] theorem State.modLane_tw (n : Nat) (f : Lane → Lane) : (s.modLane n f).tw = s.tw := rfl
@[simp] theorem State.modLane_tmg (n : Nat) (f : Lane → Lane) : (s.modLane n f).tmg = s.tmg := rfl
@[simp] theorem State.modLane_scc (n : Nat) (f : Lane → Lane) : (s.modLane n f).scc = s.scc := rfl
@[simp] theorem State.modLane_dma (n : Nat) (f : Lane → Lane) : (s.modLane n f).dma = s.dma := rfl
@[simp] theorem State.modLane_cvu (n : Nat) (f : Lane → Lane) : (s.modLane n f).cvu = s.cvu := rfl
@[simp] theorem State.modLane_jtag (n : Nat) (f : Lane → Lane) : (s.modLane n f).jtag = s.jtag := rfl
@[simp] theorem State.modLane_fresh (n : Nat) (f : Lane → Lane) : (s.modLane n f).fresh = s.fresh := rfl
@[simp] theorem State.modLane_pending (n : Nat) (f : Lane → Lane) : (s.modLane n f).pending = s.pending := rfl
@[simp] theorem State.modLane_reg (n : Nat) (f : Lane → Lane) (x : Nat) : (s.modLane n f).reg x = s.reg x := rfl
@[simp] theorem State.modLane_get (n : Nat) (f : Lane → Lane) (x : FRef) : (s.modLane n f).get x = s.get x := rfl
@[simp] theorem State.modLane_flag (n : Nat) (f : Lane → Lane) (x : FRef) : (s.modLane n f).flag x = s.flag x := rfl
@[simp] theorem State.modLane_get64 (n : Nat) (f : Lane → Lane) (x : Nat) : (s.modLane n f).get64 x = s.get64 x := rfl

/-! `modFau` changes lines only. -/
@[simp] theorem State.modFau_regs (n : Nat) (f : Fau → Fau) : (s.modFau n f).regs = s.regs := rfl
@[simp] theorem State.modFau_bar2 (n : Nat) (f : Fau → Fau) : (s.modFau n f).bar2 = s.bar2 := rfl
@[simp] theorem State.modFau_prtRec (n : Nat) (f : Fau → Fau) : (s.modFau n f).prtRec = s.prtRec := rfl
@[simp] theorem State.modFau_host (n : Nat) (f : Fau → Fau) : (s.modFau n f).host = s.host := rfl
@[simp] theorem State.modFau_flash (n : Nat) (f : Fau → Fau) : (s.modFau n f).flash = s.flash := rfl
@[simp] theorem State.modFau_fuses (n : Nat) (f : Fau → Fau) : (s.modFau n f).fuses = s.fuses := rfl
@[simp] theorem State.modFau_power (n : Nat) (f : Fau → Fau) : (s.modFau n f).power = s.power := rfl
@[simp] theorem State.modFau_pcie (n : Nat) (f : Fau → Fau) : (s.modFau n f).pcie = s.pcie := rfl
@[simp] theorem State.modFau_irq (n : Nat) (f : Fau → Fau) : (s.modFau n f).irq = s.irq := rfl
@[simp] theorem State.modFau_guardHost (n : Nat) (f : Fau → Fau) : (s.modFau n f).guardHost = s.guardHost := rfl
@[simp] theorem State.modFau_guardMgmt (n : Nat) (f : Fau → Fau) : (s.modFau n f).guardMgmt = s.guardMgmt := rfl
@[simp] theorem State.modFau_tk (n : Nat) (f : Fau → Fau) : (s.modFau n f).tk = s.tk := rfl
@[simp] theorem State.modFau_fcr (n : Nat) (f : Fau → Fau) : (s.modFau n f).fcr = s.fcr := rfl
@[simp] theorem State.modFau_boot (n : Nat) (f : Fau → Fau) : (s.modFau n f).boot = s.boot := rfl
@[simp] theorem State.modFau_mbx (n : Nat) (f : Fau → Fau) : (s.modFau n f).mbx = s.mbx := rfl
@[simp] theorem State.modFau_buses (n : Nat) (f : Fau → Fau) : (s.modFau n f).buses = s.buses := rfl
@[simp] theorem State.modFau_modules (n : Nat) (f : Fau → Fau) : (s.modFau n f).modules = s.modules := rfl
@[simp] theorem State.modFau_planes (n : Nat) (f : Fau → Fau) : (s.modFau n f).planes = s.planes := rfl
@[simp] theorem State.modFau_tw (n : Nat) (f : Fau → Fau) : (s.modFau n f).tw = s.tw := rfl
@[simp] theorem State.modFau_tmg (n : Nat) (f : Fau → Fau) : (s.modFau n f).tmg = s.tmg := rfl
@[simp] theorem State.modFau_scc (n : Nat) (f : Fau → Fau) : (s.modFau n f).scc = s.scc := rfl
@[simp] theorem State.modFau_dma (n : Nat) (f : Fau → Fau) : (s.modFau n f).dma = s.dma := rfl
@[simp] theorem State.modFau_cvu (n : Nat) (f : Fau → Fau) : (s.modFau n f).cvu = s.cvu := rfl
@[simp] theorem State.modFau_jtag (n : Nat) (f : Fau → Fau) : (s.modFau n f).jtag = s.jtag := rfl
@[simp] theorem State.modFau_fresh (n : Nat) (f : Fau → Fau) : (s.modFau n f).fresh = s.fresh := rfl
@[simp] theorem State.modFau_pending (n : Nat) (f : Fau → Fau) : (s.modFau n f).pending = s.pending := rfl
@[simp] theorem State.modFau_reg (n : Nat) (f : Fau → Fau) (x : Nat) : (s.modFau n f).reg x = s.reg x := rfl
@[simp] theorem State.modFau_get (n : Nat) (f : Fau → Fau) (x : FRef) : (s.modFau n f).get x = s.get x := rfl
@[simp] theorem State.modFau_flag (n : Nat) (f : Fau → Fau) (x : FRef) : (s.modFau n f).flag x = s.flag x := rfl
@[simp] theorem State.modFau_get64 (n : Nat) (f : Fau → Fau) (x : Nat) : (s.modFau n f).get64 x = s.get64 x := rfl

/-! `modMxf` changes lines only. -/
@[simp] theorem State.modMxf_regs (n : Nat) (f : Mxf → Mxf) : (s.modMxf n f).regs = s.regs := rfl
@[simp] theorem State.modMxf_bar2 (n : Nat) (f : Mxf → Mxf) : (s.modMxf n f).bar2 = s.bar2 := rfl
@[simp] theorem State.modMxf_prtRec (n : Nat) (f : Mxf → Mxf) : (s.modMxf n f).prtRec = s.prtRec := rfl
@[simp] theorem State.modMxf_host (n : Nat) (f : Mxf → Mxf) : (s.modMxf n f).host = s.host := rfl
@[simp] theorem State.modMxf_flash (n : Nat) (f : Mxf → Mxf) : (s.modMxf n f).flash = s.flash := rfl
@[simp] theorem State.modMxf_fuses (n : Nat) (f : Mxf → Mxf) : (s.modMxf n f).fuses = s.fuses := rfl
@[simp] theorem State.modMxf_power (n : Nat) (f : Mxf → Mxf) : (s.modMxf n f).power = s.power := rfl
@[simp] theorem State.modMxf_pcie (n : Nat) (f : Mxf → Mxf) : (s.modMxf n f).pcie = s.pcie := rfl
@[simp] theorem State.modMxf_irq (n : Nat) (f : Mxf → Mxf) : (s.modMxf n f).irq = s.irq := rfl
@[simp] theorem State.modMxf_guardHost (n : Nat) (f : Mxf → Mxf) : (s.modMxf n f).guardHost = s.guardHost := rfl
@[simp] theorem State.modMxf_guardMgmt (n : Nat) (f : Mxf → Mxf) : (s.modMxf n f).guardMgmt = s.guardMgmt := rfl
@[simp] theorem State.modMxf_tk (n : Nat) (f : Mxf → Mxf) : (s.modMxf n f).tk = s.tk := rfl
@[simp] theorem State.modMxf_fcr (n : Nat) (f : Mxf → Mxf) : (s.modMxf n f).fcr = s.fcr := rfl
@[simp] theorem State.modMxf_boot (n : Nat) (f : Mxf → Mxf) : (s.modMxf n f).boot = s.boot := rfl
@[simp] theorem State.modMxf_mbx (n : Nat) (f : Mxf → Mxf) : (s.modMxf n f).mbx = s.mbx := rfl
@[simp] theorem State.modMxf_buses (n : Nat) (f : Mxf → Mxf) : (s.modMxf n f).buses = s.buses := rfl
@[simp] theorem State.modMxf_modules (n : Nat) (f : Mxf → Mxf) : (s.modMxf n f).modules = s.modules := rfl
@[simp] theorem State.modMxf_planes (n : Nat) (f : Mxf → Mxf) : (s.modMxf n f).planes = s.planes := rfl
@[simp] theorem State.modMxf_tw (n : Nat) (f : Mxf → Mxf) : (s.modMxf n f).tw = s.tw := rfl
@[simp] theorem State.modMxf_tmg (n : Nat) (f : Mxf → Mxf) : (s.modMxf n f).tmg = s.tmg := rfl
@[simp] theorem State.modMxf_scc (n : Nat) (f : Mxf → Mxf) : (s.modMxf n f).scc = s.scc := rfl
@[simp] theorem State.modMxf_dma (n : Nat) (f : Mxf → Mxf) : (s.modMxf n f).dma = s.dma := rfl
@[simp] theorem State.modMxf_cvu (n : Nat) (f : Mxf → Mxf) : (s.modMxf n f).cvu = s.cvu := rfl
@[simp] theorem State.modMxf_jtag (n : Nat) (f : Mxf → Mxf) : (s.modMxf n f).jtag = s.jtag := rfl
@[simp] theorem State.modMxf_fresh (n : Nat) (f : Mxf → Mxf) : (s.modMxf n f).fresh = s.fresh := rfl
@[simp] theorem State.modMxf_pending (n : Nat) (f : Mxf → Mxf) : (s.modMxf n f).pending = s.pending := rfl
@[simp] theorem State.modMxf_reg (n : Nat) (f : Mxf → Mxf) (x : Nat) : (s.modMxf n f).reg x = s.reg x := rfl
@[simp] theorem State.modMxf_get (n : Nat) (f : Mxf → Mxf) (x : FRef) : (s.modMxf n f).get x = s.get x := rfl
@[simp] theorem State.modMxf_flag (n : Nat) (f : Mxf → Mxf) (x : FRef) : (s.modMxf n f).flag x = s.flag x := rfl
@[simp] theorem State.modMxf_get64 (n : Nat) (f : Mxf → Mxf) (x : Nat) : (s.modMxf n f).get64 x = s.get64 x := rfl

/-! `modOhp` changes lines only. -/
@[simp] theorem State.modOhp_regs (n : Nat) (f : Ohp → Ohp) : (s.modOhp n f).regs = s.regs := rfl
@[simp] theorem State.modOhp_bar2 (n : Nat) (f : Ohp → Ohp) : (s.modOhp n f).bar2 = s.bar2 := rfl
@[simp] theorem State.modOhp_prtRec (n : Nat) (f : Ohp → Ohp) : (s.modOhp n f).prtRec = s.prtRec := rfl
@[simp] theorem State.modOhp_host (n : Nat) (f : Ohp → Ohp) : (s.modOhp n f).host = s.host := rfl
@[simp] theorem State.modOhp_flash (n : Nat) (f : Ohp → Ohp) : (s.modOhp n f).flash = s.flash := rfl
@[simp] theorem State.modOhp_fuses (n : Nat) (f : Ohp → Ohp) : (s.modOhp n f).fuses = s.fuses := rfl
@[simp] theorem State.modOhp_power (n : Nat) (f : Ohp → Ohp) : (s.modOhp n f).power = s.power := rfl
@[simp] theorem State.modOhp_pcie (n : Nat) (f : Ohp → Ohp) : (s.modOhp n f).pcie = s.pcie := rfl
@[simp] theorem State.modOhp_irq (n : Nat) (f : Ohp → Ohp) : (s.modOhp n f).irq = s.irq := rfl
@[simp] theorem State.modOhp_guardHost (n : Nat) (f : Ohp → Ohp) : (s.modOhp n f).guardHost = s.guardHost := rfl
@[simp] theorem State.modOhp_guardMgmt (n : Nat) (f : Ohp → Ohp) : (s.modOhp n f).guardMgmt = s.guardMgmt := rfl
@[simp] theorem State.modOhp_tk (n : Nat) (f : Ohp → Ohp) : (s.modOhp n f).tk = s.tk := rfl
@[simp] theorem State.modOhp_fcr (n : Nat) (f : Ohp → Ohp) : (s.modOhp n f).fcr = s.fcr := rfl
@[simp] theorem State.modOhp_boot (n : Nat) (f : Ohp → Ohp) : (s.modOhp n f).boot = s.boot := rfl
@[simp] theorem State.modOhp_mbx (n : Nat) (f : Ohp → Ohp) : (s.modOhp n f).mbx = s.mbx := rfl
@[simp] theorem State.modOhp_buses (n : Nat) (f : Ohp → Ohp) : (s.modOhp n f).buses = s.buses := rfl
@[simp] theorem State.modOhp_modules (n : Nat) (f : Ohp → Ohp) : (s.modOhp n f).modules = s.modules := rfl
@[simp] theorem State.modOhp_planes (n : Nat) (f : Ohp → Ohp) : (s.modOhp n f).planes = s.planes := rfl
@[simp] theorem State.modOhp_tw (n : Nat) (f : Ohp → Ohp) : (s.modOhp n f).tw = s.tw := rfl
@[simp] theorem State.modOhp_tmg (n : Nat) (f : Ohp → Ohp) : (s.modOhp n f).tmg = s.tmg := rfl
@[simp] theorem State.modOhp_scc (n : Nat) (f : Ohp → Ohp) : (s.modOhp n f).scc = s.scc := rfl
@[simp] theorem State.modOhp_dma (n : Nat) (f : Ohp → Ohp) : (s.modOhp n f).dma = s.dma := rfl
@[simp] theorem State.modOhp_cvu (n : Nat) (f : Ohp → Ohp) : (s.modOhp n f).cvu = s.cvu := rfl
@[simp] theorem State.modOhp_jtag (n : Nat) (f : Ohp → Ohp) : (s.modOhp n f).jtag = s.jtag := rfl
@[simp] theorem State.modOhp_fresh (n : Nat) (f : Ohp → Ohp) : (s.modOhp n f).fresh = s.fresh := rfl
@[simp] theorem State.modOhp_pending (n : Nat) (f : Ohp → Ohp) : (s.modOhp n f).pending = s.pending := rfl
@[simp] theorem State.modOhp_reg (n : Nat) (f : Ohp → Ohp) (x : Nat) : (s.modOhp n f).reg x = s.reg x := rfl
@[simp] theorem State.modOhp_get (n : Nat) (f : Ohp → Ohp) (x : FRef) : (s.modOhp n f).get x = s.get x := rfl
@[simp] theorem State.modOhp_flag (n : Nat) (f : Ohp → Ohp) (x : FRef) : (s.modOhp n f).flag x = s.flag x := rfl
@[simp] theorem State.modOhp_get64 (n : Nat) (f : Ohp → Ohp) (x : Nat) : (s.modOhp n f).get64 x = s.get64 x := rfl

/-! `modDpm` changes lines only. -/
@[simp] theorem State.modDpm_regs (n : Nat) (f : Dpm → Dpm) : (s.modDpm n f).regs = s.regs := rfl
@[simp] theorem State.modDpm_bar2 (n : Nat) (f : Dpm → Dpm) : (s.modDpm n f).bar2 = s.bar2 := rfl
@[simp] theorem State.modDpm_prtRec (n : Nat) (f : Dpm → Dpm) : (s.modDpm n f).prtRec = s.prtRec := rfl
@[simp] theorem State.modDpm_host (n : Nat) (f : Dpm → Dpm) : (s.modDpm n f).host = s.host := rfl
@[simp] theorem State.modDpm_flash (n : Nat) (f : Dpm → Dpm) : (s.modDpm n f).flash = s.flash := rfl
@[simp] theorem State.modDpm_fuses (n : Nat) (f : Dpm → Dpm) : (s.modDpm n f).fuses = s.fuses := rfl
@[simp] theorem State.modDpm_power (n : Nat) (f : Dpm → Dpm) : (s.modDpm n f).power = s.power := rfl
@[simp] theorem State.modDpm_pcie (n : Nat) (f : Dpm → Dpm) : (s.modDpm n f).pcie = s.pcie := rfl
@[simp] theorem State.modDpm_irq (n : Nat) (f : Dpm → Dpm) : (s.modDpm n f).irq = s.irq := rfl
@[simp] theorem State.modDpm_guardHost (n : Nat) (f : Dpm → Dpm) : (s.modDpm n f).guardHost = s.guardHost := rfl
@[simp] theorem State.modDpm_guardMgmt (n : Nat) (f : Dpm → Dpm) : (s.modDpm n f).guardMgmt = s.guardMgmt := rfl
@[simp] theorem State.modDpm_tk (n : Nat) (f : Dpm → Dpm) : (s.modDpm n f).tk = s.tk := rfl
@[simp] theorem State.modDpm_fcr (n : Nat) (f : Dpm → Dpm) : (s.modDpm n f).fcr = s.fcr := rfl
@[simp] theorem State.modDpm_boot (n : Nat) (f : Dpm → Dpm) : (s.modDpm n f).boot = s.boot := rfl
@[simp] theorem State.modDpm_mbx (n : Nat) (f : Dpm → Dpm) : (s.modDpm n f).mbx = s.mbx := rfl
@[simp] theorem State.modDpm_buses (n : Nat) (f : Dpm → Dpm) : (s.modDpm n f).buses = s.buses := rfl
@[simp] theorem State.modDpm_modules (n : Nat) (f : Dpm → Dpm) : (s.modDpm n f).modules = s.modules := rfl
@[simp] theorem State.modDpm_planes (n : Nat) (f : Dpm → Dpm) : (s.modDpm n f).planes = s.planes := rfl
@[simp] theorem State.modDpm_tw (n : Nat) (f : Dpm → Dpm) : (s.modDpm n f).tw = s.tw := rfl
@[simp] theorem State.modDpm_tmg (n : Nat) (f : Dpm → Dpm) : (s.modDpm n f).tmg = s.tmg := rfl
@[simp] theorem State.modDpm_scc (n : Nat) (f : Dpm → Dpm) : (s.modDpm n f).scc = s.scc := rfl
@[simp] theorem State.modDpm_dma (n : Nat) (f : Dpm → Dpm) : (s.modDpm n f).dma = s.dma := rfl
@[simp] theorem State.modDpm_cvu (n : Nat) (f : Dpm → Dpm) : (s.modDpm n f).cvu = s.cvu := rfl
@[simp] theorem State.modDpm_jtag (n : Nat) (f : Dpm → Dpm) : (s.modDpm n f).jtag = s.jtag := rfl
@[simp] theorem State.modDpm_fresh (n : Nat) (f : Dpm → Dpm) : (s.modDpm n f).fresh = s.fresh := rfl
@[simp] theorem State.modDpm_pending (n : Nat) (f : Dpm → Dpm) : (s.modDpm n f).pending = s.pending := rfl
@[simp] theorem State.modDpm_reg (n : Nat) (f : Dpm → Dpm) (x : Nat) : (s.modDpm n f).reg x = s.reg x := rfl
@[simp] theorem State.modDpm_get (n : Nat) (f : Dpm → Dpm) (x : FRef) : (s.modDpm n f).get x = s.get x := rfl
@[simp] theorem State.modDpm_flag (n : Nat) (f : Dpm → Dpm) (x : FRef) : (s.modDpm n f).flag x = s.flag x := rfl
@[simp] theorem State.modDpm_get64 (n : Nat) (f : Dpm → Dpm) (x : Nat) : (s.modDpm n f).get64 x = s.get64 x := rfl

/-! `pulse` changes irq only. -/
@[simp] theorem State.pulse_regs (v : Nat) : (s.pulse v).regs = s.regs := rfl
@[simp] theorem State.pulse_bar2 (v : Nat) : (s.pulse v).bar2 = s.bar2 := rfl
@[simp] theorem State.pulse_prtRec (v : Nat) : (s.pulse v).prtRec = s.prtRec := rfl
@[simp] theorem State.pulse_host (v : Nat) : (s.pulse v).host = s.host := rfl
@[simp] theorem State.pulse_flash (v : Nat) : (s.pulse v).flash = s.flash := rfl
@[simp] theorem State.pulse_fuses (v : Nat) : (s.pulse v).fuses = s.fuses := rfl
@[simp] theorem State.pulse_power (v : Nat) : (s.pulse v).power = s.power := rfl
@[simp] theorem State.pulse_pcie (v : Nat) : (s.pulse v).pcie = s.pcie := rfl
@[simp] theorem State.pulse_guardHost (v : Nat) : (s.pulse v).guardHost = s.guardHost := rfl
@[simp] theorem State.pulse_guardMgmt (v : Nat) : (s.pulse v).guardMgmt = s.guardMgmt := rfl
@[simp] theorem State.pulse_tk (v : Nat) : (s.pulse v).tk = s.tk := rfl
@[simp] theorem State.pulse_fcr (v : Nat) : (s.pulse v).fcr = s.fcr := rfl
@[simp] theorem State.pulse_boot (v : Nat) : (s.pulse v).boot = s.boot := rfl
@[simp] theorem State.pulse_mbx (v : Nat) : (s.pulse v).mbx = s.mbx := rfl
@[simp] theorem State.pulse_buses (v : Nat) : (s.pulse v).buses = s.buses := rfl
@[simp] theorem State.pulse_modules (v : Nat) : (s.pulse v).modules = s.modules := rfl
@[simp] theorem State.pulse_lines (v : Nat) : (s.pulse v).lines = s.lines := rfl
@[simp] theorem State.pulse_planes (v : Nat) : (s.pulse v).planes = s.planes := rfl
@[simp] theorem State.pulse_tw (v : Nat) : (s.pulse v).tw = s.tw := rfl
@[simp] theorem State.pulse_tmg (v : Nat) : (s.pulse v).tmg = s.tmg := rfl
@[simp] theorem State.pulse_scc (v : Nat) : (s.pulse v).scc = s.scc := rfl
@[simp] theorem State.pulse_dma (v : Nat) : (s.pulse v).dma = s.dma := rfl
@[simp] theorem State.pulse_cvu (v : Nat) : (s.pulse v).cvu = s.cvu := rfl
@[simp] theorem State.pulse_jtag (v : Nat) : (s.pulse v).jtag = s.jtag := rfl
@[simp] theorem State.pulse_fresh (v : Nat) : (s.pulse v).fresh = s.fresh := rfl
@[simp] theorem State.pulse_pending (v : Nat) : (s.pulse v).pending = s.pending := rfl
@[simp] theorem State.pulse_reg (v : Nat) (x : Nat) : (s.pulse v).reg x = s.reg x := rfl
@[simp] theorem State.pulse_get (v : Nat) (x : FRef) : (s.pulse v).get x = s.get x := rfl
@[simp] theorem State.pulse_flag (v : Nat) (x : FRef) : (s.pulse v).flag x = s.flag x := rfl
@[simp] theorem State.pulse_get64 (v : Nat) (x : Nat) : (s.pulse v).get64 x = s.get64 x := rfl
@[simp] theorem State.pulse_line (v : Nat) (x : Nat) : (s.pulse v).line x = s.line x := rfl

/-! `settle` changes irq and fcr only. -/
@[simp] theorem settle_regs : (settle s).regs = s.regs := rfl
@[simp] theorem settle_bar2 : (settle s).bar2 = s.bar2 := rfl
@[simp] theorem settle_prtRec : (settle s).prtRec = s.prtRec := rfl
@[simp] theorem settle_host : (settle s).host = s.host := rfl
@[simp] theorem settle_flash : (settle s).flash = s.flash := rfl
@[simp] theorem settle_fuses : (settle s).fuses = s.fuses := rfl
@[simp] theorem settle_power : (settle s).power = s.power := rfl
@[simp] theorem settle_pcie : (settle s).pcie = s.pcie := rfl
@[simp] theorem settle_guardHost : (settle s).guardHost = s.guardHost := rfl
@[simp] theorem settle_guardMgmt : (settle s).guardMgmt = s.guardMgmt := rfl
@[simp] theorem settle_tk : (settle s).tk = s.tk := rfl
@[simp] theorem settle_boot : (settle s).boot = s.boot := rfl
@[simp] theorem settle_mbx : (settle s).mbx = s.mbx := rfl
@[simp] theorem settle_buses : (settle s).buses = s.buses := rfl
@[simp] theorem settle_modules : (settle s).modules = s.modules := rfl
@[simp] theorem settle_lines : (settle s).lines = s.lines := rfl
@[simp] theorem settle_planes : (settle s).planes = s.planes := rfl
@[simp] theorem settle_tw : (settle s).tw = s.tw := rfl
@[simp] theorem settle_tmg : (settle s).tmg = s.tmg := rfl
@[simp] theorem settle_scc : (settle s).scc = s.scc := rfl
@[simp] theorem settle_dma : (settle s).dma = s.dma := rfl
@[simp] theorem settle_cvu : (settle s).cvu = s.cvu := rfl
@[simp] theorem settle_jtag : (settle s).jtag = s.jtag := rfl
@[simp] theorem settle_fresh : (settle s).fresh = s.fresh := rfl
@[simp] theorem settle_pending : (settle s).pending = s.pending := rfl
@[simp] theorem settle_reg (x : Nat) : (settle s).reg x = s.reg x := rfl
@[simp] theorem settle_get (x : FRef) : (settle s).get x = s.get x := rfl
@[simp] theorem settle_flag (x : FRef) : (settle s).flag x = s.flag x := rfl
@[simp] theorem settle_get64 (x : Nat) : (settle s).get64 x = s.get64 x := rfl
@[simp] theorem settle_line (x : Nat) : (settle s).line x = s.line x := rfl

/-! ## Registers and fields -/

/-- What a register holds after one has been written. -/
theorem State.reg_setReg (a b : Nat) (w : Word) : (s.setReg a w).reg b = if b = a then w else s.reg b :=
  Sparse.get_set _ _ _ _ _

@[simp] theorem State.reg_setReg_same (a : Nat) (w : Word) : (s.setReg a w).reg a = w := by simp [State.reg_setReg]

theorem State.reg_setReg_other (a b : Nat) (w : Word) (h : b ≠ a) : (s.setReg a w).reg b = s.reg b := by
  simp [State.reg_setReg, h]

theorem State.reg_set (f : FRef) (v b : Nat) :
    (s.set f v).reg b = if b = f.addr then wordPut (s.reg f.addr) f.lo f.len v else s.reg b := State.reg_setReg _ _ _ _

theorem State.reg_set_other (f : FRef) (v b : Nat) (h : b ≠ f.addr) : (s.set f v).reg b = s.reg b :=
  State.reg_setReg_other _ _ _ _ h

theorem State.reg_raise_other (f : FRef) (b : Nat) (h : b ≠ f.addr) : (s.raise f).reg b = s.reg b :=
  State.reg_set_other _ _ _ _ h

theorem State.reg_setB_other (f : FRef) (x : Bool) (b : Nat) (h : b ≠ f.addr) : (s.setB f x).reg b = s.reg b :=
  State.reg_set_other _ _ _ _ h

/-- A field reads what has been put into it, modulo its width. -/
theorem State.get_set_same (f : FRef) (v : Nat) (h : f.lo + f.len ≤ 32) : (s.set f v).get f = v % 2 ^ f.len := by
  simp only [State.get, State.set, State.reg_setReg_same]
  exact wordBits_wordPut _ _ _ _ h

/-- A field of another register keeps its value. -/
theorem State.get_set_far (f g : FRef) (v : Nat) (h : g.addr ≠ f.addr) : (s.set f v).get g = s.get g := by
  simp only [State.get, State.reg_set_other _ _ _ _ h]

/-- A field that shares no bit with the one written keeps its value. -/
theorem State.get_set_near (f g : FRef) (v : Nat) (hg : g.lo + g.len ≤ 32) (h : f.lo + f.len ≤ g.lo ∨ g.lo + g.len ≤ f.lo) :
    (s.set f v).get g = s.get g := by
  by_cases ha : g.addr = f.addr
  · simp only [State.get, State.set, ha, State.reg_setReg_same]
    exact wordBits_wordPut_other _ _ _ _ _ _ hg h
  · exact State.get_set_far _ _ _ _ ha

/-- Another field keeps its value. -/
theorem State.get_set_other (f g : FRef) (v : Nat)
    (h : g.addr ≠ f.addr ∨ g.lo + g.len ≤ 32 ∧ (f.lo + f.len ≤ g.lo ∨ g.lo + g.len ≤ f.lo)) :
    (s.set f v).get g = s.get g := by
  rcases h with h | h
  · exact State.get_set_far _ _ _ _ h
  · exact State.get_set_near _ _ _ _ h.1 h.2

theorem State.get_raise_same (f : FRef) (h : f.lo + f.len ≤ 32) (hl : 0 < f.len) : (s.raise f).get f = 1 := by
  rw [State.raise, State.get_set_same _ _ _ h]
  exact Nat.mod_eq_of_lt (Nat.one_lt_two_pow (by omega))

theorem State.get_setB_same (f : FRef) (b : Bool) (h : f.lo + f.len ≤ 32) (hl : 0 < f.len) :
    (s.setB f b).get f = b2n b := by
  rw [State.setB, State.get_set_same _ _ _ h]
  have := Nat.one_lt_two_pow (n := f.len) (by omega)
  cases b
  · simp
  · simp; omega

/-- A 64-bit value reads what has been put into it. -/
theorem State.get64_set64_same (a v : Nat) (h : v < 2 ^ 64) : (s.set64 a v).get64 a = v := by
  have h1 : (s.set64 a v).reg a = BitVec.ofNat 32 v := by simp [State.set64, State.reg_setReg]
  have h2 : (s.set64 a v).reg (a + 4) = BitVec.ofNat 32 (v / 2 ^ 32) := by simp [State.set64]
  rw [State.get64, h1, h2, BitVec.toNat_ofNat, BitVec.toNat_ofNat]
  omega

theorem State.reg_set64_other (a v b : Nat) (h : b ≠ a ∧ b ≠ a + 4) : (s.set64 a v).reg b = s.reg b := by
  simp [State.set64, State.reg_setReg, h]

/-- Every register after some have been put back at their reset value. -/
theorem State.reg_clearRegs (p : Nat → Bool) (a : Nat) :
    (s.clearRegs p).reg a = if p a then regReset a else s.reg a := Sparse.get_clear _ _ _ _

/-! ## Lines -/

/-- The lines after one has been changed. -/
theorem State.line_modLine (n m : Nat) (f : LineState → LineState) :
    (s.modLine n f).line m = if n = m then f (s.line m) else s.line m := modD_getD _ _ _ _ _

@[simp] theorem State.line_modLine_same (n : Nat) (f : LineState → LineState) : (s.modLine n f).line n = f (s.line n) :=
  modD_getD_same _ _ _ _

theorem State.line_modLine_other (n m : Nat) (f : LineState → LineState) (h : m ≠ n) :
    (s.modLine n f).line m = s.line m := modD_getD_other _ _ _ _ _ (Ne.symm h)

/-! ## Memory spaces -/

/-- A BAR2 byte outside those written reads as before. -/
theorem State.bar2Byte_putBar2_other (a b : Nat) (bs : List Byte) (h : b < a ∨ a + bs.length ≤ b) :
    (s.putBar2 a bs).bar2Byte b = s.bar2Byte b := Sparse.get_setList_other _ _ _ _ _ h

/-- BAR2 bytes read what has been written to them. -/
theorem State.bar2Bytes_putBar2 (a : Nat) (bs : List Byte) : (s.putBar2 a bs).bar2Bytes a bs.length = bs :=
  Sparse.getList_setList _ _ _ _

/-- A number written to a BAR2 space reads back modulo its width. -/
theorem State.bar2Num_putBar2Num (a n v : Nat) : (s.putBar2Num a n v).bar2Num a n = v % 256 ^ n := by
  have h := State.bar2Bytes_putBar2 s a (leBytes n v)
  rw [leBytes_length] at h
  rw [State.bar2Num, State.putBar2Num, h, leNat_leBytes]

/-- A number written to the record space reads back modulo its width. -/
theorem State.recNum_putRec (a n v : Nat) : (s.putRec a n v).recNum a n = v % 256 ^ n := by
  have h := Sparse.getList_setList zeroDefault (leBytes n v) s.prtRec a
  rw [leBytes_length] at h
  simp only [State.recNum, State.putRec, h, leNat_leBytes]

/-- Every write of a memory space keeps the canonical form. -/
theorem State.putBar2_wf (a : Nat) (bs : List Byte) (h : Memory.wf bar2Default s.bar2 = true) :
    Memory.wf bar2Default (s.putBar2 a bs).bar2 = true := Sparse.wf_setList _ _ _ _ h

theorem State.clearBar2_wf (p : Nat → Bool) (h : Memory.wf bar2Default s.bar2 = true) :
    Memory.wf bar2Default (s.clearBar2 p).bar2 = true := Sparse.wf_clear _ _ _ h

theorem State.putRec_wf (a n v : Nat) (h : Memory.wf zeroDefault s.prtRec = true) :
    Memory.wf zeroDefault (s.putRec a n v).prtRec = true := Sparse.wf_setList _ _ _ _ h

theorem State.putHost_wf (a : Nat) (bs : List Byte) (h : Memory.wf zeroDefault s.host = true) :
    Memory.wf zeroDefault (s.putHost a bs).host = true := Sparse.wf_setList _ _ _ _ h

theorem State.setReg_wf (a : Nat) (w : Word) (h : Sparse.wf regReset s.regs = true) :
    Sparse.wf regReset (s.setReg a w).regs = true := Sparse.wf_set _ _ _ _ h

theorem State.clearRegs_wf (p : Nat → Bool) (h : Sparse.wf regReset s.regs = true) :
    Sparse.wf regReset (s.clearRegs p).regs = true := Sparse.wf_clear _ _ _ h

theorem State.reset_wf : Memory.wf bar2Default State.reset.bar2 = true ∧ Memory.wf zeroDefault State.reset.prtRec = true ∧
    Memory.wf zeroDefault State.reset.host = true ∧ Sparse.wf regReset State.reset.regs = true := ⟨rfl, rfl, rfl, rfl⟩

/-! ## Conditions -/

@[simp] theorem State.when_true (f : State → State) : s.when true f = f s := rfl
@[simp] theorem State.when_false (f : State → State) : s.when false f = s := rfl

theorem State.when_pos (c : Bool) (f : State → State) (h : c = true) : s.when c f = f s := by simp [State.when, h]
theorem State.when_neg (c : Bool) (f : State → State) (h : c = false) : s.when c f = s := by simp [State.when, h]

theorem State.onLine_pos (n : Nat) (f : State → State) (h : s.lineOn n = true) : s.onLine n f = f s := by simp [State.onLine, h]
theorem State.onLine_neg (n : Nat) (f : State → State) (h : s.lineOn n = false) : s.onLine n f = s := by simp [State.onLine, h]

theorem State.onSpine_pos (f : State → State) (h : s.spineOn = true) : s.onSpine f = f s := by simp [State.onSpine, h]
theorem State.onSpine_neg (f : State → State) (h : s.spineOn = false) : s.onSpine f = s := by simp [State.onSpine, h]

end Sys2Proof.Machine
end

