-- ==== Sys2Proof/Laws/Frame.lean ====
section
/-! SUPPORT. Frames: how each update of the state keeps within one. -/

namespace Sys2Proof.Machine

variable {s t : State} {l : List Nat} {ps : List Part}

theorem State.keeps_refl (s : State) (p : Part) : s.keeps s p := by cases p <;> rfl

theorem State.frame_refl (s : State) (l : List Nat) (ps : List Part) : s.frame s l ps :=
  ⟨fun _ _ => rfl, fun p _ => State.keeps_refl s p⟩

/-- What settles after a command is outside every frame. -/
theorem State.frame_settle (h : s.frame t l ps) : s.frame (settle t) l ps := by
  refine ⟨fun a ha => h.1 a ha, fun p hp => ?_⟩
  have := h.2 p hp
  by_cases hq : p = .irq
  case neg =>
    by_cases hf : p = .fcr
    · subst hf
      simp only [State.keeps, settle] at this ⊢
      exact this
    · cases p <;> first | exact absurd rfl hq | exact absurd rfl hf | exact this
  subst hq
  simp only [State.keeps, settle, State.irqAfter] at this ⊢
  rw [← this]
  generalize List.filter _ _ = q
  generalize hi : t.irq = i
  clear this hi
  induction q generalizing i with
  | nil => rfl
  | cons v q ih =>
    rw [List.foldl_cons, ih]
    simp only [State.message]
    split
    · rfl
    · split <;> rfl

theorem State.frame_setReg (a : Nat) (w : Word) (h : s.frame t l ps) (hf : a ∈ l) : s.frame (t.setReg a w) l ps := by
  refine ⟨fun x hx => ?_, fun p hp => ?_⟩
  · rw [← h.1 x hx]
    exact State.reg_setReg_other t _ _ _ (fun e => hx (e ▸ hf))
  · have := h.2 p hp
    cases p <;> exact this

theorem State.frame_set (f : FRef) (v : Nat) (h : s.frame t l ps) (hf : f.addr ∈ l) : s.frame (t.set f v) l ps := by
  refine ⟨fun x hx => ?_, fun p hp => ?_⟩
  · rw [← h.1 x hx]
    exact State.reg_set_other t _ _ _ (fun e => hx (e ▸ hf))
  · have := h.2 p hp
    cases p <;> exact this

theorem State.frame_setB (f : FRef) (b : Bool) (h : s.frame t l ps) (hf : f.addr ∈ l) : s.frame (t.setB f b) l ps := by
  refine ⟨fun x hx => ?_, fun p hp => ?_⟩
  · rw [← h.1 x hx]
    exact State.reg_set_other t _ _ _ (fun e => hx (e ▸ hf))
  · have := h.2 p hp
    cases p <;> exact this

theorem State.frame_raise (f : FRef) (h : s.frame t l ps) (hf : f.addr ∈ l) : s.frame (t.raise f) l ps := by
  refine ⟨fun x hx => ?_, fun p hp => ?_⟩
  · rw [← h.1 x hx]
    exact State.reg_set_other t _ _ _ (fun e => hx (e ▸ hf))
  · have := h.2 p hp
    cases p <;> exact this

theorem State.frame_add (f : FRef) (k : Nat) (h : s.frame t l ps) (hf : f.addr ∈ l) : s.frame (t.add f k) l ps := by
  refine ⟨fun x hx => ?_, fun p hp => ?_⟩
  · rw [← h.1 x hx]
    exact State.reg_set_other t _ _ _ (fun e => hx (e ▸ hf))
  · have := h.2 p hp
    cases p <;> exact this

theorem State.frame_addSat (f : FRef) (k : Nat) (h : s.frame t l ps) (hf : f.addr ∈ l) : s.frame (t.addSat f k) l ps := by
  refine ⟨fun x hx => ?_, fun p hp => ?_⟩
  · rw [← h.1 x hx]
    exact State.reg_set_other t _ _ _ (fun e => hx (e ▸ hf))
  · have := h.2 p hp
    cases p <;> exact this

theorem State.frame_orBits (f : FRef) (k : Nat) (h : s.frame t l ps) (hf : f.addr ∈ l) : s.frame (t.orBits f k) l ps := by
  refine ⟨fun x hx => ?_, fun p hp => ?_⟩
  · rw [← h.1 x hx]
    exact State.reg_set_other t _ _ _ (fun e => hx (e ▸ hf))
  · have := h.2 p hp
    cases p <;> exact this

theorem State.frame_putBar2 (a : Nat) (bs : List Byte) (h : s.frame t l ps) (hf : Part.bar2 ∈ ps) : s.frame (t.putBar2 a bs) l ps := by
  refine ⟨h.1, fun p hp => ?_⟩
  have := h.2 p hp
  cases p <;> first | exact absurd hf hp | exact this

theorem State.frame_putBar2Num (a n v : Nat) (h : s.frame t l ps) (hf : Part.bar2 ∈ ps) : s.frame (t.putBar2Num a n v) l ps := by
  refine ⟨h.1, fun p hp => ?_⟩
  have := h.2 p hp
  cases p <;> first | exact absurd hf hp | exact this

theorem State.frame_putRec (a n v : Nat) (h : s.frame t l ps) (hf : Part.prtRec ∈ ps) : s.frame (t.putRec a n v) l ps := by
  refine ⟨h.1, fun p hp => ?_⟩
  have := h.2 p hp
  cases p <;> first | exact absurd hf hp | exact this

theorem State.frame_putHost (a : Nat) (bs : List Byte) (h : s.frame t l ps) (hf : Part.host ∈ ps) : s.frame (t.putHost a bs) l ps := by
  refine ⟨h.1, fun p hp => ?_⟩
  have := h.2 p hp
  cases p <;> first | exact absurd hf hp | exact this

theorem State.frame_happen (k : Nat) (h : s.frame t l ps) (hf : Part.fcr ∈ ps) : s.frame (t.happen k) l ps := by
  refine ⟨h.1, fun p hp => ?_⟩
  have := h.2 p hp
  cases p <;> first | exact absurd hf hp | exact this

theorem State.frame_modTw (k : Nat) (f : PlaneTwin → PlaneTwin) (h : s.frame t l ps) (hf : Part.tw ∈ ps) : s.frame (t.modTw k f) l ps := by
  refine ⟨h.1, fun p hp => ?_⟩
  have := h.2 p hp
  cases p <;> first | exact absurd hf hp | exact this

theorem State.frame_modLine (n : Nat) (f : LineState → LineState) (h : s.frame t l ps) (hf : Part.lines ∈ ps) : s.frame (t.modLine n f) l ps := by
  refine ⟨h.1, fun p hp => ?_⟩
  have := h.2 p hp
  cases p <;> first | exact absurd hf hp | exact this

theorem State.frame_modLane (n : Nat) (f : Lane → Lane) (h : s.frame t l ps) (hf : Part.lines ∈ ps) : s.frame (t.modLane n f) l ps := by
  refine ⟨h.1, fun p hp => ?_⟩
  have := h.2 p hp
  cases p <;> first | exact absurd hf hp | exact this

theorem State.frame_modFau (n : Nat) (f : Fau → Fau) (h : s.frame t l ps) (hf : Part.lines ∈ ps) : s.frame (t.modFau n f) l ps := by
  refine ⟨h.1, fun p hp => ?_⟩
  have := h.2 p hp
  cases p <;> first | exact absurd hf hp | exact this

theorem State.frame_modMxf (n : Nat) (f : Mxf → Mxf) (h : s.frame t l ps) (hf : Part.lines ∈ ps) : s.frame (t.modMxf n f) l ps := by
  refine ⟨h.1, fun p hp => ?_⟩
  have := h.2 p hp
  cases p <;> first | exact absurd hf hp | exact this

theorem State.frame_modOhp (n : Nat) (f : Ohp → Ohp) (h : s.frame t l ps) (hf : Part.lines ∈ ps) : s.frame (t.modOhp n f) l ps := by
  refine ⟨h.1, fun p hp => ?_⟩
  have := h.2 p hp
  cases p <;> first | exact absurd hf hp | exact this

theorem State.frame_modDpm (n : Nat) (f : Dpm → Dpm) (h : s.frame t l ps) (hf : Part.lines ∈ ps) : s.frame (t.modDpm n f) l ps := by
  refine ⟨h.1, fun p hp => ?_⟩
  have := h.2 p hp
  cases p <;> first | exact absurd hf hp | exact this

theorem State.frame_pulse (v : Nat) (h : s.frame t l ps) (hf : Part.irq ∈ ps) : s.frame (t.pulse v) l ps := by
  refine ⟨h.1, fun p hp => ?_⟩
  have := h.2 p hp
  cases p <;> first | exact absurd hf hp | exact this

theorem State.frame_set64 (a v : Nat) (h : s.frame t l ps) (ha : a ∈ l) (hb : a + 4 ∈ l) : s.frame (t.set64 a v) l ps :=
  State.frame_setReg _ _ (State.frame_setReg _ _ h ha) hb

theorem State.frame_count (a k : Nat) (h : s.frame t l ps) (ha : a ∈ l) (hb : a + 4 ∈ l) : s.frame (t.count a k) l ps :=
  State.frame_set64 _ _ h ha hb

/-- Frames compose. -/
theorem State.frame_trans {u : State} (h : s.frame t l ps) (h2 : t.frame u l ps) : s.frame u l ps := by
  refine ⟨fun a ha => (h2.1 a ha).trans (h.1 a ha), fun p hp => ?_⟩
  have h1 := h.2 p hp
  have h2 := h2.2 p hp
  cases p <;> exact h2.trans h1

/-- A frame holds with more registers and parts. -/
theorem State.frame_mono {l' : List Nat} {ps' : List Part} (h : s.frame t l ps) (hl : ∀ a, a ∈ l → a ∈ l')
    (hp : ∀ p, p ∈ ps → p ∈ ps') : s.frame t l' ps' :=
  ⟨fun a ha => h.1 a (fun hc => ha (hl a hc)), fun p hq => h.2 p (fun hc => hq (hp p hc))⟩

/-- Changing a line leaves every other line alone. -/
theorem State.onlyLine_modLine (n : Nat) (f : LineState → LineState) (h : s.onlyLine t n) : s.onlyLine (t.modLine n f) n :=
  fun m hm => (State.line_modLine_other t n m f hm).trans (h m hm)

/-! ## Settling -/

theorem settle_vectors (s : State) : (settle s).vectors = s.vectors := by
  have h : (settle s).irq.pulse = s.irq.pulse := by
    have := (State.frame_settle (State.frame_refl s [] [])).2 .irq (by simp)
    exact this
  have h1 : (settle s).eventVectors = s.eventVectors := rfl
  have h2 : (settle s).faultVectors = s.faultVectors := by
    have hi : (settle s).fcr.lastInt = s.fcr.lastInt := by simp only [settle]
    simp only [State.faultVectors, State.causes, State.lastSev, settle_reg, settle_get, hi]
    rfl
  rw [State.vectors, h, h1, h2, State.vectors]

theorem settle_asserted (s : State) : (settle s).irq.asserted = s.vectors := by simp only [settle, State.irqAfter]

/-- A live bit that stays is one that was set and whose source stays live. -/
theorem settle_live (s : State) :
    (settle s).fcr.live = (bitList 608 s.fcr.live).foldl (fun m k => if s.staysLive k then m ||| 2 ^ k else m) 0 := by
  simp only [settle]

@[simp] theorem settle_fcr_ext (s : State) : (settle s).fcr.ext = s.fcr.ext := by simp only [settle]
@[simp] theorem settle_fcr_due (s : State) : (settle s).fcr.due = s.fcr.due := by simp only [settle]
@[simp] theorem settle_fcr_lastInt (s : State) : (settle s).fcr.lastInt = s.fcr.lastInt := by simp only [settle]
@[simp] theorem settle_fcr_lastErrn (s : State) : (settle s).fcr.lastErrn = s.fcr.lastErrn := by simp only [settle]
@[simp] theorem settle_fcr_esc (s : State) : (settle s).fcr.esc = s.fcr.esc := by simp only [settle]
@[simp] theorem settle_fcr_injected (s : State) : (settle s).fcr.injected = s.fcr.injected := by simp only [settle]
@[simp] theorem settle_irq_pulse (s : State) : (settle s).irq.pulse = s.irq.pulse := by
  have := (State.frame_settle (State.frame_refl s [] [])).2 .irq (by simp)
  exact this

end Sys2Proof.Machine
end

