-- ==== Sys2Proof/Laws/Units.lean ====
section
/-! SUPPORT. The updates of one unit of the state: per update, every other part of the state is as before, and the unit read
back is the unit changed. -/

namespace Sys2Proof.Machine

variable (s : State)

/-! `modPower` changes power only. -/
@[simp] theorem State.modPower_regs (f : Power → Power) : (s.modPower f).regs = s.regs := rfl
@[simp] theorem State.modPower_bar2 (f : Power → Power) : (s.modPower f).bar2 = s.bar2 := rfl
@[simp] theorem State.modPower_prtRec (f : Power → Power) : (s.modPower f).prtRec = s.prtRec := rfl
@[simp] theorem State.modPower_host (f : Power → Power) : (s.modPower f).host = s.host := rfl
@[simp] theorem State.modPower_flash (f : Power → Power) : (s.modPower f).flash = s.flash := rfl
@[simp] theorem State.modPower_fuses (f : Power → Power) : (s.modPower f).fuses = s.fuses := rfl
@[simp] theorem State.modPower_pcie (f : Power → Power) : (s.modPower f).pcie = s.pcie := rfl
@[simp] theorem State.modPower_irq (f : Power → Power) : (s.modPower f).irq = s.irq := rfl
@[simp] theorem State.modPower_guardHost (f : Power → Power) : (s.modPower f).guardHost = s.guardHost := rfl
@[simp] theorem State.modPower_guardMgmt (f : Power → Power) : (s.modPower f).guardMgmt = s.guardMgmt := rfl
@[simp] theorem State.modPower_tk (f : Power → Power) : (s.modPower f).tk = s.tk := rfl
@[simp] theorem State.modPower_fcr (f : Power → Power) : (s.modPower f).fcr = s.fcr := rfl
@[simp] theorem State.modPower_boot (f : Power → Power) : (s.modPower f).boot = s.boot := rfl
@[simp] theorem State.modPower_mbx (f : Power → Power) : (s.modPower f).mbx = s.mbx := rfl
@[simp] theorem State.modPower_buses (f : Power → Power) : (s.modPower f).buses = s.buses := rfl
@[simp] theorem State.modPower_modules (f : Power → Power) : (s.modPower f).modules = s.modules := rfl
@[simp] theorem State.modPower_lines (f : Power → Power) : (s.modPower f).lines = s.lines := rfl
@[simp] theorem State.modPower_planes (f : Power → Power) : (s.modPower f).planes = s.planes := rfl
@[simp] theorem State.modPower_tw (f : Power → Power) : (s.modPower f).tw = s.tw := rfl
@[simp] theorem State.modPower_tmg (f : Power → Power) : (s.modPower f).tmg = s.tmg := rfl
@[simp] theorem State.modPower_scc (f : Power → Power) : (s.modPower f).scc = s.scc := rfl
@[simp] theorem State.modPower_dma (f : Power → Power) : (s.modPower f).dma = s.dma := rfl
@[simp] theorem State.modPower_cvu (f : Power → Power) : (s.modPower f).cvu = s.cvu := rfl
@[simp] theorem State.modPower_jtag (f : Power → Power) : (s.modPower f).jtag = s.jtag := rfl
@[simp] theorem State.modPower_fresh (f : Power → Power) : (s.modPower f).fresh = s.fresh := rfl
@[simp] theorem State.modPower_pending (f : Power → Power) : (s.modPower f).pending = s.pending := rfl
@[simp] theorem State.modPower_reg (f : Power → Power) (x : Nat) : (s.modPower f).reg x = s.reg x := rfl
@[simp] theorem State.modPower_get (f : Power → Power) (x : FRef) : (s.modPower f).get x = s.get x := rfl
@[simp] theorem State.modPower_flag (f : Power → Power) (x : FRef) : (s.modPower f).flag x = s.flag x := rfl
@[simp] theorem State.modPower_get64 (f : Power → Power) (x : Nat) : (s.modPower f).get64 x = s.get64 x := rfl

/-! `modBus` changes buses only. -/
@[simp] theorem State.modBus_regs (k : Nat) (f : Bus → Bus) : (s.modBus k f).regs = s.regs := rfl
@[simp] theorem State.modBus_bar2 (k : Nat) (f : Bus → Bus) : (s.modBus k f).bar2 = s.bar2 := rfl
@[simp] theorem State.modBus_prtRec (k : Nat) (f : Bus → Bus) : (s.modBus k f).prtRec = s.prtRec := rfl
@[simp] theorem State.modBus_host (k : Nat) (f : Bus → Bus) : (s.modBus k f).host = s.host := rfl
@[simp] theorem State.modBus_flash (k : Nat) (f : Bus → Bus) : (s.modBus k f).flash = s.flash := rfl
@[simp] theorem State.modBus_fuses (k : Nat) (f : Bus → Bus) : (s.modBus k f).fuses = s.fuses := rfl
@[simp] theorem State.modBus_power (k : Nat) (f : Bus → Bus) : (s.modBus k f).power = s.power := rfl
@[simp] theorem State.modBus_pcie (k : Nat) (f : Bus → Bus) : (s.modBus k f).pcie = s.pcie := rfl
@[simp] theorem State.modBus_irq (k : Nat) (f : Bus → Bus) : (s.modBus k f).irq = s.irq := rfl
@[simp] theorem State.modBus_guardHost (k : Nat) (f : Bus → Bus) : (s.modBus k f).guardHost = s.guardHost := rfl
@[simp] theorem State.modBus_guardMgmt (k : Nat) (f : Bus → Bus) : (s.modBus k f).guardMgmt = s.guardMgmt := rfl
@[simp] theorem State.modBus_tk (k : Nat) (f : Bus → Bus) : (s.modBus k f).tk = s.tk := rfl
@[simp] theorem State.modBus_fcr (k : Nat) (f : Bus → Bus) : (s.modBus k f).fcr = s.fcr := rfl
@[simp] theorem State.modBus_boot (k : Nat) (f : Bus → Bus) : (s.modBus k f).boot = s.boot := rfl
@[simp] theorem State.modBus_mbx (k : Nat) (f : Bus → Bus) : (s.modBus k f).mbx = s.mbx := rfl
@[simp] theorem State.modBus_modules (k : Nat) (f : Bus → Bus) : (s.modBus k f).modules = s.modules := rfl
@[simp] theorem State.modBus_lines (k : Nat) (f : Bus → Bus) : (s.modBus k f).lines = s.lines := rfl
@[simp] theorem State.modBus_planes (k : Nat) (f : Bus → Bus) : (s.modBus k f).planes = s.planes := rfl
@[simp] theorem State.modBus_tw (k : Nat) (f : Bus → Bus) : (s.modBus k f).tw = s.tw := rfl
@[simp] theorem State.modBus_tmg (k : Nat) (f : Bus → Bus) : (s.modBus k f).tmg = s.tmg := rfl
@[simp] theorem State.modBus_scc (k : Nat) (f : Bus → Bus) : (s.modBus k f).scc = s.scc := rfl
@[simp] theorem State.modBus_dma (k : Nat) (f : Bus → Bus) : (s.modBus k f).dma = s.dma := rfl
@[simp] theorem State.modBus_cvu (k : Nat) (f : Bus → Bus) : (s.modBus k f).cvu = s.cvu := rfl
@[simp] theorem State.modBus_jtag (k : Nat) (f : Bus → Bus) : (s.modBus k f).jtag = s.jtag := rfl
@[simp] theorem State.modBus_fresh (k : Nat) (f : Bus → Bus) : (s.modBus k f).fresh = s.fresh := rfl
@[simp] theorem State.modBus_pending (k : Nat) (f : Bus → Bus) : (s.modBus k f).pending = s.pending := rfl
@[simp] theorem State.modBus_reg (k : Nat) (f : Bus → Bus) (x : Nat) : (s.modBus k f).reg x = s.reg x := rfl
@[simp] theorem State.modBus_get (k : Nat) (f : Bus → Bus) (x : FRef) : (s.modBus k f).get x = s.get x := rfl
@[simp] theorem State.modBus_flag (k : Nat) (f : Bus → Bus) (x : FRef) : (s.modBus k f).flag x = s.flag x := rfl
@[simp] theorem State.modBus_get64 (k : Nat) (f : Bus → Bus) (x : Nat) : (s.modBus k f).get64 x = s.get64 x := rfl

/-! `modModule` changes modules only. -/
@[simp] theorem State.modModule_regs (m : Nat) (f : Module → Module) : (s.modModule m f).regs = s.regs := rfl
@[simp] theorem State.modModule_bar2 (m : Nat) (f : Module → Module) : (s.modModule m f).bar2 = s.bar2 := rfl
@[simp] theorem State.modModule_prtRec (m : Nat) (f : Module → Module) : (s.modModule m f).prtRec = s.prtRec := rfl
@[simp] theorem State.modModule_host (m : Nat) (f : Module → Module) : (s.modModule m f).host = s.host := rfl
@[simp] theorem State.modModule_flash (m : Nat) (f : Module → Module) : (s.modModule m f).flash = s.flash := rfl
@[simp] theorem State.modModule_fuses (m : Nat) (f : Module → Module) : (s.modModule m f).fuses = s.fuses := rfl
@[simp] theorem State.modModule_power (m : Nat) (f : Module → Module) : (s.modModule m f).power = s.power := rfl
@[simp] theorem State.modModule_pcie (m : Nat) (f : Module → Module) : (s.modModule m f).pcie = s.pcie := rfl
@[simp] theorem State.modModule_irq (m : Nat) (f : Module → Module) : (s.modModule m f).irq = s.irq := rfl
@[simp] theorem State.modModule_guardHost (m : Nat) (f : Module → Module) : (s.modModule m f).guardHost = s.guardHost := rfl
@[simp] theorem State.modModule_guardMgmt (m : Nat) (f : Module → Module) : (s.modModule m f).guardMgmt = s.guardMgmt := rfl
@[simp] theorem State.modModule_tk (m : Nat) (f : Module → Module) : (s.modModule m f).tk = s.tk := rfl
@[simp] theorem State.modModule_fcr (m : Nat) (f : Module → Module) : (s.modModule m f).fcr = s.fcr := rfl
@[simp] theorem State.modModule_boot (m : Nat) (f : Module → Module) : (s.modModule m f).boot = s.boot := rfl
@[simp] theorem State.modModule_mbx (m : Nat) (f : Module → Module) : (s.modModule m f).mbx = s.mbx := rfl
@[simp] theorem State.modModule_buses (m : Nat) (f : Module → Module) : (s.modModule m f).buses = s.buses := rfl
@[simp] theorem State.modModule_lines (m : Nat) (f : Module → Module) : (s.modModule m f).lines = s.lines := rfl
@[simp] theorem State.modModule_planes (m : Nat) (f : Module → Module) : (s.modModule m f).planes = s.planes := rfl
@[simp] theorem State.modModule_tw (m : Nat) (f : Module → Module) : (s.modModule m f).tw = s.tw := rfl
@[simp] theorem State.modModule_tmg (m : Nat) (f : Module → Module) : (s.modModule m f).tmg = s.tmg := rfl
@[simp] theorem State.modModule_scc (m : Nat) (f : Module → Module) : (s.modModule m f).scc = s.scc := rfl
@[simp] theorem State.modModule_dma (m : Nat) (f : Module → Module) : (s.modModule m f).dma = s.dma := rfl
@[simp] theorem State.modModule_cvu (m : Nat) (f : Module → Module) : (s.modModule m f).cvu = s.cvu := rfl
@[simp] theorem State.modModule_jtag (m : Nat) (f : Module → Module) : (s.modModule m f).jtag = s.jtag := rfl
@[simp] theorem State.modModule_fresh (m : Nat) (f : Module → Module) : (s.modModule m f).fresh = s.fresh := rfl
@[simp] theorem State.modModule_pending (m : Nat) (f : Module → Module) : (s.modModule m f).pending = s.pending := rfl
@[simp] theorem State.modModule_reg (m : Nat) (f : Module → Module) (x : Nat) : (s.modModule m f).reg x = s.reg x := rfl
@[simp] theorem State.modModule_get (m : Nat) (f : Module → Module) (x : FRef) : (s.modModule m f).get x = s.get x := rfl
@[simp] theorem State.modModule_flag (m : Nat) (f : Module → Module) (x : FRef) : (s.modModule m f).flag x = s.flag x := rfl
@[simp] theorem State.modModule_get64 (m : Nat) (f : Module → Module) (x : Nat) : (s.modModule m f).get64 x = s.get64 x := rfl

/-! `modThru` changes lines only. -/
@[simp] theorem State.modThru_regs (n : Nat) (f : Thru → Thru) : (s.modThru n f).regs = s.regs := rfl
@[simp] theorem State.modThru_bar2 (n : Nat) (f : Thru → Thru) : (s.modThru n f).bar2 = s.bar2 := rfl
@[simp] theorem State.modThru_prtRec (n : Nat) (f : Thru → Thru) : (s.modThru n f).prtRec = s.prtRec := rfl
@[simp] theorem State.modThru_host (n : Nat) (f : Thru → Thru) : (s.modThru n f).host = s.host := rfl
@[simp] theorem State.modThru_flash (n : Nat) (f : Thru → Thru) : (s.modThru n f).flash = s.flash := rfl
@[simp] theorem State.modThru_fuses (n : Nat) (f : Thru → Thru) : (s.modThru n f).fuses = s.fuses := rfl
@[simp] theorem State.modThru_power (n : Nat) (f : Thru → Thru) : (s.modThru n f).power = s.power := rfl
@[simp] theorem State.modThru_pcie (n : Nat) (f : Thru → Thru) : (s.modThru n f).pcie = s.pcie := rfl
@[simp] theorem State.modThru_irq (n : Nat) (f : Thru → Thru) : (s.modThru n f).irq = s.irq := rfl
@[simp] theorem State.modThru_guardHost (n : Nat) (f : Thru → Thru) : (s.modThru n f).guardHost = s.guardHost := rfl
@[simp] theorem State.modThru_guardMgmt (n : Nat) (f : Thru → Thru) : (s.modThru n f).guardMgmt = s.guardMgmt := rfl
@[simp] theorem State.modThru_tk (n : Nat) (f : Thru → Thru) : (s.modThru n f).tk = s.tk := rfl
@[simp] theorem State.modThru_fcr (n : Nat) (f : Thru → Thru) : (s.modThru n f).fcr = s.fcr := rfl
@[simp] theorem State.modThru_boot (n : Nat) (f : Thru → Thru) : (s.modThru n f).boot = s.boot := rfl
@[simp] theorem State.modThru_mbx (n : Nat) (f : Thru → Thru) : (s.modThru n f).mbx = s.mbx := rfl
@[simp] theorem State.modThru_buses (n : Nat) (f : Thru → Thru) : (s.modThru n f).buses = s.buses := rfl
@[simp] theorem State.modThru_modules (n : Nat) (f : Thru → Thru) : (s.modThru n f).modules = s.modules := rfl
@[simp] theorem State.modThru_planes (n : Nat) (f : Thru → Thru) : (s.modThru n f).planes = s.planes := rfl
@[simp] theorem State.modThru_tw (n : Nat) (f : Thru → Thru) : (s.modThru n f).tw = s.tw := rfl
@[simp] theorem State.modThru_tmg (n : Nat) (f : Thru → Thru) : (s.modThru n f).tmg = s.tmg := rfl
@[simp] theorem State.modThru_scc (n : Nat) (f : Thru → Thru) : (s.modThru n f).scc = s.scc := rfl
@[simp] theorem State.modThru_dma (n : Nat) (f : Thru → Thru) : (s.modThru n f).dma = s.dma := rfl
@[simp] theorem State.modThru_cvu (n : Nat) (f : Thru → Thru) : (s.modThru n f).cvu = s.cvu := rfl
@[simp] theorem State.modThru_jtag (n : Nat) (f : Thru → Thru) : (s.modThru n f).jtag = s.jtag := rfl
@[simp] theorem State.modThru_fresh (n : Nat) (f : Thru → Thru) : (s.modThru n f).fresh = s.fresh := rfl
@[simp] theorem State.modThru_pending (n : Nat) (f : Thru → Thru) : (s.modThru n f).pending = s.pending := rfl
@[simp] theorem State.modThru_reg (n : Nat) (f : Thru → Thru) (x : Nat) : (s.modThru n f).reg x = s.reg x := rfl
@[simp] theorem State.modThru_get (n : Nat) (f : Thru → Thru) (x : FRef) : (s.modThru n f).get x = s.get x := rfl
@[simp] theorem State.modThru_flag (n : Nat) (f : Thru → Thru) (x : FRef) : (s.modThru n f).flag x = s.flag x := rfl
@[simp] theorem State.modThru_get64 (n : Nat) (f : Thru → Thru) (x : Nat) : (s.modThru n f).get64 x = s.get64 x := rfl

/-! `modOwn` changes lines only. -/
@[simp] theorem State.modOwn_regs (n : Nat) (f : LineOwn → LineOwn) : (s.modOwn n f).regs = s.regs := rfl
@[simp] theorem State.modOwn_bar2 (n : Nat) (f : LineOwn → LineOwn) : (s.modOwn n f).bar2 = s.bar2 := rfl
@[simp] theorem State.modOwn_prtRec (n : Nat) (f : LineOwn → LineOwn) : (s.modOwn n f).prtRec = s.prtRec := rfl
@[simp] theorem State.modOwn_host (n : Nat) (f : LineOwn → LineOwn) : (s.modOwn n f).host = s.host := rfl
@[simp] theorem State.modOwn_flash (n : Nat) (f : LineOwn → LineOwn) : (s.modOwn n f).flash = s.flash := rfl
@[simp] theorem State.modOwn_fuses (n : Nat) (f : LineOwn → LineOwn) : (s.modOwn n f).fuses = s.fuses := rfl
@[simp] theorem State.modOwn_power (n : Nat) (f : LineOwn → LineOwn) : (s.modOwn n f).power = s.power := rfl
@[simp] theorem State.modOwn_pcie (n : Nat) (f : LineOwn → LineOwn) : (s.modOwn n f).pcie = s.pcie := rfl
@[simp] theorem State.modOwn_irq (n : Nat) (f : LineOwn → LineOwn) : (s.modOwn n f).irq = s.irq := rfl
@[simp] theorem State.modOwn_guardHost (n : Nat) (f : LineOwn → LineOwn) : (s.modOwn n f).guardHost = s.guardHost := rfl
@[simp] theorem State.modOwn_guardMgmt (n : Nat) (f : LineOwn → LineOwn) : (s.modOwn n f).guardMgmt = s.guardMgmt := rfl
@[simp] theorem State.modOwn_tk (n : Nat) (f : LineOwn → LineOwn) : (s.modOwn n f).tk = s.tk := rfl
@[simp] theorem State.modOwn_fcr (n : Nat) (f : LineOwn → LineOwn) : (s.modOwn n f).fcr = s.fcr := rfl
@[simp] theorem State.modOwn_boot (n : Nat) (f : LineOwn → LineOwn) : (s.modOwn n f).boot = s.boot := rfl
@[simp] theorem State.modOwn_mbx (n : Nat) (f : LineOwn → LineOwn) : (s.modOwn n f).mbx = s.mbx := rfl
@[simp] theorem State.modOwn_buses (n : Nat) (f : LineOwn → LineOwn) : (s.modOwn n f).buses = s.buses := rfl
@[simp] theorem State.modOwn_modules (n : Nat) (f : LineOwn → LineOwn) : (s.modOwn n f).modules = s.modules := rfl
@[simp] theorem State.modOwn_planes (n : Nat) (f : LineOwn → LineOwn) : (s.modOwn n f).planes = s.planes := rfl
@[simp] theorem State.modOwn_tw (n : Nat) (f : LineOwn → LineOwn) : (s.modOwn n f).tw = s.tw := rfl
@[simp] theorem State.modOwn_tmg (n : Nat) (f : LineOwn → LineOwn) : (s.modOwn n f).tmg = s.tmg := rfl
@[simp] theorem State.modOwn_scc (n : Nat) (f : LineOwn → LineOwn) : (s.modOwn n f).scc = s.scc := rfl
@[simp] theorem State.modOwn_dma (n : Nat) (f : LineOwn → LineOwn) : (s.modOwn n f).dma = s.dma := rfl
@[simp] theorem State.modOwn_cvu (n : Nat) (f : LineOwn → LineOwn) : (s.modOwn n f).cvu = s.cvu := rfl
@[simp] theorem State.modOwn_jtag (n : Nat) (f : LineOwn → LineOwn) : (s.modOwn n f).jtag = s.jtag := rfl
@[simp] theorem State.modOwn_fresh (n : Nat) (f : LineOwn → LineOwn) : (s.modOwn n f).fresh = s.fresh := rfl
@[simp] theorem State.modOwn_pending (n : Nat) (f : LineOwn → LineOwn) : (s.modOwn n f).pending = s.pending := rfl
@[simp] theorem State.modOwn_reg (n : Nat) (f : LineOwn → LineOwn) (x : Nat) : (s.modOwn n f).reg x = s.reg x := rfl
@[simp] theorem State.modOwn_get (n : Nat) (f : LineOwn → LineOwn) (x : FRef) : (s.modOwn n f).get x = s.get x := rfl
@[simp] theorem State.modOwn_flag (n : Nat) (f : LineOwn → LineOwn) (x : FRef) : (s.modOwn n f).flag x = s.flag x := rfl
@[simp] theorem State.modOwn_get64 (n : Nat) (f : LineOwn → LineOwn) (x : Nat) : (s.modOwn n f).get64 x = s.get64 x := rfl

/-! `modTrace` changes lines only. -/
@[simp] theorem State.modTrace_regs (n t : Nat) (f : Trace → Trace) : (s.modTrace n t f).regs = s.regs := rfl
@[simp] theorem State.modTrace_bar2 (n t : Nat) (f : Trace → Trace) : (s.modTrace n t f).bar2 = s.bar2 := rfl
@[simp] theorem State.modTrace_prtRec (n t : Nat) (f : Trace → Trace) : (s.modTrace n t f).prtRec = s.prtRec := rfl
@[simp] theorem State.modTrace_host (n t : Nat) (f : Trace → Trace) : (s.modTrace n t f).host = s.host := rfl
@[simp] theorem State.modTrace_flash (n t : Nat) (f : Trace → Trace) : (s.modTrace n t f).flash = s.flash := rfl
@[simp] theorem State.modTrace_fuses (n t : Nat) (f : Trace → Trace) : (s.modTrace n t f).fuses = s.fuses := rfl
@[simp] theorem State.modTrace_power (n t : Nat) (f : Trace → Trace) : (s.modTrace n t f).power = s.power := rfl
@[simp] theorem State.modTrace_pcie (n t : Nat) (f : Trace → Trace) : (s.modTrace n t f).pcie = s.pcie := rfl
@[simp] theorem State.modTrace_irq (n t : Nat) (f : Trace → Trace) : (s.modTrace n t f).irq = s.irq := rfl
@[simp] theorem State.modTrace_guardHost (n t : Nat) (f : Trace → Trace) : (s.modTrace n t f).guardHost = s.guardHost := rfl
@[simp] theorem State.modTrace_guardMgmt (n t : Nat) (f : Trace → Trace) : (s.modTrace n t f).guardMgmt = s.guardMgmt := rfl
@[simp] theorem State.modTrace_tk (n t : Nat) (f : Trace → Trace) : (s.modTrace n t f).tk = s.tk := rfl
@[simp] theorem State.modTrace_fcr (n t : Nat) (f : Trace → Trace) : (s.modTrace n t f).fcr = s.fcr := rfl
@[simp] theorem State.modTrace_boot (n t : Nat) (f : Trace → Trace) : (s.modTrace n t f).boot = s.boot := rfl
@[simp] theorem State.modTrace_mbx (n t : Nat) (f : Trace → Trace) : (s.modTrace n t f).mbx = s.mbx := rfl
@[simp] theorem State.modTrace_buses (n t : Nat) (f : Trace → Trace) : (s.modTrace n t f).buses = s.buses := rfl
@[simp] theorem State.modTrace_modules (n t : Nat) (f : Trace → Trace) : (s.modTrace n t f).modules = s.modules := rfl
@[simp] theorem State.modTrace_planes (n t : Nat) (f : Trace → Trace) : (s.modTrace n t f).planes = s.planes := rfl
@[simp] theorem State.modTrace_tw (n t : Nat) (f : Trace → Trace) : (s.modTrace n t f).tw = s.tw := rfl
@[simp] theorem State.modTrace_tmg (n t : Nat) (f : Trace → Trace) : (s.modTrace n t f).tmg = s.tmg := rfl
@[simp] theorem State.modTrace_scc (n t : Nat) (f : Trace → Trace) : (s.modTrace n t f).scc = s.scc := rfl
@[simp] theorem State.modTrace_dma (n t : Nat) (f : Trace → Trace) : (s.modTrace n t f).dma = s.dma := rfl
@[simp] theorem State.modTrace_cvu (n t : Nat) (f : Trace → Trace) : (s.modTrace n t f).cvu = s.cvu := rfl
@[simp] theorem State.modTrace_jtag (n t : Nat) (f : Trace → Trace) : (s.modTrace n t f).jtag = s.jtag := rfl
@[simp] theorem State.modTrace_fresh (n t : Nat) (f : Trace → Trace) : (s.modTrace n t f).fresh = s.fresh := rfl
@[simp] theorem State.modTrace_pending (n t : Nat) (f : Trace → Trace) : (s.modTrace n t f).pending = s.pending := rfl
@[simp] theorem State.modTrace_reg (n t : Nat) (f : Trace → Trace) (x : Nat) : (s.modTrace n t f).reg x = s.reg x := rfl
@[simp] theorem State.modTrace_get (n t : Nat) (f : Trace → Trace) (x : FRef) : (s.modTrace n t f).get x = s.get x := rfl
@[simp] theorem State.modTrace_flag (n t : Nat) (f : Trace → Trace) (x : FRef) : (s.modTrace n t f).flag x = s.flag x := rfl
@[simp] theorem State.modTrace_get64 (n t : Nat) (f : Trace → Trace) (x : Nat) : (s.modTrace n t f).get64 x = s.get64 x := rfl

/-! `modPlane` changes planes only. -/
@[simp] theorem State.modPlane_regs (p : Nat) (f : Plane → Plane) : (s.modPlane p f).regs = s.regs := rfl
@[simp] theorem State.modPlane_bar2 (p : Nat) (f : Plane → Plane) : (s.modPlane p f).bar2 = s.bar2 := rfl
@[simp] theorem State.modPlane_prtRec (p : Nat) (f : Plane → Plane) : (s.modPlane p f).prtRec = s.prtRec := rfl
@[simp] theorem State.modPlane_host (p : Nat) (f : Plane → Plane) : (s.modPlane p f).host = s.host := rfl
@[simp] theorem State.modPlane_flash (p : Nat) (f : Plane → Plane) : (s.modPlane p f).flash = s.flash := rfl
@[simp] theorem State.modPlane_fuses (p : Nat) (f : Plane → Plane) : (s.modPlane p f).fuses = s.fuses := rfl
@[simp] theorem State.modPlane_power (p : Nat) (f : Plane → Plane) : (s.modPlane p f).power = s.power := rfl
@[simp] theorem State.modPlane_pcie (p : Nat) (f : Plane → Plane) : (s.modPlane p f).pcie = s.pcie := rfl
@[simp] theorem State.modPlane_irq (p : Nat) (f : Plane → Plane) : (s.modPlane p f).irq = s.irq := rfl
@[simp] theorem State.modPlane_guardHost (p : Nat) (f : Plane → Plane) : (s.modPlane p f).guardHost = s.guardHost := rfl
@[simp] theorem State.modPlane_guardMgmt (p : Nat) (f : Plane → Plane) : (s.modPlane p f).guardMgmt = s.guardMgmt := rfl
@[simp] theorem State.modPlane_tk (p : Nat) (f : Plane → Plane) : (s.modPlane p f).tk = s.tk := rfl
@[simp] theorem State.modPlane_fcr (p : Nat) (f : Plane → Plane) : (s.modPlane p f).fcr = s.fcr := rfl
@[simp] theorem State.modPlane_boot (p : Nat) (f : Plane → Plane) : (s.modPlane p f).boot = s.boot := rfl
@[simp] theorem State.modPlane_mbx (p : Nat) (f : Plane → Plane) : (s.modPlane p f).mbx = s.mbx := rfl
@[simp] theorem State.modPlane_buses (p : Nat) (f : Plane → Plane) : (s.modPlane p f).buses = s.buses := rfl
@[simp] theorem State.modPlane_modules (p : Nat) (f : Plane → Plane) : (s.modPlane p f).modules = s.modules := rfl
@[simp] theorem State.modPlane_lines (p : Nat) (f : Plane → Plane) : (s.modPlane p f).lines = s.lines := rfl
@[simp] theorem State.modPlane_tw (p : Nat) (f : Plane → Plane) : (s.modPlane p f).tw = s.tw := rfl
@[simp] theorem State.modPlane_tmg (p : Nat) (f : Plane → Plane) : (s.modPlane p f).tmg = s.tmg := rfl
@[simp] theorem State.modPlane_scc (p : Nat) (f : Plane → Plane) : (s.modPlane p f).scc = s.scc := rfl
@[simp] theorem State.modPlane_dma (p : Nat) (f : Plane → Plane) : (s.modPlane p f).dma = s.dma := rfl
@[simp] theorem State.modPlane_cvu (p : Nat) (f : Plane → Plane) : (s.modPlane p f).cvu = s.cvu := rfl
@[simp] theorem State.modPlane_jtag (p : Nat) (f : Plane → Plane) : (s.modPlane p f).jtag = s.jtag := rfl
@[simp] theorem State.modPlane_fresh (p : Nat) (f : Plane → Plane) : (s.modPlane p f).fresh = s.fresh := rfl
@[simp] theorem State.modPlane_pending (p : Nat) (f : Plane → Plane) : (s.modPlane p f).pending = s.pending := rfl
@[simp] theorem State.modPlane_reg (p : Nat) (f : Plane → Plane) (x : Nat) : (s.modPlane p f).reg x = s.reg x := rfl
@[simp] theorem State.modPlane_get (p : Nat) (f : Plane → Plane) (x : FRef) : (s.modPlane p f).get x = s.get x := rfl
@[simp] theorem State.modPlane_flag (p : Nat) (f : Plane → Plane) (x : FRef) : (s.modPlane p f).flag x = s.flag x := rfl
@[simp] theorem State.modPlane_get64 (p : Nat) (f : Plane → Plane) (x : Nat) : (s.modPlane p f).get64 x = s.get64 x := rfl

/-! `modFlow` changes planes only. -/
@[simp] theorem State.modFlow_regs (p f : Nat) (g : FlowCtx → FlowCtx) : (s.modFlow p f g).regs = s.regs := rfl
@[simp] theorem State.modFlow_bar2 (p f : Nat) (g : FlowCtx → FlowCtx) : (s.modFlow p f g).bar2 = s.bar2 := rfl
@[simp] theorem State.modFlow_prtRec (p f : Nat) (g : FlowCtx → FlowCtx) : (s.modFlow p f g).prtRec = s.prtRec := rfl
@[simp] theorem State.modFlow_host (p f : Nat) (g : FlowCtx → FlowCtx) : (s.modFlow p f g).host = s.host := rfl
@[simp] theorem State.modFlow_flash (p f : Nat) (g : FlowCtx → FlowCtx) : (s.modFlow p f g).flash = s.flash := rfl
@[simp] theorem State.modFlow_fuses (p f : Nat) (g : FlowCtx → FlowCtx) : (s.modFlow p f g).fuses = s.fuses := rfl
@[simp] theorem State.modFlow_power (p f : Nat) (g : FlowCtx → FlowCtx) : (s.modFlow p f g).power = s.power := rfl
@[simp] theorem State.modFlow_pcie (p f : Nat) (g : FlowCtx → FlowCtx) : (s.modFlow p f g).pcie = s.pcie := rfl
@[simp] theorem State.modFlow_irq (p f : Nat) (g : FlowCtx → FlowCtx) : (s.modFlow p f g).irq = s.irq := rfl
@[simp] theorem State.modFlow_guardHost (p f : Nat) (g : FlowCtx → FlowCtx) : (s.modFlow p f g).guardHost = s.guardHost := rfl
@[simp] theorem State.modFlow_guardMgmt (p f : Nat) (g : FlowCtx → FlowCtx) : (s.modFlow p f g).guardMgmt = s.guardMgmt := rfl
@[simp] theorem State.modFlow_tk (p f : Nat) (g : FlowCtx → FlowCtx) : (s.modFlow p f g).tk = s.tk := rfl
@[simp] theorem State.modFlow_fcr (p f : Nat) (g : FlowCtx → FlowCtx) : (s.modFlow p f g).fcr = s.fcr := rfl
@[simp] theorem State.modFlow_boot (p f : Nat) (g : FlowCtx → FlowCtx) : (s.modFlow p f g).boot = s.boot := rfl
@[simp] theorem State.modFlow_mbx (p f : Nat) (g : FlowCtx → FlowCtx) : (s.modFlow p f g).mbx = s.mbx := rfl
@[simp] theorem State.modFlow_buses (p f : Nat) (g : FlowCtx → FlowCtx) : (s.modFlow p f g).buses = s.buses := rfl
@[simp] theorem State.modFlow_modules (p f : Nat) (g : FlowCtx → FlowCtx) : (s.modFlow p f g).modules = s.modules := rfl
@[simp] theorem State.modFlow_lines (p f : Nat) (g : FlowCtx → FlowCtx) : (s.modFlow p f g).lines = s.lines := rfl
@[simp] theorem State.modFlow_tw (p f : Nat) (g : FlowCtx → FlowCtx) : (s.modFlow p f g).tw = s.tw := rfl
@[simp] theorem State.modFlow_tmg (p f : Nat) (g : FlowCtx → FlowCtx) : (s.modFlow p f g).tmg = s.tmg := rfl
@[simp] theorem State.modFlow_scc (p f : Nat) (g : FlowCtx → FlowCtx) : (s.modFlow p f g).scc = s.scc := rfl
@[simp] theorem State.modFlow_dma (p f : Nat) (g : FlowCtx → FlowCtx) : (s.modFlow p f g).dma = s.dma := rfl
@[simp] theorem State.modFlow_cvu (p f : Nat) (g : FlowCtx → FlowCtx) : (s.modFlow p f g).cvu = s.cvu := rfl
@[simp] theorem State.modFlow_jtag (p f : Nat) (g : FlowCtx → FlowCtx) : (s.modFlow p f g).jtag = s.jtag := rfl
@[simp] theorem State.modFlow_fresh (p f : Nat) (g : FlowCtx → FlowCtx) : (s.modFlow p f g).fresh = s.fresh := rfl
@[simp] theorem State.modFlow_pending (p f : Nat) (g : FlowCtx → FlowCtx) : (s.modFlow p f g).pending = s.pending := rfl
@[simp] theorem State.modFlow_reg (p f : Nat) (g : FlowCtx → FlowCtx) (x : Nat) : (s.modFlow p f g).reg x = s.reg x := rfl
@[simp] theorem State.modFlow_get (p f : Nat) (g : FlowCtx → FlowCtx) (x : FRef) : (s.modFlow p f g).get x = s.get x := rfl
@[simp] theorem State.modFlow_flag (p f : Nat) (g : FlowCtx → FlowCtx) (x : FRef) : (s.modFlow p f g).flag x = s.flag x := rfl
@[simp] theorem State.modFlow_get64 (p f : Nat) (g : FlowCtx → FlowCtx) (x : Nat) : (s.modFlow p f g).get64 x = s.get64 x := rfl

/-! `modLg` changes planes only. -/
@[simp] theorem State.modLg_regs (p g : Nat) (f : LGroup → LGroup) : (s.modLg p g f).regs = s.regs := rfl
@[simp] theorem State.modLg_bar2 (p g : Nat) (f : LGroup → LGroup) : (s.modLg p g f).bar2 = s.bar2 := rfl
@[simp] theorem State.modLg_prtRec (p g : Nat) (f : LGroup → LGroup) : (s.modLg p g f).prtRec = s.prtRec := rfl
@[simp] theorem State.modLg_host (p g : Nat) (f : LGroup → LGroup) : (s.modLg p g f).host = s.host := rfl
@[simp] theorem State.modLg_flash (p g : Nat) (f : LGroup → LGroup) : (s.modLg p g f).flash = s.flash := rfl
@[simp] theorem State.modLg_fuses (p g : Nat) (f : LGroup → LGroup) : (s.modLg p g f).fuses = s.fuses := rfl
@[simp] theorem State.modLg_power (p g : Nat) (f : LGroup → LGroup) : (s.modLg p g f).power = s.power := rfl
@[simp] theorem State.modLg_pcie (p g : Nat) (f : LGroup → LGroup) : (s.modLg p g f).pcie = s.pcie := rfl
@[simp] theorem State.modLg_irq (p g : Nat) (f : LGroup → LGroup) : (s.modLg p g f).irq = s.irq := rfl
@[simp] theorem State.modLg_guardHost (p g : Nat) (f : LGroup → LGroup) : (s.modLg p g f).guardHost = s.guardHost := rfl
@[simp] theorem State.modLg_guardMgmt (p g : Nat) (f : LGroup → LGroup) : (s.modLg p g f).guardMgmt = s.guardMgmt := rfl
@[simp] theorem State.modLg_tk (p g : Nat) (f : LGroup → LGroup) : (s.modLg p g f).tk = s.tk := rfl
@[simp] theorem State.modLg_fcr (p g : Nat) (f : LGroup → LGroup) : (s.modLg p g f).fcr = s.fcr := rfl
@[simp] theorem State.modLg_boot (p g : Nat) (f : LGroup → LGroup) : (s.modLg p g f).boot = s.boot := rfl
@[simp] theorem State.modLg_mbx (p g : Nat) (f : LGroup → LGroup) : (s.modLg p g f).mbx = s.mbx := rfl
@[simp] theorem State.modLg_buses (p g : Nat) (f : LGroup → LGroup) : (s.modLg p g f).buses = s.buses := rfl
@[simp] theorem State.modLg_modules (p g : Nat) (f : LGroup → LGroup) : (s.modLg p g f).modules = s.modules := rfl
@[simp] theorem State.modLg_lines (p g : Nat) (f : LGroup → LGroup) : (s.modLg p g f).lines = s.lines := rfl
@[simp] theorem State.modLg_tw (p g : Nat) (f : LGroup → LGroup) : (s.modLg p g f).tw = s.tw := rfl
@[simp] theorem State.modLg_tmg (p g : Nat) (f : LGroup → LGroup) : (s.modLg p g f).tmg = s.tmg := rfl
@[simp] theorem State.modLg_scc (p g : Nat) (f : LGroup → LGroup) : (s.modLg p g f).scc = s.scc := rfl
@[simp] theorem State.modLg_dma (p g : Nat) (f : LGroup → LGroup) : (s.modLg p g f).dma = s.dma := rfl
@[simp] theorem State.modLg_cvu (p g : Nat) (f : LGroup → LGroup) : (s.modLg p g f).cvu = s.cvu := rfl
@[simp] theorem State.modLg_jtag (p g : Nat) (f : LGroup → LGroup) : (s.modLg p g f).jtag = s.jtag := rfl
@[simp] theorem State.modLg_fresh (p g : Nat) (f : LGroup → LGroup) : (s.modLg p g f).fresh = s.fresh := rfl
@[simp] theorem State.modLg_pending (p g : Nat) (f : LGroup → LGroup) : (s.modLg p g f).pending = s.pending := rfl
@[simp] theorem State.modLg_reg (p g : Nat) (f : LGroup → LGroup) (x : Nat) : (s.modLg p g f).reg x = s.reg x := rfl
@[simp] theorem State.modLg_get (p g : Nat) (f : LGroup → LGroup) (x : FRef) : (s.modLg p g f).get x = s.get x := rfl
@[simp] theorem State.modLg_flag (p g : Nat) (f : LGroup → LGroup) (x : FRef) : (s.modLg p g f).flag x = s.flag x := rfl
@[simp] theorem State.modLg_get64 (p g : Nat) (f : LGroup → LGroup) (x : Nat) : (s.modLg p g f).get64 x = s.get64 x := rfl

/-! `modMg` changes planes only. -/
@[simp] theorem State.modMg_regs (p g : Nat) (f : MGroup → MGroup) : (s.modMg p g f).regs = s.regs := rfl
@[simp] theorem State.modMg_bar2 (p g : Nat) (f : MGroup → MGroup) : (s.modMg p g f).bar2 = s.bar2 := rfl
@[simp] theorem State.modMg_prtRec (p g : Nat) (f : MGroup → MGroup) : (s.modMg p g f).prtRec = s.prtRec := rfl
@[simp] theorem State.modMg_host (p g : Nat) (f : MGroup → MGroup) : (s.modMg p g f).host = s.host := rfl
@[simp] theorem State.modMg_flash (p g : Nat) (f : MGroup → MGroup) : (s.modMg p g f).flash = s.flash := rfl
@[simp] theorem State.modMg_fuses (p g : Nat) (f : MGroup → MGroup) : (s.modMg p g f).fuses = s.fuses := rfl
@[simp] theorem State.modMg_power (p g : Nat) (f : MGroup → MGroup) : (s.modMg p g f).power = s.power := rfl
@[simp] theorem State.modMg_pcie (p g : Nat) (f : MGroup → MGroup) : (s.modMg p g f).pcie = s.pcie := rfl
@[simp] theorem State.modMg_irq (p g : Nat) (f : MGroup → MGroup) : (s.modMg p g f).irq = s.irq := rfl
@[simp] theorem State.modMg_guardHost (p g : Nat) (f : MGroup → MGroup) : (s.modMg p g f).guardHost = s.guardHost := rfl
@[simp] theorem State.modMg_guardMgmt (p g : Nat) (f : MGroup → MGroup) : (s.modMg p g f).guardMgmt = s.guardMgmt := rfl
@[simp] theorem State.modMg_tk (p g : Nat) (f : MGroup → MGroup) : (s.modMg p g f).tk = s.tk := rfl
@[simp] theorem State.modMg_fcr (p g : Nat) (f : MGroup → MGroup) : (s.modMg p g f).fcr = s.fcr := rfl
@[simp] theorem State.modMg_boot (p g : Nat) (f : MGroup → MGroup) : (s.modMg p g f).boot = s.boot := rfl
@[simp] theorem State.modMg_mbx (p g : Nat) (f : MGroup → MGroup) : (s.modMg p g f).mbx = s.mbx := rfl
@[simp] theorem State.modMg_buses (p g : Nat) (f : MGroup → MGroup) : (s.modMg p g f).buses = s.buses := rfl
@[simp] theorem State.modMg_modules (p g : Nat) (f : MGroup → MGroup) : (s.modMg p g f).modules = s.modules := rfl
@[simp] theorem State.modMg_lines (p g : Nat) (f : MGroup → MGroup) : (s.modMg p g f).lines = s.lines := rfl
@[simp] theorem State.modMg_tw (p g : Nat) (f : MGroup → MGroup) : (s.modMg p g f).tw = s.tw := rfl
@[simp] theorem State.modMg_tmg (p g : Nat) (f : MGroup → MGroup) : (s.modMg p g f).tmg = s.tmg := rfl
@[simp] theorem State.modMg_scc (p g : Nat) (f : MGroup → MGroup) : (s.modMg p g f).scc = s.scc := rfl
@[simp] theorem State.modMg_dma (p g : Nat) (f : MGroup → MGroup) : (s.modMg p g f).dma = s.dma := rfl
@[simp] theorem State.modMg_cvu (p g : Nat) (f : MGroup → MGroup) : (s.modMg p g f).cvu = s.cvu := rfl
@[simp] theorem State.modMg_jtag (p g : Nat) (f : MGroup → MGroup) : (s.modMg p g f).jtag = s.jtag := rfl
@[simp] theorem State.modMg_fresh (p g : Nat) (f : MGroup → MGroup) : (s.modMg p g f).fresh = s.fresh := rfl
@[simp] theorem State.modMg_pending (p g : Nat) (f : MGroup → MGroup) : (s.modMg p g f).pending = s.pending := rfl
@[simp] theorem State.modMg_reg (p g : Nat) (f : MGroup → MGroup) (x : Nat) : (s.modMg p g f).reg x = s.reg x := rfl
@[simp] theorem State.modMg_get (p g : Nat) (f : MGroup → MGroup) (x : FRef) : (s.modMg p g f).get x = s.get x := rfl
@[simp] theorem State.modMg_flag (p g : Nat) (f : MGroup → MGroup) (x : FRef) : (s.modMg p g f).flag x = s.flag x := rfl
@[simp] theorem State.modMg_get64 (p g : Nat) (f : MGroup → MGroup) (x : Nat) : (s.modMg p g f).get64 x = s.get64 x := rfl

/-! `modCopy` changes planes only. -/
@[simp] theorem State.modCopy_regs (p g : Nat) (b : Bool) (f : MergeCopy → MergeCopy) : (s.modCopy p g b f).regs = s.regs := rfl
@[simp] theorem State.modCopy_bar2 (p g : Nat) (b : Bool) (f : MergeCopy → MergeCopy) : (s.modCopy p g b f).bar2 = s.bar2 := rfl
@[simp] theorem State.modCopy_prtRec (p g : Nat) (b : Bool) (f : MergeCopy → MergeCopy) : (s.modCopy p g b f).prtRec = s.prtRec := rfl
@[simp] theorem State.modCopy_host (p g : Nat) (b : Bool) (f : MergeCopy → MergeCopy) : (s.modCopy p g b f).host = s.host := rfl
@[simp] theorem State.modCopy_flash (p g : Nat) (b : Bool) (f : MergeCopy → MergeCopy) : (s.modCopy p g b f).flash = s.flash := rfl
@[simp] theorem State.modCopy_fuses (p g : Nat) (b : Bool) (f : MergeCopy → MergeCopy) : (s.modCopy p g b f).fuses = s.fuses := rfl
@[simp] theorem State.modCopy_power (p g : Nat) (b : Bool) (f : MergeCopy → MergeCopy) : (s.modCopy p g b f).power = s.power := rfl
@[simp] theorem State.modCopy_pcie (p g : Nat) (b : Bool) (f : MergeCopy → MergeCopy) : (s.modCopy p g b f).pcie = s.pcie := rfl
@[simp] theorem State.modCopy_irq (p g : Nat) (b : Bool) (f : MergeCopy → MergeCopy) : (s.modCopy p g b f).irq = s.irq := rfl
@[simp] theorem State.modCopy_guardHost (p g : Nat) (b : Bool) (f : MergeCopy → MergeCopy) : (s.modCopy p g b f).guardHost = s.guardHost := rfl
@[simp] theorem State.modCopy_guardMgmt (p g : Nat) (b : Bool) (f : MergeCopy → MergeCopy) : (s.modCopy p g b f).guardMgmt = s.guardMgmt := rfl
@[simp] theorem State.modCopy_tk (p g : Nat) (b : Bool) (f : MergeCopy → MergeCopy) : (s.modCopy p g b f).tk = s.tk := rfl
@[simp] theorem State.modCopy_fcr (p g : Nat) (b : Bool) (f : MergeCopy → MergeCopy) : (s.modCopy p g b f).fcr = s.fcr := rfl
@[simp] theorem State.modCopy_boot (p g : Nat) (b : Bool) (f : MergeCopy → MergeCopy) : (s.modCopy p g b f).boot = s.boot := rfl
@[simp] theorem State.modCopy_mbx (p g : Nat) (b : Bool) (f : MergeCopy → MergeCopy) : (s.modCopy p g b f).mbx = s.mbx := rfl
@[simp] theorem State.modCopy_buses (p g : Nat) (b : Bool) (f : MergeCopy → MergeCopy) : (s.modCopy p g b f).buses = s.buses := rfl
@[simp] theorem State.modCopy_modules (p g : Nat) (b : Bool) (f : MergeCopy → MergeCopy) : (s.modCopy p g b f).modules = s.modules := rfl
@[simp] theorem State.modCopy_lines (p g : Nat) (b : Bool) (f : MergeCopy → MergeCopy) : (s.modCopy p g b f).lines = s.lines := rfl
@[simp] theorem State.modCopy_tw (p g : Nat) (b : Bool) (f : MergeCopy → MergeCopy) : (s.modCopy p g b f).tw = s.tw := rfl
@[simp] theorem State.modCopy_tmg (p g : Nat) (b : Bool) (f : MergeCopy → MergeCopy) : (s.modCopy p g b f).tmg = s.tmg := rfl
@[simp] theorem State.modCopy_scc (p g : Nat) (b : Bool) (f : MergeCopy → MergeCopy) : (s.modCopy p g b f).scc = s.scc := rfl
@[simp] theorem State.modCopy_dma (p g : Nat) (b : Bool) (f : MergeCopy → MergeCopy) : (s.modCopy p g b f).dma = s.dma := rfl
@[simp] theorem State.modCopy_cvu (p g : Nat) (b : Bool) (f : MergeCopy → MergeCopy) : (s.modCopy p g b f).cvu = s.cvu := rfl
@[simp] theorem State.modCopy_jtag (p g : Nat) (b : Bool) (f : MergeCopy → MergeCopy) : (s.modCopy p g b f).jtag = s.jtag := rfl
@[simp] theorem State.modCopy_fresh (p g : Nat) (b : Bool) (f : MergeCopy → MergeCopy) : (s.modCopy p g b f).fresh = s.fresh := rfl
@[simp] theorem State.modCopy_pending (p g : Nat) (b : Bool) (f : MergeCopy → MergeCopy) : (s.modCopy p g b f).pending = s.pending := rfl
@[simp] theorem State.modCopy_reg (p g : Nat) (b : Bool) (f : MergeCopy → MergeCopy) (x : Nat) : (s.modCopy p g b f).reg x = s.reg x := rfl
@[simp] theorem State.modCopy_get (p g : Nat) (b : Bool) (f : MergeCopy → MergeCopy) (x : FRef) : (s.modCopy p g b f).get x = s.get x := rfl
@[simp] theorem State.modCopy_flag (p g : Nat) (b : Bool) (f : MergeCopy → MergeCopy) (x : FRef) : (s.modCopy p g b f).flag x = s.flag x := rfl
@[simp] theorem State.modCopy_get64 (p g : Nat) (b : Bool) (f : MergeCopy → MergeCopy) (x : Nat) : (s.modCopy p g b f).get64 x = s.get64 x := rfl

/-! `modTwin` changes tw only. -/
@[simp] theorem State.modTwin_regs (f : TwinUnit → TwinUnit) : (s.modTwin f).regs = s.regs := rfl
@[simp] theorem State.modTwin_bar2 (f : TwinUnit → TwinUnit) : (s.modTwin f).bar2 = s.bar2 := rfl
@[simp] theorem State.modTwin_prtRec (f : TwinUnit → TwinUnit) : (s.modTwin f).prtRec = s.prtRec := rfl
@[simp] theorem State.modTwin_host (f : TwinUnit → TwinUnit) : (s.modTwin f).host = s.host := rfl
@[simp] theorem State.modTwin_flash (f : TwinUnit → TwinUnit) : (s.modTwin f).flash = s.flash := rfl
@[simp] theorem State.modTwin_fuses (f : TwinUnit → TwinUnit) : (s.modTwin f).fuses = s.fuses := rfl
@[simp] theorem State.modTwin_power (f : TwinUnit → TwinUnit) : (s.modTwin f).power = s.power := rfl
@[simp] theorem State.modTwin_pcie (f : TwinUnit → TwinUnit) : (s.modTwin f).pcie = s.pcie := rfl
@[simp] theorem State.modTwin_irq (f : TwinUnit → TwinUnit) : (s.modTwin f).irq = s.irq := rfl
@[simp] theorem State.modTwin_guardHost (f : TwinUnit → TwinUnit) : (s.modTwin f).guardHost = s.guardHost := rfl
@[simp] theorem State.modTwin_guardMgmt (f : TwinUnit → TwinUnit) : (s.modTwin f).guardMgmt = s.guardMgmt := rfl
@[simp] theorem State.modTwin_tk (f : TwinUnit → TwinUnit) : (s.modTwin f).tk = s.tk := rfl
@[simp] theorem State.modTwin_fcr (f : TwinUnit → TwinUnit) : (s.modTwin f).fcr = s.fcr := rfl
@[simp] theorem State.modTwin_boot (f : TwinUnit → TwinUnit) : (s.modTwin f).boot = s.boot := rfl
@[simp] theorem State.modTwin_mbx (f : TwinUnit → TwinUnit) : (s.modTwin f).mbx = s.mbx := rfl
@[simp] theorem State.modTwin_buses (f : TwinUnit → TwinUnit) : (s.modTwin f).buses = s.buses := rfl
@[simp] theorem State.modTwin_modules (f : TwinUnit → TwinUnit) : (s.modTwin f).modules = s.modules := rfl
@[simp] theorem State.modTwin_lines (f : TwinUnit → TwinUnit) : (s.modTwin f).lines = s.lines := rfl
@[simp] theorem State.modTwin_planes (f : TwinUnit → TwinUnit) : (s.modTwin f).planes = s.planes := rfl
@[simp] theorem State.modTwin_tmg (f : TwinUnit → TwinUnit) : (s.modTwin f).tmg = s.tmg := rfl
@[simp] theorem State.modTwin_scc (f : TwinUnit → TwinUnit) : (s.modTwin f).scc = s.scc := rfl
@[simp] theorem State.modTwin_dma (f : TwinUnit → TwinUnit) : (s.modTwin f).dma = s.dma := rfl
@[simp] theorem State.modTwin_cvu (f : TwinUnit → TwinUnit) : (s.modTwin f).cvu = s.cvu := rfl
@[simp] theorem State.modTwin_jtag (f : TwinUnit → TwinUnit) : (s.modTwin f).jtag = s.jtag := rfl
@[simp] theorem State.modTwin_fresh (f : TwinUnit → TwinUnit) : (s.modTwin f).fresh = s.fresh := rfl
@[simp] theorem State.modTwin_pending (f : TwinUnit → TwinUnit) : (s.modTwin f).pending = s.pending := rfl
@[simp] theorem State.modTwin_reg (f : TwinUnit → TwinUnit) (x : Nat) : (s.modTwin f).reg x = s.reg x := rfl
@[simp] theorem State.modTwin_get (f : TwinUnit → TwinUnit) (x : FRef) : (s.modTwin f).get x = s.get x := rfl
@[simp] theorem State.modTwin_flag (f : TwinUnit → TwinUnit) (x : FRef) : (s.modTwin f).flag x = s.flag x := rfl
@[simp] theorem State.modTwin_get64 (f : TwinUnit → TwinUnit) (x : Nat) : (s.modTwin f).get64 x = s.get64 x := rfl

/-! `modCand` changes tmg only. -/
@[simp] theorem State.modCand_regs (c : Nat) (f : CandUnit → CandUnit) : (s.modCand c f).regs = s.regs := rfl
@[simp] theorem State.modCand_bar2 (c : Nat) (f : CandUnit → CandUnit) : (s.modCand c f).bar2 = s.bar2 := rfl
@[simp] theorem State.modCand_prtRec (c : Nat) (f : CandUnit → CandUnit) : (s.modCand c f).prtRec = s.prtRec := rfl
@[simp] theorem State.modCand_host (c : Nat) (f : CandUnit → CandUnit) : (s.modCand c f).host = s.host := rfl
@[simp] theorem State.modCand_flash (c : Nat) (f : CandUnit → CandUnit) : (s.modCand c f).flash = s.flash := rfl
@[simp] theorem State.modCand_fuses (c : Nat) (f : CandUnit → CandUnit) : (s.modCand c f).fuses = s.fuses := rfl
@[simp] theorem State.modCand_power (c : Nat) (f : CandUnit → CandUnit) : (s.modCand c f).power = s.power := rfl
@[simp] theorem State.modCand_pcie (c : Nat) (f : CandUnit → CandUnit) : (s.modCand c f).pcie = s.pcie := rfl
@[simp] theorem State.modCand_irq (c : Nat) (f : CandUnit → CandUnit) : (s.modCand c f).irq = s.irq := rfl
@[simp] theorem State.modCand_guardHost (c : Nat) (f : CandUnit → CandUnit) : (s.modCand c f).guardHost = s.guardHost := rfl
@[simp] theorem State.modCand_guardMgmt (c : Nat) (f : CandUnit → CandUnit) : (s.modCand c f).guardMgmt = s.guardMgmt := rfl
@[simp] theorem State.modCand_tk (c : Nat) (f : CandUnit → CandUnit) : (s.modCand c f).tk = s.tk := rfl
@[simp] theorem State.modCand_fcr (c : Nat) (f : CandUnit → CandUnit) : (s.modCand c f).fcr = s.fcr := rfl
@[simp] theorem State.modCand_boot (c : Nat) (f : CandUnit → CandUnit) : (s.modCand c f).boot = s.boot := rfl
@[simp] theorem State.modCand_mbx (c : Nat) (f : CandUnit → CandUnit) : (s.modCand c f).mbx = s.mbx := rfl
@[simp] theorem State.modCand_buses (c : Nat) (f : CandUnit → CandUnit) : (s.modCand c f).buses = s.buses := rfl
@[simp] theorem State.modCand_modules (c : Nat) (f : CandUnit → CandUnit) : (s.modCand c f).modules = s.modules := rfl
@[simp] theorem State.modCand_lines (c : Nat) (f : CandUnit → CandUnit) : (s.modCand c f).lines = s.lines := rfl
@[simp] theorem State.modCand_planes (c : Nat) (f : CandUnit → CandUnit) : (s.modCand c f).planes = s.planes := rfl
@[simp] theorem State.modCand_tw (c : Nat) (f : CandUnit → CandUnit) : (s.modCand c f).tw = s.tw := rfl
@[simp] theorem State.modCand_scc (c : Nat) (f : CandUnit → CandUnit) : (s.modCand c f).scc = s.scc := rfl
@[simp] theorem State.modCand_dma (c : Nat) (f : CandUnit → CandUnit) : (s.modCand c f).dma = s.dma := rfl
@[simp] theorem State.modCand_cvu (c : Nat) (f : CandUnit → CandUnit) : (s.modCand c f).cvu = s.cvu := rfl
@[simp] theorem State.modCand_jtag (c : Nat) (f : CandUnit → CandUnit) : (s.modCand c f).jtag = s.jtag := rfl
@[simp] theorem State.modCand_fresh (c : Nat) (f : CandUnit → CandUnit) : (s.modCand c f).fresh = s.fresh := rfl
@[simp] theorem State.modCand_pending (c : Nat) (f : CandUnit → CandUnit) : (s.modCand c f).pending = s.pending := rfl
@[simp] theorem State.modCand_reg (c : Nat) (f : CandUnit → CandUnit) (x : Nat) : (s.modCand c f).reg x = s.reg x := rfl
@[simp] theorem State.modCand_get (c : Nat) (f : CandUnit → CandUnit) (x : FRef) : (s.modCand c f).get x = s.get x := rfl
@[simp] theorem State.modCand_flag (c : Nat) (f : CandUnit → CandUnit) (x : FRef) : (s.modCand c f).flag x = s.flag x := rfl
@[simp] theorem State.modCand_get64 (c : Nat) (f : CandUnit → CandUnit) (x : Nat) : (s.modCand c f).get64 x = s.get64 x := rfl

/-! `modDpll` changes tmg only. -/
@[simp] theorem State.modDpll_regs (d : Nat) (f : DpllUnit → DpllUnit) : (s.modDpll d f).regs = s.regs := rfl
@[simp] theorem State.modDpll_bar2 (d : Nat) (f : DpllUnit → DpllUnit) : (s.modDpll d f).bar2 = s.bar2 := rfl
@[simp] theorem State.modDpll_prtRec (d : Nat) (f : DpllUnit → DpllUnit) : (s.modDpll d f).prtRec = s.prtRec := rfl
@[simp] theorem State.modDpll_host (d : Nat) (f : DpllUnit → DpllUnit) : (s.modDpll d f).host = s.host := rfl
@[simp] theorem State.modDpll_flash (d : Nat) (f : DpllUnit → DpllUnit) : (s.modDpll d f).flash = s.flash := rfl
@[simp] theorem State.modDpll_fuses (d : Nat) (f : DpllUnit → DpllUnit) : (s.modDpll d f).fuses = s.fuses := rfl
@[simp] theorem State.modDpll_power (d : Nat) (f : DpllUnit → DpllUnit) : (s.modDpll d f).power = s.power := rfl
@[simp] theorem State.modDpll_pcie (d : Nat) (f : DpllUnit → DpllUnit) : (s.modDpll d f).pcie = s.pcie := rfl
@[simp] theorem State.modDpll_irq (d : Nat) (f : DpllUnit → DpllUnit) : (s.modDpll d f).irq = s.irq := rfl
@[simp] theorem State.modDpll_guardHost (d : Nat) (f : DpllUnit → DpllUnit) : (s.modDpll d f).guardHost = s.guardHost := rfl
@[simp] theorem State.modDpll_guardMgmt (d : Nat) (f : DpllUnit → DpllUnit) : (s.modDpll d f).guardMgmt = s.guardMgmt := rfl
@[simp] theorem State.modDpll_tk (d : Nat) (f : DpllUnit → DpllUnit) : (s.modDpll d f).tk = s.tk := rfl
@[simp] theorem State.modDpll_fcr (d : Nat) (f : DpllUnit → DpllUnit) : (s.modDpll d f).fcr = s.fcr := rfl
@[simp] theorem State.modDpll_boot (d : Nat) (f : DpllUnit → DpllUnit) : (s.modDpll d f).boot = s.boot := rfl
@[simp] theorem State.modDpll_mbx (d : Nat) (f : DpllUnit → DpllUnit) : (s.modDpll d f).mbx = s.mbx := rfl
@[simp] theorem State.modDpll_buses (d : Nat) (f : DpllUnit → DpllUnit) : (s.modDpll d f).buses = s.buses := rfl
@[simp] theorem State.modDpll_modules (d : Nat) (f : DpllUnit → DpllUnit) : (s.modDpll d f).modules = s.modules := rfl
@[simp] theorem State.modDpll_lines (d : Nat) (f : DpllUnit → DpllUnit) : (s.modDpll d f).lines = s.lines := rfl
@[simp] theorem State.modDpll_planes (d : Nat) (f : DpllUnit → DpllUnit) : (s.modDpll d f).planes = s.planes := rfl
@[simp] theorem State.modDpll_tw (d : Nat) (f : DpllUnit → DpllUnit) : (s.modDpll d f).tw = s.tw := rfl
@[simp] theorem State.modDpll_scc (d : Nat) (f : DpllUnit → DpllUnit) : (s.modDpll d f).scc = s.scc := rfl
@[simp] theorem State.modDpll_dma (d : Nat) (f : DpllUnit → DpllUnit) : (s.modDpll d f).dma = s.dma := rfl
@[simp] theorem State.modDpll_cvu (d : Nat) (f : DpllUnit → DpllUnit) : (s.modDpll d f).cvu = s.cvu := rfl
@[simp] theorem State.modDpll_jtag (d : Nat) (f : DpllUnit → DpllUnit) : (s.modDpll d f).jtag = s.jtag := rfl
@[simp] theorem State.modDpll_fresh (d : Nat) (f : DpllUnit → DpllUnit) : (s.modDpll d f).fresh = s.fresh := rfl
@[simp] theorem State.modDpll_pending (d : Nat) (f : DpllUnit → DpllUnit) : (s.modDpll d f).pending = s.pending := rfl
@[simp] theorem State.modDpll_reg (d : Nat) (f : DpllUnit → DpllUnit) (x : Nat) : (s.modDpll d f).reg x = s.reg x := rfl
@[simp] theorem State.modDpll_get (d : Nat) (f : DpllUnit → DpllUnit) (x : FRef) : (s.modDpll d f).get x = s.get x := rfl
@[simp] theorem State.modDpll_flag (d : Nat) (f : DpllUnit → DpllUnit) (x : FRef) : (s.modDpll d f).flag x = s.flag x := rfl
@[simp] theorem State.modDpll_get64 (d : Nat) (f : DpllUnit → DpllUnit) (x : Nat) : (s.modDpll d f).get64 x = s.get64 x := rfl

/-! `modSlot` changes scc only. -/
@[simp] theorem State.modSlot_regs (k : Nat) (f : SccSlot → SccSlot) : (s.modSlot k f).regs = s.regs := rfl
@[simp] theorem State.modSlot_bar2 (k : Nat) (f : SccSlot → SccSlot) : (s.modSlot k f).bar2 = s.bar2 := rfl
@[simp] theorem State.modSlot_prtRec (k : Nat) (f : SccSlot → SccSlot) : (s.modSlot k f).prtRec = s.prtRec := rfl
@[simp] theorem State.modSlot_host (k : Nat) (f : SccSlot → SccSlot) : (s.modSlot k f).host = s.host := rfl
@[simp] theorem State.modSlot_flash (k : Nat) (f : SccSlot → SccSlot) : (s.modSlot k f).flash = s.flash := rfl
@[simp] theorem State.modSlot_fuses (k : Nat) (f : SccSlot → SccSlot) : (s.modSlot k f).fuses = s.fuses := rfl
@[simp] theorem State.modSlot_power (k : Nat) (f : SccSlot → SccSlot) : (s.modSlot k f).power = s.power := rfl
@[simp] theorem State.modSlot_pcie (k : Nat) (f : SccSlot → SccSlot) : (s.modSlot k f).pcie = s.pcie := rfl
@[simp] theorem State.modSlot_irq (k : Nat) (f : SccSlot → SccSlot) : (s.modSlot k f).irq = s.irq := rfl
@[simp] theorem State.modSlot_guardHost (k : Nat) (f : SccSlot → SccSlot) : (s.modSlot k f).guardHost = s.guardHost := rfl
@[simp] theorem State.modSlot_guardMgmt (k : Nat) (f : SccSlot → SccSlot) : (s.modSlot k f).guardMgmt = s.guardMgmt := rfl
@[simp] theorem State.modSlot_tk (k : Nat) (f : SccSlot → SccSlot) : (s.modSlot k f).tk = s.tk := rfl
@[simp] theorem State.modSlot_fcr (k : Nat) (f : SccSlot → SccSlot) : (s.modSlot k f).fcr = s.fcr := rfl
@[simp] theorem State.modSlot_boot (k : Nat) (f : SccSlot → SccSlot) : (s.modSlot k f).boot = s.boot := rfl
@[simp] theorem State.modSlot_mbx (k : Nat) (f : SccSlot → SccSlot) : (s.modSlot k f).mbx = s.mbx := rfl
@[simp] theorem State.modSlot_buses (k : Nat) (f : SccSlot → SccSlot) : (s.modSlot k f).buses = s.buses := rfl
@[simp] theorem State.modSlot_modules (k : Nat) (f : SccSlot → SccSlot) : (s.modSlot k f).modules = s.modules := rfl
@[simp] theorem State.modSlot_lines (k : Nat) (f : SccSlot → SccSlot) : (s.modSlot k f).lines = s.lines := rfl
@[simp] theorem State.modSlot_planes (k : Nat) (f : SccSlot → SccSlot) : (s.modSlot k f).planes = s.planes := rfl
@[simp] theorem State.modSlot_tw (k : Nat) (f : SccSlot → SccSlot) : (s.modSlot k f).tw = s.tw := rfl
@[simp] theorem State.modSlot_tmg (k : Nat) (f : SccSlot → SccSlot) : (s.modSlot k f).tmg = s.tmg := rfl
@[simp] theorem State.modSlot_dma (k : Nat) (f : SccSlot → SccSlot) : (s.modSlot k f).dma = s.dma := rfl
@[simp] theorem State.modSlot_cvu (k : Nat) (f : SccSlot → SccSlot) : (s.modSlot k f).cvu = s.cvu := rfl
@[simp] theorem State.modSlot_jtag (k : Nat) (f : SccSlot → SccSlot) : (s.modSlot k f).jtag = s.jtag := rfl
@[simp] theorem State.modSlot_fresh (k : Nat) (f : SccSlot → SccSlot) : (s.modSlot k f).fresh = s.fresh := rfl
@[simp] theorem State.modSlot_pending (k : Nat) (f : SccSlot → SccSlot) : (s.modSlot k f).pending = s.pending := rfl
@[simp] theorem State.modSlot_reg (k : Nat) (f : SccSlot → SccSlot) (x : Nat) : (s.modSlot k f).reg x = s.reg x := rfl
@[simp] theorem State.modSlot_get (k : Nat) (f : SccSlot → SccSlot) (x : FRef) : (s.modSlot k f).get x = s.get x := rfl
@[simp] theorem State.modSlot_flag (k : Nat) (f : SccSlot → SccSlot) (x : FRef) : (s.modSlot k f).flag x = s.flag x := rfl
@[simp] theorem State.modSlot_get64 (k : Nat) (f : SccSlot → SccSlot) (x : Nat) : (s.modSlot k f).get64 x = s.get64 x := rfl

/-! `modDma` changes dma only. -/
@[simp] theorem State.modDma_regs (c : Nat) (f : DmaChan → DmaChan) : (s.modDma c f).regs = s.regs := rfl
@[simp] theorem State.modDma_bar2 (c : Nat) (f : DmaChan → DmaChan) : (s.modDma c f).bar2 = s.bar2 := rfl
@[simp] theorem State.modDma_prtRec (c : Nat) (f : DmaChan → DmaChan) : (s.modDma c f).prtRec = s.prtRec := rfl
@[simp] theorem State.modDma_host (c : Nat) (f : DmaChan → DmaChan) : (s.modDma c f).host = s.host := rfl
@[simp] theorem State.modDma_flash (c : Nat) (f : DmaChan → DmaChan) : (s.modDma c f).flash = s.flash := rfl
@[simp] theorem State.modDma_fuses (c : Nat) (f : DmaChan → DmaChan) : (s.modDma c f).fuses = s.fuses := rfl
@[simp] theorem State.modDma_power (c : Nat) (f : DmaChan → DmaChan) : (s.modDma c f).power = s.power := rfl
@[simp] theorem State.modDma_pcie (c : Nat) (f : DmaChan → DmaChan) : (s.modDma c f).pcie = s.pcie := rfl
@[simp] theorem State.modDma_irq (c : Nat) (f : DmaChan → DmaChan) : (s.modDma c f).irq = s.irq := rfl
@[simp] theorem State.modDma_guardHost (c : Nat) (f : DmaChan → DmaChan) : (s.modDma c f).guardHost = s.guardHost := rfl
@[simp] theorem State.modDma_guardMgmt (c : Nat) (f : DmaChan → DmaChan) : (s.modDma c f).guardMgmt = s.guardMgmt := rfl
@[simp] theorem State.modDma_tk (c : Nat) (f : DmaChan → DmaChan) : (s.modDma c f).tk = s.tk := rfl
@[simp] theorem State.modDma_fcr (c : Nat) (f : DmaChan → DmaChan) : (s.modDma c f).fcr = s.fcr := rfl
@[simp] theorem State.modDma_boot (c : Nat) (f : DmaChan → DmaChan) : (s.modDma c f).boot = s.boot := rfl
@[simp] theorem State.modDma_mbx (c : Nat) (f : DmaChan → DmaChan) : (s.modDma c f).mbx = s.mbx := rfl
@[simp] theorem State.modDma_buses (c : Nat) (f : DmaChan → DmaChan) : (s.modDma c f).buses = s.buses := rfl
@[simp] theorem State.modDma_modules (c : Nat) (f : DmaChan → DmaChan) : (s.modDma c f).modules = s.modules := rfl
@[simp] theorem State.modDma_lines (c : Nat) (f : DmaChan → DmaChan) : (s.modDma c f).lines = s.lines := rfl
@[simp] theorem State.modDma_planes (c : Nat) (f : DmaChan → DmaChan) : (s.modDma c f).planes = s.planes := rfl
@[simp] theorem State.modDma_tw (c : Nat) (f : DmaChan → DmaChan) : (s.modDma c f).tw = s.tw := rfl
@[simp] theorem State.modDma_tmg (c : Nat) (f : DmaChan → DmaChan) : (s.modDma c f).tmg = s.tmg := rfl
@[simp] theorem State.modDma_scc (c : Nat) (f : DmaChan → DmaChan) : (s.modDma c f).scc = s.scc := rfl
@[simp] theorem State.modDma_cvu (c : Nat) (f : DmaChan → DmaChan) : (s.modDma c f).cvu = s.cvu := rfl
@[simp] theorem State.modDma_jtag (c : Nat) (f : DmaChan → DmaChan) : (s.modDma c f).jtag = s.jtag := rfl
@[simp] theorem State.modDma_fresh (c : Nat) (f : DmaChan → DmaChan) : (s.modDma c f).fresh = s.fresh := rfl
@[simp] theorem State.modDma_pending (c : Nat) (f : DmaChan → DmaChan) : (s.modDma c f).pending = s.pending := rfl
@[simp] theorem State.modDma_reg (c : Nat) (f : DmaChan → DmaChan) (x : Nat) : (s.modDma c f).reg x = s.reg x := rfl
@[simp] theorem State.modDma_get (c : Nat) (f : DmaChan → DmaChan) (x : FRef) : (s.modDma c f).get x = s.get x := rfl
@[simp] theorem State.modDma_flag (c : Nat) (f : DmaChan → DmaChan) (x : FRef) : (s.modDma c f).flag x = s.flag x := rfl
@[simp] theorem State.modDma_get64 (c : Nat) (f : DmaChan → DmaChan) (x : Nat) : (s.modDma c f).get64 x = s.get64 x := rfl

/-! `modRun` changes dma only. -/
@[simp] theorem State.modRun_regs (c : Nat) (f : DmaRun → DmaRun) : (s.modRun c f).regs = s.regs := rfl
@[simp] theorem State.modRun_bar2 (c : Nat) (f : DmaRun → DmaRun) : (s.modRun c f).bar2 = s.bar2 := rfl
@[simp] theorem State.modRun_prtRec (c : Nat) (f : DmaRun → DmaRun) : (s.modRun c f).prtRec = s.prtRec := rfl
@[simp] theorem State.modRun_host (c : Nat) (f : DmaRun → DmaRun) : (s.modRun c f).host = s.host := rfl
@[simp] theorem State.modRun_flash (c : Nat) (f : DmaRun → DmaRun) : (s.modRun c f).flash = s.flash := rfl
@[simp] theorem State.modRun_fuses (c : Nat) (f : DmaRun → DmaRun) : (s.modRun c f).fuses = s.fuses := rfl
@[simp] theorem State.modRun_power (c : Nat) (f : DmaRun → DmaRun) : (s.modRun c f).power = s.power := rfl
@[simp] theorem State.modRun_pcie (c : Nat) (f : DmaRun → DmaRun) : (s.modRun c f).pcie = s.pcie := rfl
@[simp] theorem State.modRun_irq (c : Nat) (f : DmaRun → DmaRun) : (s.modRun c f).irq = s.irq := rfl
@[simp] theorem State.modRun_guardHost (c : Nat) (f : DmaRun → DmaRun) : (s.modRun c f).guardHost = s.guardHost := rfl
@[simp] theorem State.modRun_guardMgmt (c : Nat) (f : DmaRun → DmaRun) : (s.modRun c f).guardMgmt = s.guardMgmt := rfl
@[simp] theorem State.modRun_tk (c : Nat) (f : DmaRun → DmaRun) : (s.modRun c f).tk = s.tk := rfl
@[simp] theorem State.modRun_fcr (c : Nat) (f : DmaRun → DmaRun) : (s.modRun c f).fcr = s.fcr := rfl
@[simp] theorem State.modRun_boot (c : Nat) (f : DmaRun → DmaRun) : (s.modRun c f).boot = s.boot := rfl
@[simp] theorem State.modRun_mbx (c : Nat) (f : DmaRun → DmaRun) : (s.modRun c f).mbx = s.mbx := rfl
@[simp] theorem State.modRun_buses (c : Nat) (f : DmaRun → DmaRun) : (s.modRun c f).buses = s.buses := rfl
@[simp] theorem State.modRun_modules (c : Nat) (f : DmaRun → DmaRun) : (s.modRun c f).modules = s.modules := rfl
@[simp] theorem State.modRun_lines (c : Nat) (f : DmaRun → DmaRun) : (s.modRun c f).lines = s.lines := rfl
@[simp] theorem State.modRun_planes (c : Nat) (f : DmaRun → DmaRun) : (s.modRun c f).planes = s.planes := rfl
@[simp] theorem State.modRun_tw (c : Nat) (f : DmaRun → DmaRun) : (s.modRun c f).tw = s.tw := rfl
@[simp] theorem State.modRun_tmg (c : Nat) (f : DmaRun → DmaRun) : (s.modRun c f).tmg = s.tmg := rfl
@[simp] theorem State.modRun_scc (c : Nat) (f : DmaRun → DmaRun) : (s.modRun c f).scc = s.scc := rfl
@[simp] theorem State.modRun_cvu (c : Nat) (f : DmaRun → DmaRun) : (s.modRun c f).cvu = s.cvu := rfl
@[simp] theorem State.modRun_jtag (c : Nat) (f : DmaRun → DmaRun) : (s.modRun c f).jtag = s.jtag := rfl
@[simp] theorem State.modRun_fresh (c : Nat) (f : DmaRun → DmaRun) : (s.modRun c f).fresh = s.fresh := rfl
@[simp] theorem State.modRun_pending (c : Nat) (f : DmaRun → DmaRun) : (s.modRun c f).pending = s.pending := rfl
@[simp] theorem State.modRun_reg (c : Nat) (f : DmaRun → DmaRun) (x : Nat) : (s.modRun c f).reg x = s.reg x := rfl
@[simp] theorem State.modRun_get (c : Nat) (f : DmaRun → DmaRun) (x : FRef) : (s.modRun c f).get x = s.get x := rfl
@[simp] theorem State.modRun_flag (c : Nat) (f : DmaRun → DmaRun) (x : FRef) : (s.modRun c f).flag x = s.flag x := rfl
@[simp] theorem State.modRun_get64 (c : Nat) (f : DmaRun → DmaRun) (x : Nat) : (s.modRun c f).get64 x = s.get64 x := rfl

/-! `modCvu` changes cvu only. -/
@[simp] theorem State.modCvu_regs (k : Nat) (f : CvuChan → CvuChan) : (s.modCvu k f).regs = s.regs := rfl
@[simp] theorem State.modCvu_bar2 (k : Nat) (f : CvuChan → CvuChan) : (s.modCvu k f).bar2 = s.bar2 := rfl
@[simp] theorem State.modCvu_prtRec (k : Nat) (f : CvuChan → CvuChan) : (s.modCvu k f).prtRec = s.prtRec := rfl
@[simp] theorem State.modCvu_host (k : Nat) (f : CvuChan → CvuChan) : (s.modCvu k f).host = s.host := rfl
@[simp] theorem State.modCvu_flash (k : Nat) (f : CvuChan → CvuChan) : (s.modCvu k f).flash = s.flash := rfl
@[simp] theorem State.modCvu_fuses (k : Nat) (f : CvuChan → CvuChan) : (s.modCvu k f).fuses = s.fuses := rfl
@[simp] theorem State.modCvu_power (k : Nat) (f : CvuChan → CvuChan) : (s.modCvu k f).power = s.power := rfl
@[simp] theorem State.modCvu_pcie (k : Nat) (f : CvuChan → CvuChan) : (s.modCvu k f).pcie = s.pcie := rfl
@[simp] theorem State.modCvu_irq (k : Nat) (f : CvuChan → CvuChan) : (s.modCvu k f).irq = s.irq := rfl
@[simp] theorem State.modCvu_guardHost (k : Nat) (f : CvuChan → CvuChan) : (s.modCvu k f).guardHost = s.guardHost := rfl
@[simp] theorem State.modCvu_guardMgmt (k : Nat) (f : CvuChan → CvuChan) : (s.modCvu k f).guardMgmt = s.guardMgmt := rfl
@[simp] theorem State.modCvu_tk (k : Nat) (f : CvuChan → CvuChan) : (s.modCvu k f).tk = s.tk := rfl
@[simp] theorem State.modCvu_fcr (k : Nat) (f : CvuChan → CvuChan) : (s.modCvu k f).fcr = s.fcr := rfl
@[simp] theorem State.modCvu_boot (k : Nat) (f : CvuChan → CvuChan) : (s.modCvu k f).boot = s.boot := rfl
@[simp] theorem State.modCvu_mbx (k : Nat) (f : CvuChan → CvuChan) : (s.modCvu k f).mbx = s.mbx := rfl
@[simp] theorem State.modCvu_buses (k : Nat) (f : CvuChan → CvuChan) : (s.modCvu k f).buses = s.buses := rfl
@[simp] theorem State.modCvu_modules (k : Nat) (f : CvuChan → CvuChan) : (s.modCvu k f).modules = s.modules := rfl
@[simp] theorem State.modCvu_lines (k : Nat) (f : CvuChan → CvuChan) : (s.modCvu k f).lines = s.lines := rfl
@[simp] theorem State.modCvu_planes (k : Nat) (f : CvuChan → CvuChan) : (s.modCvu k f).planes = s.planes := rfl
@[simp] theorem State.modCvu_tw (k : Nat) (f : CvuChan → CvuChan) : (s.modCvu k f).tw = s.tw := rfl
@[simp] theorem State.modCvu_tmg (k : Nat) (f : CvuChan → CvuChan) : (s.modCvu k f).tmg = s.tmg := rfl
@[simp] theorem State.modCvu_scc (k : Nat) (f : CvuChan → CvuChan) : (s.modCvu k f).scc = s.scc := rfl
@[simp] theorem State.modCvu_dma (k : Nat) (f : CvuChan → CvuChan) : (s.modCvu k f).dma = s.dma := rfl
@[simp] theorem State.modCvu_jtag (k : Nat) (f : CvuChan → CvuChan) : (s.modCvu k f).jtag = s.jtag := rfl
@[simp] theorem State.modCvu_fresh (k : Nat) (f : CvuChan → CvuChan) : (s.modCvu k f).fresh = s.fresh := rfl
@[simp] theorem State.modCvu_pending (k : Nat) (f : CvuChan → CvuChan) : (s.modCvu k f).pending = s.pending := rfl
@[simp] theorem State.modCvu_reg (k : Nat) (f : CvuChan → CvuChan) (x : Nat) : (s.modCvu k f).reg x = s.reg x := rfl
@[simp] theorem State.modCvu_get (k : Nat) (f : CvuChan → CvuChan) (x : FRef) : (s.modCvu k f).get x = s.get x := rfl
@[simp] theorem State.modCvu_flag (k : Nat) (f : CvuChan → CvuChan) (x : FRef) : (s.modCvu k f).flag x = s.flag x := rfl
@[simp] theorem State.modCvu_get64 (k : Nat) (f : CvuChan → CvuChan) (x : Nat) : (s.modCvu k f).get64 x = s.get64 x := rfl

/-! `putOp` changes mbx only. -/
@[simp] theorem State.putOp_regs (k : Nat) (o : Option LongOp) : (s.putOp k o).regs = s.regs := rfl
@[simp] theorem State.putOp_bar2 (k : Nat) (o : Option LongOp) : (s.putOp k o).bar2 = s.bar2 := rfl
@[simp] theorem State.putOp_prtRec (k : Nat) (o : Option LongOp) : (s.putOp k o).prtRec = s.prtRec := rfl
@[simp] theorem State.putOp_host (k : Nat) (o : Option LongOp) : (s.putOp k o).host = s.host := rfl
@[simp] theorem State.putOp_flash (k : Nat) (o : Option LongOp) : (s.putOp k o).flash = s.flash := rfl
@[simp] theorem State.putOp_fuses (k : Nat) (o : Option LongOp) : (s.putOp k o).fuses = s.fuses := rfl
@[simp] theorem State.putOp_power (k : Nat) (o : Option LongOp) : (s.putOp k o).power = s.power := rfl
@[simp] theorem State.putOp_pcie (k : Nat) (o : Option LongOp) : (s.putOp k o).pcie = s.pcie := rfl
@[simp] theorem State.putOp_irq (k : Nat) (o : Option LongOp) : (s.putOp k o).irq = s.irq := rfl
@[simp] theorem State.putOp_guardHost (k : Nat) (o : Option LongOp) : (s.putOp k o).guardHost = s.guardHost := rfl
@[simp] theorem State.putOp_guardMgmt (k : Nat) (o : Option LongOp) : (s.putOp k o).guardMgmt = s.guardMgmt := rfl
@[simp] theorem State.putOp_tk (k : Nat) (o : Option LongOp) : (s.putOp k o).tk = s.tk := rfl
@[simp] theorem State.putOp_fcr (k : Nat) (o : Option LongOp) : (s.putOp k o).fcr = s.fcr := rfl
@[simp] theorem State.putOp_boot (k : Nat) (o : Option LongOp) : (s.putOp k o).boot = s.boot := rfl
@[simp] theorem State.putOp_buses (k : Nat) (o : Option LongOp) : (s.putOp k o).buses = s.buses := rfl
@[simp] theorem State.putOp_modules (k : Nat) (o : Option LongOp) : (s.putOp k o).modules = s.modules := rfl
@[simp] theorem State.putOp_lines (k : Nat) (o : Option LongOp) : (s.putOp k o).lines = s.lines := rfl
@[simp] theorem State.putOp_planes (k : Nat) (o : Option LongOp) : (s.putOp k o).planes = s.planes := rfl
@[simp] theorem State.putOp_tw (k : Nat) (o : Option LongOp) : (s.putOp k o).tw = s.tw := rfl
@[simp] theorem State.putOp_tmg (k : Nat) (o : Option LongOp) : (s.putOp k o).tmg = s.tmg := rfl
@[simp] theorem State.putOp_scc (k : Nat) (o : Option LongOp) : (s.putOp k o).scc = s.scc := rfl
@[simp] theorem State.putOp_dma (k : Nat) (o : Option LongOp) : (s.putOp k o).dma = s.dma := rfl
@[simp] theorem State.putOp_cvu (k : Nat) (o : Option LongOp) : (s.putOp k o).cvu = s.cvu := rfl
@[simp] theorem State.putOp_jtag (k : Nat) (o : Option LongOp) : (s.putOp k o).jtag = s.jtag := rfl
@[simp] theorem State.putOp_fresh (k : Nat) (o : Option LongOp) : (s.putOp k o).fresh = s.fresh := rfl
@[simp] theorem State.putOp_pending (k : Nat) (o : Option LongOp) : (s.putOp k o).pending = s.pending := rfl
@[simp] theorem State.putOp_reg (k : Nat) (o : Option LongOp) (x : Nat) : (s.putOp k o).reg x = s.reg x := rfl
@[simp] theorem State.putOp_get (k : Nat) (o : Option LongOp) (x : FRef) : (s.putOp k o).get x = s.get x := rfl
@[simp] theorem State.putOp_flag (k : Nat) (o : Option LongOp) (x : FRef) : (s.putOp k o).flag x = s.flag x := rfl
@[simp] theorem State.putOp_get64 (k : Nat) (o : Option LongOp) (x : Nat) : (s.putOp k o).get64 x = s.get64 x := rfl

/-! What each leaves in the unit it names. -/
@[simp] theorem State.modPower_power (f : Power → Power) : (s.modPower f).power = f s.power := rfl
@[simp] theorem State.modTwin_tw (f : TwinUnit → TwinUnit) : (s.modTwin f).tw = f s.tw := rfl
@[simp] theorem State.modBus_bus (k : Nat) (f : Bus → Bus) : (s.modBus k f).bus k = f (s.bus k) := modD_getD_same _ _ _ _
@[simp] theorem State.modModule_mdl (m : Nat) (f : Module → Module) : (s.modModule m f).mdl m = f (s.mdl m) :=
  modD_getD_same _ _ _ _
@[simp] theorem State.modPlane_plane (p : Nat) (f : Plane → Plane) : (s.modPlane p f).plane p = f (s.plane p) :=
  modD_getD_same _ _ _ _
theorem State.modPlane_other (p q : Nat) (f : Plane → Plane) (h : p ≠ q) : (s.modPlane p f).plane q = s.plane q :=
  modD_getD_other _ _ _ _ _ h
@[simp] theorem State.modCand_cand (c : Nat) (f : CandUnit → CandUnit) : (s.modCand c f).cand c = f (s.cand c) :=
  modD_getD_same _ _ _ _
@[simp] theorem State.modDpll_dpll (d : Nat) (f : DpllUnit → DpllUnit) : (s.modDpll d f).dpll d = f (s.dpll d) :=
  modD_getD_same _ _ _ _
@[simp] theorem State.modSlot_sccSlot (k : Nat) (f : SccSlot → SccSlot) : (s.modSlot k f).sccSlot k = f (s.sccSlot k) :=
  modD_getD_same _ _ _ _
@[simp] theorem State.modCvu_cvuOf (k : Nat) (f : CvuChan → CvuChan) : (s.modCvu k f).cvuOf k = f (s.cvuOf k) :=
  modD_getD_same _ _ _ _
@[simp] theorem State.modDma_dmaOf (c : Nat) (f : DmaChan → DmaChan) : (s.modDma c f).dmaOf c = f (s.dmaOf c) :=
  modD_getD_same _ _ _ _
@[simp] theorem State.putOp_op (k : Nat) (o : Option LongOp) : (s.putOp k o).op k = o := modD_getD_same _ _ _ _
@[simp] theorem State.modFlow_flow (p f : Nat) (g : FlowCtx → FlowCtx) : (s.modFlow p f g).flow p f = g (s.flow p f) := by
  simp only [State.modFlow, State.flow, State.modPlane_plane, Sparse.get_set_same]

end Sys2Proof.Machine
end

