-- ==== Sys2Proof/Machine/Pins.lean ====
section
/-! DEFINITION. What the device shows at its outside and never changes: the ball map of the package (R480 to R483) and the
configuration values of the PCIe function (R398, R400); and the levels of its open-drain outputs and core enables. -/

namespace Sys2Proof.Machine

/-! ## The ball map -/

/-- The letters of the 51 rows, from index 1 (Table 18.2). -/
def rowLetters : List String :=
  ["A", "B", "C", "D", "E", "F", "G", "H", "J", "K", "L", "M", "N", "P", "T", "U", "V", "W", "Y",
    "AA", "AB", "AC", "AD", "AE", "AF", "AG", "AH", "AJ", "AK", "AL", "AM", "AN", "AP", "AT", "AU", "AV", "AW", "AY",
    "BA", "BB", "BC", "BD", "BE", "BF", "BG", "BH", "BJ", "BK", "BL", "BM", "BN"]

/-- The name of the ball at row index `i`, column `j` (R480). -/
def ballName (i j : Nat) : String := rowLetters.getD (i - 1) "" ++ toString j

/-- What a ball is assigned to (R481): a line's receive or transmit signal with its polarity, a supply of a half, a spine supply
group, the always-on supply, ground, or a signal of the spine by its name and number in Table 18.4. -/
inductive Ball where
  | lrx (n : Nat) (positive : Bool)
  | ltx (n : Nat) (positive : Bool)
  | vcore (half : Nat)
  | vsd (half : Nat)
  | vtt (half : Nat)
  | vio (half : Nat)
  | vspine (group : Nat)
  | vaon
  | vss
  | pair (name : String) (k : Nat) (positive : Bool)
  | signal (name : String)
  | bus (name : String) (k : Nat)
  deriving DecidableEq, Repr

/-- A ball of the line field of a half, by its column in half A (R481, R482). -/
def lineBall (half i c : Nat) : Ball :=
  if i % 3 = 0 ∧ 3 ≤ i ∧ i ≤ 48 then
    let n := 48 * half + (c - 1) / 6 * 16 + (i - 3) / 3
    match (c - 1) % 6 with
    | 0 => .lrx n true
    | 1 => .lrx n false
    | 3 => .ltx n true
    | 4 => .ltx n false
    | _ => .vss
  else if i % 3 = 1 ∧ 4 ≤ i ∧ i ≤ 49 then
    if c % 3 = 1 then .vsd half else if c = 9 ∨ c = 15 then .vtt half else .vss
  else .vss

/-- A ball of the supply columns of a half, by its column in half A (Table 18.3). -/
def supplyBall (half i c : Nat) : Ball :=
  if (c = 19 ∨ c = 21 ∨ c = 23) ∧ 2 ≤ i ∧ i ≤ 50 then .vcore half
  else if c ≤ 21 ∧ (i = 1 ∨ i = 51) then .vio half
  else .vss

/-- The signals of column 27 in rows A to AK (Table 18.4). -/
def spineSingles : List Ball :=
  [.signal "PERST_N", .vss, .vss, .vss, .vss, .vss, .vss, .signal "OSC_IN", .signal "XTAL32K_IN", .signal "XTAL32K_OUT",
    .bus "PPS_IN" 0, .bus "PPS_IN" 1, .bus "PPS_OUT" 0, .bus "PPS_OUT" 1, .signal "TOD_TX", .signal "TOD_RX", .signal "TCK",
    .signal "TMS", .signal "TDI", .signal "TDO", .signal "TRST_N", .signal "RCAL_A", .signal "RCAL_B", .signal "RESET_N",
    .bus "PWR_GOOD_" 1, .bus "PWR_GOOD_" 2, .signal "WAKE_N", .signal "CORE_EN_A", .signal "CORE_EN_B"]

/-- The pairs of columns 25 and 26 in rows A to AK. -/
def spinePairs : List (String × Nat) :=
  (List.range 4).map (fun k => ("PE_TX", k)) ++ (List.range 4).map (fun k => ("PE_RX", k)) ++ [("PE_REFCLK", 0)]
    ++ (List.range 8).map (fun k => ("REFIN", k)) ++ (List.range 12).map (fun k => ("CLKOUT", k))

/-- The signals of columns 25 to 27 in rows AL to AU. -/
def spineRows : List Ball :=
  [.signal "THERM_DP", .signal "THERM_DN", .signal "ERR_N", .signal "INT_N", .signal "CFG_TWIN", .bus "BOOT_SRC" 0,
    .bus "BOOT_SRC" 1, .signal "TESTMODE", .signal "SPI_CLK", .signal "SPI_CS_N", .bus "SPI_IO" 0, .bus "SPI_IO" 1,
    .bus "SPI_IO" 2, .bus "SPI_IO" 3, .bus "MDC" 0, .bus "MDIO" 0, .bus "MDC" 1, .bus "MDIO" 1]

/-- A signal ball of the spine, columns 25 to 27 (R483, Table 18.4). -/
def spineSignal (i j : Nat) : Ball :=
  if 36 ≤ i then
    let q := 3 * (i - 36) + (j - 25)
    if q < 16 then .bus (if q % 2 = 0 then "I2C_SCL" else "I2C_SDA") (q / 2) else .bus "GPIO" (q - 16)
  else if 30 ≤ i then spineRows.getD (3 * (i - 30) + (j - 25)) .vss
  else if j = 27 then spineSingles.getD (i - 1) .vss
  else
    let p := spinePairs.getD (i - 1) ("", 0)
    .pair p.1 p.2 (j == 25)

/-- A ball of the spine region (Table 18.3). -/
def spineBall (i j : Nat) : Ball :=
  if j = 24 then (if 2 ≤ i ∧ i ≤ 25 then .vspine 1 else if i = 26 then .vaon else .vss)
  else if j = 28 then (if 27 ≤ i ∧ i ≤ 50 then .vspine 2 else if i = 26 then .vaon else .vss)
  else spineSignal i j

/-- The assignment of the ball at row index `i`, column `j`, 1 to 51 each: half B mirrors half A (R481). -/
def ball (i j : Nat) : Ball :=
  if j ≤ 17 then lineBall 0 i j
  else if j ≤ 23 then supplyBall 0 i j
  else if j ≤ 28 then spineBall i j
  else if j ≤ 34 then supplyBall 1 i (52 - j)
  else lineBall 1 i (52 - j)

/-- The row index and the columns of line `n`: LRX_P, LRX_N, LTX_P, LTX_N (R482). -/
def lineBalls (n : Nat) : Nat × List Nat :=
  let m := n % 48
  let c := 1 + 6 * (m / 16)
  (3 + 3 * (m % 16), if n < 48 then [c, c + 1, c + 3, c + 4] else [52 - c, 51 - c, 49 - c, 48 - c])

/-! ## Output levels -/

/-- ERR_N is driven low: asserted, with the spine powered (R442, R485). -/
def State.errnLow (s : State) : Bool := decide (s.power.sleep ≠ .asleep) && s.flag Fld.FCR_STATUS_ERRN

/-- INT_N is driven low (R422, Table 18.6). -/
def State.intnLow (s : State) : Bool := decide (s.power.sleep ≠ .asleep) && s.intN

/-- The levels of CORE_EN_A and CORE_EN_B (R472, R474). -/
def State.coreEnHigh (s : State) : Bool := s.power.coreEn

/-! ## The PCIe function -/

/-- The constant configuration values of the function (Table 14.1). -/
structure PcieValues where
  vendor : Nat
  device : Nat
  revision : Nat
  classCode : Nat
  bar0Bytes : Nat
  bar2Bytes : Nat
  interruptPin : Nat
  msixVectors : Nat
  maxPayload : Nat
  functionReset : Bool
  l1 : Bool
  l0s : Bool
  deriving DecidableEq, Repr

/-- Table 14.1; the subsystem's identifiers are the function's own. -/
def State.pcieValues (s : State) : PcieValues :=
  ⟨0x1F4C, s.partCode, 0xA1, 0x028000, 2 ^ 24, 2 ^ 26, 0, 64, 256, false, true, false⟩

/-- The Device Serial Number capability: bytes 0 to 7 of the serial number (R400). -/
def State.deviceSerial (s : State) : List Byte := s.fuses.serial.take 8

end Sys2Proof.Machine
end

