-- ==== Sys2Proof/WellFormed.lean ====
section
/-! DEFINITION. What makes a command well formed: the lengths and ranges of operands that their types leave open. A command that
is not well formed is no event of the device; its meaning then leaves the state alone or takes what it can. -/

namespace Sys2Proof

/-- The guarded addresses of Table 14.5 (R412). -/
def guardAddrs : List Nat := [0x40, 0x48, 0x20008, 0x20018, 0x60420, 0x60460, 0x400108, 0x400208, 0x10300]

/-- A transaction reads at most `n` bytes (R59, R392). -/
def BusOutcome.within (o : BusOutcome) (n : Nat) : Bool :=
  match o with
  | .ack bytes => decide (bytes.length ≤ n)
  | .noAck | .stuck _ | .stretch => true

/-- The fields of a peer message fit their widths (Table 4.2). -/
def PeerMsg.fits (m : PeerMsg) : Bool :=
  decide (m.typ < 256) && decide (m.txSeq < 256) && decide (m.index < 256) && decide (m.arg0 < 2 ^ 32) && decide (m.arg1 < 2 ^ 64)

/-- A frame has the bytes of its format: an STM-1, STM-4, STM-16 or STM-64, an OTUk. -/
def OhpFrame.fits (f : OhpFrame) : Bool :=
  match f with
  | .sdh bytes => [2430, 9720, 38880, 155520].contains bytes.length
  | .otu bytes => decide (bytes.length = 16320)
  | .mxf | .eth _ | .codes _ => true

/-- A command is well formed. -/
def Instr.wellFormed (c : Instr) : Bool :=
  match c with
  | .registerWrite _ _ _ bytes => decide (1 ≤ bytes.length ∧ bytes.length ≤ 256)
  | .badAccess _ _ _ n => decide (1 ≤ n ∧ n ≤ 4096)
  | .guardValueWrite _ a _ => guardAddrs.contains a.toNat
  | .guardComplementWrite _ a _ => guardAddrs.contains a.toNat
  | .guardWideWrite _ a => guardAddrs.contains a.toNat
  | .flashBootAttempt _ _ img _ => decide (img.length ≤ 1581056)
  | .pushFetchComplete img _ => decide (img.length ≤ 1581056)
  | .moduleHostTransaction _ o => o.within 128
  | .fwLoad data => decide (data.length ≤ 1581056)
  | .longOpProgress _ pct _ => decide (pct ≤ 10000)
  | .pollItemComplete _ o => o.within 8
  | .fecCodeword _ c => match c with
    | .otu bs => decide (bs.length = 255)
    | .mxf bs => decide (bs.length = 192)
    | .cl74 _ => true
    | .cl108 ws hs => decide (ws.length = 528 ∧ hs.length ≤ 80)
  | .mxfFrameRx _ ws => decide (ws.length = 2048)
  | .pmcSendRequest _ m => m.fits
  | .ohpFrameRx _ f => f.fits
  | .tableWrite a bytes => (bytes.length == 4 || bytes.length == 8) && a.toNat % bytes.length == 0
  | .clientPacketRx _ bytes _ => decide (1 ≤ bytes.length)
  | .todRxGroup bytes _ ns => decide (1 ≤ bytes.length ∧ bytes.length ≤ 8) && decide (ns < 1000000000)
  | .jtagBypass code => decide (6 < code.toNat)
  | .guardWindowExpiry _ | .glbChipReset _ | .chipReset | .chipResetRelease | .irqRearm _ | .irqEnableWrite _ _
  | .msixUnmask _ | .perstNAssert | .perstNRelease | .d3hotEntry | .busMasterDisable | .vaonPowerOn | .resetNAssert
  | .resetNRelease | .internalResetRelease _ _ _ | .feedLoss _ _ _ | .feedReturn _ | .spineSupplySwitchover _
  | .spinePowerReturn _ _ _ _ | .corePllLock _ | .chipSleepEnter _ | .chipSleepEntryComplete | .wakeEvent _
  | .tempComparatorTrip _ | .spreadChangeApply _ | .pushGo | .berentReady _ | .mgmtWatchdogLapse | .mgmtRestart
  | .managementRestart | .mbxEvqRdWrite _ | .loadWindowEnd _ | .mbxDoorbell _ _ | .unknownOpcode | .ping | .getStatus
  | .evqSet | .configConfirm | .enterService | .enterMaintenance | .leaveMaintenance | .opCancel | .lineConfig
  | .lineDoze | .moduleAccess | .throughConfig | .epochRebuild _ | .epochRebuildDone _ | .pgCreate | .mgCreate
  | .pgRemove | .lineTxTiming | .todConfig | .pmExportSet | .scrub | .scrubDone _ _ _ | .resync | .fwLoadDone _ _
  | .otpProgram | .attest | .prbsTest | .prbsTestDone _ | .prbsWordCheck _ _ | .lineCfgWrite _ _ | .rxEqCfgWrite _ _
  | .eqAdaptDone _ _ | .txDrvCfgWrite _ _ | .sdChange _ _ | .cdrLockRise _ | .cdrLockFall _ | .signalReplaced _ _
  | .dozeEntryComplete _ | .dozeExitComplete _ _ | .dozeMoveComplete _ | .wakeOnSd _ | .pollPassStart _
  | .pollPassEnd _ _ | .moduleAlarmChange _ _ | .modulePresenceChange _ | .busRecoveryRetry _ _
  | .clockStretchTimeout _ | .lineQueueDrop _ | .fauWord _ _ | .fauLockAcquire _ | .fauLockLoss _ | .fauSlipMove _
  | .mfLockChange _ | .fauRestart _ | .fauHuntCfgWrite _ _ | .fecCfgWrite _ _ | .qlAccept _ | .pmcMessageRx _
  | .pmcAckTimeout _ | .traceAccept _ | .s1Accept _ | .apsAccept _ | .labelAccept _ | .txTraceCommit _ _
  | .txTraceLoad _ _ | .capRdWrite _ _ _ | .insWrWrite _ _ _ | .esmcFrameRx _ _ _ | .esmcFrameTx _ | .throughStart _
  | .throughUnit _ _ | .throughFallback _ | .throughResume _ | .thruCfgWrite _ _ | .mapTblDataAccess _ | .epochCommit _
  | .epochSideSwitch _ _ | .epochCommitForce _ | .removedQueueEmpty _ _ | .epochIntegrityCheck _ | .clientPacketTx _ _
  | .queueFlush _ _ | .queueFlushApply _ _ | .gfpFrameRx _ _ _ | .gfpDelineationChange _ _ | .pointerRx _ _
  | .pointerStateChange _ _ | .pointerGenerate _ _ | .gmpControlWordRx _ _ | .gmpLossOfSync _ _
  | .mehraxGmpTx _ _ | .mxfFrameTx _ | .ohpFrameTx _ | .defectEvaluate _ _ | .defectRaise _ | .defectClear _ | .failureDeclare _ | .failureClear _
  | .csfSend _ _ | .dcsfTimeout _ _ | .tkSecondRollover | .henPassEnd _ _ | .pmExport _ _ _ _ | .tcaForward _
  | .lgCmdClear _ _ | .lgCmdLockout _ _ | .lgCmdForcedSwitch _ _ | .lgCmdManualP _ _ | .lgCmdExercise _ _
  | .lgCmdManualW _ _ | .mgCmdClear _ _ | .mgCmdLockout _ _ | .mgCmdForced _ _ | .mgCmdManualP _ _ | .mgCmdManualW _ _
  | .mgCmdReanchor _ _ | .prtRecDataAccess _ | .protHoldoffExpiry _ _ _ | .wtrExpiry _ _ | .partnerViolationDetect _ _
  | .pvEpisodeEnd _ _ | .mergeCmdRequeue _ _ | .mergeCopyWrite _ _ | .mergeOutputRead _ _ _ | .mergeRefMove _ _ _
  | .mergeUnanchor _ _ | .mergeAnchor _ _ | .mergeOutOfWindow _ _ _ | .mergeAutoRealign _ _
  | .mergeImmediateReanchor _ _ | .frameMarker | .lineBlockRelease _ | .linePresentMarker _ | .signatureCompare
  | .signatureMissing _ | .heartbeatWindow _ _ | .heartbeatPathSilent _ | .heartbeatPathLive _ | .leaseRenew _
  | .holderLocalTimerExpiry | .leaseExpiry | .leaseGrant _ | .firstLeaseTimeout | .plannedTransfer | .twnLeaseForce _
  | .revert | .lineWordTx _ _ _ _ | .holdMaxExpiry _ | .planeInitComplete _ | .autoResyncStart | .resyncPassEnd _
  | .resyncTimeout | .candActivityChange _ _ | .freqMonitorUpdate _ _ | .candWtrExpiry _ | .candHoldoffExpiry _
  | .qlFwWrite _ _ | .qlFwTimeout _ | .refSwitchComplete _ _ _ | .phaseSample _ _ _ | .dpllLocked _ | .hoValidSet _
  | .dpllModeAuto _ | .dpllForcedHoldover _ | .dpllForcedFreeRun _ | .dpllSoftwareMode _ | .dpllCmdNone _
  | .dpllCmdManual _ _ | .dpllCmdForced _ _ | .freqWordWrite _ _ | .dpllPpt _ _ | .swTmoExpiry _ | .esmcPduSend _ _
  | .clkoutCfgWrite _ _ _ | .ppsOutEdge _ | .ppsInEdge _ _ _ | .todZdaSend | .tkCapture | .tkStep | .sccRawSample _ _
  | .sccMidSample _ | .sccOutputTick | .sccThresholdCross _ | .sccThresholdWrite _ _ _ | .sccDlyWrite _ _
  | .sccCoefDataAccess _ | .sccCoefLoad _ | .sccBankSwapRequest _ _ | .sccFadeEnd _ | .sccSlotSync _ | .sccSyncAll
  | .sccSlotEnRise _ | .sccSlotEnFall _ | .sccSettleEnd _ | .dmaStart _ _ | .dmaStop _ _ | .dmaChannelEnable _ _ _
  | .dmaChannelDisable _ _ _ | .dmaTimerTick _ | .dmaBurst _ _ | .dmaFenceComplete _ | .dmaRunEnd _
  | .dmaHptrWrite _ _ _ | .cvuStart _ _ | .cvuData32Write _ _ _ _ | .cvuData8Write _ _ _ | .faultEvent _ _
  | .planeStopRelease _ | .fcrCauseClear _ _ | .fcrRecordEmpty _ | .fcrFwRaise _ _ | .fcrInjUnlock _ | .fcrInjGo _ _ _
  | .fcrInjPulseEnd | .fcrInjStop | .fcrInjLock | .jtagTapReset | .jtagExtest | .jtagIdcode | .jtagSamplePreload _ _
  | .jtagExtestPulse | .jtagExtestTrain | .jtagHighz | .jtagClamp | .xtal32kOkRise | .pcieEndpointReady => true

end Sys2Proof
end

