-- ==== Sys2Proof/Tests/Slice0.lean ====
section
/-! SUPPORT. Tests of the model, each of one step or of one configuration: terms that well-formedness refuses, the results
the spec prints in its examples and tables, and for every statement with hypotheses a state and operands that meet them. -/

namespace Sys2Proof.Tests

set_option Elab.async false

open Sys2Proof.Machine

/-- The device with both feeds good, the spine running, both planes past INIT, firmware not yet started. -/
def up : State := { State.reset with
  regs := [(0x100, 831), (0x40000, 0x80000), (0x80040, 3135), (0x80054, 8)]
  power := { Power.reset with resetN := true, inReset := false, coreEn := true, halfHeld := [false, false] }
  tw := { State.reset.tw with planes := State.reset.tw.planes.map (fun t => { t with initDue := false }) } }

/-- The state after commands, each of which answers a next state. -/
def run (s : State) (l : List Instr) : State := l.foldl (fun s c => match exec c s with | .next t => t | _ => s) s

/-- The next state of a meaning. -/
def nx (s : State) (f : State → Host.Outcome State Fault Refusal) : State := match f s with | .next t => t | _ => s

/-- Berent runs in firmware state `st`. -/
def fw (s : State) (st : Nat) : State := (s.set Fld.MGMT_BOOT_STATUS_PHASE 4).set Fld.MGMT_FW_STATE_STATE st

/-- Berent runs in CONFIG. -/
def b2 := fw up 2

/-- The `n` bytes of a number, least significant first. -/
def le (n v : Nat) : List Nat := (List.range n).map (fun i => v / 256 ^ i % 256)

/-- Line `n` is active with format `f`. -/
def act (s : State) (n f : Nat) : State := ((s.set (Fld.LCH_LINE_CFG_FORMAT n) f).set (Fld.LCH_LINE_STATUS_PWR_STATE n) 0)

/-- A message of opcode `op` has been posted on a ring. -/
def msg (s : State) (ring op : Nat) (pay : List Nat) (flags : Nat := 0) : State :=
  let n := s.get (Fld.MBX_DB_PI ring)
  let s := s.putBar2 (slotAddr ring (n % 64)) (messageBytes op (7 + n) flags 0 (pay.map (BitVec.ofNat 8)))
  run s [.mbxDoorbell (Fin.ofNat 4 ring) (BitVec.ofNat 16 (n + 1))]

/-- One command waits. -/
def queued : State := { up with pending := [.guardWindowExpiry .host] }

/-- The command answers a next state. -/
def answersNext : Host.Outcome State Fault Refusal → Bool
  | .next _ => true
  | _ => false

theorem exec_answers (i : Instr) (s : State) (h : answersNext (exec i s) = true) : ∃ t, exec i s = .next t := by
  cases h' : exec i s <;> simp_all [answersNext]

theorem step_answers (s : State) (h : answersNext (step s) = true) : ∃ t, step s = .next t := by
  cases h' : step s <;> simp_all [answersNext]

/-- One command waits right after reset. -/
def queued0 : State := { State.reset with pending := [.vaonPowerOn] }

/-! ## Well-formedness refuses -/

theorem test_wf_registerWrite : (Instr.registerWrite .host .bar0 0 []).wellFormed = false := by decide
theorem test_wf_badAccess : (Instr.badAccess .bar0 0 true 4097).wellFormed = false := by decide
theorem test_wf_guardValueWrite : (Instr.guardValueWrite .host 0x44 1).wellFormed = false := by decide
theorem test_wf_guardComplementWrite : (Instr.guardComplementWrite .host 0x10304 1).wellFormed = false := by decide
theorem test_wf_guardWideWrite : (Instr.guardWideWrite .firmware 0).wellFormed = false := by decide
theorem test_wf_flashBootAttempt (img : List Byte) (h : img.length = 1581057) :
    (Instr.flashBootAttempt 0 false img false).wellFormed = false := by simp [Instr.wellFormed, h]
theorem test_wf_pushFetchComplete (img : List Byte) (h : img.length = 1581057) :
    (Instr.pushFetchComplete img false).wellFormed = false := by simp [Instr.wellFormed, h]
theorem test_wf_moduleHostTransaction : (Instr.moduleHostTransaction 0 (.ack (List.replicate 129 0))).wellFormed = false := by
  decide +kernel
theorem test_wf_fwLoad (data : List Byte) (h : data.length = 1581057) : (Instr.fwLoad data).wellFormed = false := by
  simp [Instr.wellFormed, h]
theorem test_wf_longOpProgress : (Instr.longOpProgress 0 10001 0).wellFormed = false := by decide
theorem test_wf_pollItemComplete : (Instr.pollItemComplete 0 (.ack (List.replicate 9 0))).wellFormed = false := by decide +kernel
theorem test_wf_fecCodeword : (Instr.fecCodeword 0 (.otu [0])).wellFormed = false := by decide
theorem test_wf_mxfFrameRx : (Instr.mxfFrameRx 0 []).wellFormed = false := by decide
theorem test_wf_pmcSendRequest : (Instr.pmcSendRequest 0 ⟨256, 0, 0, 0, 0⟩).wellFormed = false := by decide
theorem test_wf_ohpFrameRx_sdh : (Instr.ohpFrameRx 0 (.sdh [0])).wellFormed = false := by decide
theorem test_wf_ohpFrameRx_otu : (Instr.ohpFrameRx 0 (.otu [0])).wellFormed = false := by decide
theorem test_wf_tableWrite_length : (Instr.tableWrite 0 [0, 0]).wellFormed = false := by decide
theorem test_wf_tableWrite_aligned : (Instr.tableWrite 4 (List.replicate 8 0)).wellFormed = false := by decide
theorem test_wf_clientPacketRx : (Instr.clientPacketRx 0 [] false).wellFormed = false := by decide
theorem test_wf_todRxGroup_bytes : (Instr.todRxGroup [] 0 0).wellFormed = false := by decide
theorem test_wf_todRxGroup_ns : (Instr.todRxGroup [0] 0 1000000000).wellFormed = false := by decide
theorem test_wf_jtagBypass : (Instr.jtagBypass 6).wellFormed = false := by decide

/-! ## Results that the spec prints -/

/-- The ASCII bytes "123456789". -/
def digits : List Byte := [0x31, 0x32, 0x33, 0x34, 0x35, 0x36, 0x37, 0x38, 0x39]

/-- Table 15.6, mailbox parameters. -/
theorem test_crc_mailbox : crc32c digits = 0xE3069283 := by decide +kernel

/-- Table 15.6, OHCRC parameters. -/
theorem test_crc_ohcrc : crcResult 16 false 0 (crcBytes 16 0x1021 false 0xFFFF digits) = 0x29B1 := by decide +kernel

/-- Table 15.6, GMP control word parameters. -/
theorem test_crc_gmp : crcResult 8 false 0 (crcBytes 8 0x07 false 0 digits) = 0xF4 := by decide +kernel

/-- Table 15.6, signature parameters. -/
theorem test_crc_signature :
    crcResult 64 false (2 ^ 64 - 1) (crcBytes 64 0x42F0E1EBA9EA3693 false (2 ^ 64 - 1) digits) = 0x62EC59E3F1A4F00A := by
  decide +kernel

/-- The example of R97: the first copy is 4 frames later. -/
theorem test_fsn_difference : fsnDiff 0x0000000002 0xFFFFFFFFFE = some 4 := by decide +kernel

/-- The example of the packet queues: a 9,000-byte packet needs 9,008 bytes. -/
theorem test_packet_room : packetRoom 9000 = 9008 := by decide

/-- The example of R166: an ODU0 in four slots has 2,712 positions a frame. -/
theorem test_gmp_positions : gmpP 4 = 2712 := by decide

/-- The example of Table 11.5: slot 2 settles for 31 ticks, slot 40 with DLY_INT 9 for 34. -/
theorem test_settle_length :
    settleLen 2 { SccSlot.reset with cfg := 1 + 2 + 2 * 8 + 49 * 32 } 8000 0 = 31
    ∧ settleLen 40 { SccSlot.reset with cfg := 1 + 2 + 2 * 8 + 39 * 32 } 8000 9 = 34 := by decide +kernel

/-- The DMA example: descriptor 2 would end beyond the limit and fails the window check with code 1. -/
theorem test_dma_window :
    DmaRun.check ⟨3, 0, 0x120000000, 0x120001000, 0x1000000, 0x1400000, 0, 2, none, 0, 0, false, false, true⟩
      ⟨0x120000600, 3072, 1, true, false, true, 0, 0x1000000⟩ = 1 := by decide +kernel

/-- The examples of R482: lines 0, 40, 53 and 95; row index 3 is C, 27 AH, 18 W, 48 BK. -/
theorem test_balls_lines : lineBalls 0 = (3, [1, 2, 4, 5]) ∧ lineBalls 40 = (27, [13, 14, 16, 17])
    ∧ lineBalls 53 = (18, [51, 50, 48, 47]) ∧ lineBalls 95 = (48, [39, 38, 36, 35])
    ∧ [3, 27, 18, 48].map (fun i => rowLetters.getD (i - 1) "") = ["C", "AH", "W", "BK"] := by decide +kernel

/-- The balls of R482 carry the line's signals. -/
theorem test_balls_signals : [13, 14, 16, 17].map (ball 27) = [.lrx 40 true, .lrx 40 false, .ltx 40 true, .ltx 40 false]
    ∧ [51, 50, 48, 47].map (ball 18) = [.lrx 53 true, .lrx 53 false, .ltx 53 true, .ltx 53 false] := by decide +kernel

/-- The example of R483: I2C0_SCL at AV25, GPIO31 at BN27; Table 18.3: VAON at AG24 and AG28. -/
theorem test_balls_spine : ball 36 25 = .bus "I2C_SCL" 0 ∧ ball 51 27 = .bus "GPIO" 31 ∧ ball 26 24 = .vaon ∧ ball 26 28 = .vaon
    ∧ [36, 51, 26].map (fun i => rowLetters.getD (i - 1) "") = ["AV", "BN", "AG"] := by decide +kernel

/-- Every ball of the package. -/
def allBalls : List Ball := (List.range 51).flatMap (fun i => (List.range 51).map (fun j => ball (i + 1) (j + 1)))

/-- Table 18.5. -/
theorem test_balls_count : allBalls.count .vss = 1454 ∧ allBalls.count (.vcore 0) = 147 ∧ allBalls.count (.vcore 1) = 147
    ∧ allBalls.count (.vsd 0) = 96 ∧ allBalls.count (.vtt 1) = 32 ∧ allBalls.count (.vio 1) = 8 ∧ allBalls.count (.vspine 1) = 24
    ∧ allBalls.count (.vspine 2) = 24 := by decide +kernel

/-- Happenings of the fault sources `l` are due. -/
def due (s : State) (l : List Nat) : State := { s with fcr := { s.fcr with due := l.foldl (fun m k => m ||| 2 ^ k) 0 } }

/-- Number, severity and MULTI of FCR_FF, number and severity of FCR_WORST. -/
def records (s : State) : List Nat :=
  [s.get Fld.FCR_FF_SRC_SRC, s.get Fld.FCR_FF_SRC_SEV, s.get Fld.FCR_FF_SRC_MULTI, s.get Fld.FCR_WORST_SRC_SRC, s.get Fld.FCR_WORST_SRC_SEV]

/-- Source 33 has raised. -/
def raised33 : State := run (due up [33]) [.faultEvent [33] []]

/-- Table 16.3 at time 0: FCR_FF takes 33 with severity 2, and vector 1 is asserted. -/
theorem test_fault_first : records raised33 = [33, 2, 0, 33, 2] ∧ raised33.irq.asserted.testBit 1 = true
    ∧ raised33.irq.asserted.testBit 0 = false := by decide +kernel

/-- Table 16.3 before 12.0 µs: FCR_FF is empty; source 35 is due, group 0 of plane A shows FOP, line 3 has a failure. -/
def before12 : State :=
  due (((((run raised33 [.fcrRecordEmpty false]).set (Fld.LCH_LINE_CFG_FORMAT 3) 2).set (Fld.LCH_LINE_STATUS_PWR_STATE 3) 0).set
    (Fld.LCH_DPM_FAIL_FAIL 3) 1).putRec 12 4 0x8000) [35]

/-- Table 16.3 at 12.0 µs: FCR_FF takes 35 with severity 3 and MULTI = 1, FCR_WORST moves to 35, vector 0 is asserted. -/
theorem test_fault_escalated : records (run before12 [.faultEvent [35, 39, 108] []]) = [35, 3, 1, 35, 3]
    ∧ (run before12 [.faultEvent [35, 39, 108] []]).irq.asserted.testBit 0 = true := by decide +kernel

/-- R413: the value write and its complement complete a pair; the chip reset is due. -/
theorem test_guard_pair :
    (run up [.guardValueWrite .host 0x40 1, .guardComplementWrite .host 0x40 0xFFFFFFFE]).guardHost.pair = none := by decide +kernel

/-- An empty queue with the time counter at rest: the device idles. -/
theorem test_idle : step State.reset = .next State.reset := by
  have h : settle State.reset.tkTick = State.reset := by decide +kernel
  exact congrArg Host.Outcome.next h

/-! ## The hypotheses of the statements are met -/

namespace Plain
def w0 : State := up
def w1 : State := up.set Fld.DMA_GLB_STATUS_OWN14_15 1
def opened := { up with guardHost := { up.guardHost with pair := some (0x44, 5) } }
def w2 : State := opened
def D (sct dct sl dl sp dp : Nat) : List Byte := leBytes 4 (sct + 256 * dct + 2^16) ++ leBytes 4 (sl + 65536 * dl) ++ leBytes 4 sp ++ leBytes 4 dp ++ List.replicate 16 0
def flow1 := ((act b2 0 0xD).putBar2 (descAddr 0 0 1) (D 1 1 0 0 0 1))
def w4 : State := msg flow1 1 0x101 [0, 1, 0, 0]
def pended := ((act up 0 8).raise (Fld.LCH_OHP_TX_TRACE_CTL_PEND 0)).modOhp 0 (fun o => { o with txPos := 5 })
def w5 : State := pended
def held := (act up 0 8).raise (Fld.LCH_FRB_STATUS_HOLD 0)
def w6 : State := held
def framed := (act up 0 0xD).set (Fld.LCH_FAU_STATUS_STATE 0) 3
def w7 : State := framed
def slot (f : SccSlot → SccSlot) : State := up.modSlot 127 f
def w8 : State := slot (fun z => { z with run := true })
def w9 : State := slot (fun z => { z with mid := some (5, true) })
def w11 : State := up.raise (Fld.SCC_SLOT_STATUS_SETTLING 127)
def w13 : State := (up.set (Fld.SCC_SLOT_STATUS_SETTLE_LEN 127) 31)
def w15 : State := slot (fun z => { z with fade := some (1, 3, 64) })
def w16 : State := slot (fun z => { z with fade := some (0, 64, 64) })
def w17 : State := up.raise (Fld.SCC_SLOT_CFG_EN 127)
def tick : State := { State.reset with tk := { State.reset.tk with running := true } }
def w18 : State := tick
def owned : State := up.raise (Fld.CVU_STATUS_DMA_OWNED 15)
def w19 : State := owned
def coef (w : Nat) : BitVec 32 := BitVec.ofNat 32 w
end Plain

namespace Guards
def w0 : State := { up with guardHost := ⟨some (0x40, 1)⟩ }
def w1 : State := { up with guardMgmt := ⟨some (0x48, 5)⟩ }
def w7 : State := {up with pcie := ⟨true, true, true, false, false⟩, irq := {up.irq with pulse := 3, pba := 2, asserted := ({up with irq := {up.irq with pulse := 3}}).vectors}}
def w9 : State := (let s := run up [.irqEnableWrite 2 0xFFFFFFFF, .badAccess .bar0 1 true 2]; let s := s.setB (Fld.MSIX_CTRL_MASK 45) false; {s with pcie := ⟨true, true, true, false, false⟩, irq := {s.irq with asserted := s.vectors}})
end Guards

namespace Power
def w0 : State := State.reset
def w1 : State := up
def w2 : State := run State.reset [.vaonPowerOn, .resetNRelease, .feedReturn 0]
def w3 : State := run State.reset [.vaonPowerOn, .resetNRelease, .feedReturn 1, .internalResetRelease true 1 false]
def w4 : State := run up [.chipSleepEnter 0xA55A0001]
def asleep : State := run up [.chipSleepEnter 0xA55A0001, .chipSleepEntryComplete]
def w5 : State := asleep
def w7 : State := run up [.glbChipReset 1]
def w8 : State := run up [.glbChipReset 1, .chipReset]
def w10 : State := asleep.setReg Reg.AON_WAKE_CFG 63
def w11 : State := run ((run up [.chipSleepEnter 0xA55A0001]).setReg Reg.AON_WAKE_CFG 63) [.wakeEvent 5]
end Power

namespace Faults
def w1 : State := up
def hap (s : State) (k : Nat) : State := s.happen k
def bad : State := run up [.badAccess .bar0 1 true 2, .guardWindowExpiry .host, .guardWideWrite .host 0x40]
def bad2 : State := nx bad (execFaultEvent [601] [])
def w5 : State := hap (hap bad2 33) 65
def testmode : State := run State.reset [.vaonPowerOn, .resetNRelease, .feedReturn 0, .feedReturn 1, .internalResetRelease true 0 true, .corePllLock 0, .corePllLock 1, .planeInitComplete 0, .planeInitComplete 1]
def inj := nx testmode (execFcrInjUnlock 1)
def w8 : State := inj
def w9 : State := nx inj (execFcrInjGo 97 false 7)
def w10 : State := nx inj (execFcrInjGo 101 true 7)
def w14 : State := up.modPlane 0 (fun pl => { pl with stopped := true })
end Faults

namespace Mail
def w1 : State := up
def b1 := fw up 1
def w4 : State := msg b1 1 1 [1,2,3]
def b3 := fw up 3
def w6 : State := msg b3 0 2 []
def w7 : State := msg b2 0 2 [5]
def w8 : State := msg b2 1 0x11 []
def w9 : State := msg b1 1 0x11 []
def w10 : State := msg b2 0 0x11 []
def brk (s : State) (r k : Nat) : State := s.putBar2Num (slotAddr r 0 + k) 4 9999
def w11 : State := brk (msg b2 1 1 [3]) 1 4
def w12 : State := brk (msg b2 1 1 [3]) 1 12
def w13 : State := brk (msg b2 1 0x11 []) 1 4
def w14 : State := brk (msg b2 1 0x11 []) 1 12
def w15 : State := msg b1 1 9 []
def evq := msg b2 1 3 (le 8 0x10000 ++ le 4 4096 ++ le 4 1 ++ le 4 1)
def w16 : State := evq
def evq' := run evq [.evqSet]
def w17 : State := evq'
def w18 : State := msg b2 2 0x500 (le 8 0x10000 ++ le 4 4096 ++ le 4 1)
def w19 : State := msg b3 1 0x401 (le 4 9600 ++ [3,0,0,0])
def w20 : State := msg b3 1 0x401 (le 4 960 ++ [3,0,0,0])
def w21 : State := (msg b1 1 0x10 [1,0,0,0])
def w22 : State := (msg b1 1 0x10 [2,0,0,0])
def w23 : State := msg b2 1 0x12 []
def b5 := fw up 5
def w24 : State := msg (b5) 1 0x13 []
def w25 : State := msg b2 0 0x701 []
def w26 : State := msg (b5.set Fld.MGMT_FW_STATE_SVN 5) 1 0x702 [3,0,0,0]
def w27 : State := msg (b5.set Fld.MGMT_FW_STATE_SVN 5) 1 0x702 [0,0,0,0]
def meas : State := run { b5 with pcie := { b5.pcie with linkUp := true, busMaster := true }, bar2 := [(262144, 3), (262145, 7), (262146, 7), (262148, 0x34), (262156, 0x2c), (262157, 9), (262158, 0x51), (262159, 0x56), (262197, 8), (262204, 0x28), (262205, 0x23), (262208, 1)] } [.mbxDoorbell 1 1]
end Mail

namespace Lines
def l1 := act (act (act b2 0 0xD) 1 0xD) 2 8
def w1 : State := msg l1 1 0x100 [0, 0xE, 1, 0, 0, 0, 0, 0]
def dz := (l1.set (Fld.LCH_LINE_STATUS_PWR_STATE 1) 1).modLane 1 (fun l => { l with dozeCmd := true })
def w3 : State := msg dz 1 0x100 [200, 0xE, 1, 0, 0, 0, 0, 0]
def w4 : State := msg dz 1 0x100 [1, 0x1E, 1, 0, 0, 0, 0, 0]
def w5 : State := msg l1 1 0x101 [0, 1, 0, 0]
def w7 : State := msg dz 1 0x101 [1, 0, 0, 0]
def modl := (((b2.set (Fld.PIN_MOD_DESC_TYPE 3) 1).set (Fld.PIN_MOD_DESC_BUS 3) 2))
def acc := msg modl 1 0x102 [3, 0, 0, 0, 0, 0, 4, 0]
def w8 : State := acc
def w9 : State := msg (modl.raise (Fld.PIN_BUS_STATUS_FAILED 2)) 1 0x102 [3, 0, 0, 0, 0, 0, 4, 0]
def w10 : State := run acc [.moduleAccess]
def w11 : State := msg l1 1 0x400 [4, 3, 0, 50, 95]
def th := msg l1 1 0x103 [0, 1, 1, 0]
def w12 : State := th
def w13 : State := msg (run th [.throughConfig]) 1 0x103 [0, 1, 0, 0]
def l2 := act (act b2 0 8) 1 8
def pg := msg l2 1 0x300 [5, 1, 0x8, 0, 1, 0, 0, 0]
def w14 : State := pg
def w15 : State := msg l1 1 0x301 ([9, 0, 1, 0] ++ le 2 16 ++ [0, 0] ++ le 4 0x3 ++ le 4 0xC)
def w16 : State := msg (run pg [.pgCreate]) 1 0x302 [5, 0, 0, 0]
end Lines

namespace Boot
def w1 : State := up
def w2 : State := b2
def act' (n f : Nat) (s : State) : State := act s n f
def b5 := fw up 5
def prb := msg (act' 2 8 b5) 1 0x800 (le 12 4 ++ [0, 1, 0, 0] ++ le 4 30)
def w3 : State := prb
def scr := msg b2 1 0x501 [0, 0, 0, 0]
def w4 : State := scr
def reb := msg b2 1 0x200 ([0, 1, 0, 0] ++ le 4 1 ++ le 8 8 ++ le 4 36 ++ [0,0,0,0])
def w5 : State := reb
def fwl := msg b5 1 0x700 ([1,0,0,0] ++ le 8 8 ++ le 4 8300 ++ [0,0,0,0])
def w6 : State := fwl
def tw0 : State := { b2 with power := { b2.power with twinTaken := true } }
def tws := (((tw0.set Fld.TWN_STATUS_STATE_A 6).set Fld.TWN_STATUS_STATE_B 5).raise Fld.TWN_STATUS_CONFIRMED)
def rs := msg tws 1 0x600 []
def w7 : State := rs
def w8 : State := run prb [.prbsTest]
def w9 : State := run scr [.scrub]
def w10 : State := run reb [.epochRebuild []]
def imaged := b2.putOp 0 (some ⟨⟨1, 0, 0x700, 7, false, false, 2⟩, false, 0, 0, leBytes 4 3 ++ [1, 2, 3], false⟩)
def w12 : State := imaged
def cancel := msg (run scr [.scrub]) 2 0x14 [0, 0, 0, 0]
def w13 : State := cancel
def w15 : State := msg b2 2 0x14 [3,0,0,0]
def w16 : State := run scr [.scrub, .longOpProgress 0 150 3]
def w17 : State := { scr with mbx := { scr.mbx with ops := List.replicate 8 (some ⟨⟨0,0,0x700,0,false,false,1⟩, false, 1, 0, [], false⟩) } }
def rst := run (msg b2 1 0x701 []) [.mgmtRestart]
def w18 : State := rst
def rst1 := run rst [.managementRestart]
def w20 : State := (rst1.set Fld.MGMT_BOOT_STATUS_PHASE 4)
def w21 : State := { (rst1.set Fld.MGMT_BOOT_STATUS_PHASE 4) with boot := { rst1.boot with retained := none } }
def w22 : State := up.set Fld.MGMT_BOOT_STATUS_PHASE 4
def w23 : State := run up [.flashBootAttempt 0 false [] false]
def w25 : State := run up [.flashBootAttempt 0 false [] false, .flashBootAttempt 1 false [] false, .pushGo]
def w27 : State := b2.raise Fld.MGMT_FW_STATE_OVERLOAD
end Boot

namespace Lanes
def w0 : State := State.reset
def w1 : State := up
def a2 (s : State) := (act (act s 0 0xD) 2 8)
def l1 := (a2 b2)
def w3 : State := l1
def cd := l1.raise (Fld.LCH_LINE_STATUS_CDR_LOCK 0) |>.raise (Fld.LCH_LINE_STATUS_SD 0)
def w4 : State := cd
def dma1 : State := { b2 with dma := { b2.dma with chans := modD ⟨none, 0, none⟩ b2.dma.chans 0 (fun x => { x with run := some ⟨0,0,0,0,0,0,0,3,none,0,0,false,false,true⟩ }) }, pcie := ⟨true, true, true, false, false⟩ }
def w7 : State := dma1
def w9 : State := run dma1 [.perstNRelease]
def wk := (((l1.set (Fld.LCH_LINE_STATUS_PWR_STATE 0) 1).raise (Fld.LCH_LINE_CFG_WAKE_ON_SD 0)).modLane 0 (fun l => { l with newFormat := none }))
def w10 : State := wk
def tr (s : State) (x : LineTrans) (c : Bool) := s.modLane 0 (fun l => { l with trans := x, dozeCmd := c })
def lk := cd.set (Fld.LCH_FAU_STATUS_STATE 0) 3 |>.modFau 0 (fun f => { f with lock := some 5 })
def w11 : State := tr lk (.entry true) true
def w13 : State := tr lk (.move true) true
def w14 : State := tr (act cd 0 0xE) (.exit) false
def modl := ((((b2.set (Fld.PIN_MOD_DESC_TYPE 3) 1).set (Fld.PIN_MOD_DESC_BUS 3) 2).raise (Fld.PIN_BUS_CFG_EN 2)).setReg (Reg.PIN_ITEM_CTL 3 1) (BitVec.ofNat 32 (2^23 + 2^20 + 2^16 * 2))).setReg (Reg.PIN_ITEM_OP_B_LO 3 1) 255
def pp := run modl [.pollPassStart 2]
def w18 : State := pp
def pq := run pp [.pollItemComplete 2 (.ack [0, 0])]
def w19 : State := pq
def pr := run pq [.pollPassEnd 2 77]
def alm := ((run pr [.pollPassStart 2, .pollItemComplete 2 (.ack [0, 0])]))
def w21 : State := alm
def alm2 := (run alm [.moduleAlarmChange 3 1]).modModule 3 (fun d => { d with failRun := [0, 2], nackRun := 3 })
def w22 : State := alm2
def alm3 := (run alm2 [.modulePresenceChange 3]).modModule 3 (fun d => { d with ackRun := 2 })
def w23 : State := alm3
def w24 : State := pp.raise (Fld.PIN_BUS_STATUS_FAILED 2)
end Lanes

namespace Frames
def w1 : State := b2
def cdr (s : State) (n : Nat) := s.raise (Fld.LCH_LINE_STATUS_CDR_LOCK n) |>.raise (Fld.LCH_LINE_STATUS_SD n)
def l1 := act (act (act b2 0 0xD) 2 8) 3 0xB
def cd := cdr (cdr (cdr l1 0) 2) 3
def w2 : State := cd
def W (n : Nat) : RxWord := ⟨BitVec.ofNat 64 n, 0x1234, [], []⟩
def f1 := run cd [.fauWord 0 (W 0xB4E271C80D9A0000), .fauWord 2 (W 0xF6F6), .fauWord 2 (W 0xF62828280000)]
def w3 : State := f1
def st (s : State) (n k : Nat) := s.set (Fld.LCH_FAU_STATUS_STATE n) k
def trk : Tracker := ⟨77, 2, 13, 0, 4, 3⟩
def hu := (st cd 2 2).modFau 2 (fun f => { f with trackers := [trk] })
def w4 : State := hu
def lk := (st cd 2 4).modFau 2 (fun f => { f with lock := some 5, lossDue := true, miss := 2, passes := 5, trackers := [] })
def w5 : State := lk
def lk2 := lk.modFau 2 (fun f => { f with trackers := [trk] })
def lk3 := (lk2.raise (Fld.LCH_FAU_HUNT_CFG_SLIP_FOLLOW 2))
def w7 : State := lk3
def mf := (st cd 3 3).modFau 3 (fun f => { f with mfGood := 2, mfBad := 5, lock := some 3 })
def w11 : State := mf
def mf2 := mf.raise (Fld.LCH_FAU_STATUS_MF_LOCK 3)
def w12 : State := mf2
def pr := ((cd.raise (Fld.LCH_PRBS_CFG_CHK_EN 2)))
def w13 : State := pr
def prg (l : Nat) : State := ((pr.raise (Fld.LCH_PRBS_CFG_GEN_EN 2)).modLine 2 (fun x => { x with prbs := { x.prbs with gen := 77 } })).modLane 2 (fun x => { x with loopback := l })
def w15 : State := prg 3
def pr1 := run pr [.prbsWordCheck 2 0x123456789ABCDEF1]
def pr2 := pr1.raise (Fld.LCH_PRBS_STATUS_SYNC 2)
def w17 : State := pr2
def mx := (st cd 0 3)
def conf := mx.raise Fld.TWN_STATUS_CONFIRMED
def tx0 := run conf [.mxfFrameTx 0]
def w20 : State := tx0
def w24 : State := mx.modMxf 0 (fun m => { m with qlRun := 3 })
def ms : PeerMsg := ⟨0xA0, 0, 3, 0x1234, 0⟩
def rq := run mx [.pmcSendRequest 0 ms]
def w25 : State := rq
def rq17 := run rq (List.replicate 16 (.pmcSendRequest 0 ms))
def w26 : State := rq17
def wt (s : State) (k : Nat) := s.modMxf 0 (fun m => { m with out := m.out.map (fun o => { o with due := false, waited := 300, resends := k }) })
def w27 : State := wt rq 0
def w28 : State := wt rq 7
def rm (x : PeerMsg) (a : Nat) := mx.modMxf 0 (fun m => { m with rxMsg := some x, ackSeq := a })
def w29 : State := rm ms 5
def m0 : PeerMsg := ⟨0xA0, 9, 3, 0x1234, 0⟩
def w30 : State := rm m0 9
def m1 : PeerMsg := ⟨0x01, 9, 3, 0x1234, 2^56 + 15 * 2^48⟩
def w31 : State := rm m1 0
def m2 : PeerMsg := ⟨0x05, 9, 3, 0x1234, 0⟩
def w32 : State := rm m2 0
end Frames

namespace Overhead
def w0 : State := State.reset
def w1 : State := b2
def ins (s : State) (n : Nat) : State := [0,1,2,3,4].foldl (fun s n => [0,1,2,3].foldl (fun s c => ((s.raise (Fld.LCH_OHP_INS_CFG_EN n c)).raise (Fld.LCH_OHP_CAP_CFG_EN n c)).set (Fld.LCH_OHP_INS_CFG_FILL n c) 0x5A) s) s
def l1 := act (act (act (act b2 0 0xD) 2 8) 3 0xB) 4 2
def l2 := ins l1 0
def inf := [0,2,3,4].foldl (fun s n => s.set (Fld.LCH_FAU_STATUS_STATE n) 3) l2
def w2 : State := inf
def mxo := inf.modMxf 0 (fun m => { m with oh := some (0x12345678, some [1,2,3,4,5,6,7,8]) })
def w10 : State := mxo
def es := (inf.set (Fld.LCH_OHP_RX_CFG_ESMC_EN 4) 1).set (Fld.LCH_OHP_CAP_CFG_THR 4 3) 16
def esT := (es.ringPut (insRing 4 3) 0 (leBytes 2 20 ++ List.replicate 100 3)).set (Fld.LCH_OHP_INS_WR_V 4 3) 60
def w13 : State := esT
def insd := [2,3].foldl (fun s n => [0,1,2].foldl (fun s c => (s.ringPut (insRing n c) 0 (List.replicate 20 (BitVec.ofNat 8 (n + c)))).set (Fld.LCH_OHP_INS_WR_V n c) 20) s) es
def cm := ((insd.set (Fld.LCH_OHP_TX_TRACE_CTL_PEND 2) 0x81).set (Fld.LCH_OHP_TX_TRACE_CTL_PEND 3) 3).setReg (Reg.LCH_OHP_TRACE_TX 3 16) 0x01020304
def w16 : State := cm
def conf (s : State) := s.raise Fld.TWN_STATUS_CONFIRMED
def w17 : State := conf insd
def eth1 := act (inf.set (Fld.LCH_FAU_STATUS_STATE 4) 3) 4 1
def w19 : State := eth1
def esmcF (n : Nat) : List Byte := [0x01,0x80,0xC2,0,0,2,1,2,3,4,5,6,0x88,0x09,0x0A,0,0x19,0xA7] ++ List.replicate (n - 18) 7
def tr (s : State) (r : Nat) (bs : List Byte) := [0,2,3].foldl (fun s n => [0,1,7].foldl (fun s t => s.modTrace n t (fun x => { x with last := bs, run := r })) s) s
end Overhead

namespace Through
def l1 := act (act (act (act b2 0 0xD) 2 8) 3 0xB) 4 2
def inf := [0,2,3,4].foldl (fun s n => (s.set (Fld.LCH_FAU_STATUS_STATE n) 3).raise (Fld.LCH_LINE_STATUS_CDR_LOCK n)) l1
def w1 : State := inf
def pair (s : State) (n i : Nat) := (act s i (s.format n)).setReg (Reg.LCH_OHP_THRU_CFG n) 0 |>.raise (Fld.LCH_OHP_THRU_CFG_ENABLE n) |>.set (Fld.LCH_OHP_THRU_CFG_SRC_LINE n) i |>.set (Fld.LCH_FAU_STATUS_STATE i) 3 |>.raise (Fld.LCH_LINE_STATUS_CDR_LOCK i)
def p1 := pair (pair (pair (pair inf 0 10) 2 12) 3 13) 4 14
def w2 : State := p1
def go := run p1 [.throughStart 0, .throughStart 2, .throughStart 3, .throughStart 4]
def w3 : State := go
def lost := [10,12,13,14].foldl (fun s n => s.set (Fld.LCH_FAU_STATUS_STATE n) 1) go
def w4 : State := lost
def fb := run lost [.throughFallback 0, .throughFallback 2, .throughFallback 3, .throughFallback 4]
def back := [10,12,13,14].foldl (fun s n => s.set (Fld.LCH_FAU_STATUS_STATE n) 3) fb
def w6 : State := back
def un (s : State) := run s [.throughUnit 0 (.words 0x123456789 0x55), .throughUnit 2 (.words 0xF6F6F6F6F6F6F6 0x28282828), .throughUnit 3 (.words 0xF6F6F62828280012 9)]
def w7 : State := un go
def posi (s : State) (k : Nat) := [0,2,3].foldl (fun s n => s.modThru n (fun t => { t with pos := k, frame := List.replicate k 0x11 })) s
def mcc := (posi (un (un (un go))) 48).modThru 0 (fun t => { t with chk := true, ins := [(48,1),(49,2),(50,3),(51,4),(52,5),(53,6),(54,7),(55,8)] })
def w14 : State := mcc
def twn (s : State) : State := { s with power := { s.power with twinTaken := true } }
def tw : State := act (((b2.raise Fld.TWN_STATUS_CONFIRMED) : State)) 5 0xD
def tw1 := (((twn tw).set Fld.TWN_STATUS_STATE_A 4).set Fld.TWN_STATUS_STATE_B 4)
def w16 : State := tw1
def tw2 := (tw1.set Fld.TWN_STATUS_HOLDER 1).modTw 0 (fun t => { t with output := true })
def w17 : State := tw2
def hold := run tw1 [.lineWordTx 5 none none false]
def w18 : State := hold
def back2 := [0,2,3,4].foldl (fun s n => s.modThru n (fun t => { t with back := 2 })) back
def w20 : State := back2
def heth := (act tw2 5 2).raise (Fld.LCH_FRB_STATUS_HOLD 5)
def w21 : State := heth
end Through

namespace Tables
def chk (p : Nat) (s : State) := (s.raise (Fld.MAP_EPOCH_STATUS_CHECKED p)).set (Fld.MAP_EPOCH_CRC_CRC p) 0x1234
def qs (p : Nat) (s : State) := [1,3,5].foldl (fun s q => (((s.qset p q 0 (q * 8 + 1 * 2^13)).qset p q 8 100).qset p q 0xC 100).modFlow p q (fun c => { c with queue := [⟨0, List.replicate 64 1⟩] })) s
def setD (s : State) (p e f : Nat) (d : List Byte) := s.putBar2 (descAddr p e f) d
def D (sct dct sl dl sp dp : Nat) (fl : Nat := 0) : List Byte := leBytes 4 (sct + 256 * dct + 2^16 * (1 + fl)) ++ leBytes 4 (sl + 65536 * dl) ++ leBytes 4 sp ++ leBytes 4 dp ++ List.replicate 16 0
def chgf := 16
def fl1 (p : Nat) (s : State) := setD (setD (setD (setD (setD (setD s p 0 1 (D 0x40 0x30 4 0 0 7)) p 0 2 (D 1 1 2 2 0 1)) p 0 3 (D 0x30 0x40 0 4 7 0)) p 1 1 (D 0x40 0x30 4 0 0 0x38 chgf)) p 1 2 (D 1 1 2 2 0 1)) p 1 5 (D 0x40 0x30 4 0 0 7 chgf)
def l1 := act (act (act (act (act b2 0 0xD) 2 8) 3 0xB) 4 2) 50 0xD
def inf := [0,2,3,4,50].foldl (fun s n => (s.set (Fld.LCH_FAU_STATUS_STATE n) 3).raise (Fld.LCH_LINE_STATUS_CDR_LOCK n)) (l1.raise Fld.TWN_STATUS_CONFIRMED)
def w0 := chk 0 (qs 0 (fl1 0 inf))
def w1 : State := inf
def com := run w0 [.epochCommit 0]
def side := run com ([0,2,3,4].flatMap (fun n => [Instr.epochSideSwitch n .receive]))
def sideN := run side ([2,3,4].flatMap (fun n => [Instr.epochSideSwitch n .transmit]))
def done1 := run sideN [.epochSideSwitch 0 .transmit]
def w6 : State := done1
end Tables

namespace Packets
def goodF (n : Nat) : List Byte := let b := List.replicate n (0x33 : Byte); b ++ fcsOf b
def q1 (p : Nat) (s : State) := [1,3,5].foldl (fun s q => ((s.qset p q 0x10 28).modFlow p q (fun c => { c with queue := [⟨0, goodF 60⟩], gfp := 2, gfpDue := if q = 1 then none else some 1 }))) s
def qs (p : Nat) (s : State) := [1,3,5].foldl (fun s q => (((s.qset p q 0 (q * 8 + 1 * 2^13)).qset p q 8 100).qset p q 0xC 100)) s
def setD (s : State) (p e f : Nat) (d : List Byte) := s.putBar2 (descAddr p e f) d
def D (sct dct sl dl sp dp : Nat) (fl : Nat := 0) : List Byte := leBytes 4 (sct + 256 * dct + 2^16 * (1 + fl)) ++ leBytes 4 (sl + 65536 * dl) ++ leBytes 4 sp ++ leBytes 4 dp ++ List.replicate 16 0
def fl1 (p : Nat) (s : State) := setD (setD (setD (setD (setD s p 0 1 (D 0x40 0x30 4 0 0 7)) p 0 2 (D 1 1 2 2 0 1)) p 0 3 (D 0x30 0x40 0 4 7 0)) p 0 5 (D 0x30 0x40 0 4 8 0)) p 0 0 (D 3 3 0 0 0x30 0x30)
def l1 := act (act (act (act (act b2 0 0xD) 2 8) 3 0xB) 4 2) 50 0xD
def inf := [0,2,3,4,50].foldl (fun s n => (s.set (Fld.LCH_FAU_STATUS_STATE n) 3).raise (Fld.LCH_LINE_STATUS_CDR_LOCK n)) (l1.raise Fld.TWN_STATUS_CONFIRMED)
def w0 := (qs 0 (fl1 0 inf))
def w1 := q1 0 w0
end Packets

namespace Marks
def l1 := act (act (act (act (act b2 0 0xD) 2 8) 3 0xB) 4 2) 50 0xD
def inf := [0,2,3,4,50].foldl (fun s n => (s.set (Fld.LCH_FAU_STATUS_STATE n) 3).raise (Fld.LCH_LINE_STATUS_CDR_LOCK n)) (l1.raise Fld.TWN_STATUS_CONFIRMED)
def w1 : State := inf
def tcm (s : State) := s.modOhp 3 (fun o => { o with tcmRx := 0xFFA, fresh := true })
def dp (s : State) := [0,2,3,4].foldl (fun s n => s.modDpm n (fun d => { d with on := List.replicate 20 3, off := List.replicate 20 5, here := List.replicate 20 2500000000, gone := List.replicate 20 10000000000, tcmOn := List.replicate 42 3, tcmOff := List.replicate 42 3, tcmDef := 0x5555, bad := List.replicate 8 9 })) s
def ctx (p : Nat) (s : State) := [0,1,2,3,5].foldl (fun s f => s.modFlow p f (fun c => { c with on := [0,1,1,3,1,0,1,1,1,5,0,1,1,1,1], off := [0,1,1,3,1,0,1,1,1,5,0,1,1,1,1], here := List.replicate 16 2500000000, gone := List.replicate 16 10000000000, fail := 0xF0, csf := true, gfp := 1, st := f % 3 })) s
def setD (s : State) (p e f : Nat) (d : List Byte) := s.putBar2 (descAddr p e f) d
def D (sct dct sl dl sp dp : Nat) (fl : Nat := 0) : List Byte := leBytes 4 (sct + 256 * dct + 2^16 * (1 + fl)) ++ leBytes 4 (sl + 65536 * dl) ++ leBytes 4 sp ++ leBytes 4 dp ++ List.replicate 16 0
def fl1 (p : Nat) (s : State) := setD (setD (setD (setD (setD s p 0 1 (D 1 1 2 2 0 0)) p 0 2 (D 3 3 2 2 1 1)) p 0 3 (D 0x30 0x30 0 0 0x7 0x7)) p 0 5 (D 0x10 0x10 0 0 1 1)) p 0 0 (D 1 2 2 0 0x30 0x30)
def f1 := fl1 0 inf
def g1 := tcm (dp (ctx 0 f1))
def w3 : State := g1
end Marks

namespace Passes
def algn (s : State) : State := { (((s.set (Fld.DMA_CH_CFG_TRIG 0) 1).set (Fld.DMA_CH_CFG_TMR 0) 2).raise (Fld.DMA_CH_CFG_EN 0)).raise (Fld.DMA_TMR_CFG_EN 2) with dma := { s.dma with align := putD false s.dma.align 2 true }, pcie := { s.pcie with linkUp := true, busMaster := true } }
def cwt (s : State) : State := (s.set (Fld.TMG_CAND_STATUS_STATE 3) 1).set (Fld.TMG_CAND_STATUS_WTR_LEFT 3) 9
def tim (s : State) (sec ns : Nat) : State := { s with tk := { s.tk with running := true, sec := sec, ns := ns } }
def setD (s : State) (p e f : Nat) (d : List Byte) := s.putBar2 (descAddr p e f) d
def dp (s : State) := [0,2,3,4].foldl (fun s n => s.modDpm n (fun d => { d with on := List.replicate 20 3, off := List.replicate 20 5, here := List.replicate 20 2500000000, gone := List.replicate 20 10000000000, tcmOn := List.replicate 42 3, tcmOff := List.replicate 42 3, tcmDef := 0x5555, bad := List.replicate 8 9 })) s
def D (sct dct sl dl sp dp : Nat) (fl : Nat := 0) : List Byte := leBytes 4 (sct + 256 * dct + 2^16 * (1 + fl)) ++ leBytes 4 (sl + 65536 * dl) ++ leBytes 4 sp ++ leBytes 4 dp ++ List.replicate 16 0
def fl1 (p : Nat) (s : State) := setD (setD (setD (setD (setD s p 0 1 (D 1 1 2 2 0 0)) p 0 2 (D 3 3 2 2 1 1)) p 0 3 (D 0x30 0x30 0 0 0x7 0x7)) p 0 5 (D 0x10 0x10 0 0 1 1)) p 0 0 (D 1 2 2 0 0x30 0x30)
def l1 := act (act (act (act (act b2 0 0xD) 2 8) 3 0xB) 4 2) 50 0xD
def inf := [0,2,3,4,50].foldl (fun s n => (s.set (Fld.LCH_FAU_STATUS_STATE n) 3).raise (Fld.LCH_LINE_STATUS_CDR_LOCK n)) (l1.raise Fld.TWN_STATUS_CONFIRMED)
def f1 := fl1 0 inf
def w0 : State := algn (cwt (tim f1 0 0))
def oddp (s : State) := (s.set (Fld.DPM_PM_SEQ_SEQ 0) 5)
def tcm (s : State) := s.modOhp 3 (fun o => { o with tcmRx := 0xFFA, fresh := true })
def ctx (p : Nat) (s : State) := [0,1,2,3,5].foldl (fun s f => s.modFlow p f (fun c => { c with on := [0,1,1,3,1,0,1,1,1,5,0,1,1,1,1], off := [0,1,1,3,1,0,1,1,1,5,0,1,1,1,1], here := List.replicate 16 2500000000, gone := List.replicate 16 10000000000, fail := 0xF0, csf := true, gfp := 1, st := f % 3 })) s
def g1 := tcm (dp (ctx 0 f1))
def w5 : State := tim (oddp g1) 899 5
def step (s : State) (a b : Nat) := (s.set Fld.AON_TK_STEP_S_STEP a).set Fld.AON_TK_STEP_NS_STEP b
def w10 : State := step g1 5 1000000000
def svc (s : State) : State := (s.set Fld.MGMT_FW_STATE_STATE 3).modPlane 0 (fun p => { p with int15 := 5, int24 := 3 })
def pmx (s : State) : State := { svc s with mbx := { s.mbx with pmx := some (0x10000, 4096), tcaFwd := true }, pcie := { s.pcie with busMaster := true, cfgReady := true, linkUp := true } }
def w11 : State := pmx f1
def tca (s : State) := (pmx s).set (Fld.DPM_TCA_WR_WR 0) 3
def w12 : State := tca f1
end Passes

namespace Groups
def aps (s : State) (v k : Nat) := s.modOhp 5 (fun o => { o with aps := (v, k) })
def grp (p g : Nat) (sch arch bid rev hold : Nat) (s : State) :=
  [(LG.scheme, sch), (LG.arch, arch), (LG.bidir, bid), (LG.revert, rev), (LG.apsEn, 1), (LG.wLine, 2), (LG.pLine, 5), (LG.holdoff, hold), (LG.wtrS, 300)].foldl (fun s x => s.lgSet p g x.1 x.2) s
def ina (s : State) (n f : Nat) := ((act s n f).set (Fld.LCH_FAU_STATUS_STATE n) 3).raise (Fld.LCH_LINE_STATUS_CDR_LOCK n)
def l1 := act (act (act (act (act b2 0 0xD) 2 8) 3 0xB) 4 2) 50 0xD
def inf := [0,2,3,4,50].foldl (fun s n => (s.set (Fld.LCH_FAU_STATUS_STATE n) 3).raise (Fld.LCH_LINE_STATUS_CDR_LOCK n)) (l1.raise Fld.TWN_STATUS_CONFIRMED)
def base := ina inf 5 8
def g1 := grp 0 0 1 0 0 1 0 base
def g2 := grp 0 47 1 1 1 0 5 (grp 0 1 1 0 1 1 5 g1)
def w9 : State := aps g2 0x045A 3
def at' (s : State) (a : Nat) := (s.set Fld.PRT_REC_ADDR_ADDR a).raise Fld.PRT_REC_ADDR_AUTOINC
def w25 : State := at' g2 4
end Groups

namespace Planes
def sgs (a b : List (Nat × Nat)) (s : State) := (s.modTw 0 (fun t => { t with sigs := a })).modTw 1 (fun t => { t with sigs := b })
def sq (n : Nat) (s : State) := s.set64 Reg.TWN_SQF_LO n
def cmpAt (c e : Nat) (s : State) := s.modTwin (fun t => { t with cmp := c, equal := e })
def st (a b : Nat) (s : State) := (s.set Fld.TWN_STATUS_STATE_A a).set Fld.TWN_STATUS_STATE_B b
def twn (s : State) : State := { s with power := { s.power with twinTaken := true } }
def l1 := act (act (act (act (act b2 0 0xD) 2 8) 3 0xB) 4 2) 50 0xD
def inf := [0,2,3,4,50].foldl (fun s n => (s.set (Fld.LCH_FAU_STATUS_STATE n) 3).raise (Fld.LCH_LINE_STATUS_CDR_LOCK n)) (l1.raise Fld.TWN_STATUS_CONFIRMED)
def t0 := twn inf
def w1 : State := sgs [(5, 11)] [] (sq 7 (cmpAt 5 3 (st 3 3 t0)))
def w2 : State := sgs [(5, 11)] [(5, 11)] (sq 10 (cmpAt 5 3 (st 3 3 t0)))
def w4 : State := sgs [(5, 11)] [] (sq 10 (cmpAt 5 3 (st 3 3 t0)))
def due (p : Nat) (k : Bool) (s : State) := s.modTw p (fun t => { t with initDue := true, keep := k })
def fl (p : Nat) (l : List Nat) (s : State) := s.modTw p (fun t => { t with faults := l })
def D (sct dct sl dl sp dp : Nat) (fl : Nat := 0) : List Byte := leBytes 4 (sct + 256 * dct + 2^16 * (1 + fl)) ++ leBytes 4 (sl + 65536 * dl) ++ leBytes 4 sp ++ leBytes 4 dp ++ List.replicate 16 0
def dirtyP (p : Nat) (s : State) := ((((s.putBar2 (descAddr p 0 1) (D 1 1 2 2 0 0)).putRec (p * 0x800000 + 0x20000) 4 77).modFlow p 1 (fun c => { c with scr := 1 })).setReg (0x400100 + p * 0x100) 1).putBar2 (0x2000000 + p * 0x800000) [4,5]
def w5 : State := due 0 false (due 1 false (dirtyP 0 inf))
def rs (r : Resync) (s : State) := s.modTwin (fun t => { t with resync := some r })
def w22 : State := sq 2 (cmpAt 0 15 (st 3 3 (rs ⟨0, true, 2, []⟩ t0)))
def auto (s : State) := s.raise Fld.TWN_LEASE_CFG_AUTO_RESYNC
def w23 : State := auto (st 6 5 t0)
def w27 : State := rs ⟨0, true, 0, []⟩ (st 2 5 (dirtyP 1 (dirtyP 0 t0)))
end Planes

namespace Lease
def twn (s : State) : State := { s with power := { s.power with twinTaken := true } }
def l1 := act (act (act (act (act b2 0 0xD) 2 8) 3 0xB) 4 2) 50 0xD
def inf := [0,2,3,4,50].foldl (fun s n => (s.set (Fld.LCH_FAU_STATUS_STATE n) 3).raise (Fld.LCH_LINE_STATUS_CDR_LOCK n)) (l1.raise Fld.TWN_STATUS_CONFIRMED)
def t0 := twn inf
def w1 : State := t0
def live (v : Nat) (s : State) := s.set Fld.TWN_HB_STATUS_LIVE v
def st (a b : Nat) (s : State) := (s.set Fld.TWN_STATUS_STATE_A a).set Fld.TWN_STATUS_STATE_B b
def b := live 15 (st 4 4 t0)
def w2 : State := b
def miss (v : Nat) (s : State) := (List.range 4).foldl (fun s k => s.set (missField k) v) s
def w4 : State := miss 5 b
def good (v : Nat) (s : State) := (List.range 4).foldl (fun s k => s.setGood k v) s
def w7 : State := good 8 (live 0 b)
def hold (h : Nat) (s : State) := s.set Fld.TWN_STATUS_HOLDER h
def w10 : State := hold 1 b
def w11 : State := hold 2 b
def leased (a b : Bool) (s : State) := s.modTwin (fun t => { t with leased := a, firstOver := b })
def w14 : State := leased true false b
def xf (x : Transfer) (s : State) := s.modTwin (fun t => { t with xfer := some x })
def sq (n : Nat) (s : State) := s.set64 Reg.TWN_SQF_LO n
def w23 : State := xf ⟨0, 5, true⟩ (hold 2 (sq 7 b))
end Lease

namespace Cands
def l1 := act (act (act (act (act b2 0 0xD) 2 8) 3 0xB) 4 2) 50 0xD
def inf := [0,2,3,4,50].foldl (fun s n => (s.set (Fld.LCH_FAU_STATUS_STATE n) 3).raise (Fld.LCH_LINE_STATUS_CDR_LOCK n)) (l1.raise Fld.TWN_STATUS_CONFIRMED)
def t0 := inf
def w1 : State := t0
def ql (c src v : Nat) (s : State) := ((s.set (Fld.TMG_CAND_CFG_QL_SRC c) src).set (Fld.TMG_CAND_CFG_QL_STATIC c) v).set (Fld.TMG_CAND_STATUS_QL c) v
def st (v : Nat) (s : State) := [0,1,7].foldl (fun s d => s.set (Fld.TMG_DPLL_STATUS_STATE d) v) s
def cnd (c st : Nat) (s : State) := (((s.raise (Fld.TMG_CAND_CFG_EN c)).set (Fld.TMG_CAND_STATUS_STATE c) st).set (Fld.TMG_CAND_FREQ_NOM_HZ c) 10000000).modCand c (fun x => { x with pin := true, updates := 10 }) |>.raise (Fld.TMG_CAND_STATUS_ACT c)
def t1 := ql 0 0 2 (ql 1 0 4 (ql 7 2 8 (cnd 0 2 (cnd 1 2 (cnd 7 2 t0)))))
def w2 : State := t1
def dp (d mode st sel : Nat) (s : State) := (((s.set (Fld.TMG_DPLL_CFG_MODE d) mode).set (Fld.TMG_DPLL_STATUS_STATE d) st).set (Fld.TMG_DPLL_STATUS_SEL d) sel).set (Fld.TMG_DPLL_MASK_CAND_MASK d) 0xFFFFFF
def t2 := dp 0 0 2 0 (dp 1 0 1 1 (dp 2 0 3 31 (dp 3 0 0 31 (dp 7 3 5 7 t1))))
def w3 : State := t2
def sf (c : Nat) (s : State) := (s.raise (Fld.TMG_CAND_STATUS_SF c)).modCand c (fun x => { x with pin := false })
def hold (c : Nat) (s : State) := (sf c s).raise (Fld.TMG_CAND_STATUS_HOLDOFF_RUN c)
def w6 : State := hold 0 t2
def cup (n : Nat) (s : State) := [0,1,7,23].foldl (fun s c => s.modCand c (fun x => { x with updates := n })) s
def w10 : State := cup 3 t2
def sts (v : Nat) (s : State) := [0,1,7,23].foldl (fun s c => s.set (Fld.TMG_CAND_STATUS_STATE c) v) s
def w11 : State := sts 1 t2
def cmd (v c : Nat) (s : State) := (List.range 8).foldl (fun s d => (s.set (Fld.TMG_DPLL_CFG_CMD d) v).set (Fld.TMG_DPLL_CFG_CMD_CAND d) c) s
def w17 : State := cmd 2 1 t2
def w20 : State := st 4 t2
def md (v : Nat) (s : State) := [0,1,7].foldl (fun s d => s.set (Fld.TMG_DPLL_CFG_MODE d) v) s
def w26 : State := md 3 t2
def tmo (s : State) := [0,1,7].foldl (fun s d => s.set (Fld.TMG_DPLL_SWCFG_SW_TMO d) 9) s
def w30 : State := tmo (md 3 (st 5 t2))
def run' (n m : Nat) (s : State) := [0,1,7].foldl (fun s d => s.modDpll d (fun x => { x with run := n, lockedMs := m, dco := 123456, hist := [5,6,7,8], pbo := 1400 })) s
def w32 : State := run' 1000 11000 (st 1 t2)
def w33 : State := run' 1000 11000 (st 2 t2)
end Cands

namespace Stamps
def l1 := act (act (act (act (act b2 0 0xD) 2 8) 3 0xB) 4 2) 50 0xD
def inf := [0,2,3,4,50].foldl (fun s n => (s.set (Fld.LCH_FAU_STATUS_STATE n) 3).raise (Fld.LCH_LINE_STATUS_CDR_LOCK n)) (l1.raise Fld.TWN_STATUS_CONFIRMED)
def w1 : State := inf
def ev (s : State) : State := { s with mbx := { s.mbx with evq := some (0x10000, 4096), todZda := true, todRx := true }, pcie := { s.pcie with busMaster := true, linkUp := true } }
def w2 : State := ev inf
def ins (w r : Nat) (s : State) := (s.set (Fld.LCH_OHP_INS_WR_V 2 3) w).set (Fld.LCH_OHP_INS_RD_V 2 3) r
def et (f : Nat) (s : State) := act s 2 f
def w5 : State := ins 100 20 (et 1 (ev inf))
def pps (s : State) := { ((s.raise (Fld.TMG_PPSOUT_CFG_EN 0)).raise (Fld.TMG_PPSOUT_CFG_EN 1)) with tk := { s.tk with sec := 2^47 + 5, ns := 77 } }
def w9 : State := pps inf
end Stamps

namespace Dma
def tmr (s : State) := (s.raise (Fld.DMA_TMR_CFG_EN 7))
def cfg (c en trig prio tmr src ring cvu cv : Nat) (s : State) := s.setReg (Reg.DMA_CH_CFG c) (BitVec.ofNat 32 (en + 2*prio + 8*trig + 32*tmr + 256*src + 2^12*ring + 2^13*cvu+2^14*cv))
def wins (s : State) := [0,3,14,15].foldl (fun s c => ((((s.set64 (Reg.DMA_CH_LIST_LO c) 0x120000100).set64 (Reg.DMA_CH_HWIN_BASE_LO c) 0x120000000).set64 (Reg.DMA_CH_HWIN_LIM_LO c) 0x120001000).set (Fld.DMA_CH_DWIN_BASE_V c) 0x1000000).set (Fld.DMA_CH_DWIN_LIM_V c) 0x1010000) s
def pc (s : State) : State := { s with pcie := { s.pcie with busMaster := true, linkUp := true } }
def l1 := act (act (act (act (act b2 0 0xD) 2 8) 3 0xB) 4 2) 50 0xD
def inf := [0,2,3,4,50].foldl (fun s n => (s.set (Fld.LCH_FAU_STATUS_STATE n) 3).raise (Fld.LCH_LINE_STATUS_CDR_LOCK n)) (l1.raise Fld.TWN_STATUS_CONFIRMED)
def t0 := wins (pc inf)
def en0 := cfg 0 1 0 1 0 0 0 0 0 (cfg 3 1 2 3 0 0 0 0 0 (cfg 14 1 1 0 7 0 0 0 0 (cfg 15 1 3 2 0 0 0 0 0 t0)))
def w4 : State := en0
def noM (s : State) : State := { s with pcie := { s.pcie with busMaster := false } }
def w5 : State := noM en0
def st (c : Nat) (s : State) := run s [.dmaStart .firmware (Fin.ofNat 16 c)]
def sts (s : State) := st 15 (st 0 s)
def run1 := sts en0
def w7 : State := run1
def pend (s : State) := [0,3,15].foldl (fun s c => s.raise (Fld.DMA_CH_STATUS_PEND c)) s
def w8 : State := pend run1
def w10 : State := tmr en0
def bursts (l : List (BitVec 128)) (n : Nat) (s : State) := run s (List.replicate n (.dmaBurst l (.bytes (List.replicate 256 7))))
def desc (addr len dir last irq fence rsv ofs : Nat) : BitVec 128 := BitVec.ofNat 128 (addr + 2^64 * (len + 2^24*dir + 2^26*last + 2^27*irq+2^28*fence+2^29*rsv) + 2^96*ofs)
def dl : List (BitVec 128) := [desc 0x120000010 600 1 1 1 1 0 0x1000100, desc 0x120000f00 600 1 1 0 0 0 0x1000100, desc 0x120000000 8 0 1 0 0 1 0x1000100, desc 0x120000000 8 0 0 0 0 0 0x1000102, desc 0 0 0 0 1 0 0 0, desc 0x1000000 64 2 1 0 0 0 0x1000020, desc 0x120000010 16 0 1 0 0 0 0x1000100]
def w12 : State := bursts [dl.getD 0 0] 1 run1
def w13 : State := bursts [dl.getD 0 0] 3 run1
def ended (s : State) := [0,15].foldl (fun s c => s.modRun c (fun r => { r with ended := true })) s
def w17 : State := ended run1
def sz (n e : Nat) (ins : Bool) (s : State) := [0,3].foldl (fun s c => ((s.modDma c (fun x => { x with size := some n })).set (Fld.DMA_CH_EPTR_V c) e).setB (Fld.DMA_CH_RING_CFG_INS c) ins) s
def w19 : State := sz 100 50 false en0
def w24 : State := (bursts [desc 0x120000010 600 0 1 1 1 0 0x1000100] 1 run1)
end Dma

namespace Check
def st (s : State) := run s [.cvuStart .firmware 0, .cvuStart .firmware 12, .cvuStart .firmware 15]
def cf (w ri ro f seg : Nat) (s : State) := [0,12,15].foldl (fun s k => (((s.setReg (Reg.CVU_CFG k) (BitVec.ofNat 32 (w + 128*ri + 256 * ro + 512*f + 1024*seg))).set64 (Reg.CVU_POLY_LO k) 0x42F0E1EBA9EA3693).set64 (Reg.CVU_INIT_LO k) (2^64-1)).set64 (Reg.CVU_XOROUT_LO k) 0x1234567) s
def l1 := act (act (act (act (act b2 0 0xD) 2 8) 3 0xB) 4 2) 50 0xD
def inf := [0,2,3,4,50].foldl (fun s n => (s.set (Fld.LCH_FAU_STATUS_STATE n) 3).raise (Fld.LCH_LINE_STATUS_CDR_LOCK n)) (l1.raise Fld.TWN_STATUS_CONFIRMED)
def a1 := cf 64 0 0 0 0 inf
def w3 : State := st a1
def feed (s : State) := run s [.cvuData32Write .firmware 0 77 none, .cvuData32Write .firmware 15 77 none, .cvuData8Write .firmware 12 3]
def a3 := cf 0 1 0 1 4 inf
def w10 : State := feed (st a3)
end Check

/-- Line 0 in frame with its FEC on. -/
def mxfFec : State := Frames.mx.modMxf 0 (fun m => { m with fecRx := true })

/-- The codeword of zeros with its last symbol wrong. -/
def oneBad : List Byte := List.replicate 191 0 ++ [1]

/-- The codeword of zeros with nine symbols wrong. -/
def nineBad : List Byte := List.replicate 183 0 ++ [1, 2, 3, 4, 5, 6, 7, 8, 9]

/-- R114: eight symbols at most are corrected. -/
theorem test_fec_one : fecOutcome (.mxf oneBad) false = .corrected 1 := by decide +kernel
theorem test_fec_nine : fecOutcome (.mxf nineBad) false = .uncorrectable := by decide +kernel
theorem test_fec_none : fecOutcome (.mxf (List.replicate 192 0)) false = .clean := by decide +kernel

/-- The generator of RS(255,239) that ITU-T G.709 Annex A prints. -/
theorem test_fec_generator : rsGen = [1, 59, 13, 104, 189, 68, 209, 30, 8, 163, 65, 41, 229, 98, 50, 36, 59] := by decide +kernel

/-- Line 0 in frame with the scrambler bypassed. -/
def plainMxf : State := (((act b2 0 0xD).set (Fld.LCH_FAU_STATUS_STATE 0) 3).raise (Fld.LCH_FAU_HUNT_CFG_SCR_BYPASS 0))

/-- A frame of zeros with check value `v` in its overhead. -/
def zeroFrame (v : Nat) : List Word64 := List.replicate 7 0 ++ BitVec.ofNat 64 v :: List.replicate 2040 0

/-- A frame before this one. -/
def before : MxfPending := ⟨some 5, true, false, false, 0, 0⟩

def plainMxf' : State := plainMxf.modMxf 0 (fun m => { m with prev := some before })

theorem zeroFrame_length (v : Nat) : (zeroFrame v).length = 2048 := by
  simp only [zeroFrame, List.length_append, List.length_cons, List.length_replicate]

theorem zeroFrame_plain (v : Nat) : zeroFrame v =
    if plainMxf.flag (Fld.LCH_FAU_HUNT_CFG_SCR_BYPASS 0) = true then zeroFrame v else scrFrame (zeroFrame v) :=
  (if_pos (by decide +kernel)).symm

theorem zeroFrame_plain' (v : Nat) : zeroFrame v =
    if plainMxf'.flag (Fld.LCH_FAU_HUNT_CFG_SCR_BYPASS 0) = true then zeroFrame v else scrFrame (zeroFrame v) :=
  (if_pos (by decide +kernel)).symm

theorem crcBytes_append (w p : Nat) (r : Bool) (x : Nat) (a b : List Byte) :
    crcBytes w p r x (a ++ b) = crcBytes w p r (crcBytes w p r x a) b := List.foldl_append

theorem meas_bytes : Mail.meas.bar2Bytes (slotAddr (⟨1, 0, 0, false⟩ : Posted).ring.val ((⟨1, 0, 0,
  false⟩ : Posted).num % 64)) 12 ++ leBytes 4 0 ++ Mail.meas.slotPayload ⟨1, 0, 0, false⟩
    = ([3, 7, 7, 0, 52] ++ List.replicate 11 0) ++ (List.replicate 16 0 ++ (List.replicate 16 0
      ++ (List.replicate 5 0 ++ [8] ++ List.replicate 6 0 ++ [40, 35, 0, 0, 1, 0, 0, 0]))) := by decide +kernel

theorem meas_crc : Mail.meas.crcGood ⟨1, 0, 0, false⟩ := by
  unfold State.crcGood crc32c
  rw [meas_bytes, crcBytes_append, crcBytes_append, crcBytes_append]
  rw [show crcBytes 32 0x1EDC6F41 true 0xFFFFFFFF ([3, 7, 7, 0, 52] ++ List.replicate 11 0) = 1663463003 by decide +kernel]
  rw [show crcBytes 32 0x1EDC6F41 true 1663463003 (List.replicate 16 0) = 2483808541 by decide +kernel]
  rw [show crcBytes 32 0x1EDC6F41 true 2483808541 (List.replicate 16 0) = 3302303374 by decide +kernel]
  decide +kernel

theorem witness_StepRunsFrontCommand : ∃ (c : Instr) (rest : List Instr) (s : Machine.State), (s.pending = c :: rest) :=
  ⟨.guardWindowExpiry .host, [], queued, rfl⟩

theorem witness_EmptyQueueTicksTimeKeeper :
    (∃ (s : Machine.State), (s.pending = []) ∧ (s.tk.running = false))
    ∧ (∃ (s : Machine.State), (s.pending = []) ∧ (s.tk.running = true) ∧ (s.flag Fld.AON_TK_CTL_SLEEP_CLK = false) ∧ (s.tk.frac < 2048)
      ∧ (s.tk.ns + 8 < 1000000000)) :=
  ⟨⟨Plain.w0, by decide +kernel⟩,
   ⟨Plain.w18, by decide +kernel⟩⟩

theorem witness_StepKeepsSettled : ∃ (s : Machine.State) (t : Machine.State), (s.settled) ∧ (step s = Host.Outcome.next t) :=
  (let ⟨t, ht⟩ := step_answers queued0 (by decide +kernel); ⟨queued0, t, ⟨by decide +kernel, fun _ h => by rw [show queued0.fcr.live = 0 from rfl, Nat.zero_testBit] at h; cases h⟩, ht⟩)

theorem witness_BadAccessIsCountedAndRecorded :
    (∃ (bar : Bar) (a : BitVec 26) (n : Nat) (s : Machine.State), (s.spineOn = true)
      ∧ ((match bar with | Bar.bar0 => !(n == 4 && a.toNat % 4 == 0 || n == 8 && a.toNat % 8 == 0) | Bar.bar2 => !bar2SizeOk a.toNat n) = true))
    ∧ (∃ (bar : Bar) (a : BitVec 26) (n : Nat) (s : Machine.State), (s.spineOn = true)
      ∧ ((match bar with | Bar.bar0 => !(n == 4 && a.toNat % 4 == 0 || n == 8 && a.toNat % 8 == 0) | Bar.bar2 => !bar2SizeOk a.toNat n) = false)) :=
  ⟨⟨Sys2Proof.Bar.bar0, 0, 0, Guards.w0, by decide +kernel⟩,
   ⟨Sys2Proof.Bar.bar2, 0, 1, Guards.w0, by decide +kernel⟩⟩

theorem witness_RegisterWriteFollowsAccessCodes : ∃ (by' : Agent) (a : BitVec 26) (s : Machine.State), (s.spineOn = true)
  ∧ (by' = Agent.host → s.pcie.d3hot = false) ∧ (12582912 ≤ a.toNat) ∧ (a.toNat < 13631488) ∧ (a.toNat % 4 = 0) :=
  ⟨Sys2Proof.Agent.host, 0xC00E04, Guards.w0, by decide +kernel⟩

theorem witness_GuardValueOpensPairInItsUnit :
    (∃ (a : BitVec 24) (s : Machine.State), (s.spineOn = true) ∧ (a.toNat ∈ guarded) ∧ (s.guardHost.pair = none))
    ∧ (∃ (a : BitVec 24) (s : Machine.State), (s.spineOn = true) ∧ (a.toNat ∈ guarded) ∧ (s.guardMgmt.pair = none))
    ∧ (∃ (a : BitVec 24) (w : BitVec 32) (s : Machine.State) (t : Machine.State) (c : Agent) (i : Instr), (c ∈ [Agent.host, Agent.firmware])
      ∧ (i ∈ [Instr.guardValueWrite c a w, Instr.guardComplementWrite c a w, Instr.guardWindowExpiry c, Instr.guardWideWrite c a])
      ∧ (exec i s = Host.Outcome.next t) ∧ (c = Agent.host))
    ∧ (∃ (a : BitVec 24) (w : BitVec 32) (s : Machine.State) (t : Machine.State) (c : Agent) (i : Instr), (c ∈ [Agent.host, Agent.firmware])
      ∧ (i ∈ [Instr.guardValueWrite c a w, Instr.guardComplementWrite c a w, Instr.guardWindowExpiry c, Instr.guardWideWrite c a])
      ∧ (exec i s = Host.Outcome.next t) ∧ (c = Agent.firmware)) :=
  ⟨⟨0x000048#24, Guards.w1, by decide +kernel⟩,
   ⟨0x000048#24, Guards.w0, by decide +kernel⟩,
   (let ⟨t, ht⟩ := exec_answers (.guardValueWrite .host 0x40 1) up (by decide +kernel); ⟨0x40, 1, up, t, .host, .guardValueWrite .host 0x40 1,
     by decide +kernel, List.mem_cons_self, ht, rfl⟩),
   (let ⟨t, ht⟩ := exec_answers (.guardValueWrite .firmware 0x40 1) up (by decide +kernel); ⟨0x40, 1, up, t, .firmware,
     .guardValueWrite .firmware 0x40 1, by decide +kernel, List.mem_cons_self, ht, rfl⟩)⟩

theorem witness_GuardPairsCompleteOrBreak :
    (∃ (by' : Agent) (a : BitVec 24) (v : Nat) (w : BitVec 32) (s : Machine.State), (s.spineOn = true) ∧ (a.toNat ∈ guarded)
      ∧ ((s.guardOf by').pair = some (a.toNat, v)) ∧ (w.toNat = 2 ^ 32 - 1 - v) ∧ (s.pairCause by' a.toNat v = 0))
    ∧ (∃ (by' : Agent) (a : BitVec 24) (v : Nat) (w : BitVec 32) (s : Machine.State) (x : Nat × Instr), (s.spineOn = true) ∧ (a.toNat ∈ guarded)
      ∧ ((s.guardOf by').pair = some (a.toNat, v)) ∧ (w.toNat = 2 ^ 32 - 1 - v) ∧ (s.pairCause by' a.toNat v = 0) ∧ (x ∈ [(Reg.GLB_CHIP_RESET,
      Instr.glbChipReset (BitVec.ofNat 32 v)), (Reg.TWN_LEASE_FORCE, Instr.twnLeaseForce (BitVec.ofNat 2 v)), (Reg.TMG_DPLL_PPT 0,
      Instr.dpllPpt 0 (BitVec.ofNat 30 v)), (Reg.TMG_DPLL_PPT 1, Instr.dpllPpt 1 (BitVec.ofNat 30 v)), (Reg.MAP_EPOCH_COMMIT 0, Instr.epochCommit 0),
      (Reg.MAP_EPOCH_COMMIT 1, Instr.epochCommit 1), (Reg.FCR_INJ_UNLOCK, Instr.fcrInjUnlock (BitVec.ofNat 32 v))]) ∧ (x.fst = a.toNat))
    ∧ (∃ (s : Machine.State), (s.spineOn = true) ∧ (s.power.crstDue = none))
    ∧ (∃ (a : BitVec 24) (w : BitVec 32) (s : Machine.State) (v : Nat), (s.spineOn = true) ∧ (a.toNat ∈ guarded) ∧ (s.guardHost.pair = some (a.toNat,
      v)) ∧ (w.toNat ≠ 2 ^ 32 - 1 - v))
    ∧ (∃ (a : BitVec 24) (s : Machine.State) (v : Nat), (s.spineOn = true) ∧ (a.toNat ∈ guarded) ∧ (s.guardHost.pair = some (a.toNat, v)))
    ∧ (∃ (a : BitVec 24) (s : Machine.State), (s.spineOn = true) ∧ (a.toNat ∈ guarded)
      ∧ (Option.map (fun x => x.fst) s.guardHost.pair ≠ some a.toNat))
    ∧ (∃ (a : BitVec 24) (s : Machine.State) (b : Nat) (v : Nat), (s.spineOn = true) ∧ (a.toNat ∈ guarded) ∧ (b < 2 ^ 24)
      ∧ (s.guardHost.pair = some (b, v)))
    ∧ (∃ (a : BitVec 24) (s : Machine.State), (s.spineOn = true) ∧ (a.toNat ∈ guarded) ∧ (s.guardHost.pair = none)) :=
  ⟨⟨Sys2Proof.Agent.host, 0x000040#24, 1, 0xFFFFFFFE, Guards.w0, by decide +kernel⟩,
   ⟨.host, 0x40, 1, 0xFFFFFFFE, { up with guardHost := ⟨some (0x40, 1)⟩ }, (Reg.GLB_CHIP_RESET, .glbChipReset (BitVec.ofNat 32 1)), by decide +kernel⟩,
   ⟨Plain.w0, by decide +kernel⟩,
   ⟨0x000040#24, 1, Guards.w0, 1, by decide +kernel⟩,
   ⟨0x000040#24, Guards.w0, 1, by decide +kernel⟩,
   ⟨0x40, Plain.w0, by decide +kernel⟩,
   ⟨0x40, Plain.w2, 0x44, 5, by decide +kernel⟩,
   ⟨0x40, Plain.w0, by decide +kernel⟩⟩

theorem witness_VectorsSendMessages :
    (∃ (v : Fin 64) (s : Machine.State), (s.spineOn = true) ∧ (s.pcie.cfgReady = true) ∧ (s.irq.asserted = s.vectors)
      ∧ ((s.eventVectors ||| s.faultVectors).testBit ↑v = true) ∧ (s.irq.pulse.testBit ↑v = false) ∧ (s.irqEnabled ↑v = true)
      ∧ (s.irqMasked ↑v = false))
    ∧ (∃ (v : Fin 64) (s : Machine.State), (s.spineOn = true) ∧ (s.pcie.cfgReady = true) ∧ (s.irq.asserted = s.vectors)
      ∧ ((s.eventVectors ||| s.faultVectors).testBit ↑v = false) ∧ (s.irq.pulse.testBit ↑v = true))
    ∧ (∃ (s : Machine.State), (s.spineOn = true) ∧ (s.pcie.cfgReady = true) ∧ (s.irq.asserted = s.vectors))
    ∧ (∃ (v : Fin 64) (s : Machine.State), (s.spineOn = true) ∧ (s.pcie.cfgReady = true) ∧ (s.irq.asserted = s.vectors)
      ∧ (s.irq.pba.testBit ↑v = true) ∧ (s.pcie.fnMask = false) ∧ (s.pcie.linkUp = true) ∧ (s.pcie.busMaster = true)) :=
  ⟨⟨45, Guards.w9, by decide +kernel⟩,
   ⟨0, Guards.w7, by decide +kernel⟩,
   ⟨Guards.w7, by decide +kernel⟩,
   ⟨1, Guards.w7, by decide +kernel⟩⟩

theorem witness_JtagInstructionSelects : ∃ (code : BitVec 8), (6 < code.toNat) :=
  ⟨0xa5#8, by decide +kernel⟩

theorem witness_ResetPinPowerOnAndReturn :
    (∃ (s : Machine.State), (s.power.sleep = SleepPhase.awake) ∧ (s.power.inReset = false))
    ∧ (∃ (s : Machine.State), (s.power.sleep = SleepPhase.asleep))
    ∧ (∃ (s : Machine.State), (s.spineOn = true) ∧ (s.power.perstN = true))
    ∧ (∃ (s : Machine.State), (s.power.inReset = true) ∧ (s.power.chipReset = false) ∧ (s.power.nextCause = 3) ∧ (s.power.resetN = true)
      ∧ (s.power.sleep = SleepPhase.awake) ∧ (s.power.coreEn = true) ∧ (s.feedGood 0 = false) ∧ (s.feedGood 1 = false)) :=
  ⟨⟨Power.w1, by decide +kernel⟩,
   ⟨Power.w5, by decide +kernel⟩,
   ⟨{ up with power := { up.power with perstN := true } }, by decide +kernel⟩,
   ⟨{ State.reset with power := { Power.reset with inReset := true, chipReset := false, nextCause := 3, resetN := true, coreEn := true } }, by decide +kernel⟩⟩

theorem witness_StartSamplesStrapsAndRecordsCause :
    (∃ (s : Machine.State), (s.power.inReset = true) ∧ (s.power.resetN = true) ∧ (s.power.sleep = SleepPhase.awake)
      ∧ ((s.feedGood 0 || s.feedGood 1) = true))
    ∧ (∃ (s : Machine.State) (b : Bool), (s.spineOn = true) ∧ (s.power.crstDue = some b))
    ∧ (∃ (s : Machine.State), (s.power.chipReset = true) ∧ (s.power.nextCause = 4)) :=
  ⟨⟨Power.w2, by decide +kernel⟩,
   ⟨Power.w7, false, by decide +kernel⟩,
   ⟨Power.w8, by decide +kernel⟩⟩

theorem witness_FeedLossResetsItsHalf :
    (∃ (p : Fin 2) (pg : Bool) (sp : Bool) (s : Machine.State), (s.power.sleep = SleepPhase.awake) ∧ (s.feedGood ↑p = true)
      ∧ (s.feedGood (1 - ↑p) = true) ∧ ((pg && sp) = false) ∧ (s.spineOn = true) ∧ (s.hasHalf ↑p = true) ∧ (s.twin = false))
    ∧ (∃ (p : Fin 2) (s : Machine.State), (s.power.sleep = SleepPhase.awake) ∧ (s.feedGood ↑p = false) ∧ (s.power.coreEn = true))
    ∧ (∃ (s : Machine.State), (s.power.sleep = SleepPhase.awake) ∧ (s.spineOn = true))
    ∧ (∃ (p : Fin 2) (s : Machine.State), (s.power.sleep = SleepPhase.awake) ∧ (s.halfOn ↑p = true) ∧ (s.coreLocked ↑p = false))
    ∧ (∃ (p : Fin 2) (s : Machine.State), (s.power.sleep = SleepPhase.awake) ∧ (s.halfOn ↑p = true) ∧ (s.coreLocked ↑p = true)) :=
  ⟨⟨0, false, false, Power.w1, by decide +kernel⟩,
   ⟨0, Power.w3, by decide +kernel⟩,
   ⟨Power.w1, by decide +kernel⟩,
   ⟨1, Power.w3, by decide +kernel⟩,
   ⟨0, Power.w1, by decide +kernel⟩⟩

theorem witness_ChipSleepAndWake :
    (∃ (v : BitVec 32) (s : Machine.State), (s.spineOn = true) ∧ (s.power.sleep = SleepPhase.awake) ∧ (BitVec.extractLsb' 16 16 v = 42330#16)
      ∧ (v.getLsbD 0 = true))
    ∧ (∃ (v : BitVec 32), (BitVec.extractLsb' 16 16 v ≠ 42330#16))
    ∧ (∃ (s : Machine.State), (s.power.sleep = SleepPhase.entering) ∧ (s.power.wakeDue = 0) ∧ (s.power.resetN = true)
      ∧ (s.flag Fld.AON_TEMP_CFG_TRIP = false))
    ∧ (∃ (active : BitVec 6) (s : Machine.State), (s.power.sleep = SleepPhase.entering)
      ∧ ((active.toNat &&& BitVec.toNat (s.reg Reg.AON_WAKE_CFG)) % 64 ≠ 0) ∧ (s.flag Fld.AON_TEMP_CFG_TRIP = false))
    ∧ (∃ (s : Machine.State), (s.power.sleep = SleepPhase.entering) ∧ (s.power.wakeDue % 64 ≠ 0) ∧ (s.power.resetN = true)
      ∧ (s.flag Fld.AON_TEMP_CFG_TRIP = false))
    ∧ (∃ (active : BitVec 6) (s : Machine.State), (s.power.sleep = SleepPhase.asleep)
      ∧ ((active.toNat &&& BitVec.toNat (s.reg Reg.AON_WAKE_CFG)) % 64 ≠ 0) ∧ (s.flag Fld.AON_TEMP_CFG_TRIP = false))
    ∧ (∃ (s : Machine.State), (s.power.sleep = SleepPhase.awake))
    ∧ (∃ (s : Machine.State), (s.flag Fld.GLB_CLK_STATUS_XTAL32K_OK = false) ∧ (s.tk.running = false)) :=
  ⟨⟨0xA55A0001, Power.w1, by decide +kernel⟩,
   ⟨0xA55B0001, by decide +kernel⟩,
   ⟨Power.w4, by decide +kernel⟩,
   ⟨0x01#6, Power.w11, by decide +kernel⟩,
   ⟨Power.w11, by decide +kernel⟩,
   ⟨0x01#6, Power.w10, by decide +kernel⟩,
   ⟨Power.w0, by decide +kernel⟩,
   ⟨Power.w0, by decide +kernel⟩⟩

theorem witness_FaultEventIsCountedAndRecorded : ∃ (k : Fin 608) (s : Machine.State), (s.awaits ↑k) :=
  ⟨33, Faults.w5, by unfold State.awaits; decide +kernel⟩

theorem witness_CausesClearAndStopsRelease :
    (∃ (s : Machine.State), (s.spineOn = true))
    ∧ (∃ (p : Fin 2) (s : Machine.State), (s.spineOn = true) ∧ (s.halfOn ↑p = true) ∧ (s.coreLocked ↑p = true) ∧ ((s.plane ↑p).stopped = true)
      ∧ (s.fatalLive ↑p = false)) :=
  ⟨⟨Faults.w1, by decide +kernel⟩,
   ⟨0, Faults.w14, by decide +kernel⟩⟩

theorem witness_InjectionForcesLiveBit :
    (∃ (s : Machine.State), (s.spineOn = true) ∧ (s.power.strapTest = true))
    ∧ (∃ (s : Machine.State), (s.spineOn = true) ∧ (s.power.strapTest = false))
    ∧ (∃ (src : BitVec 10) (s : Machine.State), (s.spineOn = true) ∧ (s.flag Fld.FCR_STATUS_INJ_READY = true)
      ∧ (s.flag Fld.FCR_STATUS_INJ_BUSY = false) ∧ (s.srcExists src.toNat = true) ∧ (s.srcHeld src.toNat = false)
      ∧ (s.fcr.live.testBit src.toNat = false) ∧ (s.flag (Fld.FCR_SRC_CFG_EN src.toNat) = true) ∧ (s.get Fld.FCR_FF_SRC_VALID = 0) ∧ (97 ≤ src.toNat))
    ∧ (∃ (s : Machine.State), (s.spineOn = true) ∧ (s.flag Fld.FCR_STATUS_INJ_BUSY = true))
    ∧ (∃ (s : Machine.State), (s.spineOn = true) ∧ (s.fcr.injected.isSome = true) ∧ (s.flag Fld.FCR_INJ_CTL_HOLD = false))
    ∧ (∃ (s : Machine.State), (s.spineOn = true) ∧ (s.fcr.injected.isSome = true) ∧ (s.flag Fld.FCR_INJ_CTL_HOLD = true))
    ∧ (∃ (s : Machine.State), (s.spineOn = true) ∧ (s.flag Fld.FCR_STATUS_INJ_READY = true)) :=
  ⟨⟨Faults.w8, by decide +kernel⟩,
   ⟨Faults.w1, by decide +kernel⟩,
   ⟨0x061#10, Faults.w8, by decide +kernel⟩,
   ⟨Faults.w9, by decide +kernel⟩,
   ⟨Faults.w9, by decide +kernel⟩,
   ⟨Faults.w10, by decide +kernel⟩,
   ⟨Faults.w8, by decide +kernel⟩⟩

theorem witness_DoorbellPostsOrIsIgnored :
    (∃ (r : Fin 4) (pi : BitVec 16) (s : Machine.State), (s.spineOn = true) ∧ ((pi.toNat + 65536 - s.get (Fld.MBX_CI_TAKEN ↑r)) % 65536 ≤ 64))
    ∧ (∃ (r : Fin 4) (pi : BitVec 16) (s : Machine.State), (s.spineOn = true) ∧ (64 < (pi.toNat + 65536 - s.get (Fld.MBX_CI_TAKEN ↑r)) % 65536)) :=
  ⟨⟨0, 0, Mail.w1, by decide +kernel⟩,
   ⟨0, 65, Mail.w1, by decide +kernel⟩⟩

theorem witness_MessageChecksAnswerInOrder :
    (∃ (op : Nat) (m : Posted) (s : Machine.State), (s.atHead op m) ∧ (s.slotNum m 4 4 ≤ 4080) ∧ (s.crcGood m) ∧ (opRow op = none))
    ∧ (∃ (op : Nat) (m : Posted) (s : Machine.State), (s.atHead op m) ∧ (4080 < s.slotNum m 4 4) ∧ (op = 1))
    ∧ (∃ (op : Nat) (m : Posted) (s : Machine.State), (s.atHead op m) ∧ (4080 < s.slotNum m 4 4) ∧ (op = 17))
    ∧ (∃ (op : Nat) (m : Posted) (s : Machine.State), (s.atHead op m) ∧ (s.slotNum m 4 4 ≤ 4080) ∧ (¬s.crcGood m) ∧ (op = 1))
    ∧ (∃ (op : Nat) (m : Posted) (s : Machine.State), (s.atHead op m) ∧ (s.slotNum m 4 4 ≤ 4080) ∧ (¬s.crcGood m) ∧ (op = 17))
    ∧ (∃ (op : Nat) (m : Posted) (s : Machine.State), (s.atHead op m) ∧ (s.slotNum m 4 4 ≤ 4080) ∧ (s.crcGood m) ∧ (op = 2) ∧ (s.slotNum m 4 4 ≠ 0))
    ∧ (∃ (op : Nat) (m : Posted) (s : Machine.State), (s.atHead op m) ∧ (s.slotNum m 4 4 ≤ 4080) ∧ (s.crcGood m) ∧ (op = 17)
      ∧ (s.slotNum m 4 4 = 0) ∧ (m.ring ≠ 0) ∧ (s.fwState ≠ 2))
    ∧ (∃ (op : Nat) (m : Posted) (s : Machine.State), (s.atHead op m) ∧ (s.slotNum m 4 4 ≤ 4080) ∧ (s.crcGood m) ∧ (op = 17)
      ∧ (s.slotNum m 4 4 = 0) ∧ (m.ring = 0)) :=
  ⟨⟨9, ⟨1, 0, 0, false⟩, Mail.w15, by unfold State.atHead State.crcGood; decide +kernel⟩,
   ⟨1, ⟨1, 0, 0, false⟩, Mail.w11, by unfold State.atHead; decide +kernel⟩,
   ⟨0x11, ⟨1, 0, 0, false⟩, Mail.w13, by unfold State.atHead; decide +kernel⟩,
   ⟨1, ⟨1, 0, 0, false⟩, Mail.w12, by unfold State.atHead State.crcGood; decide +kernel⟩,
   ⟨0x11, ⟨1, 0, 0, false⟩, Mail.w14, by unfold State.atHead State.crcGood; decide +kernel⟩,
   ⟨2, ⟨0, 0, 0, false⟩, Mail.w7, by unfold State.atHead State.crcGood; decide +kernel⟩,
   ⟨0x11, ⟨1, 0, 0, false⟩, Mail.w9, by unfold State.atHead State.crcGood; decide +kernel⟩,
   ⟨0x11, ⟨0, 0, 0, false⟩, Mail.w10, by unfold State.atHead State.crcGood; decide +kernel⟩⟩

theorem witness_PlainMailboxCommands :
    (∃ (m : Posted) (s : Machine.State), (s.serves 1 m))
    ∧ (∃ (m : Posted) (s : Machine.State), (s.serves 2 m))
    ∧ (∃ (m : Posted) (s : Machine.State), (s.serves 3 m) ∧ (payNum (s.slotPayload m) 0 8 % 4096 = 0)
      ∧ (isPow 12 20 (payNum (s.slotPayload m) 8 4) = true) ∧ (payNum (s.slotPayload m) 12 2 = 1))
    ∧ (∃ (m : Posted) (s : Machine.State), (s.serves 1280 m) ∧ (payNum (s.slotPayload m) 0 8 % 8 = 0)
      ∧ (isPow 12 26 (payNum (s.slotPayload m) 8 4) = true) ∧ (payNum (s.slotPayload m) 12 2 = 1))
    ∧ (∃ (m : Posted) (s : Machine.State), (s.serves 1025 m) ∧ (9600 ≤ payNum (s.slotPayload m) 0 4) ∧ (payNum (s.slotPayload m) 0 4 ≤ 115200))
    ∧ (∃ (m : Posted) (s : Machine.State), (s.serves 1025 m) ∧ (payNum (s.slotPayload m) 0 4 < 9600 ∨ 115200 < payNum (s.slotPayload m) 0 4))
    ∧ (∃ (s : Machine.State) (v : BitVec 32) (q : Nat × Nat), (s.spineOn = true) ∧ (s.mbx.evq = some q)
      ∧ ((s.get Fld.MBX_EVQ_WR_V + 2 ^ 32 - v.toNat) % 2 ^ 32 ≤ q.snd / 64)) :=
  ⟨⟨⟨1, 0, 0, false⟩, Mail.w4, by unfold State.serves State.atHead State.crcGood; decide +kernel⟩,
   ⟨⟨0, 0, 0, false⟩, Mail.w6, by unfold State.serves State.atHead State.crcGood; decide +kernel⟩,
   ⟨⟨1, 0, 0, false⟩, Mail.w16, by unfold State.serves State.atHead State.crcGood; decide +kernel⟩,
   ⟨⟨2, 0, 0, false⟩, Mail.w18, by unfold State.serves State.atHead State.crcGood; decide +kernel⟩,
   ⟨⟨1, 0, 0, false⟩, Mail.w19, by unfold State.serves State.atHead State.crcGood; decide +kernel⟩,
   ⟨⟨1, 0, 0, false⟩, Mail.w20, by unfold State.serves State.atHead State.crcGood; decide +kernel⟩,
   ⟨Mail.w17, 0x00000000#32, (0x10000, 4096), by decide +kernel⟩⟩

theorem witness_FirmwareStateCommands :
    (∃ (m : Posted) (s : Machine.State), (s.serves 16 m) ∧ (s.mbx.degr = s.degrading) ∧ (s.twin = false) ∧ (payNum (s.slotPayload m) 0 1 = 1))
    ∧ (∃ (m : Posted) (s : Machine.State), (s.serves 16 m) ∧ (s.mbx.degr = s.degrading) ∧ (s.twin = false) ∧ (payNum (s.slotPayload m) 0 1 = 2))
    ∧ (∃ (m : Posted) (s : Machine.State), (s.serves 17 m))
    ∧ (∃ (m : Posted) (s : Machine.State), (s.serves 18 m))
    ∧ (∃ (m : Posted) (s : Machine.State), (s.serves 19 m) ∧ (s.opsOf 1792 = []) ∧ (s.opsOf 2048 = []) ∧ (s.boot.maintFrom = 2))
    ∧ (∃ (m : Posted) (s : Machine.State), (s.serves 1793 m))
    ∧ (∃ (m : Posted) (s : Machine.State), (s.serves 1794 m) ∧ (s.fuses.svn < payNum (s.slotPayload m) 0 1)
      ∧ (payNum (s.slotPayload m) 0 1 ≤ s.get Fld.MGMT_FW_STATE_SVN))
    ∧ (∃ (m : Posted) (s : Machine.State), (s.serves 1794 m) ∧ (payNum (s.slotPayload m) 0 1 ≤ s.fuses.svn))
    ∧ (∃ (m : Posted) (s : Machine.State), (s.serves 1795 m) ∧ (payNum (s.slotPayload m) 0 1 = 0) ∧ (payNum (s.slotPayload m) 36 8 % 8 = 0)
      ∧ (7251 ≤ payNum (s.slotPayload m) 44 4) ∧ (payNum (s.slotPayload m) 48 2 = 1) ∧ (s.hostWrites = true)) :=
  ⟨⟨⟨1, 0, 0, false⟩, Mail.w21, by unfold State.serves State.atHead State.crcGood; decide +kernel⟩,
   ⟨⟨1, 0, 0, false⟩, Mail.w22, by unfold State.serves State.atHead State.crcGood; decide +kernel⟩,
   ⟨⟨1, 0, 0, false⟩, Mail.w8, by unfold State.serves State.atHead State.crcGood; decide +kernel⟩,
   ⟨⟨1, 0, 0, false⟩, Mail.w23, by unfold State.serves State.atHead State.crcGood; decide +kernel⟩,
   ⟨⟨1, 0, 0, false⟩, Mail.w24, by unfold State.serves State.atHead State.crcGood; decide +kernel⟩,
   ⟨⟨0, 0, 0, false⟩, Mail.w25, by unfold State.serves State.atHead State.crcGood; decide +kernel⟩,
   ⟨⟨1, 0, 0, false⟩, Mail.w26, by unfold State.serves State.atHead State.crcGood; decide +kernel⟩,
   ⟨⟨1, 0, 0, false⟩, Mail.w27, by unfold State.serves State.atHead State.crcGood; decide +kernel⟩,
   ⟨⟨1, 0, 0, false⟩, Mail.meas, ⟨⟨by decide +kernel, by decide +kernel, by decide +kernel⟩, by decide +kernel, meas_crc, by decide +kernel,
     by decide +kernel, by decide +kernel⟩, by decide +kernel⟩⟩

theorem witness_LineConfigAndLineDoze :
    (∃ (m : Posted) (s : Machine.State), (s.twin = false) ∧ (s.serves 256 m) ∧ (s.lineIdle (s.pay m 0 1)) ∧ (s.paritySlots (s.pay m 0 1) = false)
      ∧ (s.pay m 1 1 < 17) ∧ (s.pay m 4 4 = 0) ∧ (s.pay m 1 1 ≠ s.format (s.pay m 0 1)) ∧ (s.lineOn (s.pay m 0 1) = true)
      ∧ ((s.line (s.pay m 0 1)).lane.trans = LineTrans.none) ∧ ((s.line (s.pay m 0 1)).lane.newFormat = none))
    ∧ (∃ (m : Posted) (s : Machine.State), (s.twin = false) ∧ (s.serves 256 m) ∧ (96 ≤ s.pay m 0 1 ∨ s.hasLine (s.pay m 0 1) = false))
    ∧ (∃ (m : Posted) (s : Machine.State), (s.twin = false) ∧ (s.serves 256 m) ∧ (s.pay m 0 1 < 96) ∧ (s.hasLine (s.pay m 0 1) = true)
      ∧ (17 < s.pay m 1 1))
    ∧ (∃ (m : Posted) (s : Machine.State), (s.twin = false) ∧ (s.serves 257 m) ∧ (s.lineOn (s.pay m 0 1) = true)
      ∧ ((s.line (s.pay m 0 1)).lane.trans = LineTrans.none) ∧ (s.pay m 0 1 < 96) ∧ (s.lineIdle (s.pay m 0 1)) ∧ (s.pay m 1 1 ∈ [1, 2])
      ∧ (s.lineActive (s.pay m 0 1) = true))
    ∧ (∃ (m : Posted) (s : Machine.State), (s.twin = false) ∧ (s.serves 257 m) ∧ (s.lineOn (s.pay m 0 1) = true)
      ∧ ((s.line (s.pay m 0 1)).lane.trans = LineTrans.none) ∧ (s.pay m 0 1 < 96) ∧ (s.pay m 1 1 = 0) ∧ (s.lineDozes (s.pay m 0 1) = true)
      ∧ (s.targetFormat (s.pay m 0 1) ≠ 0))
    ∧ (∃ (m : Posted) (s : Machine.State), (s.twin = false) ∧ (s.serves 257 m) ∧ (s.lineOn (s.pay m 0 1) = true)
      ∧ ((s.line (s.pay m 0 1)).lane.trans = LineTrans.none) ∧ (s.pay m 0 1 < 96) ∧ (s.flowing (s.pay m 0 1) = true) ∧ (s.pay m 1 1 = 1)) :=
  ⟨⟨⟨1, 0, 0, false⟩, Lines.w1, by unfold State.serves State.atHead State.crcGood State.lineIdle; decide +kernel⟩,
   ⟨⟨1, 0, 0, false⟩, Lines.w3, by unfold State.serves State.atHead State.crcGood; decide +kernel⟩,
   ⟨⟨1, 0, 0, false⟩, Lines.w4, by unfold State.serves State.atHead State.crcGood; decide +kernel⟩,
   ⟨⟨1, 0, 0, false⟩, Lines.w5, by unfold State.serves State.atHead State.crcGood State.lineIdle; decide +kernel⟩,
   ⟨⟨1, 0, 0, false⟩, Lines.w7, by unfold State.serves State.atHead State.crcGood; decide +kernel⟩,
   ⟨⟨1, 0, 0, false⟩, Plain.w4, by unfold State.serves State.atHead State.crcGood; decide +kernel⟩⟩

theorem witness_ModuleAccessRunsOnItsBus :
    (∃ (m : Posted) (s : Machine.State), (s.serves 258 m) ∧ (s.pay m 0 1 < 96) ∧ (s.get (Fld.PIN_MOD_DESC_TYPE (s.pay m 0 1)) ∈ [1, 2])
      ∧ (s.get (Fld.PIN_MOD_DESC_BUS (s.pay m 0 1)) < 8) ∧ (s.pay m 1 1 = 0) ∧ (1 ≤ s.pay m 6 2) ∧ (s.pay m 6 2 ≤ 128)
      ∧ ((s.slotPayload m).length = 8) ∧ (s.flag (Fld.PIN_BUS_STATUS_FAILED (s.get (Fld.PIN_MOD_DESC_BUS (s.pay m 0 1)))) = false))
    ∧ (∃ (m : Posted) (s : Machine.State), (s.serves 258 m) ∧ (s.pay m 0 1 < 96) ∧ (s.get (Fld.PIN_MOD_DESC_TYPE (s.pay m 0 1)) ∈ [1, 2])
      ∧ (s.get (Fld.PIN_MOD_DESC_BUS (s.pay m 0 1)) < 8) ∧ (s.pay m 1 1 = 0) ∧ (1 ≤ s.pay m 6 2) ∧ (s.pay m 6 2 ≤ 128)
      ∧ ((s.slotPayload m).length = 8) ∧ (s.flag (Fld.PIN_BUS_STATUS_FAILED (s.get (Fld.PIN_MOD_DESC_BUS (s.pay m 0 1)))) = true))
    ∧ (∃ (k : Fin 10) (pay : List (BitVec 8)) (c : Taken) (m : Nat) (n : Nat) (s : Machine.State), (s.spineOn = true) ∧ (s.mbx.busy = some c)
      ∧ (s.mbx.access = some (↑k, m, 0, pay)) ∧ ((s.bus ↑k).hostDue = true) ∧ (n = payNum pay 6 2)) :=
  ⟨⟨⟨1, 0, 0, false⟩, Lines.w8, by unfold State.serves State.atHead State.crcGood; decide +kernel⟩,
   ⟨⟨1, 0, 0, false⟩, Lines.w9, by unfold State.serves State.atHead State.crcGood; decide +kernel⟩,
   ⟨2, [3, 0, 0, 0, 0, 0, 4, 0], (run Lines.acc [.moduleAccess]).mbx.busy.getD ⟨0,0,0,0,false,false,0⟩, 3, 4, Lines.w10, by decide +kernel⟩⟩

theorem witness_LineTimingAndThroughConfig :
    (∃ (m : Posted) (s : Machine.State), (s.twin = false) ∧ (s.serves 1024 m) ∧ (s.pay m 0 1 ≤ 9) ∧ (1 ≤ s.pay m 1 1) ∧ (s.pay m 1 1 ≤ 96)
      ∧ ((s.slotPayload m).length = 2 + s.pay m 1 1)
      ∧ (((List.range (s.pay m 1 1)).all fun i => decide (s.pay m (2 + i) 1 < 96) && s.hasLine (s.pay m (2 + i) 1) && !s.grouped (s.pay m (2 + i) 1)) = true))
    ∧ (∃ (m : Posted) (s : Machine.State), (s.twin = false) ∧ (s.serves 259 m) ∧ (s.lineIdle (s.pay m 0 1)) ∧ (s.lineIdle (s.pay m 1 1))
      ∧ (s.pay m 0 1 ≠ s.pay m 1 1) ∧ (halfOf (s.pay m 0 1) = halfOf (s.pay m 1 1)) ∧ (thruFormat (s.format (s.pay m 1 1)) = true)
      ∧ (s.format (s.pay m 0 1) = s.format (s.pay m 1 1)) ∧ (s.heldFec (s.pay m 0 1) = s.heldFec (s.pay m 1 1)) ∧ (s.pay m 2 1 = 1))
    ∧ (∃ (m : Posted) (s : Machine.State), (s.twin = false) ∧ (s.serves 259 m) ∧ (s.pay m 0 1 < 96) ∧ (s.pay m 1 1 < 96)
      ∧ (s.hasLine (s.pay m 0 1) = true) ∧ (s.hasLine (s.pay m 1 1) = true) ∧ (s.pay m 2 1 = 0)
      ∧ (s.flag (Fld.LCH_OHP_THRU_CFG_ENABLE (s.pay m 1 1)) = true) ∧ (s.get (Fld.LCH_OHP_THRU_CFG_SRC_LINE (s.pay m 1 1)) = s.pay m 0 1)) :=
  ⟨⟨⟨1, 0, 0, false⟩, Lines.w11, by unfold State.serves State.atHead State.crcGood; decide +kernel⟩,
   ⟨⟨1, 0, 0, false⟩, Lines.w12, by unfold State.serves State.atHead State.crcGood State.lineIdle; decide +kernel⟩,
   ⟨⟨1, 1, 0, false⟩, Lines.w13, by unfold State.serves State.atHead State.crcGood; decide +kernel⟩⟩

theorem witness_GroupsAreCreatedAndRemoved :
    (∃ (m : Posted) (s : Machine.State), (s.twin = false) ∧ (s.serves 768 m) ∧ (s.pay m 0 1 < 48)
      ∧ (s.lgExists (halfOf (s.pay m 3 1)) (s.pay m 0 1) = false) ∧ (s.pay m 1 1 ∈ [1, 2]) ∧ (archOk (s.pay m 1 1) (s.pay m 2 1 % 16) = true)
      ∧ (s.lineIdle (s.pay m 3 1)) ∧ (s.lineIdle (s.pay m 4 1)) ∧ (s.pay m 1 1 = 1 → isStm (s.format (s.pay m 3 1)) = true)
      ∧ (s.pay m 1 1 = 2 → s.format (s.pay m 3 1) = 11) ∧ (s.membersOk (s.pay m 3 1) (s.pay m 4 1) = true)
      ∧ (s.destined (halfOf (s.pay m 3 1)) (s.pay m 4 1) = false))
    ∧ (∃ (m : Posted) (s : Machine.State), (s.twin = false) ∧ (s.serves 769 m) ∧ (s.mgExists (halfOf (s.pay m 1 1)) (s.pay m 0 1) = false)
      ∧ (s.lineIdle (s.pay m 1 1)) ∧ (s.lineIdle (s.pay m 2 1)) ∧ (isMxf (s.format (s.pay m 1 1)) = true)
      ∧ (s.membersOk (s.pay m 1 1) (s.pay m 2 1) = true) ∧ (s.heldFec (s.pay m 1 1) = s.heldFec (s.pay m 2 1))
      ∧ (s.get (Fld.TMG_LINE_TXT_SRC (s.pay m 1 1)) = s.get (Fld.TMG_LINE_TXT_SRC (s.pay m 2 1))) ∧ (s.halfOn (halfOf (s.pay m 1 1)) = true)
      ∧ (s.pay m 8 4 ≠ 0) ∧ (s.pay m 8 4 < 2 ^ 24) ∧ (s.pay m 12 4 < 2 ^ 24) ∧ (popCount 24 (s.pay m 12 4) = popCount 24 (s.pay m 8 4))
      ∧ (depthOk (s.format (s.pay m 1 1)) (s.pay m 4 2) (popCount 24 (s.pay m 8 4)) = true)
      ∧ (s.poolUsed (halfOf (s.pay m 1 1)) + 2 * copyPages (s.pay m 4 2) (popCount 24 (s.pay m 8 4)) ≤ 12288))
    ∧ (∃ (m : Posted) (s : Machine.State), (s.twin = false) ∧ (s.serves 770 m) ∧ (s.pay m 1 1 = 0) ∧ (s.pay m 2 1 = 0) ∧ (s.pay m 0 1 < 48)
      ∧ (s.halfOn 0 = true) ∧ (s.halfOn 1 = true) ∧ (s.lgExists 0 (s.pay m 0 1) = true) ∧ (s.lgExists 1 (s.pay m 0 1) = false)
      ∧ (s.groupNamed false 0 (s.pay m 0 1) = false)) :=
  ⟨⟨⟨1, 0, 0, false⟩, Lines.w14, by unfold State.serves State.atHead State.crcGood State.lineIdle; decide +kernel⟩,
   ⟨⟨1, 0, 0, false⟩, Lines.w15, by unfold State.serves State.atHead State.crcGood State.lineIdle; decide +kernel⟩,
   ⟨⟨1, 1, 0, false⟩, Lines.w16, by unfold State.serves State.atHead State.crcGood; decide +kernel⟩⟩

theorem witness_LongOperationsBegin :
    (∃ (k : Nat) (m : Posted) (s : Machine.State), (s.opFree = some k) ∧ (s.serves 1281 m) ∧ (s.pay m 0 1 ≤ 2) ∧ (s.hasHalf 1 = true)
      ∧ (s.opOn 1281 (planeSet (s.pay m 0 1)) = false))
    ∧ (∃ (k : Nat) (m : Posted) (s : Machine.State), (s.opFree = some k) ∧ (s.serves 512 m) ∧ (s.twin = false) ∧ (s.pay m 0 1 ≤ 1)
      ∧ (s.hasHalf (s.pay m 0 1) = true) ∧ ((s.slotPayload m).length = 24) ∧ ((refOk (s.slotPayload m) 8 0 fun l => l == 36 * s.pay m 4 4) = true)
      ∧ (s.committing (s.pay m 0 1) = false) ∧ (s.opOn 512 (s.pay m 0 1 + 1) = false))
    ∧ (∃ (k : Nat) (m : Posted) (s : Machine.State), (s.opFree = some k) ∧ (s.serves 1792 m) ∧ (s.pay m 0 1 ≤ 1)
      ∧ ((refOk (s.slotPayload m) 4 0 fun l => decide (8193 ≤ l ∧ l ≤ 1581056)) = true) ∧ (s.opsOf 1792 = []))
    ∧ (∃ (k : Nat) (m : Posted) (s : Machine.State) (n : Nat), (s.opFree = some k) ∧ (n < 96) ∧ (s.serves 2048 m) ∧ (s.pay m 0 12 = 2 ^ n)
      ∧ (s.prbsFree n = true) ∧ (s.pay m 12 1 ≤ 4) ∧ (1 ≤ s.pay m 16 4) ∧ (s.pay m 16 4 ≤ 86400) ∧ (s.opOn 2048 (2 ^ n) = false))
    ∧ (∃ (k : Nat) (m : Posted) (s : Machine.State), (s.opFree = some k) ∧ (s.serves 1536 m) ∧ (s.twin = true) ∧ (s.planeState 0 = 6)
      ∧ (s.planeState 1 = 5) ∧ ((s.plane 0).stopped = false) ∧ (s.opOn 1536 1 = false) ∧ (s.opsOf 1536 = [])) :=
  ⟨⟨0, ⟨1, 0, 0, false⟩, Boot.w4, by unfold State.serves State.atHead State.crcGood; decide +kernel⟩,
   ⟨0, ⟨1, 0, 0, false⟩, Boot.w5, by unfold State.serves State.atHead State.crcGood; decide +kernel⟩,
   ⟨0, ⟨1, 0, 0, false⟩, Boot.w6, by unfold State.serves State.atHead State.crcGood; decide +kernel⟩,
   ⟨0, ⟨1, 0, 0, false⟩, Boot.w3, 2, by unfold State.serves State.atHead State.crcGood; decide +kernel⟩,
   ⟨0, ⟨1, 0, 0, false⟩, Boot.w7, by unfold State.serves State.atHead State.crcGood; decide +kernel⟩⟩

theorem witness_LongOperationsAdvanceAndAbort :
    (∃ (k : Fin 8) (pct : Nat) (o : LongOp) (s : Machine.State), (s.berentRuns = true) ∧ (s.op ↑k = some o) ∧ (o.cmd.opcode = 1281)
      ∧ (s.get (Fld.MBX_OP_PROG_PCT ↑k) ≤ pct) ∧ (pct ≤ 10000))
    ∧ (∃ (k : Fin 8) (pct : Nat) (o : LongOp) (s : Machine.State), (s.berentRuns = true) ∧ (s.op ↑k = some o) ∧ (o.cmd.opcode = 1281)
      ∧ (pct < s.get (Fld.MBX_OP_PROG_PCT ↑k)))
    ∧ (∃ (m : Posted) (s : Machine.State) (o : LongOp), (s.serves 20 m) ∧ (s.op (s.pay m 0 1) = some o) ∧ (s.pay m 0 1 < 8) ∧ (o.auto = false)
      ∧ (o.cmd.prog = false) ∧ (o.cmd.opcode = 1281) ∧ (o.cmd.ring ≠ m.ring ∨ o.cmd.slot ≠ m.num % 64) ∧ (o.cmd.slot < 64))
    ∧ (∃ (m : Posted) (s : Machine.State), (s.serves 20 m) ∧ (s.op (s.pay m 0 1) = none))
    ∧ (∃ (m : Posted) (s : Machine.State), (s.serves 1281 m) ∧ (s.pay m 0 1 = 0) ∧ (s.opFree = none)) :=
  ⟨⟨0, 0, ((Boot.w9.op 0).get (by decide +kernel)), Boot.w9, by decide +kernel⟩,
   ⟨0, 0, ((Boot.w9.op 0).get (by decide +kernel)), Boot.w16, by decide +kernel⟩,
   ⟨⟨2, 0, 0, false⟩, Boot.w13, ((Boot.w9.op 0).get (by decide +kernel)), by unfold State.serves State.atHead State.crcGood; decide +kernel⟩,
   ⟨⟨2, 0, 0, false⟩, Boot.w15, by unfold State.serves State.atHead State.crcGood; decide +kernel⟩,
   ⟨⟨1, 0, 0, false⟩, Boot.w17, by unfold State.serves State.atHead State.crcGood; decide +kernel⟩⟩

theorem witness_LongOperationsEnd :
    (∃ (k : Fin 8) (o : LongOp) (s : Machine.State), (s.berentRuns = true) ∧ (s.op ↑k = some o) ∧ (o.cmd.prog = false) ∧ (o.auto = false)
      ∧ (o.cmd.opcode = 1281) ∧ (o.target = 1))
    ∧ (∃ (k : Fin 8) (o : LongOp) (s : Machine.State), (s.berentRuns = true) ∧ (s.op ↑k = some o) ∧ (o.cmd.prog = false) ∧ (o.auto = false)
      ∧ (o.cmd.opcode = 512) ∧ ((List.drop 8 o.data).length < 36 * payNum o.data 4 4))
    ∧ (∃ (k : Fin 8) (o : LongOp) (s : Machine.State), (s.berentRuns = true) ∧ (s.op ↑k = some o) ∧ (o.cmd.prog = false) ∧ (o.auto = false)
      ∧ (o.cmd.opcode = 1792) ∧ (payNum o.data 0 4 ≤ (List.drop 4 o.data).length))
    ∧ (∃ (k : Fin 8) (o : LongOp) (s : Machine.State) (n : Nat), (s.berentRuns = true) ∧ (s.op ↑k = some o) ∧ (o.cmd.prog = false)
      ∧ (o.auto = false) ∧ (n < 96) ∧ (o.cmd.opcode = 2048) ∧ (o.target = 2 ^ n) ∧ (s.lineOn n = true)) :=
  ⟨⟨0, ((Boot.w9.op 0).get (by decide +kernel)), Boot.w9, by decide +kernel⟩,
   ⟨0, ((Boot.w10.op 0).get (by decide +kernel)), Boot.w10, by decide +kernel⟩,
   ⟨0, ((Boot.w12.op 0).get (by decide +kernel)), Boot.w12, by decide +kernel⟩,
   ⟨0, ((Boot.w8.op 0).get (by decide +kernel)), Boot.w8, 2, by decide +kernel⟩⟩

theorem witness_BootSourcesAreTriedInOrder :
    (∃ (s : Machine.State) (slot : Fin 2), (s.romTries ↑slot = true))
    ∧ (∃ (s : Machine.State), (s.spineOn = true) ∧ (s.flag Fld.MGMT_BOOT_STATUS_PUSH_READY = true))
    ∧ (∃ (s : Machine.State), (s.spineOn = true) ∧ (s.flag Fld.MGMT_BOOT_STATUS_PUSH_READY = false))
    ∧ (∃ (s : Machine.State), (s.spineOn = true) ∧ (s.flag Fld.MGMT_PUSH_CTL_GO = true) ∧ (s.fwState = 0)) :=
  ⟨⟨Boot.w1, 0, by decide +kernel⟩,
   ⟨Boot.w23, by decide +kernel⟩,
   ⟨Boot.w1, by decide +kernel⟩,
   ⟨Boot.w25, by decide +kernel⟩⟩

theorem witness_BerentStartsRestartsAndLoads :
    (∃ (s : Machine.State), (s.spineOn = true) ∧ (s.get Fld.MGMT_BOOT_STATUS_PHASE = 4) ∧ (s.fwState = 0) ∧ (s.mbx.degr = s.degrading)
      ∧ (s.boot.restart = false))
    ∧ (∃ (s : Machine.State) (good : Bool), (s.spineOn = true) ∧ (s.get Fld.MGMT_BOOT_STATUS_PHASE = 4) ∧ (s.fwState = 0) ∧ (s.mbx.degr = s.degrading) ∧ (s.boot.restart = true) ∧ (s.boot.retained = some { release := s.boot.fwVer / 65536, state := 2, aborted := [] }) ∧ (good = true))
    ∧ (∃ (s : Machine.State), (s.spineOn = true) ∧ (s.get Fld.MGMT_BOOT_STATUS_PHASE = 4) ∧ (s.fwState = 0) ∧ (s.mbx.degr = s.degrading)
      ∧ (s.boot.restart = true) ∧ (s.boot.retained = none))
    ∧ (∃ (s : Machine.State), (s.spineOn = true) ∧ (s.boot.restartDue = true) ∧ (1 ≤ s.fwState) ∧ (s.mbx.ops = List.replicate 8 none)
      ∧ (s.flag Fld.MGMT_BOOT_CTL_FORCE_PUSH = false) ∧ (s.power.strapBootSrc = 0))
    ∧ (∃ (s : Machine.State), (s.spineOn = true) ∧ (s.boot.restartDue = false))
    ∧ (∃ (s : Machine.State), (s.spineOn = true) ∧ (1 ≤ s.fwState) ∧ (s.flag Fld.MGMT_FW_STATE_OVERLOAD = false) ∧ (s.backlog ≤ s.busyHi))
    ∧ (∃ (s : Machine.State), (s.spineOn = true) ∧ (1 ≤ s.fwState) ∧ (s.flag Fld.MGMT_FW_STATE_OVERLOAD = true))
    ∧ (∃ (s : Machine.State), (s.spineOn = true) ∧ (1 ≤ s.fwState)) :=
  ⟨⟨Boot.w22, by decide +kernel⟩,
   ⟨Boot.w20, true, by decide +kernel⟩,
   ⟨Boot.w21, by decide +kernel⟩,
   ⟨Boot.w18, by decide +kernel⟩,
   ⟨Boot.w1, by decide +kernel⟩,
   ⟨Boot.w2, by decide +kernel⟩,
   ⟨Boot.w27, by decide +kernel⟩,
   ⟨Boot.w2, by decide +kernel⟩⟩

theorem witness_PcieLossHaltsChannels :
    (∃ (s : Machine.State), (s.spineOn = true) ∧ (s.power.perstN = true))
    ∧ (∃ (s : Machine.State), (s.spineOn = false ∨ s.power.perstN = false))
    ∧ (∃ (s : Machine.State), (s.spineOn = true) ∧ (s.pcie.cfgReady = true))
    ∧ (∃ (s : Machine.State), (s.spineOn = false ∨ s.pcie.cfgReady = false)) :=
  ⟨⟨Lanes.w9, by decide +kernel⟩,
   ⟨Lanes.w0, by decide +kernel⟩,
   ⟨Lanes.w7, by decide +kernel⟩,
   ⟨Lanes.w0, by decide +kernel⟩⟩

theorem witness_LaneConfigurationAndSignal :
    (∃ (n : Fin 96) (s : Machine.State), (s.lineOn ↑n = true))
    ∧ (∃ (n : Fin 96) (s : Machine.State), (s.lineOn ↑n = true) ∧ (s.get (Fld.LCH_RX_EQ_CFG_MODE ↑n) = 0)
      ∧ (s.flag (Fld.LCH_LINE_STATUS_CDR_LOCK ↑n) = true) ∧ (s.flag (Fld.LCH_LINE_STATUS_SD ↑n) = true))
    ∧ (∃ (n : Fin 96) (s : Machine.State), (s.lineOn ↑n = true) ∧ (s.twin = false) ∧ (s.flag (Fld.LCH_LINE_CFG_WAKE_ON_SD ↑n) = true)
      ∧ (s.lineDozes ↑n = true) ∧ (s.targetFormat ↑n ≠ 0) ∧ ((s.line ↑n).lane.trans = LineTrans.none)) :=
  ⟨⟨0, Lanes.w1, by decide +kernel⟩,
   ⟨0, Lanes.w4, by decide +kernel⟩,
   ⟨0, Lanes.w10, by decide +kernel⟩⟩

theorem witness_DozeEndsAndCdr :
    (∃ (n : Fin 96) (s : Machine.State) (deep : Bool), (s.lineOn ↑n = true) ∧ ((s.line ↑n).lane.held = none) ∧ ((s.line ↑n).lane.newFormat = none)
      ∧ ((s.line ↑n).lane.trans = LineTrans.entry deep) ∧ ((s.line ↑n).lane.dozeCmd = true))
    ∧ (∃ (n : Fin 96) (s : Machine.State) (deep : Bool), (s.lineOn ↑n = true) ∧ ((s.line ↑n).lane.held = none)
      ∧ ((s.line ↑n).lane.newFormat = none) ∧ ((s.line ↑n).lane.trans = LineTrans.move deep) ∧ ((s.line ↑n).lane.dozeCmd = true))
    ∧ (∃ (n : Fin 96) (s : Machine.State), (s.lineOn ↑n = true) ∧ ((s.line ↑n).lane.held = none) ∧ ((s.line ↑n).lane.newFormat = none)
      ∧ ((s.line ↑n).lane.trans = LineTrans.exit) ∧ (s.fauState ↑n = 0) ∧ (s.format ↑n ≠ 0) ∧ (s.format ↑n ≠ 17))
    ∧ (∃ (n : Fin 96) (s : Machine.State), (s.lineOn ↑n = true) ∧ (s.lineActive ↑n = true) ∧ (s.format ↑n ≠ 0) ∧ (s.format ↑n ≠ 17)
      ∧ (s.flag (Fld.LCH_LINE_STATUS_CDR_LOCK ↑n) = false))
    ∧ (∃ (n : Fin 96) (s : Machine.State), (s.lineOn ↑n = true) ∧ (s.flag (Fld.LCH_LINE_STATUS_CDR_LOCK ↑n) = true)) :=
  ⟨⟨0, Lanes.w11, true, by decide +kernel⟩,
   ⟨0, Lanes.w13, true, by decide +kernel⟩,
   ⟨0, Lanes.w14, by decide +kernel⟩,
   ⟨0, Lanes.w3, by decide +kernel⟩,
   ⟨0, Lanes.w4, by decide +kernel⟩⟩

theorem witness_ModulePolling :
    (∃ (k : Fin 10) (s : Machine.State), (s.busOn ↑k = true) ∧ (s.flag (Fld.PIN_BUS_STATUS_FAILED ↑k) = false)
      ∧ (s.flag (Fld.PIN_BUS_STATUS_RUNNING ↑k) = false))
    ∧ (∃ (k : Fin 10) (s : Machine.State), (s.busOn ↑k = true) ∧ (s.flag (Fld.PIN_BUS_STATUS_FAILED ↑k) = false)
      ∧ (s.flag (Fld.PIN_BUS_STATUS_RUNNING ↑k) = true))
    ∧ (∃ (k : Fin 10) (s : Machine.State), (s.busOn ↑k = true) ∧ (s.flag (Fld.PIN_BUS_STATUS_RUNNING ↑k) = true) ∧ ((s.bus ↑k).pass = [])
      ∧ ((s.bus ↑k).overrun = false))
    ∧ (∃ (k : Fin 10) (s : Machine.State) (m : Nat) (i : Nat) (ctl : Nat) (ofs : Nat) (a : Nat) (b : Nat), (s.busOn ↑k = true)
      ∧ (s.flag (Fld.PIN_BUS_STATUS_RUNNING ↑k) = true) ∧ ((s.bus ↑k).pass = [(m, i, ctl, ofs, a, b)]) ∧ (m < 96) ∧ (i < 8))
    ∧ (∃ (k : Fin 10) (s : Machine.State) (m : Nat) (i : Nat) (ctl : Nat) (ofs : Nat) (a : Nat) (b : Nat), (s.busOn ↑k = true)
      ∧ (s.flag (Fld.PIN_BUS_STATUS_RUNNING ↑k) = true) ∧ ((s.bus ↑k).pass = [(m, i, ctl, ofs, a, b)]) ∧ (m < 96) ∧ (i < 8) ∧ (↑k < 8))
    ∧ (∃ (k : Fin 10) (s : Machine.State), (s.busOn ↑k = true) ∧ (s.flag (Fld.PIN_BUS_STATUS_FAILED ↑k) = true))
    ∧ (∃ (m : Fin 96) (i : Fin 8) (s : Machine.State), (s.spineOn = true) ∧ ((s.get (Fld.PIN_MOD_STATUS_ALARM ↑m)).testBit ↑i = false)
      ∧ (2 ≤ (s.mdl ↑m).matchRun.getD (↑i) 0))
    ∧ (∃ (m : Fin 96) (i : Fin 8) (s : Machine.State), (s.spineOn = true) ∧ ((s.get (Fld.PIN_MOD_STATUS_ALARM ↑m)).testBit ↑i = true)
      ∧ (2 ≤ (s.mdl ↑m).failRun.getD (↑i) 0))
    ∧ (∃ (m : Fin 96) (s : Machine.State), (s.spineOn = true) ∧ (s.flag (Fld.PIN_MOD_STATUS_ABSENT ↑m) = false) ∧ (3 ≤ (s.mdl ↑m).nackRun))
    ∧ (∃ (m : Fin 96) (s : Machine.State), (s.spineOn = true) ∧ (s.flag (Fld.PIN_MOD_STATUS_ABSENT ↑m) = true) ∧ (2 ≤ (s.mdl ↑m).ackRun)) :=
  ⟨⟨2, Lanes.w1, by decide +kernel⟩,
   ⟨2, Lanes.w18, by decide +kernel⟩,
   ⟨2, Lanes.w19, by decide +kernel⟩,
   ⟨2, Lanes.w18, 3, 1, 9568256, 0, 0, 255, by decide +kernel⟩,
   ⟨2, Lanes.w18, 3, 1, 9568256, 0, 0, 255, by decide +kernel⟩,
   ⟨2, Lanes.w24, by decide +kernel⟩,
   ⟨3, 1, Lanes.w21, by decide +kernel⟩,
   ⟨3, 1, Lanes.w22, by decide +kernel⟩,
   ⟨3, Lanes.w22, by decide +kernel⟩,
   ⟨3, Lanes.w23, by decide +kernel⟩⟩

theorem witness_WordIsTestedAtEveryOffset :
    (∃ (n : Fin 96) (s : Machine.State), (s.lineOn ↑n = true) ∧ (s.fauIdleCond ↑n = false) ∧ (isFramed (s.format ↑n) = true)
      ∧ (s.flag (Fld.LCH_PRBS_CFG_CHK_EN ↑n) = false))
    ∧ (∃ (n : Fin 96) (s : Machine.State), (s.lineOn ↑n = true) ∧ (s.flag (Fld.LCH_PRBS_CFG_CHK_EN ↑n) = true)
      ∧ (s.flag (Fld.LCH_LINE_STATUS_CDR_LOCK ↑n) = true) ∧ (s.get (Fld.LCH_PRBS_CFG_PATTERN ↑n) = 0) ∧ (s.flag (Fld.LCH_PRBS_CFG_INV ↑n) = false)
      ∧ ((s.line ↑n).lane.loopback = 0))
    ∧ (∃ (n : Fin 96) (s : Machine.State), (s.lineOn ↑n = true) ∧ (s.flag (Fld.LCH_PRBS_CFG_CHK_EN ↑n) = true)
      ∧ (s.flag (Fld.LCH_LINE_STATUS_CDR_LOCK ↑n) = true) ∧ (s.get (Fld.LCH_PRBS_CFG_PATTERN ↑n) = 0) ∧ (s.flag (Fld.LCH_PRBS_CFG_INV ↑n) = false)
      ∧ ((s.line ↑n).lane.loopback = 3) ∧ (s.flag (Fld.LCH_PRBS_CFG_GEN_EN ↑n) = true))
    ∧ (∃ (n : Fin 96) (s : Machine.State), (s.lineOn ↑n = true) ∧ (s.flag (Fld.LCH_PRBS_CFG_CHK_EN ↑n) = true)
      ∧ (s.flag (Fld.LCH_LINE_STATUS_CDR_LOCK ↑n) = true) ∧ (s.get (Fld.LCH_PRBS_CFG_PATTERN ↑n) = 0) ∧ (s.flag (Fld.LCH_PRBS_CFG_INV ↑n) = false)
      ∧ ((s.line ↑n).prbs.seed = none))
    ∧ (∃ (n : Fin 96) (reg : Nat) (s : Machine.State), (s.lineOn ↑n = true) ∧ (s.flag (Fld.LCH_PRBS_CFG_CHK_EN ↑n) = true)
      ∧ (s.flag (Fld.LCH_LINE_STATUS_CDR_LOCK ↑n) = true) ∧ (s.get (Fld.LCH_PRBS_CFG_PATTERN ↑n) = 0) ∧ (s.flag (Fld.LCH_PRBS_CFG_INV ↑n) = false)
      ∧ ((s.line ↑n).prbs.seed = some reg) ∧ (s.flag (Fld.LCH_PRBS_STATUS_SYNC ↑n) = true)) :=
  ⟨⟨0, Frames.w2, by decide +kernel⟩,
   ⟨2, Frames.w13, by decide +kernel⟩,
   ⟨2, Frames.w15, by decide +kernel⟩,
   ⟨2, Frames.w13, by decide +kernel⟩,
   ⟨2, 113, Frames.w17, by decide +kernel⟩⟩

theorem witness_LockLossSlipAndCodewords :
    (∃ (n : Fin 96) (s : Machine.State) (p : Nat × Nat), (s.lineOn ↑n = true) ∧ (s.fauHunts ↑n = true) ∧ (s.lockChoice ↑n = some p))
    ∧ (∃ (n : Fin 96) (s : Machine.State), (s.lineOn ↑n = true) ∧ (s.fauHunts ↑n = true) ∧ (s.lockChoice ↑n = none))
    ∧ (∃ (n : Fin 96) (s : Machine.State) (x : Tracker), (s.lineOn ↑n = true) ∧ (s.fauHunts ↑n = true) ∧ (isFramed (s.format ↑n) = true)
      ∧ ((s.line ↑n).fau.trackers = [x]) ∧ (s.ifCnt ↑n ≤ x.count))
    ∧ (∃ (n : Fin 96) (s : Machine.State), (s.lineOn ↑n = true) ∧ (s.fauLocked ↑n = true) ∧ ((s.line ↑n).fau.lossDue = true))
    ∧ (∃ (n : Fin 96) (s : Machine.State) (x : Tracker), (s.lineOn ↑n = true) ∧ (s.fauLocked ↑n = true) ∧ (s.slipFollows ↑n = true)
      ∧ ((s.line ↑n).fau.miss = 2) ∧ ((s.line ↑n).fau.followers = [x]))
    ∧ (∃ (n : Fin 96) (s : Machine.State), (s.lineOn ↑n = true) ∧ (isOtu (s.format ↑n) = true) ∧ (s.fauState ↑n = 3)
      ∧ (s.flag (Fld.LCH_FAU_STATUS_MF_LOCK ↑n) = false) ∧ (2 ≤ (s.line ↑n).fau.mfGood))
    ∧ (∃ (n : Fin 96) (s : Machine.State), (s.lineOn ↑n = true) ∧ (isOtu (s.format ↑n) = true) ∧ (s.fauState ↑n = 3)
      ∧ (s.flag (Fld.LCH_FAU_STATUS_MF_LOCK ↑n) = true) ∧ (5 ≤ (s.line ↑n).fau.mfBad))
    ∧ (∃ (n : Fin 96) (s : Machine.State), (s.lineOn ↑n = true))
    ∧ (∃ (n : Fin 96) (s : Machine.State) (c : FecBlock) (k : Nat), (s.lineOn ↑n = true) ∧ (s.fecRuns ↑n = true)
      ∧ (fecSuits c (s.format ↑n) = true) ∧ ((s.line ↑n).fau.fecMode ≠ 2)
      ∧ (fecOutcome c (s.flag (Fld.LCH_FAU_HUNT_CFG_SCR_BYPASS ↑n)) = FecOutcome.corrected (k + 1)))
    ∧ (∃ (n : Fin 96) (s : Machine.State) (c : FecBlock), (s.lineOn ↑n = true) ∧ (s.fecRuns ↑n = true) ∧ (fecSuits c (s.format ↑n) = true)
      ∧ ((s.line ↑n).fau.fecMode ≠ 2) ∧ (fecOutcome c (s.flag (Fld.LCH_FAU_HUNT_CFG_SCR_BYPASS ↑n)) = FecOutcome.uncorrectable))
    ∧ (∃ (n : Fin 96) (s : Machine.State) (c : FecBlock), (s.lineOn ↑n = true) ∧ (s.fecRuns ↑n = true) ∧ (fecSuits c (s.format ↑n) = true)
      ∧ ((s.line ↑n).fau.fecMode ≠ 2) ∧ (fecOutcome c (s.flag (Fld.LCH_FAU_HUNT_CFG_SCR_BYPASS ↑n)) = FecOutcome.clean))
    ∧ (∃ (n : Fin 96) (s : Machine.State), (s.lineOn ↑n = true) ∧ (s.fecRuns ↑n = true) ∧ ((s.line ↑n).fau.fecMode = 2)) :=
  ⟨⟨2, Frames.w4, (77, 13), by decide +kernel⟩,
   ⟨0, Frames.w3, by decide +kernel⟩,
   ⟨2, Frames.w4, Frames.trk, by decide +kernel⟩,
   ⟨2, Frames.w5, by decide +kernel⟩,
   ⟨2, Frames.w7, Frames.trk, by decide +kernel⟩,
   ⟨3, Frames.w11, by decide +kernel⟩,
   ⟨3, Frames.w12, by decide +kernel⟩,
   ⟨0, Frames.w1, by decide +kernel⟩,
   ⟨0, mxfFec, .mxf oneBad, 0, by decide +kernel, by decide +kernel, by decide +kernel, by decide +kernel,
    (congrArg (fecOutcome _) (by decide +kernel)).trans test_fec_one⟩,
   ⟨0, mxfFec, .mxf nineBad, by decide +kernel, by decide +kernel, by decide +kernel, by decide +kernel,
    (congrArg (fecOutcome _) (by decide +kernel)).trans test_fec_nine⟩,
   ⟨0, mxfFec, .mxf (List.replicate 192 0), by decide +kernel, by decide +kernel, by decide +kernel, by decide +kernel,
    (congrArg (fecOutcome _) (by decide +kernel)).trans test_fec_none⟩,
   ⟨3, Frames.mf.modFau 3 (fun f => { f with fecMode := 2 }), by decide +kernel⟩⟩

theorem witness_MehraxFrameIsChecked :
    (∃ (n : Fin 96) (x : List Word64) (s : Machine.State) (ws : List Word64), (s.lineOn ↑n = true) ∧ (isMxf (s.format ↑n) = true)
      ∧ (s.inFrame ↑n = true) ∧ (x.length = 2048) ∧ ((s.line ↑n).mxf.fecRx = false)
      ∧ (ws = if s.flag (Fld.LCH_FAU_HUNT_CFG_SCR_BYPASS ↑n) = true then x else scrFrame x) ∧ (ohcrcOf (List.take 8 ws) = mxfField ws 7 0 16))
    ∧ (∃ (n : Fin 96) (x : List Word64) (s : Machine.State) (ws : List Word64), (s.lineOn ↑n = true) ∧ (isMxf (s.format ↑n) = true)
      ∧ (s.inFrame ↑n = true) ∧ (x.length = 2048) ∧ ((s.line ↑n).mxf.fecRx = false)
      ∧ (ws = if s.flag (Fld.LCH_FAU_HUNT_CFG_SCR_BYPASS ↑n) = true then x else scrFrame x) ∧ (ohcrcOf (List.take 8 ws) ≠ mxfField ws 7 0 16))
    ∧ (∃ (n : Fin 96) (x : List Word64) (s : Machine.State) (ws : List Word64) (p : MxfPending), (s.lineOn ↑n = true)
      ∧ (isMxf (s.format ↑n) = true) ∧ (s.inFrame ↑n = true) ∧ (x.length = 2048) ∧ ((s.line ↑n).mxf.fecRx = false)
      ∧ (ws = if s.flag (Fld.LCH_FAU_HUNT_CFG_SCR_BYPASS ↑n) = true then x else scrFrame x) ∧ ((s.line ↑n).mxf.prev = some p))
    ∧ (∃ (n : Fin 96) (s : Machine.State), (s.lineOn ↑n = true) ∧ (isMxf (s.format ↑n) = true) ∧ (3 ≤ (s.line ↑n).mxf.qlRun))
    ∧ (∃ (n : Fin 96) (s : Machine.State), (s.lineOn ↑n = true) ∧ (isMxf (s.format ↑n) = true) ∧ ((s.line ↑n).mxf.qlRun < 3)) :=
  ⟨⟨0, zeroFrame 58998, plainMxf, _, by decide +kernel, by decide +kernel, by decide +kernel, zeroFrame_length _, by decide +kernel,
    zeroFrame_plain _, by decide +kernel⟩,
   ⟨0, zeroFrame 1, plainMxf, _, by decide +kernel, by decide +kernel, by decide +kernel, zeroFrame_length _, by decide +kernel, zeroFrame_plain _,
     by decide +kernel⟩,
   ⟨0, zeroFrame 1, plainMxf', _, before, by decide +kernel, by decide +kernel, by decide +kernel, zeroFrame_length _, by decide +kernel,
     zeroFrame_plain' _, by decide +kernel⟩,
   ⟨0, Frames.w24, by decide +kernel⟩,
   ⟨0, Frames.w2, by decide +kernel⟩⟩

theorem witness_MehraxFramesAndPeerMessages :
    (∃ (n : Fin 96) (s : Machine.State), (s.lineOn ↑n = true) ∧ (isMxf (s.format ↑n) = true) ∧ (s.framesOwn ↑n = true) ∧ (s.sendsHeld ↑n = false)
      ∧ (s.sendsMaint ↑n = false) ∧ (s.flag (Fld.LCH_FRB_STATUS_HOLD ↑n) = false) ∧ (s.flag (Fld.LCH_MXF_CFG_FEC ↑n) = false)
      ∧ ((s.line ↑n).mxf.txFirst = false) ∧ ((s.line ↑n).frb.cut = false))
    ∧ (∃ (n : Fin 96) (s : Machine.State) (x : PeerMsg), (s.lineOn ↑n = true) ∧ (isMxf (s.format ↑n) = true) ∧ (128 ≤ x.typ) ∧ (x.typ < 256)
      ∧ (s.lineActive ↑n = true) ∧ ((s.line ↑n).mxf.out = none) ∧ ((s.line ↑n).mxf.waiting = []))
    ∧ (∃ (n : Fin 96) (s : Machine.State) (x : PeerMsg) (o : PmcOut), (s.lineOn ↑n = true) ∧ (isMxf (s.format ↑n) = true) ∧ (128 ≤ x.typ)
      ∧ (x.typ < 256) ∧ (s.lineActive ↑n = true) ∧ ((s.line ↑n).mxf.out = some o) ∧ ((s.line ↑n).mxf.waiting.length < 16))
    ∧ (∃ (n : Fin 96) (s : Machine.State) (x : PeerMsg) (o : PmcOut), (s.lineOn ↑n = true) ∧ (isMxf (s.format ↑n) = true) ∧ (128 ≤ x.typ)
      ∧ (x.typ < 256) ∧ (s.lineActive ↑n = true) ∧ ((s.line ↑n).mxf.out = some o) ∧ (16 ≤ (s.line ↑n).mxf.waiting.length))
    ∧ (∃ (n : Fin 96) (s : Machine.State) (o : PmcOut), (s.lineOn ↑n = true) ∧ (isMxf (s.format ↑n) = true) ∧ ((s.line ↑n).mxf.out = some o)
      ∧ (s.lineActive ↑n = true) ∧ (o.due = false) ∧ (s.pmcTimeout ↑n ≤ o.waited) ∧ (o.resends < s.get (Fld.LCH_MXF_CFG_PMC_RETRIES ↑n)))
    ∧ (∃ (n : Fin 96) (s : Machine.State) (o : PmcOut), (s.lineOn ↑n = true) ∧ (isMxf (s.format ↑n) = true) ∧ ((s.line ↑n).mxf.out = some o)
      ∧ (s.lineActive ↑n = true) ∧ (o.due = false) ∧ (s.pmcTimeout ↑n ≤ o.waited) ∧ (s.get (Fld.LCH_MXF_CFG_PMC_RETRIES ↑n) ≤ o.resends)
      ∧ ((s.line ↑n).mxf.waiting = []))
    ∧ (∃ (n : Fin 96) (s : Machine.State) (x : PeerMsg), (s.lineOn ↑n = true) ∧ (isMxf (s.format ↑n) = true) ∧ ((s.line ↑n).mxf.rxMsg = some x)
      ∧ (s.thruIn ↑n = false) ∧ (128 ≤ x.typ) ∧ (x.txSeq = 0))
    ∧ (∃ (n : Fin 96) (s : Machine.State) (x : PeerMsg), (s.lineOn ↑n = true) ∧ (isMxf (s.format ↑n) = true) ∧ ((s.line ↑n).mxf.rxMsg = some x)
      ∧ (s.thruIn ↑n = false) ∧ (128 ≤ x.typ) ∧ (x.txSeq ≠ 0) ∧ (x.txSeq = (s.line ↑n).mxf.ackSeq))
    ∧ (∃ (n : Fin 96) (s : Machine.State) (x : PeerMsg), (s.lineOn ↑n = true) ∧ (isMxf (s.format ↑n) = true) ∧ ((s.line ↑n).mxf.rxMsg = some x)
      ∧ (s.thruIn ↑n = false) ∧ (x.typ = 1))
    ∧ (∃ (n : Fin 96) (s : Machine.State) (x : PeerMsg), (s.lineOn ↑n = true) ∧ (isMxf (s.format ↑n) = true) ∧ ((s.line ↑n).mxf.rxMsg = some x)
      ∧ (s.thruIn ↑n = false) ∧ (x.typ < 128) ∧ (¬x.typ ∈ [0, 1, 16, 48])) :=
  ⟨⟨0, Frames.w20, by decide +kernel⟩,
   ⟨0, Frames.w2, Frames.ms, by decide +kernel⟩,
   ⟨0, Frames.w25, Frames.ms, { msg := { typ := 160, txSeq := 1, index := 3, arg0 := 4660, arg1 := 0 }, resends := 0, waited := 0, due := true }, by decide +kernel⟩,
   ⟨0, Frames.w26, Frames.ms, { msg := { typ := 160, txSeq := 1, index := 3, arg0 := 4660, arg1 := 0 }, resends := 0, waited := 0, due := true }, by decide +kernel⟩,
   ⟨0, Frames.w27, { msg := { typ := 160, txSeq := 1, index := 3, arg0 := 4660, arg1 := 0 }, resends := 0, waited := 300, due := false }, by decide +kernel⟩,
   ⟨0, Frames.w28, { msg := { typ := 160, txSeq := 1, index := 3, arg0 := 4660, arg1 := 0 }, resends := 7, waited := 300, due := false }, by decide +kernel⟩,
   ⟨0, Frames.w29, Frames.ms, by decide +kernel⟩,
   ⟨0, Frames.w30, Frames.m0, by decide +kernel⟩,
   ⟨0, Frames.w31, Frames.m1, by decide +kernel⟩,
   ⟨0, Frames.w32, Frames.m2, by decide +kernel⟩⟩

theorem witness_ReceivedOverheadIsAccepted :
    (∃ (n : Fin 96) (s : Machine.State), (s.lineOn ↑n = true) ∧ (s.inFrame ↑n = false))
    ∧ (∃ (n : Fin 96) (s : Machine.State) (bs : List Byte) (f : List Byte) (h : SdhOh), (s.lineOn ↑n = true) ∧ (s.inFrame ↑n = true)
      ∧ (isStm (s.format ↑n) = true) ∧ (bs.length = stmBytes (stmN (s.format ↑n)))
      ∧ (f = if s.flag (Fld.LCH_FAU_HUNT_CFG_SCR_BYPASS ↑n) = true then bs else sdhScr (stmN (s.format ↑n)) bs) ∧ (h = sdhOh (stmN (s.format ↑n)) f))
    ∧ (∃ (n : Fin 96) (s : Machine.State) (bs : List Byte) (f : List Byte) (h : OtuOh), (s.lineOn ↑n = true) ∧ (s.inFrame ↑n = true)
      ∧ (isOtu (s.format ↑n) = true) ∧ (bs.length = 4 * otuCols)
      ∧ (f = otuDecode (fun i => (s.line ↑n).fau.modes.getD i (s.line ↑n).fau.fecMode) (if s.flag (Fld.LCH_FAU_HUNT_CFG_SCR_BYPASS ↑n) = true then bs else otuScr bs))
      ∧ (h = otuOh otuCols f))
    ∧ (∃ (n : Fin 96) (s : Machine.State) (l : List (BitVec 66)) (x : List (Bool × Bool × Nat)), (s.lineOn ↑n = true) ∧ (s.inFrame ↑n = true)
      ∧ (isEth (s.format ↑n) = true) ∧ (s.format ↑n ≠ 1) ∧ (x = blockList (s.flag (Fld.LCH_FAU_HUNT_CFG_SCR_BYPASS ↑n)) (s.ohp ↑n).eth.descr l))
    ∧ (∃ (n : Fin 96) (s : Machine.State), (s.lineOn ↑n = true) ∧ (s.inFrame ↑n = true) ∧ (s.format ↑n = 1))
    ∧ (∃ (n : Fin 96) (s : Machine.State) (x : Nat × Option (List Byte)), (s.lineOn ↑n = true) ∧ (s.inFrame ↑n = true)
      ∧ (isMxf (s.format ↑n) = true) ∧ ((s.line ↑n).mxf.oh = some x))
    ∧ (∃ (n : Fin 96) (s : Machine.State) (k : Fin 8) (x : Trace), (s.lineOn ↑n = true) ∧ ((s.ohp ↑n).traces.getD (↑k) Trace.reset = x)
      ∧ (s.inFrame ↑n = true) ∧ (3 ≤ x.run))
    ∧ (∃ (n : Fin 96) (s : Machine.State) (k : Fin 8) (x : Trace), (s.lineOn ↑n = true) ∧ ((s.ohp ↑n).traces.getD (↑k) Trace.reset = x)
      ∧ (x.run < 3 ∨ s.inFrame ↑n = false))
    ∧ (∃ (n : Fin 96) (s : Machine.State), (s.lineOn ↑n = true) ∧ (isStm (s.format ↑n) = true))
    ∧ (∃ (n : Fin 96) (s : Machine.State), (s.lineOn ↑n = true)) :=
  ⟨⟨0, Overhead.w1, by decide +kernel⟩,
   ⟨2, Overhead.inf, List.replicate (stmBytes (stmN (Overhead.inf.format 2))) 0, _, _, by decide +kernel, by decide +kernel, by decide +kernel,
     List.length_replicate, rfl, rfl⟩,
   ⟨3, Overhead.inf, List.replicate (4 * otuCols) 0, _, _, by decide +kernel, by decide +kernel, by decide +kernel, List.length_replicate, rfl, rfl⟩,
   ⟨4, Overhead.w2, [], [], by decide +kernel⟩,
   ⟨4, Overhead.w19, by decide +kernel⟩,
   ⟨0, Overhead.w10, (0x12345678, some [1,2,3,4,5,6,7,8]), by decide +kernel⟩,
   ⟨0, Overhead.tr Overhead.inf 3 [1,2,3], 0, ((Overhead.tr Overhead.inf 3 [1,2,3]).ohp 0).traces.getD 0 Trace.reset, by decide +kernel⟩,
   ⟨0, Overhead.w1, 0, ((Overhead.w0.ohp 0).traces.getD 0 Trace.reset), by decide +kernel⟩,
   ⟨2, Overhead.w2, by decide +kernel⟩,
   ⟨0, Overhead.w1, by decide +kernel⟩⟩

theorem witness_ChannelsAndTransmitOverhead :
    (∃ (n : Fin 96) (s : Machine.State) (c : Fin 4) (v : BitVec 32), (s.lineOn ↑n = true)
      ∧ (ringFill (s.get (Fld.LCH_OHP_CAP_WR_V ↑n ↑c)) v.toNat ≤ (capRing ↑n ↑c).snd))
    ∧ (∃ (n : Fin 96) (s : Machine.State) (c : Fin 4) (v : BitVec 32), (s.lineOn ↑n = true)
      ∧ ((capRing ↑n ↑c).snd < ringFill (s.get (Fld.LCH_OHP_CAP_WR_V ↑n ↑c)) v.toNat))
    ∧ (∃ (n : Fin 96) (s : Machine.State) (c : Fin 4) (v : BitVec 32), (s.lineOn ↑n = true)
      ∧ (ringFill v.toNat (s.get (Fld.LCH_OHP_INS_RD_V ↑n ↑c)) ≤ 2048))
    ∧ (∃ (n : Fin 96) (s : Machine.State) (c : Fin 4) (v : BitVec 32), (s.lineOn ↑n = true)
      ∧ (2048 < ringFill v.toNat (s.get (Fld.LCH_OHP_INS_RD_V ↑n ↑c))))
    ∧ (∃ (n : Fin 96) (s : Machine.State) (bs : List Byte), (s.lineOn ↑n = true) ∧ (isEth (s.format ↑n) = true) ∧ (s.inFrame ↑n = true)
      ∧ (s.flag (Fld.LCH_OHP_RX_CFG_ESMC_EN ↑n) = true) ∧ (s.flag (Fld.LCH_OHP_CAP_CFG_EN (↑n) 3) = true) ∧ (isEsmc bs = true))
    ∧ (∃ (n : Fin 96) (s : Machine.State) (len : Nat), (s.lineOn ↑n = true) ∧ (isEth (s.format ↑n) = true) ∧ (s.lineActive ↑n = true)
      ∧ (s.flag (Fld.LCH_OHP_INS_CFG_EN (↑n) 3) = true) ∧ (s.flag (Fld.LCH_OHP_THRU_CFG_ENABLE ↑n) = false) ∧ ((s.ohp ↑n).esmcSkip = 0)
      ∧ (len = leNat (s.ringGet (insRing (↑n) 3) (s.get (Fld.LCH_OHP_INS_RD_V (↑n) 3)) 2)) ∧ (len ≤ 1518)
      ∧ (16 + (len + 7) / 8 * 8 ≤ ringFill (s.get (Fld.LCH_OHP_INS_WR_V (↑n) 3)) (s.get (Fld.LCH_OHP_INS_RD_V (↑n) 3))))
    ∧ (∃ (n : Fin 96) (s : Machine.State) (len : Nat), (s.lineOn ↑n = true) ∧ (isEth (s.format ↑n) = true) ∧ (s.lineActive ↑n = true)
      ∧ (s.flag (Fld.LCH_OHP_INS_CFG_EN (↑n) 3) = true) ∧ (s.flag (Fld.LCH_OHP_THRU_CFG_ENABLE ↑n) = false) ∧ ((s.ohp ↑n).esmcSkip = 0)
      ∧ (len = leNat (s.ringGet (insRing (↑n) 3) (s.get (Fld.LCH_OHP_INS_RD_V (↑n) 3)) 2)) ∧ (1518 < len)
      ∧ (16 ≤ ringFill (s.get (Fld.LCH_OHP_INS_WR_V (↑n) 3)) (s.get (Fld.LCH_OHP_INS_RD_V (↑n) 3))))
    ∧ (∃ (n : Fin 96) (s : Machine.State), (s.lineOn ↑n = true))
    ∧ (∃ (n : Fin 96) (s : Machine.State) (k : Fin 8), (s.lineOn ↑n = true) ∧ ((s.get (Fld.LCH_OHP_TX_TRACE_CTL_PEND ↑n)).testBit ↑k = true)
      ∧ ((s.ohp ↑n).txPos % s.txTraceLen ↑n = 0))
    ∧ (∃ (n : Fin 96) (s : Machine.State) (k : Fin 8), (s.lineOn ↑n = true) ∧ ((s.get (Fld.LCH_OHP_TX_TRACE_CTL_PEND ↑n)).testBit ↑k = true)
      ∧ ((s.ohp ↑n).txPos % s.txTraceLen ↑n ≠ 0))
    ∧ (∃ (n : Fin 96) (s : Machine.State), (s.lineOn ↑n = true) ∧ (s.framesOwn ↑n = true) ∧ (isStm (s.format ↑n) = true))
    ∧ (∃ (n : Fin 96) (s : Machine.State), (s.lineOn ↑n = true) ∧ (s.framesOwn ↑n = true) ∧ (isOtu (s.format ↑n) = true))
    ∧ (∃ (n : Fin 96) (s : Machine.State), (s.lineOn ↑n = true) ∧ (s.framesOwn ↑n = true) ∧ (isMxf (s.format ↑n) = true) ∧ (s.sendsHeld ↑n = false))
    ∧ (∃ (n : Fin 96) (s : Machine.State), (s.lineOn ↑n = true) ∧ (s.framesOwn ↑n = true) ∧ (isEth (s.format ↑n) = true)) :=
  ⟨⟨0, Plain.w0, 0, 0, by decide +kernel⟩,
   ⟨0, Plain.w0, 0, 0x100, by decide +kernel⟩,
   ⟨0, Plain.w0, 0, 0, by decide +kernel⟩,
   ⟨0, Plain.w0, 0, Plain.coef (127 + 2^7 + 2^8 * 8 + 2^12), by decide +kernel⟩,
   ⟨4, Overhead.w2, Overhead.esmcF 60, by decide +kernel⟩,
   ⟨4, Overhead.w13, 20, by decide +kernel⟩,
   ⟨4, (Overhead.es.ringPut (insRing 4 3) 0 (leBytes 2 1519 ++ List.replicate 100 3)).set (Fld.LCH_OHP_INS_WR_V 4 3) 60, 1519, by decide +kernel⟩,
   ⟨0, Plain.w0, by decide +kernel⟩,
   ⟨2, Overhead.w16, 0, by decide +kernel⟩,
   ⟨0, Plain.w5, 0, by decide +kernel⟩,
   ⟨2, Overhead.w17, by decide +kernel⟩,
   ⟨3, Overhead.w17, by decide +kernel⟩,
   ⟨0, Overhead.w17, by decide +kernel⟩,
   ⟨4, Overhead.w17, by decide +kernel⟩⟩

theorem witness_ThroughForwardsAndFallsBack :
    (∃ (n : Fin 96) (i : Fin 96) (s : Machine.State), (s.lineOn ↑n = true) ∧ (s.get (Fld.LCH_OHP_THRU_CFG_SRC_LINE ↑n) = ↑i)
      ∧ (s.flag (Fld.LCH_OHP_THRU_CFG_ENABLE ↑n) = true) ∧ (s.lineOn ↑i = true) ∧ (s.lineActive ↑i = true) ∧ (s.lineActive ↑n = true)
      ∧ (s.get (Fld.LCH_FAU_STATUS_STATE ↑i) = 3) ∧ ((s.thru ↑n).started = false))
    ∧ (∃ (n : Fin 96) (i : Fin 96) (s : Machine.State), (s.lineOn ↑n = true) ∧ (s.get (Fld.LCH_OHP_THRU_CFG_SRC_LINE ↑n) = ↑i)
      ∧ (s.flag (Fld.LCH_OHP_THRU_CFG_ENABLE ↑n) = true) ∧ (s.lineOn ↑i = true) ∧ (s.lineActive ↑i = true) ∧ (s.lineActive ↑n = true)
      ∧ (s.get (Fld.LCH_FAU_STATUS_STATE ↑i) ≠ 3))
    ∧ (∃ (n : Fin 96) (i : Fin 96) (s : Machine.State), (s.lineOn ↑n = true) ∧ (s.get (Fld.LCH_OHP_THRU_CFG_SRC_LINE ↑n) = ↑i)
      ∧ (s.flag (Fld.LCH_OHP_THRU_CFG_ENABLE ↑n) = true) ∧ (s.lineOn ↑i = true) ∧ (s.lineActive ↑i = true) ∧ (s.lineActive ↑n = true)
      ∧ (s.get (Fld.LCH_FAU_STATUS_STATE ↑i) = 3) ∧ ((s.thru ↑n).started = true) ∧ (s.flag (Fld.LCH_OHP_THRU_STATUS_FALLBACK ↑n) = true)
      ∧ ((s.thru ↑n).back < 2))
    ∧ (∃ (n : Fin 96) (i : Fin 96) (s : Machine.State), (s.lineOn ↑n = true) ∧ (s.get (Fld.LCH_OHP_THRU_CFG_SRC_LINE ↑n) = ↑i)
      ∧ (s.flag (Fld.LCH_OHP_THRU_CFG_ENABLE ↑n) = true) ∧ (s.lineOn ↑i = true) ∧ (s.lineActive ↑i = true) ∧ (s.lineActive ↑n = true)
      ∧ (s.get (Fld.LCH_FAU_STATUS_STATE ↑i) = 3) ∧ ((s.thru ↑n).started = true) ∧ (s.flag (Fld.LCH_OHP_THRU_STATUS_FALLBACK ↑n) = true)
      ∧ (2 ≤ (s.thru ↑n).back))
    ∧ (∃ (n : Fin 96) (i : Fin 96) (s : Machine.State), (s.lineOn ↑n = true) ∧ (s.get (Fld.LCH_OHP_THRU_CFG_SRC_LINE ↑n) = ↑i)
      ∧ (s.flag (Fld.LCH_OHP_THRU_STATUS_ACTIVE ↑n) = true) ∧ (s.inFrame ↑i = false ∨ s.flag (Fld.LCH_LINE_STATUS_CDR_LOCK ↑i) = false))
    ∧ (∃ (n : Fin 96) (i : Fin 96) (s : Machine.State), (s.lineOn ↑n = true) ∧ (s.get (Fld.LCH_OHP_THRU_CFG_SRC_LINE ↑n) = ↑i)
      ∧ (s.flag (Fld.LCH_OHP_THRU_STATUS_ACTIVE ↑n) = true) ∧ (s.lineOn ↑i = true) ∧ (s.inFrame ↑i = true)
      ∧ (s.flag (Fld.LCH_LINE_STATUS_CDR_LOCK ↑i) = true))
    ∧ (∃ (n : Fin 96) (i : Fin 96) (s : Machine.State), (s.lineOn ↑n = true) ∧ (s.get (Fld.LCH_OHP_THRU_CFG_SRC_LINE ↑n) = ↑i)
      ∧ (s.flag (Fld.LCH_OHP_THRU_STATUS_ACTIVE ↑n) = true) ∧ (s.inFrame ↑i = true) ∧ (s.flag (Fld.LCH_FRB_STATUS_HOLD ↑n) = false)
      ∧ (thruBytes (s.format ↑n) = 0))
    ∧ (∃ (n : Fin 96) (i : Fin 96) (s : Machine.State), (s.lineOn ↑n = true) ∧ (s.get (Fld.LCH_OHP_THRU_CFG_SRC_LINE ↑n) = ↑i)
      ∧ (s.flag (Fld.LCH_OHP_THRU_STATUS_ACTIVE ↑n) = true) ∧ (s.inFrame ↑i = true) ∧ (s.flag (Fld.LCH_FRB_STATUS_HOLD ↑n) = false)
      ∧ (thruBytes (s.format ↑n) ≠ 0) ∧ ((s.thru ↑n).frame.length = (s.thru ↑n).pos) ∧ (16 ≤ (s.thru ↑n).pos)
      ∧ ((s.thru ↑n).pos + 16 ≤ thruBytes (s.format ↑n)) ∧ ((s.thru ↑n).tti = []) ∧ ((s.thru ↑n).chk = false) ∧ (∀ (x : Nat × BitVec 8),
      x ∈ (s.thru ↑n).ins → x.fst < (s.thru ↑n).pos ∨ (s.thru ↑n).pos + 16 ≤ x.fst)
      ∧ (isMxf (s.format ↑n) = true → (s.thru ↑n).pos / 8 = 6 → (s.thru ↑n).ins = [] ∧ (s.thru ↑n).ohOut = (s.thru ↑n).ohIn)
      ∧ ((s.thru ↑n).d1p = 0) ∧ (((s.thru ↑n).d2p.all fun x => x == 0) = true) ∧ (((s.thru ↑n).rs.all fun r => r.all fun x => x == 0) = true))
    ∧ (∃ (n : Fin 96) (i : Fin 96) (s : Machine.State), (s.lineOn ↑n = true) ∧ (s.get (Fld.LCH_OHP_THRU_CFG_SRC_LINE ↑n) = ↑i)
      ∧ (s.flag (Fld.LCH_OHP_THRU_STATUS_ACTIVE ↑n) = true) ∧ (s.inFrame ↑i = true) ∧ (s.flag (Fld.LCH_FRB_STATUS_HOLD ↑n) = false)
      ∧ (thruBytes (s.format ↑n) ≠ 0) ∧ ((s.thru ↑n).frame.length = (s.thru ↑n).pos) ∧ (isMxf (s.format ↑n) = true) ∧ ((s.thru ↑n).pos = 0))
    ∧ (∃ (n : Fin 96) (i : Fin 96) (s : Machine.State) (m : BitVec 64), (s.lineOn ↑n = true) ∧ (s.get (Fld.LCH_OHP_THRU_CFG_SRC_LINE ↑n) = ↑i)
      ∧ (s.flag (Fld.LCH_OHP_THRU_STATUS_ACTIVE ↑n) = true) ∧ (s.inFrame ↑i = true) ∧ (s.flag (Fld.LCH_FRB_STATUS_HOLD ↑n) = false)
      ∧ (thruBytes (s.format ↑n) ≠ 0) ∧ ((s.thru ↑n).frame.length = (s.thru ↑n).pos) ∧ (isMxf (s.format ↑n) = true) ∧ ((s.thru ↑n).pos = 48)
      ∧ ((s.thru ↑n).ins ≠ []) ∧ ((s.thru ↑n).chk = true) ∧ (m = BitVec.ofNat 64 (beNat (List.map (fun x => x.snd) (s.thru ↑n).ins))))
    ∧ (∃ (n : Fin 96) (i : Fin 96) (s : Machine.State), (s.lineOn ↑n = true) ∧ (s.get (Fld.LCH_OHP_THRU_CFG_SRC_LINE ↑n) = ↑i)) :=
  ⟨⟨0, 10, Through.w2, by decide +kernel⟩,
   ⟨0, 10, Through.w4, by decide +kernel⟩,
   ⟨0, 10, Through.w6, by decide +kernel⟩,
   ⟨0, 10, Through.w20, by decide +kernel⟩,
   ⟨0, 10, Through.w4, by decide +kernel⟩,
   ⟨0, 10, Through.w3, by decide +kernel⟩,
   ⟨4, 14, Through.w3, by decide +kernel⟩,
   ⟨0, 10, Through.w7, by decide +kernel⟩,
   ⟨0, 10, Through.w3, by decide +kernel⟩,
   ⟨0, 10, Through.w14, (beNat [1,2,3,4,5,6,7,8] : Nat), by decide +kernel⟩,
   ⟨0, 0, Through.w1, by decide +kernel⟩⟩

theorem witness_LineSendsEnabledPlanesWords :
    (∃ (n : Fin 96) (s : Machine.State), (s.lineOn ↑n = true) ∧ (s.lineSends ↑n = true) ∧ (s.enabledPlane ↑n = none)
      ∧ (s.flag (Fld.LCH_FRB_STATUS_HOLD ↑n) = false))
    ∧ (∃ (n : Fin 96) (s : Machine.State), (s.lineOn ↑n = true) ∧ (s.lineSends ↑n = true) ∧ (s.enabledPlane ↑n = none)
      ∧ (s.flag (Fld.LCH_FRB_STATUS_HOLD ↑n) = true))
    ∧ (∃ (n : Fin 96) (a : Option (BitVec 64)) (b : Option (BitVec 64)) (st : Bool) (s : Machine.State) (w : BitVec 64) (v : BitVec 64),
      (s.lineOn ↑n = true) ∧ (s.lineSends ↑n = true) ∧ (s.enabledPlane ↑n = some 0) ∧ (s.halfOn 0 = true) ∧ (a = some w) ∧ (b = some v)
      ∧ (s.twin = true) ∧ (3 ≤ s.planeState 0) ∧ (s.flag (Fld.LCH_FRB_STATUS_HOLD ↑n) = true) ∧ (isEth (s.format ↑n) = true) ∧ (st = false))
    ∧ (∃ (n : Fin 96) (a : Option (BitVec 64)) (b : Option (BitVec 64)) (s : Machine.State) (w : BitVec 64) (v : BitVec 64), (s.lineOn ↑n = true)
      ∧ (s.lineSends ↑n = true) ∧ (s.enabledPlane ↑n = some 0) ∧ (s.halfOn 0 = true) ∧ (s.halfOn 1 = true) ∧ (a = some w) ∧ (b = some v)
      ∧ (s.twin = true) ∧ (3 ≤ s.planeState 0) ∧ (3 ≤ s.planeState 1) ∧ (s.flag (Fld.LCH_FRB_STATUS_HOLD ↑n) = false))
    ∧ (∃ (n : Fin 96) (s : Machine.State), (s.lineOn ↑n = true) ∧ (s.lineSends ↑n = false))
    ∧ (∃ (n : Fin 96) (s : Machine.State), (s.lineOn ↑n = true) ∧ (s.flag (Fld.LCH_FRB_STATUS_HOLD ↑n) = true)
      ∧ (s.flag (Fld.LCH_FRB_STATUS_MAINT ↑n) = false))
    ∧ (∃ (n : Fin 96) (s : Machine.State), (s.lineOn ↑n = true) ∧ (s.flag (Fld.LCH_FRB_STATUS_HOLD ↑n) = false)) :=
  ⟨⟨5, Through.w16, by decide +kernel⟩,
   ⟨5, Through.w18, by decide +kernel⟩,
   ⟨5, some 0x0000000000000000#64, some 0x0000000000000000#64, false, Through.w21, 0, 0, by decide +kernel⟩,
   ⟨5, some 0x0000000000000000#64, some 0x0000000000000000#64, Through.w17, 0, 0, by decide +kernel⟩,
   ⟨0, Plain.w0, by decide +kernel⟩,
   ⟨0, Plain.w6, by decide +kernel⟩,
   ⟨0, Plain.w0, by decide +kernel⟩⟩

theorem witness_TableWritesReachInactiveEpoch :
    (∃ (a : BitVec 24) (o : Nat) (s : Machine.State), (s.spineOn = true) ∧ (a.toNat % 4 = 0) ∧ (o = a.toNat % 8388608))
    ∧ (∃ (a : BitVec 24) (l : List Byte) (o : Nat) (s : Machine.State), (s.spineOn = true) ∧ (l.length = 8) ∧ (a.toNat % 8 = 0)
      ∧ (o = a.toNat % 8388608) ∧ (o < 4194304))
    ∧ (∃ (a : BitVec 24) (l : List Byte) (s : Machine.State), (s.spineOn = false ∨ l.length ≠ 4 ∧ l.length ≠ 8 ∨ a.toNat % l.length ≠ 0))
    ∧ (∃ (s : Machine.State), (s.spineOn = true)) :=
  ⟨⟨0x000000#24, 0, Tables.w1, by decide +kernel⟩,
   ⟨0x000000#24, List.replicate 8 5, 0, Tables.w1, by decide +kernel⟩,
   ⟨0x000000#24, [], Tables.w0, by decide +kernel⟩,
   ⟨Tables.w1, by decide +kernel⟩⟩

theorem witness_EpochCommitSwitchesSides :
    (∃ (s : Machine.State), (s.spineOn = true))
    ∧ (∃ (p : Fin 2) (s : Machine.State), (s.berentDuty = true) ∧ (s.planeRuns ↑p = true) ∧ (s.committing ↑p = false)
      ∧ ((s.plane ↑p).committed = true) ∧ (s.flag (Fld.CVU_STATUS_DMA_OWNED 15) = false))
    ∧ (∃ (p : Fin 2) (s : Machine.State), (s.berentDuty = true) ∧ (s.planeRuns ↑p = true) ∧ (s.committing ↑p = false)
      ∧ ((s.plane ↑p).committed = false)) :=
  ⟨⟨Tables.w1, by decide +kernel⟩,
   ⟨0, Tables.w6, by decide +kernel⟩,
   ⟨0, Tables.w1, by decide +kernel⟩⟩

theorem witness_PacketsGoThroughTheirQueues : ∃ (n : Fin 96) (bs : List Byte) (s : Machine.State), (s.lineOn ↑n = true)
  ∧ (isEth (s.format ↑n) = true) ∧ (isEsmc bs = false) :=
  ⟨4, Packets.goodF 60, Packets.w1, by decide +kernel⟩

theorem witness_DefectsAndFailuresFollowCriteria :
    (∃ (n : Fin 96) (s : Machine.State), (s.lineOn ↑n = true) ∧ (s.format ↑n ≠ 0))
    ∧ (∃ (n : Fin 96) (s : Machine.State), (s.lineOn ↑n = true))
    ∧ (∃ (n : Fin 96) (s : Machine.State) (i : Fin 6) (k : Fin 7), (s.lineOn ↑n = true) ∧ (isOtu (s.format ↑n) = true)
      ∧ (tcmMode (s.ohp ↑n).tcmRx ↑i ≠ 0) ∧ (s.tcmUp ↑n ↑i ↑k = true))
    ∧ (∃ (n : Fin 96) (s : Machine.State) (i : Fin 6) (k : Fin 7), (s.lineOn ↑n = true) ∧ (isOtu (s.format ↑n) = true)
      ∧ (tcmMode (s.ohp ↑n).tcmRx ↑i ≠ 0) ∧ (s.tcmDown ↑n ↑i ↑k = true) ∧ ((s.line ↑n).dpm.tcmDef.testBit (7 * ↑i + ↑k) = true))
    ∧ (∃ (b : Fin 15), (b ≠ 0)) :=
  ⟨⟨0, Marks.w1, by decide +kernel⟩,
   ⟨0, Marks.w1, by decide +kernel⟩,
   ⟨3, Marks.w3, 0, 0, by decide +kernel⟩,
   ⟨3, Marks.w3, 0, 0, by decide +kernel⟩,
   ⟨1, by decide +kernel⟩⟩

theorem witness_SecondsPassesAndExports :
    (∃ (s : Machine.State), (s.tk.running = true))
    ∧ (∃ (p : Fin 2) (s : Machine.State), (s.planeRuns ↑p = true) ∧ (s.get (Fld.DPM_PM_SEQ_SEQ ↑p) % 2 = 1))
    ∧ (∃ (p : Fin 2) (s : Machine.State), (s.planeRuns ↑p = true) ∧ (s.get (Fld.DPM_PM_SEQ_SEQ ↑p) % 2 = 0))
    ∧ (∃ (s : Machine.State), (s.spineOn = true))
    ∧ (∃ (s : Machine.State), (s.spineOn = true) ∧ ((signedOf 32 (s.get Fld.AON_TK_STEP_NS_STEP)).natAbs < 1000000000))
    ∧ (∃ (s : Machine.State), (s.spineOn = true) ∧ (1000000000 ≤ (signedOf 32 (s.get Fld.AON_TK_STEP_NS_STEP)).natAbs))
    ∧ (∃ (p : Fin 2) (x : PmSource) (day : Bool) (a : Nat) (i : Nat) (l : Nat) (b : Nat × Nat) (s : Machine.State), (pmItem (↑p) x = (a, i, l))
      ∧ (s.berentService = true) ∧ (s.halfOn ↑p = true) ∧ (s.mbx.pmx = some b)
      ∧ (0 < if day = true then (s.plane ↑p).int24 else (s.plane ↑p).int15) ∧ (s.flag Fld.MGMT_FW_STATE_OVERLOAD = false) ∧ (s.pmxRoom = true)
      ∧ (s.binBit a day true false = false) ∧ (s.pmxLast (2 * a + b2n day) ≤ s.intervalStart (↑p) day true))
    ∧ (∃ (p : Fin 2) (x : PmSource) (day : Bool) (a : Nat) (i : Nat) (l : Nat) (b : Nat × Nat) (s : Machine.State), (pmItem (↑p) x = (a, i, l))
      ∧ (s.berentService = true) ∧ (s.halfOn ↑p = true) ∧ (s.mbx.pmx = some b)
      ∧ (0 < if day = true then (s.plane ↑p).int24 else (s.plane ↑p).int15) ∧ ((if day = true then 86400 else 900) ≤ s.intervalStart (↑p) day true)
      ∧ (s.pmxLast (2 * a + b2n day) ≤ s.intervalStart (↑p) day true - if day = true then 86400 else 900))
    ∧ (∃ (p : Fin 2) (s : Machine.State), (s.berentService = true) ∧ (s.mbx.tcaFwd = true) ∧ (s.halfOn ↑p = true)
      ∧ (s.get (Fld.DPM_TCA_RD_RD ↑p) ≠ s.get (Fld.DPM_TCA_WR_WR ↑p)))
    ∧ (∃ (p : Fin 2) (s : Machine.State), (s.berentService = true) ∧ (s.mbx.tcaFwd = true) ∧ (s.halfOn ↑p = true)
      ∧ (s.get (Fld.DPM_TCA_RD_RD ↑p) = s.get (Fld.DPM_TCA_WR_WR ↑p)))
    ∧ (∃ (s : Machine.State), (s.berentService = false ∨ s.mbx.tcaFwd = false)) :=
  ⟨⟨Passes.w0, by decide +kernel⟩,
   ⟨0, Passes.w5, by decide +kernel⟩,
   ⟨0, Passes.w0, by decide +kernel⟩,
   ⟨Passes.w0, by decide +kernel⟩,
   ⟨Passes.w0, by decide +kernel⟩,
   ⟨Passes.w10, by decide +kernel⟩,
   ⟨0, .flow 1, false, flowRec 0 1, 1, 0, (0x10000,4096), Passes.w11, by decide +kernel⟩,
   ⟨0, .flow 1, false, flowRec 0 1, 1, 0, (0x10000,4096), Passes.w11, by decide +kernel⟩,
   ⟨0, Passes.w12, by decide +kernel⟩,
   ⟨0, Passes.w11, by decide +kernel⟩,
   ⟨Passes.w0, by decide +kernel⟩⟩

theorem witness_LineGroupsSelectAndReport :
    (∃ (p : Fin 2) (g : Fin 48) (s : Machine.State) (c : Nat × Instr), (s.spineOn = true) ∧ (c ∈ [(0, Instr.lgCmdClear p g), (1,
      Instr.lgCmdLockout p g), (2, Instr.lgCmdForcedSwitch p g), (3, Instr.lgCmdManualP p g), (4, Instr.lgCmdExercise p g), (5,
      Instr.lgCmdManualW p g)]))
    ∧ (∃ (n : Fin 96) (s : Machine.State), (s.lineOn ↑n = true) ∧ (3 ≤ (s.ohp ↑n).aps.snd))
    ∧ (∃ (n : Fin 96) (s : Machine.State), (s.lineOn ↑n = true) ∧ ((s.ohp ↑n).aps.snd < 3))
    ∧ (∃ (s : Machine.State), (s.spineOn = true))
    ∧ (∃ (s : Machine.State) (g : Fin 48), (s.spineOn = true) ∧ (s.get Fld.PRT_REC_ADDR_ADDR = ↑g * 32 + 4)) :=
  ⟨⟨0, 0, Plain.w0, (0, Instr.lgCmdClear (0) (0)), by decide +kernel⟩,
   ⟨5, Groups.w9, by decide +kernel⟩,
   ⟨0, Plain.w0, by decide +kernel⟩,
   ⟨Plain.w0, by decide +kernel⟩,
   ⟨Groups.w25, 0, by decide +kernel⟩⟩

theorem witness_MergeGroupsJoinTwoCopies :
    (∃ (p : Fin 2) (g : Fin 256) (s : Machine.State) (c : Nat × Instr), (s.spineOn = true) ∧ (c ∈ [(0, Instr.mgCmdClear p g), (1,
      Instr.mgCmdLockout p g), (2, Instr.mgCmdForced p g), (3, Instr.mgCmdManualP p g), (4, Instr.mgCmdManualW p g)]))
    ∧ (∃ (s : Machine.State), (s.spineOn = true))
    ∧ (∃ (n : Fin 96) (s : Machine.State), (s.lineOn ↑n = true) ∧ (isMxf (s.format ↑n) = true) ∧ (s.inFrame ↑n = true)) :=
  ⟨⟨0, 0, Plain.w0, (0, Instr.mgCmdClear (0) (0)), by decide +kernel⟩,
   ⟨Plain.w0, by decide +kernel⟩,
   ⟨0, Plain.w7, by decide +kernel⟩⟩

theorem witness_PlanesAreSequencedAndCompared :
    (∃ (s : Machine.State), (s.inTwin))
    ∧ (∃ (s : Machine.State) (k : Nat) (a : Nat) (b : Nat), (s.inTwin) ∧ (k = s.sigNext) ∧ (s.sigOf 0 k = some a) ∧ (s.sigOf 1 k = some b)
      ∧ (s.comparing = true))
    ∧ (∃ (s : Machine.State) (p : Fin 2), (s.inTwin) ∧ (s.comparing = true) ∧ (s.sigOf (↑p) s.sigNext = none) ∧ (s.sigOf (1 - ↑p) s.sigNext ≠ none)
      ∧ (s.sigNext + 4 < s.get64 Reg.TWN_SQF_LO))
    ∧ (∃ (s : Machine.State) (p : Fin 2), (s.inTwin) ∧ (s.comparing = true) ∧ (s.sigOf (↑p) s.sigNext = none) ∧ (s.sigOf (1 - ↑p) s.sigNext ≠ none)
      ∧ (s.get64 Reg.TWN_SQF_LO ≤ s.sigNext + 4))
    ∧ (∃ (s : Machine.State) (p : Fin 2), (s.inTwin) ∧ (s.returning = some ↑p) ∧ (s.opFree ≠ none) ∧ (s.berentDuty = true)
      ∧ (s.flag Fld.TWN_LEASE_CFG_AUTO_RESYNC = true) ∧ (s.tw.resync = none) ∧ (s.copyReady ↑p = true))
    ∧ (∃ (s : Machine.State) (r : Resync), (s.inTwin) ∧ (s.tw.resync = some r) ∧ (r.plane < 2) ∧ (r.copying = true))
    ∧ (∃ (s : Machine.State) (r : Resync), (s.inTwin) ∧ (s.tw.resync = some r) ∧ (r.plane < 2) ∧ (r.copying = true) ∧ (s.planeState r.plane = 2)
      ∧ (r.passes = 0 ∨ r.dirty ≠ []))
    ∧ (∃ (n : Fin 96) (s : Machine.State), (s.inTwin) ∧ (s.lineOn ↑n = true))
    ∧ (∃ (p : Fin 2) (s : Machine.State), (s.halfOn ↑p = true) ∧ (s.coreLocked ↑p = true) ∧ ((s.planeTw ↑p).initDue = true) ∧ (s.tw.resync = none)) :=
  ⟨⟨Planes.w1, by unfold State.inTwin; decide +kernel⟩,
   ⟨Planes.w2, 5, 11, 11, by unfold State.inTwin; decide +kernel⟩,
   ⟨Planes.w4, 1, by unfold State.inTwin; decide +kernel⟩,
   ⟨Planes.w1, 1, by unfold State.inTwin; decide +kernel⟩,
   ⟨Planes.w23, 0, by unfold State.inTwin; decide +kernel⟩,
   ⟨Planes.w22, { plane := 0, copying := true, passes := 2, dirty := [] }, by unfold State.inTwin; decide +kernel⟩,
   ⟨Planes.w27, { plane := 0, copying := true, passes := 0, dirty := [] }, by unfold State.inTwin; decide +kernel⟩,
   ⟨0, Planes.w1, by unfold State.inTwin; decide +kernel⟩,
   ⟨0, Planes.w5, by decide +kernel⟩⟩

theorem witness_LeaseFollowsHeartbeats :
    (∃ (s : Machine.State), (s.inTwin))
    ∧ (∃ (k : Fin 4) (s : Machine.State), (s.inTwin) ∧ (s.pathLive ↑k = true) ∧ (s.hbMiss ≤ s.get (missField ↑k)))
    ∧ (∃ (k : Fin 4) (s : Machine.State), (s.inTwin) ∧ (s.get (missField ↑k) < s.hbMiss))
    ∧ (∃ (k : Fin 4) (s : Machine.State), (s.inTwin) ∧ (s.pathLive ↑k = false) ∧ (8 ≤ s.goodRun ↑k))
    ∧ (∃ (k : Fin 4) (s : Machine.State), (s.inTwin) ∧ (s.holder = ↑k / 2 + 1) ∧ (s.pathLive ↑k = true) ∧ (s.beats (↑k / 2) = true))
    ∧ (∃ (k : Fin 4) (s : Machine.State), (s.inTwin) ∧ (s.holder ≠ ↑k / 2 + 1 ∨ s.pathLive ↑k = false))
    ∧ (∃ (s : Machine.State), (s.inTwin) ∧ (s.holder ≠ 0))
    ∧ (∃ (s : Machine.State) (p : Fin 2), (s.inTwin) ∧ (s.holder = 0) ∧ (s.grantee = some ↑p) ∧ (s.tw.leased = true))
    ∧ (∃ (s : Machine.State), (s.inTwin) ∧ (s.holder ≠ 0 ∨ s.grantee = none))
    ∧ (∃ (s : Machine.State) (p : Fin 2), (s.inTwin) ∧ (s.holder = 0) ∧ (s.grantee = some ↑p) ∧ (s.tw.leased = false) ∧ (s.planeState 0 = 4)
      ∧ (s.planeState 1 = 4))
    ∧ (∃ (s : Machine.State) (p : Fin 2), (s.inTwin) ∧ (s.tw.leased = false) ∧ (s.tw.firstOver = false) ∧ (s.grantee = some ↑p))
    ∧ (∃ (s : Machine.State) (x : Transfer), (s.inTwin) ∧ (s.tw.xfer = some x) ∧ (x.target < 2) ∧ (x.frame ≤ s.get64 Reg.TWN_SQF_LO)
      ∧ (s.eligible x.target = true) ∧ (s.holder ≠ 0))
    ∧ (∃ (s : Machine.State), (s.inTwin) ∧ (s.pref ≠ 0) ∧ (s.planeFaulty (s.pref - 1) = false) ∧ (s.holder ≠ 0) ∧ (s.holder ≠ s.pref)
      ∧ (s.planeState (s.pref - 1) = 4) ∧ (s.eligible (s.pref - 1) = true) ∧ (s.tw.xfer = none))
    ∧ (∃ (s : Machine.State), (s.inTwin) ∧ (s.pref = 0 ∨ s.holder = s.pref ∨ s.planeFaulty (s.pref - 1) = true))
    ∧ (∃ (p : Fin 2) (s : Machine.State), (s.spineOn = true) ∧ (s.twin = true) ∧ (s.holder ≠ ↑p + 1) ∧ (s.planeState ↑p = 4)
      ∧ (s.eligible ↑p = true) ∧ (s.holder ≠ 0) ∧ (s.tw.xfer = none))
    ∧ (∃ (p : Fin 2) (s : Machine.State), (s.spineOn = true) ∧ (s.twin = true)
      ∧ (s.holder = ↑p + 1 ∨ s.planeState ↑p ≠ 4 ∨ s.eligible ↑p = false ∨ s.holder = 0 ∨ s.tw.xfer ≠ none)) :=
  ⟨⟨Lease.w1, by unfold State.inTwin; decide +kernel⟩,
   ⟨0, Lease.w4, by unfold State.inTwin; decide +kernel⟩,
   ⟨0, Lease.w1, by unfold State.inTwin; decide +kernel⟩,
   ⟨0, Lease.w7, by unfold State.inTwin; decide +kernel⟩,
   ⟨0, Lease.w10, by unfold State.inTwin; decide +kernel⟩,
   ⟨0, Lease.w1, by unfold State.inTwin; decide +kernel⟩,
   ⟨Lease.w10, by unfold State.inTwin; decide +kernel⟩,
   ⟨Lease.w14, 0, by unfold State.inTwin; decide +kernel⟩,
   ⟨Lease.w1, by unfold State.inTwin; decide +kernel⟩,
   ⟨Lease.w2, 0, by unfold State.inTwin; decide +kernel⟩,
   ⟨Lease.w2, 0, by unfold State.inTwin; decide +kernel⟩,
   ⟨Lease.w23, { target := 0, frame := 5, inStep := true }, by unfold State.inTwin; decide +kernel⟩,
   ⟨Lease.w11, by unfold State.inTwin; decide +kernel⟩,
   ⟨Lease.w10, by unfold State.inTwin; decide +kernel⟩,
   ⟨0, Lease.w11, by decide +kernel⟩,
   ⟨0, Lease.w1, by decide +kernel⟩⟩

theorem witness_CandidatesQualifyAndFail :
    (∃ (s : Machine.State), (s.spineOn = true))
    ∧ (∃ (c : Fin 24) (s : Machine.State), (s.spineOn = true) ∧ (s.flag (Fld.TMG_CAND_CFG_EN ↑c) = true)
      ∧ (s.flag (Fld.TMG_CAND_STATUS_ACT ↑c) = true) ∧ ((s.cand ↑c).updates < 9))
    ∧ (∃ (c : Fin 24) (s : Machine.State), (s.spineOn = true) ∧ (s.flag (Fld.TMG_CAND_CFG_EN ↑c) = true)
      ∧ (s.flag (Fld.TMG_CAND_STATUS_ACT ↑c) = true) ∧ (9 ≤ (s.cand ↑c).updates) ∧ (s.candActive ↑c = true))
    ∧ (∃ (c : Fin 24) (s : Machine.State) (v : Int), (s.spineOn = true) ∧ (s.flag (Fld.TMG_CAND_CFG_EN ↑c) = true)
      ∧ (s.flag (Fld.TMG_CAND_STATUS_ACT ↑c) = false) ∧ (s.flag (Fld.TMG_CAND_STATUS_HOLDOFF_RUN ↑c) = false)
      ∧ (s.get (Fld.TMG_CAND_LIM_HARD ↑c) * 10 < v.natAbs))
    ∧ (∃ (c : Fin 24) (s : Machine.State), (s.spineOn = true) ∧ (s.get (Fld.TMG_CAND_STATUS_STATE ↑c) = 1))
    ∧ (∃ (c : Fin 24) (s : Machine.State), (s.spineOn = true) ∧ (s.get (Fld.TMG_CAND_STATUS_STATE ↑c) ≠ 1))
    ∧ (∃ (c : Fin 24) (s : Machine.State), (s.spineOn = true) ∧ (s.flag (Fld.TMG_CAND_STATUS_HOLDOFF_RUN ↑c) = true)
      ∧ (s.flag (Fld.TMG_CAND_STATUS_SF ↑c) = true) ∧ (s.candActive ↑c = false))
    ∧ (∃ (s : Machine.State), (s.spineOn = true) ∧ (s.berentRuns = true))
    ∧ (∃ (c : Fin 24) (s : Machine.State), (s.spineOn = true) ∧ (s.flag (Fld.TMG_CAND_CFG_EN ↑c) = true) ∧ (s.get (Fld.TMG_CAND_CFG_QL_SRC ↑c) = 2))
    ∧ (∃ (c : Fin 24) (s : Machine.State), (s.spineOn = true) ∧ (s.get (Fld.TMG_CAND_CFG_QL_SRC ↑c) ≠ 2)) :=
  ⟨⟨Cands.w1, by decide +kernel⟩,
   ⟨0, Cands.w10, by decide +kernel⟩,
   ⟨0, Cands.w2, by decide +kernel⟩,
   ⟨0, Cands.t2.setB (Fld.TMG_CAND_STATUS_ACT 0) false, 100000, by decide +kernel⟩,
   ⟨0, Cands.w11, by decide +kernel⟩,
   ⟨0, Cands.w1, by decide +kernel⟩,
   ⟨0, Cands.w6, by decide +kernel⟩,
   ⟨Cands.w1, by decide +kernel⟩,
   ⟨7, Cands.w2, by decide +kernel⟩,
   ⟨0, Cands.w1, by decide +kernel⟩⟩

theorem witness_DpllsSelectAndSwitch :
    (∃ (s : Machine.State) (d : Nat) (c : Nat), (s.selChoice d = some c) ∧ (s.get (Fld.TMG_DPLL_CFG_CMD d) ≠ 2))
    ∧ (∃ (s : Machine.State) (d : Nat) (c : Nat), (s.selChoice d = some c) ∧ (s.get (Fld.TMG_DPLL_CFG_CMD d) = 2))
    ∧ (∃ (s : Machine.State) (d : Nat) (c : Nat) (b : Nat), (s.selChoice d = some c) ∧ (s.get (Fld.TMG_DPLL_CFG_CMD d) ≠ 1)
      ∧ (s.get (Fld.TMG_DPLL_CFG_CMD d) ≠ 2) ∧ (b < 24) ∧ (s.selFit d b))
    ∧ (∃ (s : Machine.State), (s.spineOn = true))
    ∧ (∃ (d : Fin 8) (s : Machine.State), (s.spineOn = true) ∧ (s.get (Fld.TMG_DPLL_CFG_MODE ↑d) ≠ 3))
    ∧ (∃ (d : Fin 8) (s : Machine.State) (x : Nat × Instr), (s.spineOn = true) ∧ (s.get (Fld.TMG_DPLL_STATUS_STATE ↑d) = 4) ∧ (x ∈ [(0,
      Instr.dpllModeAuto d), (1, Instr.dpllForcedHoldover d), (2, Instr.dpllForcedFreeRun d), (3, Instr.dpllSoftwareMode d)]))
    ∧ (∃ (d : Fin 8) (s : Machine.State), (s.spineOn = true) ∧ (s.get (Fld.TMG_DPLL_CFG_MODE ↑d) = 3) ∧ (s.get (Fld.TMG_DPLL_STATUS_STATE ↑d) ≠ 4))
    ∧ (∃ (d : Fin 8) (s : Machine.State), (s.spineOn = true) ∧ (s.get (Fld.TMG_DPLL_STATUS_STATE ↑d) ≠ 4))
    ∧ (∃ (d : Fin 8) (s : Machine.State), (s.spineOn = true) ∧ (s.get (Fld.TMG_DPLL_STATUS_STATE ↑d) ≠ 4) ∧ (s.get (Fld.TMG_DPLL_CFG_MODE ↑d) ≠ 3))
    ∧ (∃ (d : Fin 8) (s : Machine.State), (s.spineOn = true) ∧ (s.get (Fld.TMG_DPLL_STATUS_STATE ↑d) = 4))
    ∧ (∃ (d : Fin 8) (s : Machine.State), (s.spineOn = true) ∧ (s.get (Fld.TMG_DPLL_STATUS_SEL ↑d) < 24))
    ∧ (∃ (d : Fin 8) (s : Machine.State), (s.spineOn = true) ∧ (24 ≤ s.get (Fld.TMG_DPLL_STATUS_SEL ↑d)))
    ∧ (∃ (d : Fin 8) (s : Machine.State), (s.spineOn = true) ∧ (s.get (Fld.TMG_DPLL_STATUS_STATE ↑d) = 1) ∧ (1000 ≤ (s.dpll ↑d).run))
    ∧ (∃ (d : Fin 8) (s : Machine.State), (s.spineOn = true) ∧ (s.get (Fld.TMG_DPLL_STATUS_STATE ↑d) ≠ 1 ∨ (s.dpll ↑d).run < 1000))
    ∧ (∃ (d : Fin 8) (s : Machine.State), (s.spineOn = true) ∧ (s.get (Fld.TMG_DPLL_STATUS_STATE ↑d) = 2)
      ∧ ((s.hoAvg ↑d + 1) * 1000 ≤ (s.dpll ↑d).lockedMs))
    ∧ (∃ (d : Fin 8) (s : Machine.State), (s.spineOn = true) ∧ (s.get (Fld.TMG_DPLL_STATUS_STATE ↑d) ≠ 2))
    ∧ (∃ (d : Fin 8) (s : Machine.State), (s.spineOn = true) ∧ (2 ≤ ↑d) ∧ (s.get (Fld.TMG_DPLL_CFG_MODE ↑d) = 3)
      ∧ (s.get (Fld.TMG_DPLL_STATUS_STATE ↑d) ≠ 4))
    ∧ (∃ (d : Fin 8) (s : Machine.State), (s.spineOn = true) ∧ (↑d < 2 ∨ s.get (Fld.TMG_DPLL_CFG_MODE ↑d) ≠ 3))
    ∧ (∃ (d : Fin 8) (s : Machine.State), (s.spineOn = true) ∧ (s.get (Fld.TMG_DPLL_CFG_MODE ↑d) = 3) ∧ (s.get (Fld.TMG_DPLL_SWCFG_SW_TMO ↑d) ≠ 0)
      ∧ (s.get (Fld.TMG_DPLL_STATUS_STATE ↑d) = 5))
    ∧ (∃ (d : Fin 8) (s : Machine.State), (s.spineOn = true) ∧ (s.get (Fld.TMG_DPLL_SWCFG_SW_TMO ↑d) = 0)) :=
  ⟨⟨Cands.w3, 0, 0, by decide +kernel⟩,
   ⟨Cands.w17, 0, 1, by decide +kernel⟩,
   ⟨Cands.w3, 0, 0, 0, by unfold State.selFit; decide +kernel⟩,
   ⟨Cands.w1, by decide +kernel⟩,
   ⟨0, Cands.w1, by decide +kernel⟩,
   ⟨0, Cands.w20, (0, Instr.dpllModeAuto (0)), by decide +kernel⟩,
   ⟨0, Cands.w26, by decide +kernel⟩,
   ⟨0, Cands.w1, by decide +kernel⟩,
   ⟨0, Cands.w1, by decide +kernel⟩,
   ⟨0, Cands.w20, by decide +kernel⟩,
   ⟨0, Cands.w3, by decide +kernel⟩,
   ⟨0, Cands.w1, by decide +kernel⟩,
   ⟨0, Cands.w32, by decide +kernel⟩,
   ⟨0, Cands.w1, by decide +kernel⟩,
   ⟨0, Cands.w33, by decide +kernel⟩,
   ⟨0, Cands.w1, by decide +kernel⟩,
   ⟨7, Cands.w3, by decide +kernel⟩,
   ⟨0, Cands.w1, by decide +kernel⟩,
   ⟨0, Cands.w30, by decide +kernel⟩,
   ⟨0, Cands.w1, by decide +kernel⟩⟩

theorem witness_TimingOutputsAndStamps :
    (∃ (n : Fin 96) (s : Machine.State), (s.lineOn ↑n = true) ∧ (s.berentDuty = true) ∧ (isEth (s.format ↑n) = true)
      ∧ (s.flag (Fld.LCH_OHP_THRU_CFG_ENABLE ↑n) = false)
      ∧ (ringFill (s.get (Fld.LCH_OHP_INS_WR_V (↑n) 3)) (s.get (Fld.LCH_OHP_INS_RD_V (↑n) 3)) ≤ 1968))
    ∧ (∃ (n : Fin 96) (s : Machine.State), (s.lineOn ↑n = true) ∧ (s.berentDuty = true) ∧ (isEth (s.format ↑n) = false))
    ∧ (∃ (s : Machine.State), (s.spineOn = true))
    ∧ (∃ (i : Fin 2) (s : Machine.State), (s.spineOn = true) ∧ (s.flag (Fld.TMG_PPSOUT_CFG_EN ↑i) = true) ∧ (s.power.sleep = SleepPhase.awake))
    ∧ (∃ (i : Fin 2) (s : Machine.State), (s.spineOn = true) ∧ (s.flag (Fld.TMG_PPSOUT_CFG_EN ↑i) = false))
    ∧ (∃ (s : Machine.State) (width : Nat) (since : Nat), (s.spineOn = true) ∧ (100 ≤ width) ∧ (500000000 ≤ since))
    ∧ (∃ (s : Machine.State) (width : Nat) (since : Nat), (s.spineOn = true) ∧ (width < 100 ∨ since < 500000000))
    ∧ (∃ (s : Machine.State), (s.berentDuty = true) ∧ (s.mbx.todZda = true))
    ∧ (∃ (s : Machine.State), (s.berentDuty = true) ∧ (s.mbx.todZda = false))
    ∧ (∃ (s : Machine.State) (bs : List (BitVec 8)), (s.berentDuty = true) ∧ (s.mbx.todRx = true) ∧ (bs ≠ []) ∧ (bs.length ≤ 40))
    ∧ (∃ (s : Machine.State), (s.berentDuty = true) ∧ (s.mbx.todRx = false)) :=
  ⟨⟨2, Stamps.w5, by decide +kernel⟩,
   ⟨0, Stamps.w1, by decide +kernel⟩,
   ⟨Stamps.w1, by decide +kernel⟩,
   ⟨0, Stamps.w9, by decide +kernel⟩,
   ⟨0, Stamps.w1, by decide +kernel⟩,
   ⟨up, 100, 500000000, by decide +kernel⟩,
   ⟨Stamps.w1, 0, 0, by decide +kernel⟩,
   ⟨Stamps.w2, by decide +kernel⟩,
   ⟨Stamps.w1, by decide +kernel⟩,
   ⟨Stamps.w2, [1,2,3], by decide +kernel⟩,
   ⟨Stamps.w1, by decide +kernel⟩⟩

theorem witness_SamplesPassTheStages :
    (∃ (k : Fin 128) (s : Machine.State), (s.spineOn = true) ∧ ((s.sccSlot ↑k).run = true) ∧ ((s.sccSlot ↑k).mid = none))
    ∧ (∃ (k : Fin 128) (s : Machine.State), (s.spineOn = true) ∧ ((s.sccSlot ↑k).run = false))
    ∧ (∃ (k : Fin 128) (s : Machine.State) (x : Int × Bool), (s.spineOn = true) ∧ ((s.sccSlot ↑k).mid = some x))
    ∧ (∃ (k : Fin 128) (s : Machine.State), (s.spineOn = true) ∧ ((s.sccSlot ↑k).mid = none))
    ∧ (∃ (k : Fin 128) (s : Machine.State), (s.spineOn = true) ∧ (s.flag (Fld.SCC_SLOT_STATUS_SETTLING ↑k) = false) ∧ (64 ≤ ↑k))
    ∧ (∃ (k : Fin 128) (s : Machine.State), (s.spineOn = true) ∧ (↑k < 64 ∨ s.flag (Fld.SCC_SLOT_STATUS_SETTLING ↑k) = true))
    ∧ (∃ (s : Machine.State), (s.spineOn = true))
    ∧ (∃ (k : Fin 128) (s : Machine.State), (s.spineOn = true) ∧ (s.get (Fld.SCC_SLOT_STATUS_SETTLE_LEN ↑k) ≤ (s.sccSlot ↑k).settle))
    ∧ (∃ (k : Fin 128) (s : Machine.State), (s.spineOn = true) ∧ ((s.sccSlot ↑k).settle < s.get (Fld.SCC_SLOT_STATUS_SETTLE_LEN ↑k)))
    ∧ (∃ (s : Machine.State) (tick : Nat), (s.spineOn = true) ∧ (tick = (s.get Fld.SCC_TICK_TICK + 1) % 2 ^ 32)) :=
  ⟨⟨127, Plain.w8, by decide +kernel⟩,
   ⟨127, Plain.w0, by decide +kernel⟩,
   ⟨127, Plain.w9, (5, true), by decide +kernel⟩,
   ⟨127, Plain.w0, by decide +kernel⟩,
   ⟨127, Plain.w0, by decide +kernel⟩,
   ⟨127, Plain.w11, by decide +kernel⟩,
   ⟨Plain.w0, by decide +kernel⟩,
   ⟨127, Plain.w0, by decide +kernel⟩,
   ⟨127, Plain.w13, by decide +kernel⟩,
   ⟨Plain.w0, 0, by decide +kernel⟩⟩

theorem witness_BanksSwapAndSlotsReset :
    (∃ (s : Machine.State) (k : Nat) (b : Nat) (i : Nat), (s.spineOn = true) ∧ (k = s.get Fld.SCC_COEF_ADDR_SLOT)
      ∧ (b = s.get Fld.SCC_COEF_ADDR_BANK) ∧ (i = s.get Fld.SCC_COEF_ADDR_TAP))
    ∧ (∃ (k : Fin 128) (bank : Fin 2) (set : Fin 16) (s : Machine.State) (w : BitVec 32), (s.spineOn = true)
      ∧ (w.toNat = ↑k + ↑bank * 2 ^ 7 + ↑set * 2 ^ 8 + 2 ^ 12) ∧ (↑set ≤ 8) ∧ ((s.sccSlot ↑k).fade = none))
    ∧ (∃ (k : Fin 128) (bank : Fin 2) (set : Fin 16) (s : Machine.State) (w : BitVec 32), (s.spineOn = true)
      ∧ (w.toNat = ↑k + ↑bank * 2 ^ 7 + ↑set * 2 ^ 8 + 2 ^ 12) ∧ (↑set ≤ 8) ∧ ((s.sccSlot ↑k).fade ≠ none))
    ∧ (∃ (k : Fin 128) (bank : Fin 2) (set : Fin 16) (s : Machine.State) (w : BitVec 32), (s.spineOn = true)
      ∧ (w.toNat = ↑k + ↑bank * 2 ^ 7 + ↑set * 2 ^ 8 + 2 ^ 12) ∧ (8 < ↑set))
    ∧ (∃ (v : BitVec 32) (s : Machine.State), (s.spineOn = true) ∧ (v.getLsbD 8 = false))
    ∧ (∃ (k : Fin 128) (v : BitVec 32) (s : Machine.State), (s.spineOn = true) ∧ (v.getLsbD 8 = true) ∧ ((s.sccSlot ↑k).fade = none)
      ∧ (s.get (Fld.SCC_SLOT_FIR_ACTIVE ↑k) = wordBits v 9 1))
    ∧ (∃ (k : Fin 128) (v : BitVec 32) (s : Machine.State), (s.spineOn = true) ∧ (v.getLsbD 8 = true) ∧ ((s.sccSlot ↑k).fade = none)
      ∧ (s.get (Fld.SCC_SLOT_FIR_ACTIVE ↑k) ≠ wordBits v 9 1))
    ∧ (∃ (k : Fin 128) (v : BitVec 32) (s : Machine.State), (s.spineOn = true) ∧ (v.getLsbD 8 = true) ∧ ((s.sccSlot ↑k).fade ≠ none))
    ∧ (∃ (k : Fin 128) (s : Machine.State) (f : Nat × Nat × Nat), (s.spineOn = true) ∧ ((s.sccSlot ↑k).fade = some f) ∧ (f.fst < 2)
      ∧ (f.snd.snd ≤ f.snd.fst))
    ∧ (∃ (k : Fin 128) (s : Machine.State) (f : Nat × Nat × Nat), (s.spineOn = true) ∧ ((s.sccSlot ↑k).fade = some f) ∧ (f.fst < 2)
      ∧ (f.snd.fst < f.snd.snd))
    ∧ (∃ (s : Machine.State), (s.spineOn = true))
    ∧ (∃ (k : Fin 128) (s : Machine.State), (s.spineOn = true) ∧ (s.flag (Fld.SCC_SLOT_CFG_EN ↑k) = false))
    ∧ (∃ (k : Fin 128) (s : Machine.State), (s.spineOn = true) ∧ (s.flag (Fld.SCC_SLOT_CFG_EN ↑k) = true)) :=
  ⟨⟨Plain.w0, 0, 0, 0, by decide +kernel⟩,
   ⟨127, 1, 8, Plain.w0, Plain.coef (127 + 2^7 + 2^8 * 8 + 2^12), by decide +kernel⟩,
   ⟨127, 1, 8, Plain.w15, Plain.coef (127 + 2^7 + 2^8 * 8 + 2^12), by decide +kernel⟩,
   ⟨127, 1, 9, Plain.w0, Plain.coef (127 + 2^7 + 2^8 * 9 + 2^12), by decide +kernel⟩,
   ⟨0, Plain.w0, by decide +kernel⟩,
   ⟨127, 0x100, Plain.w0, by decide +kernel⟩,
   ⟨127, 0x300, Plain.w0, by decide +kernel⟩,
   ⟨127, 0x100, Plain.w15, by decide +kernel⟩,
   ⟨127, Plain.w16, (0,64,64), by decide +kernel⟩,
   ⟨127, Plain.w15, (1,3,64), by decide +kernel⟩,
   ⟨Plain.w0, by decide +kernel⟩,
   ⟨127, Plain.w0, by decide +kernel⟩,
   ⟨127, Plain.w17, by decide +kernel⟩⟩

theorem witness_DmaRunsStartMoveAndHalt :
    (∃ (by' : Agent) (c : Fin 16) (v : BitVec 32) (s : Machine.State) (x : Nat × Instr), (s.spineOn = true) ∧ (by' = Agent.host)
      ∧ (s.dmaHost ↑c = false) ∧ (x ∈ [(0, Instr.dmaStart by' c), (0, Instr.dmaStop by' c), (0, Instr.dmaChannelEnable by' c v), (0,
      Instr.dmaChannelDisable by' c v), (0, Instr.dmaHptrWrite by' c v)]))
    ∧ (∃ (by' : Agent) (c : Fin 16) (s : Machine.State), (s.spineOn = true) ∧ (by' = Agent.firmware ∨ s.dmaHost ↑c = true)
      ∧ (s.get (Fld.DMA_CH_CFG_TRIG ↑c) ≠ 1) ∧ (s.get (Fld.DMA_CH_CFG_TRIG ↑c) ≠ 2) ∧ (s.flag (Fld.DMA_CH_CFG_EN ↑c) = true)
      ∧ (s.get (Fld.DMA_CH_STATUS_STATE ↑c) ≠ 2) ∧ ((s.dmaOf ↑c).run = none) ∧ (s.hostWrites = true) ∧ (s.flag (Fld.DMA_CH_CFG_CVU_EN ↑c) = false))
    ∧ (∃ (by' : Agent) (c : Fin 16) (s : Machine.State), (s.spineOn = true) ∧ (by' = Agent.firmware ∨ s.dmaHost ↑c = true)
      ∧ (s.get (Fld.DMA_CH_CFG_TRIG ↑c) ≠ 1) ∧ (s.get (Fld.DMA_CH_CFG_TRIG ↑c) ≠ 2) ∧ (s.flag (Fld.DMA_CH_CFG_EN ↑c) = true)
      ∧ (s.get (Fld.DMA_CH_STATUS_STATE ↑c) ≠ 2) ∧ ((s.dmaOf ↑c).run = none) ∧ (s.hostWrites = false))
    ∧ (∃ (by' : Agent) (c : Fin 16) (s : Machine.State), (s.spineOn = true) ∧ (by' = Agent.firmware ∨ s.dmaHost ↑c = true)
      ∧ (s.get (Fld.DMA_CH_CFG_TRIG ↑c) ≠ 1) ∧ (s.get (Fld.DMA_CH_CFG_TRIG ↑c) ≠ 2) ∧ (s.flag (Fld.DMA_CH_CFG_EN ↑c) = true)
      ∧ (s.get (Fld.DMA_CH_STATUS_STATE ↑c) ≠ 2) ∧ ((s.dmaOf ↑c).run.isSome = true) ∧ (s.flag (Fld.DMA_CH_STATUS_PEND ↑c) = false))
    ∧ (∃ (by' : Agent) (c : Fin 16) (s : Machine.State), (s.spineOn = true) ∧ (by' = Agent.firmware ∨ s.dmaHost ↑c = true)
      ∧ (s.get (Fld.DMA_CH_CFG_TRIG ↑c) ≠ 1) ∧ (s.get (Fld.DMA_CH_CFG_TRIG ↑c) ≠ 2) ∧ (s.flag (Fld.DMA_CH_CFG_EN ↑c) = true)
      ∧ (s.get (Fld.DMA_CH_STATUS_STATE ↑c) ≠ 2) ∧ ((s.dmaOf ↑c).run.isSome = true) ∧ (s.flag (Fld.DMA_CH_STATUS_PEND ↑c) = true))
    ∧ (∃ (by' : Agent) (c : Fin 16) (s : Machine.State), (s.spineOn = true) ∧ (by' = Agent.firmware ∨ s.dmaHost ↑c = true)
      ∧ (s.get (Fld.DMA_CH_CFG_TRIG ↑c) = 1 ∨ s.get (Fld.DMA_CH_CFG_TRIG ↑c) = 2 ∨ s.flag (Fld.DMA_CH_CFG_EN ↑c) = false ∨ s.get (Fld.DMA_CH_STATUS_STATE ↑c) = 2))
    ∧ (∃ (by' : Agent) (c : Fin 16) (s : Machine.State), (s.spineOn = true) ∧ (by' = Agent.firmware ∨ s.dmaHost ↑c = true)
      ∧ ((s.dmaOf ↑c).run.isSome = true))
    ∧ (∃ (by' : Agent) (c : Fin 16) (s : Machine.State), (s.spineOn = true) ∧ (by' = Agent.firmware ∨ s.dmaHost ↑c = true)
      ∧ ((s.dmaOf ↑c).run = none))
    ∧ (∃ (by' : Agent) (c : Fin 16) (s : Machine.State), (s.spineOn = true) ∧ (by' = Agent.firmware ∨ s.dmaHost ↑c = true)
      ∧ (s.flag (Fld.DMA_CH_CFG_EN ↑c) = false))
    ∧ (∃ (by' : Agent) (c : Fin 16) (s : Machine.State), (s.spineOn = true) ∧ (by' = Agent.firmware ∨ s.dmaHost ↑c = true)
      ∧ (s.flag (Fld.DMA_CH_CFG_EN ↑c) = true))
    ∧ (∃ (by' : Agent) (c : Fin 16) (s : Machine.State), (s.spineOn = true) ∧ (by' = Agent.firmware ∨ s.dmaHost ↑c = true)
      ∧ (s.flag (Fld.DMA_CH_CFG_EN ↑c) = true) ∧ ((s.dmaOf ↑c).run.isSome = true))
    ∧ (∃ (by' : Agent) (c : Fin 16) (s : Machine.State), (s.spineOn = true) ∧ (by' = Agent.firmware ∨ s.dmaHost ↑c = true)
      ∧ (s.flag (Fld.DMA_CH_CFG_EN ↑c) = true) ∧ ((s.dmaOf ↑c).run = none))
    ∧ (∃ (by' : Agent) (c : Fin 16) (v : BitVec 32) (s : Machine.State) (n : Nat), (s.spineOn = true)
      ∧ (by' = Agent.firmware ∨ s.dmaHost ↑c = true) ∧ ((s.dmaOf ↑c).size = some n)
      ∧ (n < if s.flag (Fld.DMA_CH_RING_CFG_INS ↑c) = true then ringFill v.toNat (s.get (Fld.DMA_CH_EPTR_V ↑c)) else ringFill (s.get (Fld.DMA_CH_EPTR_V ↑c)) v.toNat))
    ∧ (∃ (by' : Agent) (c : Fin 16) (s : Machine.State), (s.spineOn = true) ∧ (by' = Agent.firmware ∨ s.dmaHost ↑c = true)
      ∧ ((s.dmaOf ↑c).size = none))
    ∧ (∃ (i : Fin 8) (s : Machine.State), (s.spineOn = true) ∧ (s.flag (Fld.DMA_TMR_CFG_EN ↑i) = false))
    ∧ (∃ (i : Fin 8) (s : Machine.State), (s.spineOn = true) ∧ (s.flag (Fld.DMA_TMR_CFG_EN ↑i) = true) ∧ (s.hostWrites = true))
    ∧ (∃ (s : Machine.State) (c : Nat), (s.dmaChoice = some c))
    ∧ (∃ (s : Machine.State) (c : Nat) (k : Nat), (s.dmaChoice = some c) ∧ (∀ (k : Nat), k < 16 → s.dmaReady k = true → (s.dmaOf k).passed < 32)
      ∧ (k < 16) ∧ (s.dmaReady k = true))
    ∧ (∃ (r : DmaRun) (d : DmaDesc), (r.check d = 0) ∧ (d.dir ≠ 2))
    ∧ (∃ (r : DmaRun) (d : DmaDesc), (r.check d = 0) ∧ (r.ringMode = false) ∧ (d.dir ≠ 3))
    ∧ (∃ (r : DmaRun) (d : DmaDesc), (r.check d = 0) ∧ (r.ringMode = false) ∧ (d.dir = 2))
    ∧ (∃ (r : DmaRun) (d : DmaDesc), (r.check d = 0))
    ∧ (∃ (s : Machine.State), (s.spineOn = true) ∧ (s.dmaChoice = none))
    ∧ (∃ (list : List (BitVec 128)) (x : DmaRead) (s : Machine.State) (c : Nat) (r : DmaRun) (w : BitVec 128) (l : List (BitVec 128)),
      (s.spineOn = true) ∧ (s.dmaChoice = some c) ∧ ((s.dmaOf c).run = some r) ∧ (bitOf r.cfg 13 = false) ∧ (r.ringMode = false) ∧ (list = w :: l)
      ∧ (x ≠ DmaRead.hostError) ∧ (r.desc = none) ∧ (r.idx < 4096) ∧ (r.hostBase < r.hostLim) ∧ (r.hostBase ≤ r.list + 16 * r.idx)
      ∧ (r.list + 16 * r.idx + 16 ≤ r.hostLim) ∧ ((descOfBits w).len ≠ 0 ∨ (descOfBits w).rsv ≠ 0) ∧ (r.check (descOfBits w) ≠ 0))
    ∧ (∃ (x : DmaRead) (s : Machine.State) (c : Nat) (r : DmaRun) (d : DmaDesc), (s.spineOn = true) ∧ (s.dmaChoice = some c)
      ∧ ((s.dmaOf c).run = some r) ∧ (bitOf r.cfg 13 = false) ∧ (r.ringMode = false) ∧ (r.desc = some d) ∧ (d.dir = 1) ∧ (x ≠ DmaRead.ecc)
      ∧ (r.left ≠ 0))
    ∧ (∃ (x : DmaRead) (s : Machine.State) (c : Nat) (r : DmaRun) (d : DmaDesc), (s.spineOn = true) ∧ (s.dmaChoice = some c)
      ∧ ((s.dmaOf c).run = some r) ∧ (bitOf r.cfg 13 = false) ∧ (r.ringMode = false) ∧ (r.desc = some d) ∧ (d.dir = 0) ∧ (x = DmaRead.hostError))
    ∧ (∃ (c : Fin 16) (s : Machine.State) (r : DmaRun) (d : DmaDesc), (s.spineOn = true) ∧ ((s.dmaOf ↑c).run = some r) ∧ (r.fence = true)
      ∧ (r.desc = some d) ∧ (r.ringMode = false) ∧ (d.last = true))
    ∧ (∃ (c : Fin 16) (s : Machine.State), (s.spineOn = true) ∧ (∀ (r : DmaRun), (s.dmaOf ↑c).run = some r → r.fence = false))
    ∧ (∃ (c : Fin 16) (s : Machine.State) (r : DmaRun), (s.spineOn = true) ∧ ((s.dmaOf ↑c).run = some r) ∧ (r.ended = true) ∧ (s.hostWrites = true))
    ∧ (∃ (c : Fin 16) (s : Machine.State), (s.spineOn = true) ∧ ((s.dmaOf ↑c).run = none))
    ∧ (∃ (s : Machine.State), (s.spineOn = true) ∧ (s.pcie.cfgReady = true)) :=
  ⟨⟨.host, 15, 0, Plain.w0, (0, Instr.dmaStart (.host) (15)), by decide +kernel⟩,
   ⟨Sys2Proof.Agent.host, 0, Dma.w4, by decide +kernel⟩,
   ⟨Sys2Proof.Agent.host, 0, Dma.w5, by decide +kernel⟩,
   ⟨Sys2Proof.Agent.host, 0, Dma.w7, by decide +kernel⟩,
   ⟨Sys2Proof.Agent.host, 0, Dma.w8, by decide +kernel⟩,
   ⟨.host, 15, Plain.w1, by decide +kernel⟩,
   ⟨Sys2Proof.Agent.host, 0, Dma.w7, by decide +kernel⟩,
   ⟨.host, 15, Plain.w1, by decide +kernel⟩,
   ⟨.host, 15, Plain.w1, by decide +kernel⟩,
   ⟨Sys2Proof.Agent.host, 0, Dma.w4, by decide +kernel⟩,
   ⟨Sys2Proof.Agent.host, 0, Dma.w7, by decide +kernel⟩,
   ⟨Sys2Proof.Agent.host, 0, Dma.w4, by decide +kernel⟩,
   ⟨Sys2Proof.Agent.host, 0, 100, Dma.w19, 100, by decide +kernel⟩,
   ⟨.host, 15, Plain.w1, by decide +kernel⟩,
   ⟨0, Plain.w0, by decide +kernel⟩,
   ⟨7, Dma.w10, by decide +kernel⟩,
   ⟨Dma.w7, 15, by decide +kernel⟩,
   ⟨Dma.w7, 15, 0, by decide +kernel⟩,
   ⟨{ cfg := 3, list := 4831838464, hostBase := 4831838208, hostLim := 4831842304, devBase := 16777216, devLim := 16842752, ring := 0, idx := 0, desc := none, moved := 0, left := 0, fence := false, ended := false, owns := false }, { addr := 4831838224, len := 600, dir := 1, last := true, irq := true, fence := true, rsv := 0, ofs := 16777472 }, by decide +kernel⟩,
   ⟨{ cfg := 3, list := 4831838464, hostBase := 4831838208, hostLim := 4831842304, devBase := 16777216, devLim := 16842752, ring := 0, idx := 0, desc := none, moved := 0, left := 0, fence := false, ended := false, owns := false }, { addr := 4831838224, len := 600, dir := 1, last := true, irq := true, fence := true, rsv := 0, ofs := 16777472 }, by decide +kernel⟩,
   ⟨{ cfg := 3, list := 4831838464, hostBase := 4831838208, hostLim := 4831842304, devBase := 16777216, devLim := 16842752, ring := 0, idx := 0, desc := none, moved := 0, left := 0, fence := false, ended := false, owns := false }, { addr := 16777216, len := 64, dir := 2, last := true, irq := false, fence := false, rsv := 0, ofs := 16777248 }, by decide +kernel⟩,
   ⟨{ cfg := 3, list := 4831838464, hostBase := 4831838208, hostLim := 4831842304, devBase := 16777216, devLim := 16842752, ring := 0, idx := 0, desc := none, moved := 0, left := 0, fence := false, ended := false, owns := false }, { addr := 4831838224, len := 600, dir := 1, last := true, irq := true, fence := true, rsv := 0, ofs := 16777472 }, by decide +kernel⟩,
   ⟨Plain.w0, by decide +kernel⟩,
   ⟨[0x01000100050002580000000120000f00#128], .bytes (List.replicate 256 7), Dma.w7, 15, { cfg := 29, list := 4831838464, hostBase := 4831838208, hostLim := 4831842304, devBase := 16777216, devLim := 16842752, ring := 0, idx := 0, desc := none, moved := 0, left := 0, fence := false, ended := false, owns := false }, 0x01000100050002580000000120000f00#128, [], by decide +kernel⟩,
   ⟨.bytes (List.replicate 256 7), Dma.w12, 15, { cfg := 29, list := 4831838464, hostBase := 4831838208, hostLim := 4831842304, devBase := 16777216, devLim := 16842752, ring := 0, idx := 0, desc := some { addr := 4831838224, len := 600, dir := 1, last := true, irq := true, fence := true, rsv := 0, ofs := 16777472 }, moved := 240, left := 360, fence := false, ended := false, owns := false }, { addr := 4831838224, len := 600, dir := 1, last := true, irq := true, fence := true, rsv := 0, ofs := 16777472 }, by decide +kernel⟩,
   ⟨.hostError, Dma.w24, 15, { cfg := 29, list := 4831838464, hostBase := 4831838208, hostLim := 4831842304, devBase := 16777216, devLim := 16842752, ring := 0, idx := 0, desc := some { addr := 4831838224, len := 600, dir := 0, last := true, irq := true, fence := true, rsv := 0, ofs := 16777472 }, moved := 240, left := 360, fence := false, ended := false, owns := false }, { addr := 4831838224, len := 600, dir := 0, last := true, irq := true, fence := true, rsv := 0, ofs := 16777472 }, by decide +kernel⟩,
   ⟨15, Dma.w13, { cfg := 29, list := 4831838464, hostBase := 4831838208, hostLim := 4831842304, devBase := 16777216, devLim := 16842752, ring := 0, idx := 0, desc := some { addr := 4831838224, len := 600, dir := 1, last := true, irq := true, fence := true, rsv := 0, ofs := 16777472 }, moved := 600, left := 0, fence := true, ended := false, owns := false }, { addr := 4831838224, len := 600, dir := 1, last := true, irq := true, fence := true, rsv := 0, ofs := 16777472 }, by decide +kernel⟩,
   ⟨15, Plain.w0, by decide +kernel⟩,
   ⟨0, Dma.w17, { cfg := 3, list := 4831838464, hostBase := 4831838208, hostLim := 4831842304, devBase := 16777216, devLim := 16842752, ring := 0, idx := 0, desc := none, moved := 0, left := 0, fence := false, ended := true, owns := false }, by decide +kernel⟩,
   ⟨15, Plain.w0, by decide +kernel⟩,
   ⟨{ up with pcie := { up.pcie with cfgReady := true } }, by decide +kernel⟩⟩

theorem witness_CheckValueUnitsFeedAndFold :
    (∃ (by' : Agent) (k : Fin 16) (lo : BitVec 32) (hi : BitVec 32) (b : BitVec 8) (s : Machine.State) (x : Nat × Instr), (s.spineOn = true)
      ∧ (s.cvuMay by' ↑k = false) ∧ (x ∈ [(0, Instr.cvuStart by' k), (0, Instr.cvuData32Write by' k lo none), (0,
      Instr.cvuData32Write by' k lo (some hi)), (0, Instr.cvuData8Write by' k b)]))
    ∧ (∃ (by' : Agent) (k : Fin 16) (lo : BitVec 32) (hi : BitVec 32) (b : BitVec 8) (s : Machine.State) (x : Nat × Instr), (s.spineOn = true)
      ∧ (s.cvuMay by' ↑k = true) ∧ (s.flag (Fld.CVU_STATUS_DMA_OWNED ↑k) = true) ∧ (x ∈ [(0, Instr.cvuStart by' k), (0,
      Instr.cvuData32Write by' k lo none), (0, Instr.cvuData32Write by' k lo (some hi)), (0, Instr.cvuData8Write by' k b)]))
    ∧ (∃ (by' : Agent) (k : Fin 16) (s : Machine.State), (s.spineOn = true) ∧ (s.cvuMay by' ↑k = true)
      ∧ (s.flag (Fld.CVU_STATUS_DMA_OWNED ↑k) = false))
    ∧ (∃ (by' : Agent) (k : Fin 16) (lo : BitVec 32) (hi : BitVec 32) (b : BitVec 8) (s : Machine.State) (x : Nat × Instr), (s.spineOn = true)
      ∧ (s.cvuMay by' ↑k = true) ∧ (s.flag (Fld.CVU_STATUS_DMA_OWNED ↑k) = false) ∧ (s.flag (Fld.CVU_STATUS_STARTED ↑k) = false) ∧ (x ∈ [(0,
      Instr.cvuData32Write by' k lo none), (0, Instr.cvuData32Write by' k lo (some hi)), (0, Instr.cvuData8Write by' k b)]))
    ∧ (∃ (by' : Agent) (k : Fin 16) (s : Machine.State), (s.spineOn = true) ∧ (s.cvuMay by' ↑k = true)
      ∧ (s.flag (Fld.CVU_STATUS_DMA_OWNED ↑k) = false) ∧ (s.flag (Fld.CVU_STATUS_STARTED ↑k) = true)
      ∧ ((s.cvuOf ↑k).fold = false ∨ (s.cvuOf ↑k).seg = 0 ∨ 8 ≤ (s.cvuOf ↑k).left))
    ∧ (∃ (by' : Agent) (k : Fin 16) (s : Machine.State), (s.spineOn = true) ∧ (s.cvuMay by' ↑k = true)
      ∧ (s.flag (Fld.CVU_STATUS_DMA_OWNED ↑k) = false) ∧ (s.flag (Fld.CVU_STATUS_STARTED ↑k) = true) ∧ ((s.cvuOf ↑k).fold = true)
      ∧ ((s.cvuOf ↑k).seg ≠ 0) ∧ ((s.cvuOf ↑k).left = 0)) :=
  ⟨⟨.host, 15, 0, 0, 0x00#8, Plain.w1, (0, Instr.cvuStart (.host) (15)), by decide +kernel⟩,
   ⟨.host, 15, 0, 0, 0x00#8, Plain.w19, (0, Instr.cvuStart (.host) (15)), by decide +kernel⟩,
   ⟨.host, 15, Plain.w0, by decide +kernel⟩,
   ⟨.host, 15, 0, 0, 0x00#8, Plain.w0, (0, Instr.cvuData32Write (.host) (15) (0) none), by decide +kernel⟩,
   ⟨Sys2Proof.Agent.host, 0, Check.w3, by decide +kernel⟩,
   ⟨Sys2Proof.Agent.host, 0, Check.w10, by decide +kernel⟩⟩

end Sys2Proof.Tests
end

section
/-! PROOFS. The table space (R183 to R188, R200) and the flush of a client packet queue (R181): what one write does in one plane,
that it reaches nothing of the other plane, and what follows for a write that reaches every plane. -/

namespace Sys2Proof.Machine

/-! ## Bits and bytes -/

/-- A number with a field replaced, as what lies above the field, the field and what lies below it. -/
theorem putBits_eq (v lo len x : Nat) :
    putBits v lo len x = 2 ^ lo * (2 ^ len * (v / 2 ^ lo / 2 ^ len) + x % 2 ^ len) + v % 2 ^ lo := by
  have hlow := Nat.div_add_mod v (2 ^ lo)
  have hfield := Nat.div_add_mod (v / 2 ^ lo) (2 ^ len)
  rw [putBits, bitsOf, Nat.shiftRight_eq_div_pow, Nat.mul_comm (v / 2 ^ lo % 2 ^ len), Nat.mul_comm (x % 2 ^ len), Nat.mul_add]
  have hv : v = 2 ^ lo * (2 ^ len * (v / 2 ^ lo / 2 ^ len)) + 2 ^ lo * (v / 2 ^ lo % 2 ^ len) + v % 2 ^ lo := by
    rw [← Nat.mul_add, hfield, hlow]
  omega

theorem putBits_testBit (v lo len x i : Nat) :
    (putBits v lo len x).testBit i = if lo ≤ i ∧ i < lo + len then x.testBit (i - lo) else v.testBit i := by
  rw [putBits_eq, Nat.testBit_two_pow_mul_add _ (Nat.mod_lt _ (Nat.two_pow_pos _)),
    Nat.testBit_two_pow_mul_add _ (Nat.mod_lt _ (Nat.two_pow_pos _))]
  by_cases hlo : i < lo
  · rw [if_pos hlo, if_neg (by omega), Nat.testBit_mod_two_pow, decide_eq_true hlo, Bool.true_and]
  · rw [if_neg hlo]
    by_cases hlen : i - lo < len
    · rw [if_pos hlen, if_pos (by omega), Nat.testBit_mod_two_pow, decide_eq_true hlen, Bool.true_and]
    · rw [if_neg hlen, if_neg (by omega), Nat.testBit_div_two_pow, Nat.testBit_div_two_pow]
      congr 1
      omega

theorem putBits_lt {v lo len x n : Nat} (hv : v < 2 ^ n) (hn : lo + len ≤ n) : putBits v lo len x < 2 ^ n := by
  refine Nat.lt_pow_two_of_testBit _ (fun i hi => ?_)
  rw [putBits_testBit, if_neg (by omega)]
  exact Nat.testBit_lt_two_pow (Nat.lt_of_lt_of_le hv (Nat.pow_le_pow_right (by decide) hi))

@[simp] theorem setBit_testBit_same (v i : Nat) : (setBit v i).testBit i = true := by
  simp [setBit, putBits_testBit]

@[simp] theorem clearBit_testBit_same (v i : Nat) : (clearBit v i).testBit i = false := by
  simp [clearBit, putBits_testBit]

theorem setBit_lt {v i n : Nat} (hv : v < 2 ^ n) (hi : i < n) : setBit v i < 2 ^ n := putBits_lt hv hi

theorem clearBit_lt {v i n : Nat} (hv : v < 2 ^ n) (hi : i < n) : clearBit v i < 2 ^ n := putBits_lt hv hi

theorem leNat_lt (l : List Byte) : leNat l < 256 ^ l.length := by
  induction l with
  | nil => simp [leNat]
  | cons b t ih =>
    rw [leNat, List.length_cons, Nat.pow_succ]
    have := b.isLt
    omega

/-! ## Bytes and numbers of the BAR2 spaces -/

variable {s t u : State} {p q : Nat}

theorem State.bar2Byte_of_bar2_eq (h : t.bar2 = s.bar2) (a : Nat) : t.bar2Byte a = s.bar2Byte a := by
  rw [State.bar2Byte, h, State.bar2Byte]

theorem State.bar2Bytes_congr {a n : Nat} (h : ∀ b, a ≤ b → b < a + n → t.bar2Byte b = s.bar2Byte b) :
    t.bar2Bytes a n = s.bar2Bytes a n :=
  List.map_congr_left (fun i hi => h (a + i) (by omega) (by have := List.mem_range.1 hi; omega))

theorem State.bar2Num_congr {a n : Nat} (h : ∀ b, a ≤ b → b < a + n → t.bar2Byte b = s.bar2Byte b) :
    t.bar2Num a n = s.bar2Num a n := by
  rw [State.bar2Num, State.bar2Bytes_congr h, State.bar2Num]

theorem State.bar2Num_of_bar2_eq (h : t.bar2 = s.bar2) (a n : Nat) : t.bar2Num a n = s.bar2Num a n :=
  State.bar2Num_congr (fun b _ _ => State.bar2Byte_of_bar2_eq h b)

theorem State.bar2Num_lt (s : State) (a n : Nat) : s.bar2Num a n < 256 ^ n := by
  simpa [State.bar2Num, State.bar2Bytes, Sparse.getList] using leNat_lt (s.bar2Bytes a n)

theorem State.bar2Byte_putBar2Num_other (s : State) {a n v b : Nat} (h : b < a ∨ a + n ≤ b) :
    (s.putBar2Num a n v).bar2Byte b = s.bar2Byte b :=
  State.bar2Byte_putBar2_other s a b _ (by rwa [leBytes_length])

theorem State.bar2Num_putBar2Num_other (s : State) {a n v b m : Nat} (h : b + m ≤ a ∨ a + n ≤ b) :
    (s.putBar2Num a n v).bar2Num b m = s.bar2Num b m :=
  State.bar2Num_congr (fun _ _ _ => State.bar2Byte_putBar2Num_other s (by omega))

theorem State.bar2Num_putBar2Num_lt (s : State) {a n v : Nat} (h : v < 256 ^ n) : (s.putBar2Num a n v).bar2Num a n = v :=
  (State.bar2Num_putBar2Num s a n v).trans (Nat.mod_eq_of_lt h)

/-! ## The rest of the BAR2 spaces -/

theorem State.bar2Except_of_bar2_eq {rs : List (Nat × Nat)} (h : t.bar2 = s.bar2) : s.bar2Except t rs :=
  fun a _ => State.bar2Byte_of_bar2_eq h a

theorem State.bar2Except_trans {rs : List (Nat × Nat)} (h : s.bar2Except t rs) (h' : t.bar2Except u rs) : s.bar2Except u rs :=
  fun a ha => (h' a ha).trans (h a ha)

theorem State.bar2Except_putBar2Num {rs : List (Nat × Nat)} {a n v : Nat} {r : Nat × Nat} (h : s.bar2Except t rs) (hr : r ∈ rs)
    (ha : r.1 ≤ a) (hn : a + n ≤ r.1 + r.2) : s.bar2Except (t.putBar2Num a n v) rs :=
  fun b hb => (State.bar2Byte_putBar2Num_other t (by have := hb r hr; omega)).trans (h b hb)

/-! ## The contexts of one flow -/

theorem State.flow_of_planes_eq (h : t.planes = s.planes) (q f : Nat) : t.flow q f = s.flow q f := by
  rw [State.flow, State.plane, h, State.flow, State.plane]

theorem State.onlyFlow_of_planes_eq {k : Nat} (h : t.planes = s.planes) : s.onlyFlow t k :=
  fun q => ⟨by rw [State.plane, h, State.plane], fun g _ => State.flow_of_planes_eq h q g⟩

theorem State.onlyFlow_trans {k : Nat} (h : s.onlyFlow t k) (h' : t.onlyFlow u k) : s.onlyFlow u k :=
  fun q => ⟨(h' q).1.trans (h q).1, fun g hg => ((h' q).2 g hg).trans ((h q).2 g hg)⟩

theorem State.plane_modFlow_other (s : State) {p q k : Nat} {g : FlowCtx → FlowCtx} (h : p ≠ q) :
    (s.modFlow p k g).plane q = s.plane q := State.modPlane_other s p q _ h

theorem State.onlyFlow_modFlow (s : State) (p k : Nat) (g : FlowCtx → FlowCtx) : s.onlyFlow (s.modFlow p k g) k := by
  intro q
  by_cases h : p = q
  · subst h
    refine ⟨by rw [State.modFlow, State.modPlane_plane], fun f hf => ?_⟩
    rw [State.flow, State.modFlow, State.modPlane_plane, Sparse.get_set_other _ _ _ _ _ hf, State.flow]
  · simp [State.flow, State.plane_modFlow_other s h]

/-! ## Frames -/

theorem State.frame_symm {l : List Nat} {ps : List Part} (h : s.frame t l ps) : t.frame s l ps :=
  ⟨fun a ha => (h.1 a ha).symm, fun x hx => by have := h.2 x hx; cases x <;> exact this.symm⟩

theorem State.get_of_frame {l : List Nat} {ps : List Part} {f : FRef} (h : s.frame t l ps) (hf : f.addr ∉ l) :
    t.get f = s.get f := by
  rw [State.get, h.1 _ hf, State.get]

theorem State.frame_modFlow {l : List Nat} {ps : List Part} (p k : Nat) (g : FlowCtx → FlowCtx) (h : s.frame t l ps)
    (hf : Part.planes ∈ ps) : s.frame (t.modFlow p k g) l ps := by
  refine ⟨h.1, fun x hx => ?_⟩
  have hkept := h.2 x hx
  cases x with
  | planes => exact absurd hf hx
  | _ => exact hkept

/-- Delivering a block to a plane changes the twin control alone. -/
theorem State.frame_deliverBlock {l : List Nat} {ps : List Part} (b : StreamBlock) (p : Nat) (h : s.frame t l ps)
    (hf : Part.tw ∈ ps) : s.frame (t.deliverBlock b p) l ps := by
  rw [State.deliverBlock]
  split
  · exact State.frame_modTw _ _ h hf
  · split
    · exact State.frame_modTw _ _ h hf
    · exact h

theorem State.frame_planeMark (s : State) (k : BlockKind) (p : Nat) : s.frame (s.planeMark k p) [] [.tw] := by
  rw [State.planeMark]
  split
  · refine State.frame_deliverBlock _ _ (State.frame_deliverBlock _ _ ⟨fun _ _ => rfl, fun x hx => ?_⟩ (by simp)) (by simp)
    cases x with
    | tw => exact absurd (List.mem_singleton.2 rfl) hx
    | _ => rfl
  · exact State.frame_refl s _ _

/-! ## What one plane holds -/

/-- From `s` to `t` the epoch status, the table space and the contexts of plane `q` stay as they are. -/
structure State.samePlane (q : Nat) (s t : State) : Prop where
  status : t.reg (Reg.MAP_EPOCH_STATUS q) = s.reg (Reg.MAP_EPOCH_STATUS q)
  table : ∀ b, tblBase q ≤ b → b < tblBase q + 0x800000 → t.bar2Byte b = s.bar2Byte b
  plane : t.plane q = s.plane q

/-- From `s` to `t` nothing changes but the epoch status, the table space and the contexts of plane `p`. -/
structure State.onlyPlane (p : Nat) (s t : State) : Prop where
  frame : s.frame t [Reg.MAP_EPOCH_STATUS p] [.bar2, .planes]
  table : ∀ b, b < tblBase p ∨ tblBase p + 0x800000 ≤ b → t.bar2Byte b = s.bar2Byte b
  plane : ∀ q, p ≠ q → t.plane q = s.plane q

namespace State.samePlane

theorem refl (q : Nat) (s : State) : s.samePlane q s := ⟨rfl, fun _ _ _ => rfl, rfl⟩

theorem trans (h : State.samePlane q s t) (h' : State.samePlane q t u) : State.samePlane q s u :=
  ⟨h'.status.trans h.status, fun b h1 h2 => (h'.table b h1 h2).trans (h.table b h1 h2), h'.plane.trans h.plane⟩

theorem of_frame {l : List Nat} {ps : List Part} (h : s.frame t l ps) (hl : Reg.MAP_EPOCH_STATUS q ∉ l) (hb : Part.bar2 ∉ ps)
    (hp : Part.planes ∉ ps) : State.samePlane q s t :=
  ⟨h.1 _ hl, fun b _ _ => State.bar2Byte_of_bar2_eq (h.2 _ hb) b, by rw [State.plane, h.2 _ hp, State.plane]⟩

theorem settled (q : Nat) (s : State) : s.samePlane q (settle s) := ⟨rfl, fun _ _ _ => rfl, rfl⟩

theorem get (h : State.samePlane q s t) {f : FRef} (hf : f.addr = Reg.MAP_EPOCH_STATUS q) : t.get f = s.get f := by
  rw [State.get, hf, h.status, State.get, hf]

theorem active (h : State.samePlane q s t) : t.active q = s.active q := h.get rfl

theorem committing (h : State.samePlane q s t) : t.committing q = s.committing q := by
  rw [State.committing, State.flag, h.get rfl, State.committing, State.flag]

theorem bar2Bytes (h : State.samePlane q s t) {o n : Nat} (ho : o + n ≤ 0x800000) :
    t.bar2Bytes (tblBase q + o) n = s.bar2Bytes (tblBase q + o) n :=
  State.bar2Bytes_congr (fun b h1 h2 => h.table b (by omega) (by omega))

theorem bar2Num (h : State.samePlane q s t) {o n : Nat} (ho : o + n ≤ 0x800000) :
    t.bar2Num (tblBase q + o) n = s.bar2Num (tblBase q + o) n := by
  rw [State.bar2Num, h.bar2Bytes ho, State.bar2Num]

theorem queueNum (h : State.samePlane q s t) {k o n : Nat} (hk : k < 4096) (ho : o + n ≤ 64) :
    t.bar2Num (queueAddr q k + o) n = s.bar2Num (queueAddr q k + o) n := by
  rw [queueAddr, Nat.add_assoc, Nat.add_assoc]
  exact h.bar2Num (by omega)

theorem qget (h : State.samePlane q s t) {k o : Nat} (hk : k < 4096) (ho : o + 4 ≤ 64) : t.qget q k o = s.qget q k o :=
  h.queueNum hk ho

theorem flushing (h : State.samePlane q s t) {k : Nat} (hk : k < 4096) : t.flushing q k = s.flushing q k := by
  rw [State.flushing, h.qget hk (by decide), State.flushing]

theorem flow (h : State.samePlane q s t) (k : Nat) : t.flow q k = s.flow q k := by
  rw [State.flow, h.plane, State.flow]

end State.samePlane

namespace State.onlyPlane

theorem refl (p : Nat) (s : State) : s.onlyPlane p s := ⟨State.frame_refl s _ _, fun _ _ => rfl, fun _ _ => rfl⟩

theorem trans (h : State.onlyPlane p s t) (h' : State.onlyPlane p t u) : State.onlyPlane p s u :=
  ⟨State.frame_trans h.frame h'.frame, fun b hb => (h'.table b hb).trans (h.table b hb),
    fun q hq => (h'.plane q hq).trans (h.plane q hq)⟩

theorem set (h : State.onlyPlane p s t) {f : FRef} (v : Nat) (hf : f.addr = Reg.MAP_EPOCH_STATUS p) :
    State.onlyPlane p s (t.set f v) :=
  ⟨State.frame_set f v h.frame (by simp [hf]), h.table, h.plane⟩

theorem putBar2Num (h : State.onlyPlane p s t) {a n : Nat} (v : Nat) (ha : tblBase p ≤ a) (hn : a + n ≤ tblBase p + 0x800000) :
    State.onlyPlane p s (t.putBar2Num a n v) :=
  ⟨State.frame_putBar2Num a n v h.frame (by simp),
    fun b hb => (State.bar2Byte_putBar2Num_other t (by omega)).trans (h.table b hb), h.plane⟩

theorem modFlow (h : State.onlyPlane p s t) (k : Nat) (g : FlowCtx → FlowCtx) : State.onlyPlane p s (t.modFlow p k g) :=
  ⟨State.frame_modFlow p k g h.frame (by simp), h.table, fun q hq => (State.plane_modFlow_other t hq).trans (h.plane q hq)⟩

/-- What changes one plane leaves every other as it is. -/
theorem samePlane (h : State.onlyPlane p s t) (hq : q ≠ p) : State.samePlane q s t where
  status := h.frame.1 _ (by simp only [List.mem_singleton, Reg.MAP_EPOCH_STATUS]; omega)
  table b h1 h2 := h.table b (by simp only [tblBase] at *; omega)
  plane := h.plane q (Ne.symm hq)

end State.onlyPlane

/-! ## Doing the same in several planes -/

theorem State.writePlanes_nodup (s : State) (p : Nat) : (s.writePlanes p).Nodup := by
  rw [State.writePlanes]
  split
  · split
    · exact List.Pairwise.filter _ (by decide)
    · exact List.nodup_nil
  · split
    · exact List.pairwise_singleton _ p
    · exact List.nodup_nil

theorem State.lt_two_of_mem_writePlanes (hp : p < 2) (h : q ∈ s.writePlanes p) : q < 2 := by
  rw [State.writePlanes] at h
  split at h
  · split at h
    · have := (List.mem_filter.1 h).1
      simp only [List.mem_cons, List.not_mem_nil, or_false] at this
      omega
    · exact absurd h List.not_mem_nil
  · split at h
    · exact List.mem_singleton.1 h ▸ hp
    · exact absurd h List.not_mem_nil

theorem State.runPlanes_nodup (s : State) (p : Nat) : (s.runPlanes p).Nodup := by
  rw [State.runPlanes]
  split
  · exact List.Pairwise.filter _ (by decide)
  · split
    · exact List.pairwise_singleton _ p
    · exact List.nodup_nil

theorem State.lt_two_of_mem_runPlanes (hp : p < 2) (h : q ∈ s.runPlanes p) : q < 2 := by
  rw [State.runPlanes] at h
  split at h
  · have := (List.mem_filter.1 h).1
    simp only [List.mem_cons, List.not_mem_nil, or_false] at this
    omega
  · split at h
    · exact List.mem_singleton.1 h ▸ hp
    · exact absurd h List.not_mem_nil

section Planes

variable {f : State → Nat → State} (hf : ∀ s p, State.onlyPlane p s (f s p))

include hf

theorem foldl_planes_other (l : List Nat) (s : State) (hq : q ∉ l) : State.samePlane q s (l.foldl f s) := by
  induction l generalizing s with
  | nil => exact .refl q s
  | cons p l ih =>
    obtain ⟨hqp, hql⟩ := not_or.1 (mt List.mem_cons.2 hq)
    exact ((hf s p).samePlane hqp).trans (ih (f s p) hql)

/-- Where an operation that changes only the plane it is done in is done in several planes, plane `q` of the outcome is that of the
operation done once, in a state whose plane `q` is the one at the start. -/
theorem foldl_planes_at {l : List Nat} (s : State) (hl : l.Nodup) (hq : q ∈ l) :
    ∃ u, State.samePlane q s u ∧ State.samePlane q (f u q) (l.foldl f s) := by
  induction l generalizing s with
  | nil => exact absurd hq List.not_mem_nil
  | cons p l ih =>
    obtain ⟨hpl, hl⟩ := List.nodup_cons.1 hl
    rcases List.mem_cons.1 hq with rfl | hql
    · exact ⟨s, .refl q s, foldl_planes_other hf l (f s q) hpl⟩
    · obtain ⟨u, hu, ht⟩ := ih (f s p) hl hql
      exact ⟨u, ((hf s p).samePlane (fun h => hpl (h ▸ hql))).trans hu, ht⟩

/-- A write of host software, seen from a plane that it reaches. -/
theorem settle_onWrite_at (s : State) (hq : q ∈ s.writePlanes p) :
    ∃ u, State.samePlane q s u ∧ State.samePlane q (f u q) (settle (s.onWrite p f)) := by
  obtain ⟨u, hu, ht⟩ := foldl_planes_at hf (s.writeMark p) (s.writePlanes_nodup p) hq
  exact ⟨u, .trans (.of_frame (s.frame_planeMark .write p) (by simp) (by simp) (by simp)) hu, ht.trans (.settled q _)⟩

/-- An event, seen from a plane in which it happens. -/
theorem settle_onPlanes_at (s : State) (hq : q ∈ s.runPlanes p) :
    ∃ u, State.samePlane q s u ∧ State.samePlane q (f u q) (settle (s.onPlanes p f)) := by
  obtain ⟨u, hu, ht⟩ := foldl_planes_at hf s (s.runPlanes_nodup p) hq
  exact ⟨u, hu, ht.trans (.settled q _)⟩

/-- A write of host software to plane state marks the stream once. -/
theorem settle_onWrite_marked (s : State) : s.marked (settle (s.onWrite p f)) p := by
  rw [State.marked, settle_tw, State.onWrite]
  exact List.foldlRecOn (motive := fun t => t.tw = (s.writeMark p).tw) (s.writePlanes p) f rfl
    (fun t ht x _ => ((hf t x).frame.2 .tw (by simp)).trans ht)

end Planes

section Folds

variable {f : State → Nat → State}

theorem frame_foldl {l : List Nat} {ps : List Part} {ns : List Nat} (s : State)
    (hf : ∀ t : State, ∀ x ∈ ns, t.frame (f t x) l ps) : s.frame (ns.foldl f s) l ps :=
  List.foldlRecOn (motive := fun t => s.frame t l ps) ns f (State.frame_refl s l ps)
    (fun t ht x hx => State.frame_trans ht (hf t x hx))

theorem frame_settle_onWrite {l : List Nat} {ps : List Part} (s : State)
    (hf : ∀ t : State, ∀ x ∈ s.writePlanes p, t.frame (f t x) l ps) (hw : Part.tw ∈ ps) :
    s.frame (settle (s.onWrite p f)) l ps :=
  State.frame_settle (State.frame_trans (State.frame_mono (s.frame_planeMark .write p) (by simp) (by simpa using hw))
    (frame_foldl (s.writeMark p) hf))

theorem bar2Except_foldl {rs : List (Nat × Nat)} {ns : List Nat} (s : State)
    (hf : ∀ t : State, ∀ x ∈ ns, t.bar2Except (f t x) rs) : s.bar2Except (ns.foldl f s) rs :=
  List.foldlRecOn (motive := fun t => s.bar2Except t rs) ns f (State.bar2Except_of_bar2_eq rfl)
    (fun t ht x hx => State.bar2Except_trans ht (hf t x hx))

theorem bar2Except_settle_onWrite {rs : List (Nat × Nat)} (s : State)
    (hf : ∀ t : State, ∀ x ∈ s.writePlanes p, t.bar2Except (f t x) rs) : s.bar2Except (settle (s.onWrite p f)) rs :=
  State.bar2Except_trans (State.bar2Except_of_bar2_eq ((s.frame_planeMark .write p).2 .bar2 (by simp)))
    (bar2Except_foldl (s.writeMark p) hf)

theorem onlyFlow_foldl {k : Nat} {ns : List Nat} (s : State) (hf : ∀ (t : State) x, t.onlyFlow (f t x) k) :
    s.onlyFlow (ns.foldl f s) k :=
  List.foldlRecOn (motive := fun t => s.onlyFlow t k) ns f (State.onlyFlow_of_planes_eq rfl)
    (fun t ht x _ => State.onlyFlow_trans ht (hf t x))

theorem onlyFlow_settle_onWrite {k : Nat} (s : State) (hf : ∀ (t : State) x, t.onlyFlow (f t x) k) :
    s.onlyFlow (settle (s.onWrite p f)) k :=
  State.onlyFlow_trans (State.onlyFlow_of_planes_eq ((s.frame_planeMark .write p).2 .planes (by simp)))
    (onlyFlow_foldl (s.writeMark p) hf)

end Folds

end Sys2Proof.Machine
end

section
/-! PROOFS. One table word in one plane, the address of MAP_TBL_DATA, and the flush of one queue. -/

namespace Sys2Proof.Machine

variable {s t : State} {p q k o v : Nat}

/-! ## The equations of a table word -/

/-- The word that a write of `v` at sub-offset `o` leaves in a descriptor: without reserved bits, and with CHG as it was (R184). -/
def State.descWord (s : State) (p o v : Nat) : Nat :=
  if o % 32 = 0 then putBits (v &&& descMask (o % 32)) 20 1 (bitsOf (s.bar2Num (tblBase p + o) 4) 20 1)
  else v &&& descMask (o % 32)

theorem State.descWord_lt (s : State) (p o : Nat) (hv : v < 2 ^ 32) : s.descWord p o v < 2 ^ 32 := by
  have hand : v &&& descMask (o % 32) < 2 ^ 32 := Nat.lt_of_le_of_lt Nat.and_le_left hv
  rw [State.descWord]
  split
  · exact putBits_lt hand (by decide)
  · exact hand

/-- A write of sub-offset `o` is not taken: it is to the active epoch, or a commit is in progress (R188). -/
def State.tableLocked (s : State) (p o : Nat) : Prop := o / 0x200000 = s.active p ∨ s.committing p = true

theorem State.tableWord_locked (v : Nat) (ho : o < 0x400000) (h : s.tableLocked p o) : s.tableWord p o v = s.tableIgnored p := by
  rw [State.tableLocked] at h
  rw [State.tableWord, if_pos ho, if_pos h]

theorem State.tableWord_descriptor (v : Nat) (ho : o < 0x400000) (h : ¬ s.tableLocked p o) :
    s.tableWord p o v = (s.putBar2Num (tblBase p + o) 4 (s.descWord p o v)).setB (Fld.MAP_EPOCH_STATUS_CHECKED p) false := by
  rw [State.tableLocked] at h
  rw [State.tableWord, if_pos ho, if_neg h, State.descWord]

theorem State.tableWord_stateRecord (s : State) (p v : Nat) (h1 : 0x400000 ≤ o) (h2 : o < 0x500000) : s.tableWord p o v = s := by
  rw [State.tableWord, if_neg (by omega), if_neg (by omega), if_neg (by omega)]

theorem State.tableWord_traceSet (s : State) (p v : Nat) (h1 : 0x500000 ≤ o) (h2 : o < 0x560000) :
    s.tableWord p o v = if (o - 0x500000) % 192 < 64 then s else s.putBar2Num (tblBase p + o) 4 v := by
  rw [State.tableWord, if_neg (by omega), if_pos (by omega)]

/-- What a table word below the queue records can do. -/
theorem State.tableWord_cases (s : State) (p v : Nat) (ho : o < 0x560000) :
    s.tableWord p o v = s ∨ s.tableWord p o v = s.tableIgnored p
    ∨ (∃ w, s.tableWord p o v = (s.putBar2Num (tblBase p + o) 4 w).setB (Fld.MAP_EPOCH_STATUS_CHECKED p) false)
    ∨ s.tableWord p o v = s.putBar2Num (tblBase p + o) 4 v := by
  by_cases hd : o < 0x400000
  · by_cases hl : s.tableLocked p o
    · exact .inr (.inl (s.tableWord_locked v hd hl))
    · exact .inr (.inr (.inl ⟨_, s.tableWord_descriptor v hd hl⟩))
  · by_cases ht : o < 0x500000
    · exact .inl (s.tableWord_stateRecord p v (by omega) ht)
    · rw [s.tableWord_traceSet p v (by omega) ho]
      split
      · exact .inl rfl
      · exact .inr (.inr (.inr rfl))

/-! ## What an accepted and an ignored write leave -/

theorem State.tableWord_descriptor_checked (v : Nat) (ho : o < 0x400000) (h : ¬ s.tableLocked p o) :
    (s.tableWord p o v).get (Fld.MAP_EPOCH_STATUS_CHECKED p) = 0 := by
  rw [s.tableWord_descriptor v ho h]
  exact State.get_setB_same _ _ false (by decide : 2 + 1 ≤ 32) (by decide : 0 < 1)

theorem State.tableWord_descriptor_word (ho : o < 0x400000) (h : ¬ s.tableLocked p o) (hv : v < 2 ^ 32) :
    (s.tableWord p o v).bar2Num (tblBase p + o) 4 = s.descWord p o v := by
  rw [s.tableWord_descriptor v ho h]
  exact State.bar2Num_putBar2Num_lt s (s.descWord_lt p o hv)

theorem State.tableIgnored_event (s : State) (p : Nat) : (s.tableIgnored p).get (Fld.MAP_EPOCH_STATUS_WR_IGN_EV p) = 1 :=
  State.get_raise_same s _ (by decide : 5 + 1 ≤ 32) (by decide : 0 < 1)

theorem State.tableLocked_tableIgnored (h : s.tableLocked p o) : (s.tableIgnored p).tableLocked p o := by
  have hact : (s.tableIgnored p).active p = s.active p :=
    State.get_set_near s _ _ 1 (by decide : 0 + 1 ≤ 32) (.inr (by decide : 0 + 1 ≤ 5))
  have hcom : (s.tableIgnored p).committing p = s.committing p :=
    congrArg (· != 0) (State.get_set_near s _ _ 1 (by decide : 1 + 1 ≤ 32) (.inr (by decide : 1 + 1 ≤ 5)))
  rwa [State.tableLocked, hact, hcom]

theorem State.samePlane.tableLocked (h : State.samePlane q s t) : t.tableLocked q o ↔ s.tableLocked q o := by
  rw [State.tableLocked, h.active, h.committing, State.tableLocked]

theorem State.samePlane.descWord (h : State.samePlane q s t) (ho : o < 0x400000) : t.descWord q o v = s.descWord q o v := by
  rw [State.descWord, h.bar2Num (by omega), State.descWord]

theorem State.tableWord_frame (s : State) (p v : Nat) (ho : o < 0x560000) :
    s.frame (s.tableWord p o v) [Reg.MAP_EPOCH_STATUS p] [.bar2] := by
  have hs := State.frame_refl s [Reg.MAP_EPOCH_STATUS p] [.bar2]
  obtain h | h | ⟨w, h⟩ | h := s.tableWord_cases p v ho <;> rw [h]
  · exact hs
  · exact State.frame_raise _ hs (List.mem_singleton.2 rfl)
  · exact State.frame_setB _ _ (State.frame_putBar2Num _ _ _ hs (by simp)) (List.mem_singleton.2 rfl)
  · exact State.frame_putBar2Num _ _ _ hs (by simp)

theorem State.tableWord_bar2Except (s : State) (p v : Nat) (ho : o < 0x560000) {rs : List (Nat × Nat)} {r : Nat × Nat}
    (hr : r ∈ rs) (ha : r.1 ≤ tblBase p + o) (hn : tblBase p + o + 4 ≤ r.1 + r.2) : s.bar2Except (s.tableWord p o v) rs := by
  have hs : s.bar2Except s rs := State.bar2Except_of_bar2_eq rfl
  obtain h | h | ⟨w, h⟩ | h := s.tableWord_cases p v ho <;> rw [h]
  · exact hs
  · exact State.bar2Except_of_bar2_eq rfl
  · exact State.bar2Except_trans (State.bar2Except_putBar2Num hs hr ha hn) (State.bar2Except_of_bar2_eq rfl)
  · exact State.bar2Except_putBar2Num hs hr ha hn

/-! ## The words of a queue record -/

theorem State.qget_lt (s : State) (p k o : Nat) : s.qget p k o < 2 ^ 32 := s.bar2Num_lt _ 4

theorem State.qget_qset_same (s : State) (p k o : Nat) (hv : v < 2 ^ 32) : (s.qset p k o v).qget p k o = v :=
  s.bar2Num_putBar2Num_lt hv

theorem State.qget_qset_other (s : State) (p k v : Nat) {o o' : Nat} (h : o' + 4 ≤ o ∨ o + 4 ≤ o') :
    (s.qset p k o v).qget p k o' = s.qget p k o' := s.bar2Num_putBar2Num_other (by omega)

theorem State.qget_qcount_other (s : State) (p k v : Nat) {o o' : Nat} (h : o' + 4 ≤ o ∨ o + 8 ≤ o') :
    (s.qcount p k o v).qget p k o' = s.qget p k o' := s.bar2Num_putBar2Num_other (by omega)

theorem State.qset_planes (s : State) (p k o v : Nat) : (s.qset p k o v).planes = s.planes := State.putBar2Num_planes s _ _ _

theorem State.qcount_planes (s : State) (p k o v : Nat) : (s.qcount p k o v).planes = s.planes := State.putBar2Num_planes s _ _ _

theorem State.modFlow_qget (s : State) (p f : Nat) (g : FlowCtx → FlowCtx) (q k o : Nat) :
    (s.modFlow p f g).qget q k o = s.qget q k o := State.bar2Num_of_bar2_eq (State.modFlow_bar2 s p f g) _ _

/-! ## The flush of a queue in one plane -/

/-- A flush that takes effect, as the writes it makes: every word is taken from the record as it was. -/
theorem State.flushNow_eq (s : State) (p k : Nat) :
    s.flushNow p k = (((s.qcount p k 0x38 (s.flow p k).queue.length).qset p k 0x10 (s.qget p k 0x0C)).qset p k 0
      (clearBit (s.qget p k 0) 24)).modFlow p k (fun c => { c with queue := [] }) := by
  rw [State.flushNow, State.qget_qcount_other _ _ _ _ (by decide), State.qget_qcount_other _ _ _ _ (by decide)]

theorem State.flushNow_flushing (s : State) (p k : Nat) : (s.flushNow p k).flushing p k = false := by
  rw [State.flushNow_eq, State.flushing, State.modFlow_qget,
    State.qget_qset_same _ _ _ _ (clearBit_lt (s.qget_lt p k 0) (by decide)), clearBit_testBit_same]

theorem State.flushNow_queue (s : State) (p k : Nat) : ((s.flushNow p k).flow p k).queue = [] := by
  rw [State.flushNow_eq, State.modFlow_flow]

theorem State.flushNow_readPointer (s : State) (p k : Nat) : (s.flushNow p k).qget p k 0x10 = s.qget p k 0x0C := by
  rw [State.flushNow_eq, State.modFlow_qget, State.qget_qset_other _ _ _ _ (by decide),
    State.qget_qset_same _ _ _ _ (s.qget_lt p k 0x0C)]

theorem State.flushNow_discarded (s : State) (p k : Nat) : (s.flushNow p k).bar2Num (queueAddr p k + 0x38) 8
    = (s.bar2Num (queueAddr p k + 0x38) 8 + (s.flow p k).queue.length) % 2 ^ 48 := by
  rw [State.flushNow_eq, State.bar2Num_of_bar2_eq (State.modFlow_bar2 _ _ _ _), State.qset,
    State.bar2Num_putBar2Num_other _ (.inr (by omega)), State.qset, State.bar2Num_putBar2Num_other _ (.inr (by omega)),
    State.qcount]
  exact State.bar2Num_putBar2Num_lt s (Nat.lt_trans (Nat.mod_lt _ (by decide)) (by decide))

/-- A request while the queue holds packets that its consumer has not taken stands as FLUSH (R181). -/
theorem State.flushRequest_pending (hf : s.flushing p k = false) (hq : s.qget p k 0x10 ≠ s.qget p k 0x0C) :
    s.flushRequest p k = s.qset p k 0 (setBit (s.qget p k 0) 24) := by
  rw [State.flushRequest, if_neg (by simp [hf]), if_neg]
  rwa [State.qget_qset_other _ _ _ _ (by decide), State.qget_qset_other _ _ _ _ (by decide)]

/-- A request while the consumer is idle takes effect at once (R181). -/
theorem State.flushRequest_idle (hf : s.flushing p k = false) (hq : s.qget p k 0x10 = s.qget p k 0x0C) :
    s.flushRequest p k = (s.qset p k 0 (setBit (s.qget p k 0) 24)).flushNow p k := by
  rw [State.flushRequest, if_neg (by simp [hf]), if_pos]
  rwa [State.qget_qset_other _ _ _ _ (by decide), State.qget_qset_other _ _ _ _ (by decide)]

theorem State.flushRequest_pending_flushing (hf : s.flushing p k = false) (hq : s.qget p k 0x10 ≠ s.qget p k 0x0C) :
    (s.flushRequest p k).flushing p k = true := by
  rw [State.flushRequest_pending hf hq, State.flushing, State.qget_qset_same _ _ _ _ (setBit_lt (s.qget_lt p k 0) (by decide)),
    setBit_testBit_same]

/-- A flush request does nothing, leaves FLUSH set, or sets it and takes effect. -/
theorem State.flushRequest_cases (s : State) (p k : Nat) :
    s.flushRequest p k = s ∨ s.flushRequest p k = s.qset p k 0 (setBit (s.qget p k 0) 24)
    ∨ s.flushRequest p k = (s.qset p k 0 (setBit (s.qget p k 0) 24)).flushNow p k := by
  cases hf : s.flushing p k with
  | true => exact .inl (by rw [State.flushRequest, if_pos hf])
  | false =>
    by_cases hq : s.qget p k 0x10 = s.qget p k 0x0C
    · exact .inr (.inr (State.flushRequest_idle hf hq))
    · exact .inr (.inl (State.flushRequest_pending hf hq))

theorem State.frame_qset {l : List Nat} {ps : List Part} (p k o v : Nat) (h : s.frame t l ps) (hf : Part.bar2 ∈ ps) :
    s.frame (t.qset p k o v) l ps := State.frame_putBar2Num _ _ _ h hf

theorem State.flushNow_frame (s : State) (p k : Nat) : s.frame (s.flushNow p k) [] [.bar2, .planes] := by
  rw [State.flushNow_eq]
  refine State.frame_modFlow _ _ _ (State.frame_qset _ _ _ _ (State.frame_qset _ _ _ _ ?_ (by simp)) (by simp)) (by simp)
  exact State.frame_putBar2Num _ _ _ (State.frame_refl s _ _) (by simp)

theorem State.flushRequest_frame (s : State) (p k : Nat) : s.frame (s.flushRequest p k) [] [.bar2, .planes] := by
  have hs := State.frame_qset p k 0 (setBit (s.qget p k 0) 24) (State.frame_refl s [] [.bar2, .planes]) (by simp)
  obtain h | h | h := s.flushRequest_cases p k <;> rw [h]
  · exact State.frame_refl s _ _
  · exact hs
  · exact State.frame_trans hs (State.flushNow_frame _ p k)

theorem mem_queueRecs (k : Nat) (hp : p < 2) : (queueAddr p k, 64) ∈ queueRecs k := by
  rw [queueRecs, List.mem_map]
  exact ⟨p, by simp; omega, rfl⟩

theorem State.qset_bar2Except (hp : p < 2) (ho : o + 4 ≤ 64) (h : s.bar2Except t (queueRecs k)) :
    s.bar2Except (t.qset p k o v) (queueRecs k) :=
  State.bar2Except_putBar2Num h (mem_queueRecs k hp) (by simp) (by simp; omega)

theorem State.flushNow_bar2Except (s : State) (k : Nat) (hp : p < 2) : s.bar2Except (s.flushNow p k) (queueRecs k) := by
  rw [State.flushNow_eq]
  refine State.bar2Except_trans (State.qset_bar2Except hp (by decide) (State.qset_bar2Except hp (by decide) ?_))
    (State.bar2Except_of_bar2_eq (State.modFlow_bar2 _ _ _ _))
  exact State.bar2Except_putBar2Num (State.bar2Except_of_bar2_eq rfl) (mem_queueRecs k hp) (Nat.le_add_right _ _)
    (Nat.le_of_eq (Nat.add_assoc _ _ _))

theorem State.flushRequest_bar2Except (s : State) (k : Nat) (hp : p < 2) : s.bar2Except (s.flushRequest p k) (queueRecs k) := by
  have hs : s.bar2Except (s.qset p k 0 (setBit (s.qget p k 0) 24)) (queueRecs k) :=
    State.qset_bar2Except hp (by decide) (State.bar2Except_of_bar2_eq rfl)
  obtain h | h | h := s.flushRequest_cases p k <;> rw [h]
  · exact State.bar2Except_of_bar2_eq rfl
  · exact hs
  · exact State.bar2Except_trans hs (State.flushNow_bar2Except _ k hp)

theorem State.flushNow_onlyFlow (s : State) (p k : Nat) : s.onlyFlow (s.flushNow p k) k := by
  rw [State.flushNow_eq]
  refine State.onlyFlow_trans (State.onlyFlow_of_planes_eq ?_) (State.onlyFlow_modFlow _ p k _)
  rw [State.qset_planes, State.qset_planes, State.qcount_planes]

theorem State.flushRequest_onlyFlow (s : State) (p k : Nat) : s.onlyFlow (s.flushRequest p k) k := by
  have hset : s.onlyFlow (s.qset p k 0 (setBit (s.qget p k 0) 24)) k :=
    State.onlyFlow_of_planes_eq (s.qset_planes p k 0 _)
  obtain h | h | h := s.flushRequest_cases p k <;> rw [h]
  · exact State.onlyFlow_of_planes_eq rfl
  · exact hset
  · exact State.onlyFlow_trans hset (State.flushNow_onlyFlow _ p k)

/-! ## One plane only -/

namespace State.onlyPlane

theorem putQueueNum (h : State.onlyPlane p s t) {n : Nat} (v : Nat) (hk : k < 4096) (ho : o + n ≤ 64) :
    State.onlyPlane p s (t.putBar2Num (queueAddr p k + o) n v) :=
  h.putBar2Num v (by rw [queueAddr]; omega) (by rw [queueAddr]; omega)

theorem qset (h : State.onlyPlane p s t) (v : Nat) (hk : k < 4096) (ho : o + 4 ≤ 64) : State.onlyPlane p s (t.qset p k o v) :=
  h.putQueueNum v hk ho

theorem flushNow (h : State.onlyPlane p s t) (hk : k < 4096) : State.onlyPlane p s (t.flushNow p k) := by
  rw [State.flushNow_eq]
  have hcount : State.onlyPlane p s (t.qcount p k 0x38 (t.flow p k).queue.length) := h.putQueueNum _ hk (by decide)
  exact ((hcount.qset _ hk (by decide)).qset _ hk (by decide)).modFlow _ _

theorem flushRequest (h : State.onlyPlane p s t) (hk : k < 4096) : State.onlyPlane p s (t.flushRequest p k) := by
  have hset : State.onlyPlane p s (t.qset p k 0 (setBit (t.qget p k 0) 24)) := h.qset _ hk (by decide)
  obtain hr | hr | hr := t.flushRequest_cases p k <;> rw [hr]
  · exact h
  · exact hset
  · exact hset.flushNow hk

theorem queueWord (h : State.onlyPlane p s t) (v : Nat) (hk : k < 4096) : State.onlyPlane p s (t.queueWord p k v) := by
  have hplace : State.onlyPlane p s
      (if t.queueActive p k then t.tableIgnored p else t.qset p k 0 (putBits (t.qget p k 0) 0 23 (v % 2 ^ 23))) := by
    split
    · exact h.set 1 rfl
    · exact h.qset _ hk (by decide)
  simp only [State.queueWord]
  split
  · exact hplace.flushRequest hk
  · exact hplace

theorem tableWord (h : State.onlyPlane p s t) (o v : Nat) : State.onlyPlane p s (t.tableWord p o v) := by
  by_cases ho : o < 0x560000
  · have hput : ∀ w, State.onlyPlane p s (t.putBar2Num (tblBase p + o) 4 w) := fun w => h.putBar2Num w (by omega) (by omega)
    obtain hw | hw | ⟨w, hw⟩ | hw := t.tableWord_cases p v ho <;> rw [hw]
    · exact h
    · exact h.set 1 rfl
    · exact (hput w).set _ rfl
    · exact hput v
  · rw [State.tableWord, if_neg (by omega), if_neg (by omega)]
    split
    · split
      · exact h.queueWord v (by omega)
      · exact h
    · exact h

theorem tableWords (h : State.onlyPlane p s t) (ws : List (Nat × Nat)) :
    State.onlyPlane p s (ws.foldl (fun s w => s.tableWord p w.1 w.2) t) :=
  List.foldlRecOn ws _ h (fun _ hu w _ => hu.tableWord w.1 w.2)

end State.onlyPlane

/-! ## Table writes as commands -/

theorem wordsOf_leBytes (a v : Nat) (hv : v < 2 ^ 32) : wordsOf a (leBytes 4 v) = [(a, v)] := by
  have h : leNat (leBytes 4 v) = v := (leNat_leBytes 4 v).trans (Nat.mod_eq_of_lt hv)
  simpa [wordsOf, List.range_succ, List.take_of_length_le] using h

/-- The words of an 8-byte write. -/
theorem wordsOf_eight (a : Nat) {l : List Byte} (hl : l.length = 8) :
    ∃ v w, wordsOf a l = [(a, v), (a + 4, w)] := by
  simp [wordsOf, hl, List.range_succ]

/-- The step of a table write in one plane. -/
def tableStep (ws : List (Nat × Nat)) (s : State) (p : Nat) : State := ws.foldl (fun s w => s.tableWord p w.1 w.2) s

theorem State.tableWrite_eq (s : State) (a : Nat) (bs : List Byte) :
    s.tableWrite a bs = s.onWrite (a / 0x800000) (tableStep (wordsOf (a % 0x800000) bs)) := rfl

theorem tableStep_onlyPlane (ws : List (Nat × Nat)) (s : State) (p : Nat) : State.onlyPlane p s (tableStep ws s p) :=
  (State.onlyPlane.refl p s).tableWords ws

theorem status_mem_checkedRegs (hp : p < 2) : Reg.MAP_EPOCH_STATUS p ∈ checkedRegs := by
  have : p = 0 ∨ p = 1 := by omega
  rcases this with rfl | rfl <;> simp [checkedRegs]

theorem tableStep_frame (ws : List (Nat × Nat)) (s : State) (hp : p < 2) :
    s.frame (tableStep ws s p) checkedRegs [.bar2, .planes, .tw] :=
  State.frame_mono (tableStep_onlyPlane ws s p).frame (by simpa using status_mem_checkedRegs hp) (by simp)

/-- Words below the queue records change no flow context. -/
theorem tableStep_frame_low {ws : List (Nat × Nat)} (s : State) (hp : p < 2) (hws : ∀ w ∈ ws, w.1 < 0x560000) :
    s.frame (tableStep ws s p) checkedRegs [.bar2, .tw] :=
  List.foldlRecOn (motive := fun t => s.frame t _ _) ws _ (State.frame_refl s _ _) (fun t ht w hw => State.frame_trans ht
    (State.frame_mono (t.tableWord_frame p w.2 (hws w hw)) (by simpa using status_mem_checkedRegs hp) (by simp)))

/-- Words below the queue records change no byte but those of the write. -/
theorem tableStep_bar2Except {ws : List (Nat × Nat)} (s : State) {n : Nat} (hp : p < 2)
    (hws : ∀ w ∈ ws, w.1 < 0x560000 ∧ o ≤ w.1 ∧ w.1 + 4 ≤ o + n) :
    s.bar2Except (tableStep ws s p) [(tblBase 0 + o, n), (tblBase 1 + o, n)] := by
  have hmem : (tblBase p + o, n) ∈ [(tblBase 0 + o, n), (tblBase 1 + o, n)] := by
    have : p = 0 ∨ p = 1 := by omega
    rcases this with rfl | rfl <;> simp
  refine List.foldlRecOn (motive := fun t => s.bar2Except t _) ws _ (State.bar2Except_of_bar2_eq rfl) (fun t ht w hw => ?_)
  obtain ⟨hlow, hlo, hhi⟩ := hws w hw
  exact State.bar2Except_trans ht (t.tableWord_bar2Except p w.2 hlow hmem (by simp; omega) (by simp; omega))

theorem exec_tableWrite {a : BitVec 24} {l : List Byte} (hs : s.spineOn = true) (hl : l.length = 4 ∨ l.length = 8)
    (ha : a.toNat % l.length = 0) : exec (.tableWrite a l) s = .next (settle (s.tableWrite a.toNat l)) := by
  have hc : ((l.length == 4 || l.length == 8) && a.toNat % l.length == 0) = true := by simpa [ha] using hl
  change done (s.tableAccess a.toNat l) = _
  rw [State.tableAccess, State.onSpine_pos _ _ hs, State.when_pos _ _ _ hc, done]

theorem exec_tableWrite_word {a : BitVec 24} (v : BitVec 32) (hs : s.spineOn = true) (ha : a.toNat % 4 = 0) :
    exec (.tableWrite a (leBytes 4 v.toNat)) s = .next (settle (s.tableWrite a.toNat (leBytes 4 v.toNat))) :=
  exec_tableWrite hs (.inl (leBytes_length 4 _)) (by rwa [leBytes_length])

/-- An access of another length, one that is not aligned, and any while the spine does not run change nothing (R183). -/
theorem exec_tableWrite_nothing {a : BitVec 24} {l : List Byte}
    (h : s.spineOn = false ∨ (l.length ≠ 4 ∧ l.length ≠ 8) ∨ a.toNat % l.length ≠ 0) :
    exec (.tableWrite a l) s = .next (settle s) := by
  change done (s.tableAccess a.toNat l) = _
  rw [State.tableAccess]
  cases hs : s.spineOn with
  | false => rw [State.onSpine_neg _ _ hs, done]
  | true =>
    have hc : ((l.length == 4 || l.length == 8) && a.toNat % l.length == 0) = false := by
      rcases h with h | ⟨h4, h8⟩ | h
      · exact absurd (hs.symm.trans h) (by decide)
      · simp [h4, h8]
      · simp [h]
    rw [State.onSpine_pos _ _ hs, State.when_neg _ _ _ hc, done]

/-! ## MAP_TBL_DATA -/

/-- ADDR after an access: moved on to the next word with AUTOINC (R200). -/
def State.tblAddrMoved (s : State) : State :=
  if s.flag Fld.MAP_TBL_ADDR_AUTOINC then s.set Fld.MAP_TBL_ADDR_ADDR (s.get Fld.MAP_TBL_ADDR_ADDR + 4) else s

theorem State.tblAddr_lt (s : State) : s.get Fld.MAP_TBL_ADDR_ADDR < 2 ^ 24 := Nat.mod_lt _ (by decide)

theorem State.tblAddrMoved_addr (s : State) : s.tblAddrMoved.get Fld.MAP_TBL_ADDR_ADDR
    = (s.get Fld.MAP_TBL_ADDR_ADDR + (if s.flag Fld.MAP_TBL_ADDR_AUTOINC then 4 else 0)) % 2 ^ 24 := by
  rw [State.tblAddrMoved]
  split
  · exact State.get_set_same _ _ _ (by decide)
  · exact (Nat.mod_eq_of_lt s.tblAddr_lt).symm

theorem State.tblAddrMoved_frame (s : State) : s.frame s.tblAddrMoved [Reg.MAP_TBL_ADDR] [] := by
  rw [State.tblAddrMoved]
  split
  · exact State.frame_set _ _ (State.frame_refl s _ _) (List.mem_singleton.2 rfl)
  · exact State.frame_refl s _ _

theorem settle_tblAddrMoved_frame (s : State) : (settle s).frame (settle s.tblAddrMoved) [Reg.MAP_TBL_ADDR] [] :=
  State.frame_trans (State.frame_mono (State.frame_symm (State.frame_settle (State.frame_refl s [] []))) (by simp) (by simp))
    (State.frame_settle s.tblAddrMoved_frame)

/-- What an access has done before ADDR moves does not touch ADDR or AUTOINC. -/
theorem State.tblAddrMoved_addr_of_frame {l : List Nat} {ps : List Part} (h : s.frame (settle t) l ps)
    (hl : Reg.MAP_TBL_ADDR ∉ l) : t.tblAddrMoved.get Fld.MAP_TBL_ADDR_ADDR
      = (s.get Fld.MAP_TBL_ADDR_ADDR + (if s.flag Fld.MAP_TBL_ADDR_AUTOINC then 4 else 0)) % 2 ^ 24 := by
  have hget : ∀ f : FRef, f.addr = Reg.MAP_TBL_ADDR → t.get f = s.get f := fun f hf =>
    (settle_get t f).symm.trans (State.get_of_frame h (hf ▸ hl))
  rw [State.tblAddrMoved_addr, State.flag, hget _ rfl, hget _ rfl, State.flag]

theorem exec_mapTblData_read (hs : s.spineOn = true) : exec (.mapTblDataAccess none) s = .next (settle s.tblAddrMoved) := by
  change done (s.mapTblData none) = _
  rw [State.mapTblData, State.onSpine_pos _ _ hs, done, State.tblAddrMoved]

theorem exec_mapTblData_write (v : BitVec 32) (hs : s.spineOn = true) : exec (.mapTblDataAccess (some v)) s
    = .next (settle (s.tableWrite (s.get Fld.MAP_TBL_ADDR_ADDR / 4 * 4) (leBytes 4 v.toNat)).tblAddrMoved) := by
  change done (s.mapTblData (some v)) = _
  rw [State.mapTblData, State.onSpine_pos _ _ hs, done, State.tblAddrMoved]

theorem State.tableWrite_frame (s : State) {a : Nat} (l : List Byte) (ha : a < 2 ^ 24) :
    s.frame (settle (s.tableWrite a l)) checkedRegs [.bar2, .planes, .tw] :=
  frame_settle_onWrite s (fun t _ hx => tableStep_frame _ t (State.lt_two_of_mem_writePlanes (by omega) hx)) (by simp)

end Sys2Proof.Machine
end

section
/-! PROOFS. O44: what a table write, an access to MAP_TBL_DATA and a flush leave in every plane that they reach. -/

namespace Sys2Proof.Machine

variable {s : State} {q a v : Nat}

/-! ## A word written in every plane that it reaches -/

/-- A 4-byte write, seen from a plane that it reaches: the word written there in a state whose plane is as it was. -/
theorem State.tableWrite_word_at (s : State) (hv : v < 2 ^ 32) (hq : q ∈ s.writePlanes (a / 0x800000)) :
    ∃ u, State.samePlane q s u
      ∧ State.samePlane q (u.tableWord q (a % 0x800000) v) (settle (s.tableWrite a (leBytes 4 v))) := by
  rw [State.tableWrite_eq, wordsOf_leBytes _ _ hv]
  exact settle_onWrite_at (tableStep_onlyPlane [(a % 0x800000, v)]) s hq

theorem State.tableWrite_descriptor_at (s : State) (hv : v < 2 ^ 32) (hq : q ∈ s.writePlanes (a / 0x800000))
    (ho : a % 0x800000 < 0x400000) (h : ¬ s.tableLocked q (a % 0x800000)) :
    (settle (s.tableWrite a (leBytes 4 v))).get (Fld.MAP_EPOCH_STATUS_CHECKED q) = 0
    ∧ (settle (s.tableWrite a (leBytes 4 v))).bar2Num (tblBase q + a % 0x800000) 4 = s.descWord q (a % 0x800000) v := by
  obtain ⟨u, hu, ht⟩ := s.tableWrite_word_at hv hq
  have hlock : ¬ u.tableLocked q (a % 0x800000) := fun hc => h (hu.tableLocked.1 hc)
  exact ⟨(ht.get rfl).trans (State.tableWord_descriptor_checked v ho hlock),
    (ht.bar2Num (by omega)).trans ((State.tableWord_descriptor_word ho hlock hv).trans (hu.descWord ho))⟩

theorem State.tableWrite_locked_at (s : State) (hv : v < 2 ^ 32) (hq : q ∈ s.writePlanes (a / 0x800000))
    (ho : a % 0x800000 < 0x400000) (h : s.tableLocked q (a % 0x800000)) :
    (settle (s.tableWrite a (leBytes 4 v))).get (Fld.MAP_EPOCH_STATUS_WR_IGN_EV q) = 1
    ∧ (settle (s.tableWrite a (leBytes 4 v))).bar2Num (tblBase q + a % 0x800000) 4 = s.bar2Num (tblBase q + a % 0x800000) 4 := by
  obtain ⟨u, hu, ht⟩ := s.tableWrite_word_at hv hq
  rw [State.tableWord_locked v ho (hu.tableLocked.2 h)] at ht
  exact ⟨(ht.get rfl).trans (u.tableIgnored_event q), (ht.bar2Num (by omega)).trans (hu.bar2Num (by omega))⟩

theorem State.tableWrite_traceSet_at (s : State) (hv : v < 2 ^ 32) (hq : q ∈ s.writePlanes (a / 0x800000))
    (h1 : 0x500000 ≤ a % 0x800000) (h2 : a % 0x800000 < 0x560000) (h3 : 64 ≤ (a % 0x800000 - 0x500000) % 192) :
    (settle (s.tableWrite a (leBytes 4 v))).bar2Num (tblBase q + a % 0x800000) 4 = v := by
  obtain ⟨u, -, ht⟩ := s.tableWrite_word_at hv hq
  rw [u.tableWord_traceSet q v h1 h2, if_neg (by omega)] at ht
  exact (ht.bar2Num (by omega)).trans (u.bar2Num_putBar2Num_lt hv)

theorem State.tableWrite_stateRecord_at (s : State) (hv : v < 2 ^ 32) (hq : q ∈ s.writePlanes (a / 0x800000))
    (h1 : 0x400000 ≤ a % 0x800000) (h2 : a % 0x800000 < 0x500000) :
    (settle (s.tableWrite a (leBytes 4 v))).bar2Num (tblBase q + a % 0x800000) 4 = s.bar2Num (tblBase q + a % 0x800000) 4 := by
  obtain ⟨u, hu, ht⟩ := s.tableWrite_word_at hv hq
  rw [u.tableWord_stateRecord q v h1 h2] at ht
  exact (hu.trans ht).bar2Num (by omega)

/-- Both words of an 8-byte write that a plane does not take are ignored in it (R188). -/
theorem State.tableWrite_pair_locked_at (s : State) {l : List Byte} (hl : l.length = 8) (ha : a % 8 = 0)
    (hq : q ∈ s.writePlanes (a / 0x800000)) (ho : a % 0x800000 < 0x400000) (h : s.tableLocked q (a % 0x800000)) :
    (settle (s.tableWrite a l)).get (Fld.MAP_EPOCH_STATUS_WR_IGN_EV q) = 1
    ∧ (settle (s.tableWrite a l)).bar2Bytes (tblBase q + a % 0x800000) 8 = s.bar2Bytes (tblBase q + a % 0x800000) 8 := by
  obtain ⟨v, w, hws⟩ := wordsOf_eight (a % 0x800000) hl
  obtain ⟨u, hu, ht⟩ := settle_onWrite_at (tableStep_onlyPlane (wordsOf (a % 0x800000) l)) s hq
  have hlow := hu.tableLocked.2 h
  have hhigh : (u.tableIgnored q).tableLocked q (a % 0x800000 + 4) := by
    have hsame : (a % 0x800000 + 4) / 0x200000 = a % 0x800000 / 0x200000 := by omega
    rw [State.tableLocked, hsame]
    exact State.tableLocked_tableIgnored hlow
  have hstep : tableStep (wordsOf (a % 0x800000) l) u q = (u.tableIgnored q).tableIgnored q := by
    rw [hws, tableStep, List.foldl_cons, List.foldl_cons, List.foldl_nil, State.tableWord_locked v ho hlow,
      State.tableWord_locked w (by omega) hhigh]
  rw [hstep] at ht
  exact ⟨(ht.get rfl).trans ((u.tableIgnored q).tableIgnored_event q),
    (ht.bar2Bytes (by omega)).trans (hu.bar2Bytes (by omega))⟩

/-- A write below the queue records changes no byte but its own in either plane, and no flow context. -/
theorem State.tableWrite_low (s : State) {l : List Byte} {n : Nat} (hn : l.length = n) (ha : a < 2 ^ 24)
    (ho : a % 0x800000 + n ≤ 0x560000) :
    s.bar2Except (settle (s.tableWrite a l)) [(tblBase 0 + a % 0x800000, n), (tblBase 1 + a % 0x800000, n)]
    ∧ s.frame (settle (s.tableWrite a l)) checkedRegs [.bar2, .tw] := by
  have hws : ∀ w ∈ wordsOf (a % 0x800000) l, w.1 < 0x560000 ∧ a % 0x800000 ≤ w.1 ∧ w.1 + 4 ≤ a % 0x800000 + n := by
    intro w hw
    obtain ⟨i, hi, rfl⟩ := List.mem_map.1 hw
    have := List.mem_range.1 hi
    simp only
    omega
  exact ⟨bar2Except_settle_onWrite s
      (fun t _ hx => tableStep_bar2Except t (State.lt_two_of_mem_writePlanes (by omega) hx) hws),
    frame_settle_onWrite s
      (fun t _ hx => tableStep_frame_low t (State.lt_two_of_mem_writePlanes (by omega) hx) (fun w hw => (hws w hw).1)) (by simp)⟩

theorem State.tableWrite_marked (s : State) (a : Nat) (l : List Byte) : s.marked (settle (s.tableWrite a l)) (a / 0x800000) :=
  settle_onWrite_marked (tableStep_onlyPlane _) s

/-! ## A flush in every plane that it reaches -/

/-- The step of a pending flush in one plane. -/
def flushStep (k : Nat) (s : State) (p : Nat) : State := s.when (s.flushing p k) fun s => s.flushNow p k

theorem State.queueFlushApply_eq (s : State) (p k : Nat) : s.queueFlushApply p k = s.onPlanes p (flushStep k) := rfl

theorem flushStep_cases (k : Nat) (s : State) (p : Nat) : flushStep k s p = s ∨ flushStep k s p = s.flushNow p k := by
  cases h : s.flushing p k
  · exact .inl (State.when_neg _ _ _ h)
  · exact .inr (State.when_pos _ _ _ h)

theorem flushStep_onlyPlane {k : Nat} (hk : k < 4096) (s : State) (p : Nat) : State.onlyPlane p s (flushStep k s p) := by
  obtain h | h := flushStep_cases k s p <;> rw [h]
  · exact .refl p s
  · exact (State.onlyPlane.refl p s).flushNow hk

theorem flushStep_frame (k : Nat) (s : State) (p : Nat) : s.frame (flushStep k s p) [] [.bar2, .planes] := by
  obtain h | h := flushStep_cases k s p <;> rw [h]
  · exact State.frame_refl s _ _
  · exact s.flushNow_frame p k

theorem flushStep_bar2Except (k : Nat) (s : State) {p : Nat} (hp : p < 2) : s.bar2Except (flushStep k s p) (queueRecs k) := by
  obtain h | h := flushStep_cases k s p <;> rw [h]
  · exact State.bar2Except_of_bar2_eq rfl
  · exact s.flushNow_bar2Except k hp

theorem flushStep_onlyFlow (k : Nat) (s : State) (p : Nat) : s.onlyFlow (flushStep k s p) k := by
  obtain h | h := flushStep_cases k s p <;> rw [h]
  · exact State.onlyFlow_of_planes_eq rfl
  · exact s.flushNow_onlyFlow p k

/-- QUEUE_FLUSH, seen from a plane that it reaches and in which no flush of the queue is pending (R181). -/
theorem State.queueFlush_at (s : State) {p k : Nat} (hk : k < 4096) (hq : q ∈ s.writePlanes p) (hf : s.flushing q k = false) :
    (s.qget q k 0x10 ≠ s.qget q k 0x0C → (settle (s.queueFlush p k)).flushing q k = true
      ∧ ((settle (s.queueFlush p k)).flow q k).queue = (s.flow q k).queue)
    ∧ (s.qget q k 0x10 = s.qget q k 0x0C → (settle (s.queueFlush p k)).flushing q k = false
      ∧ ((settle (s.queueFlush p k)).flow q k).queue = []) := by
  obtain ⟨u, hu, ht⟩ := settle_onWrite_at (f := fun s p => s.flushRequest p k)
    (fun t x => (State.onlyPlane.refl x t).flushRequest hk) s hq
  have hfu : u.flushing q k = false := (hu.flushing hk).trans hf
  rw [State.queueFlush, ht.flushing hk, ht.flow, ← hu.flow, ← hu.qget hk (by decide : 0x10 + 4 ≤ 64),
    ← hu.qget hk (by decide : 0x0C + 4 ≤ 64)]
  refine ⟨fun hne => ⟨State.flushRequest_pending_flushing hfu hne, ?_⟩, fun heq => ?_⟩
  · rw [State.flushRequest_pending hfu hne, State.flow_of_planes_eq (State.qset_planes _ _ _ _ _)]
  · rw [State.flushRequest_idle hfu heq]
    exact ⟨State.flushNow_flushing _ q k, State.flushNow_queue _ q k⟩

/-- QUEUE_FLUSH_APPLY, seen from a plane in which the flush is pending (R181). -/
theorem State.queueFlushApply_at (s : State) {p k : Nat} (hk : k < 4096) (hq : q ∈ s.runPlanes p) (hf : s.flushing q k = true) :
    (settle (s.queueFlushApply p k)).flushing q k = false ∧ ((settle (s.queueFlushApply p k)).flow q k).queue = []
    ∧ (settle (s.queueFlushApply p k)).qget q k 0x10 = s.qget q k 0x0C
    ∧ (settle (s.queueFlushApply p k)).bar2Num (queueAddr q k + 0x38) 8
      = (s.bar2Num (queueAddr q k + 0x38) 8 + (s.flow q k).queue.length) % 2 ^ 48 := by
  obtain ⟨u, hu, ht⟩ := settle_onPlanes_at (flushStep_onlyPlane hk) s hq
  have hstep : flushStep k u q = u.flushNow q k := State.when_pos _ _ _ ((hu.flushing hk).trans hf)
  rw [hstep, ← State.queueFlushApply_eq] at ht
  rw [ht.flushing hk, ht.flow, ht.qget hk (by decide), ht.queueNum hk (by decide), ← hu.flow,
    ← hu.qget hk (by decide : 0x0C + 4 ≤ 64), ← hu.queueNum hk (by decide : 0x38 + 8 ≤ 64)]
  exact ⟨u.flushNow_flushing q k, u.flushNow_queue q k, u.flushNow_readPointer q k, u.flushNow_discarded q k⟩

/-! ## The statement -/

/-- Settles O44: a write reaches each plane of `writePlanes` by the rules of one table word there, and leaves the other plane's part
alone, so that each plane shows what the write of one word does. -/
theorem tableWritesReachInactiveEpoch : Obligations.TableWritesReachInactiveEpoch := by
  unfold Obligations.TableWritesReachInactiveEpoch
  refine ⟨fun a v o s hs ha ho => ?word, fun a l o s hs hl ha ho hlt => ?pair, fun a l s h => ?nothing, fun s hs => ?read,
    fun v s hs => ?write, fun p k s => ⟨?flush, ?apply⟩⟩
  case word =>
    subst ho
    have hv := v.isLt
    refine ⟨_, exec_tableWrite_word v hs ha, fun q hq => ⟨fun ho hact hcom => ?_, fun ho h => s.tableWrite_locked_at hv hq ho h,
      fun h1 h2 h3 => s.tableWrite_traceSet_at hv hq h1 h2 h3, fun h1 h2 => s.tableWrite_stateRecord_at hv hq h1 h2⟩,
      fun ho => s.tableWrite_low (leBytes_length 4 _) a.isLt (by omega), s.tableWrite_marked _ _, s.tableWrite_frame _ a.isLt⟩
    obtain ⟨hchk, hword⟩ := s.tableWrite_descriptor_at hv hq ho (by simp [State.tableLocked, hact, hcom])
    refine ⟨hchk, fun h0 => ?_, fun h0 => ?_⟩
    · rw [hword, State.descWord, if_neg h0]
    · rw [hword, State.descWord, if_pos h0, h0, descMask]
  case pair =>
    subst ho
    obtain ⟨hexcept, hframe⟩ := s.tableWrite_low hl a.isLt (by omega)
    exact ⟨_, exec_tableWrite hs (.inr hl) (by rwa [hl]), fun q hq h => s.tableWrite_pair_locked_at hl ha hq hlt h, hexcept,
      s.tableWrite_marked _ _, hframe⟩
  case nothing => exact ⟨_, exec_tableWrite_nothing h, State.frame_settle (State.frame_refl s _ _)⟩
  case read => exact ⟨_, exec_mapTblData_read hs, s.tblAddrMoved_addr, State.frame_settle s.tblAddrMoved_frame⟩
  case write =>
    have haddr := s.tblAddr_lt
    have hnat : (BitVec.ofNat 24 (s.get Fld.MAP_TBL_ADDR_ADDR / 4 * 4)).toNat = s.get Fld.MAP_TBL_ADDR_ADDR / 4 * 4 := by
      rw [BitVec.toNat_ofNat]
      omega
    have hexec := exec_tableWrite_word v hs (a := BitVec.ofNat 24 (s.get Fld.MAP_TBL_ADDR_ADDR / 4 * 4)) (by omega)
    rw [hnat] at hexec
    have hframe := s.tableWrite_frame (a := s.get Fld.MAP_TBL_ADDR_ADDR / 4 * 4) (leBytes 4 v.toNat) (by omega)
    have hmoved := settle_tblAddrMoved_frame (s.tableWrite (s.get Fld.MAP_TBL_ADDR_ADDR / 4 * 4) (leBytes 4 v.toNat))
    exact ⟨_, hexec, _, exec_mapTblData_write v hs, hmoved.2 .bar2 (by simp), hmoved.2 .planes (by simp),
      State.tblAddrMoved_addr_of_frame hframe (by decide), hmoved⟩
  case flush =>
    exact ⟨_, rfl, fun q hq hf => s.queueFlush_at k.isLt hq hf,
      onlyFlow_settle_onWrite s (fun t x => t.flushRequest_onlyFlow x k.val),
      bar2Except_settle_onWrite s (fun t _ hx => t.flushRequest_bar2Except k.val (State.lt_two_of_mem_writePlanes p.isLt hx)),
      settle_onWrite_marked (fun t x => (State.onlyPlane.refl x t).flushRequest k.isLt) s,
      frame_settle_onWrite s (fun t x _ => State.frame_mono (t.flushRequest_frame x k.val) (by simp) (by simp)) (by simp)⟩
  case apply =>
    exact ⟨_, rfl, fun q hq hf => s.queueFlushApply_at k.isLt hq hf, onlyFlow_foldl s (flushStep_onlyFlow k.val),
      bar2Except_foldl s (fun t _ hx => flushStep_bar2Except k.val t (State.lt_two_of_mem_runPlanes p.isLt hx)),
      State.frame_settle (frame_foldl s (fun t x _ => flushStep_frame k.val t x))⟩

end Sys2Proof.Machine
end

section
/-! PROOFS. What Berent's events (R386), its degrading conditions (R364) and the end of a long operation (R388) leave alone. -/

namespace Sys2Proof.Machine

variable {s t u : State} {l : List Nat} {ps : List Part}

/-- A frame goes on over a step whose own frame lies within it. -/
theorem State.frame_step {l' : List Nat} {ps' : List Part} (h : s.frame t l ps) (h' : t.frame u l' ps') (hl : l' ⊆ l)
    (hp : ps' ⊆ ps) : s.frame u l ps :=
  State.frame_trans h (State.frame_mono h' (fun _ ha => hl ha) (fun _ hx => hp hx))

theorem State.frame_withMbx (m : Mbx) (h : s.frame t l ps) (hm : Part.mbx ∈ ps) : s.frame { t with mbx := m } l ps := by
  refine ⟨h.1, fun x hx => ?_⟩
  have hkept := h.2 x hx
  cases x with
  | mbx => exact absurd hm hx
  | _ => exact hkept

theorem State.frame_withFcr (x : Fcr) (h : s.frame t l ps) (hf : Part.fcr ∈ ps) :
    s.frame { t with fcr := x } l ps := by
  refine ⟨h.1, fun y hy => ?_⟩
  have hkept := h.2 y hy
  cases y with
  | fcr => exact absurd hf hy
  | _ => exact hkept

/-! ## Events -/

theorem State.writeEvent_frame (s : State) (e : EventRec) : s.frame (s.writeEvent e) eventRegs [.mbx, .host, .irq] := by
  rw [State.writeEvent]
  split
  · exact State.frame_refl s _ _
  · exact State.frame_pulse _ (State.frame_add _ _ (State.frame_putHost _ _ (State.frame_refl s _ _) (by decide)) (by decide))
      (by decide)

theorem State.drainEvents_frame (n : Nat) (s : State) : s.frame (State.drainEvents n s) eventRegs [.mbx, .host, .irq] := by
  induction n generalizing s with
  | zero => exact State.frame_refl s _ _
  | succ n ih =>
    rw [State.drainEvents]
    split
    · exact State.frame_refl s _ _
    · split
      · exact State.frame_trans (State.frame_withMbx _ (s.writeEvent_frame _) (by decide)) (ih _)
      · exact State.frame_refl s _ _

theorem State.enqueueEvent_frame (s : State) (code tag : Nat) (args : List Byte) :
    s.frame (s.enqueueEvent code tag args) eventRegs [.mbx, .host, .irq] := by
  have hseq := State.frame_withMbx { s.mbx with evSeq := (s.mbx.evSeq + 1) % 2 ^ 32 }
    (State.frame_refl s eventRegs [.mbx, .host, .irq]) (by decide)
  rw [State.enqueueEvent]
  split
  · exact State.frame_withMbx _ hseq (by decide)
  · exact State.frame_raise _ (State.frame_add _ _ (State.frame_withMbx _ hseq (by decide)) (by decide)) (by decide)

theorem State.moveEvents_frame (s : State) : s.frame s.moveEvents eventRegs [.mbx, .host, .irq] := by
  rw [State.moveEvents]
  split
  · exact State.frame_trans (State.frame_trans (State.frame_withMbx _ (State.drainEvents_frame _ s) (by decide))
      (State.enqueueEvent_frame _ _ _ _)) (State.drainEvents_frame _ _)
  · exact State.drainEvents_frame _ s

theorem State.postEvent_frame (s : State) (code tag : Nat) (args : List Byte) :
    s.frame (s.postEvent code tag args) eventRegs [.mbx, .host, .irq] :=
  State.frame_trans (s.enqueueEvent_frame code tag args) (State.moveEvents_frame _)

/-! ## State changes and degrading conditions -/

theorem State.setFw_frame (s : State) (new cause : Nat) :
    s.frame (s.setFw new cause) (Reg.MGMT_FW_STATE :: eventRegs) [.mbx, .host, .irq] := by
  rw [State.setFw]
  split
  · exact State.frame_refl s _ _
  · exact State.frame_step (State.frame_set _ _ (State.frame_refl s _ _) (by decide)) (State.postEvent_frame _ _ _ _)
      (by decide) (by decide)

theorem State.stateFollow_frame (s : State) :
    s.frame s.stateFollow (Reg.MGMT_FW_STATE :: eventRegs) [.mbx, .host, .irq] := by
  rw [State.stateFollow]
  split
  · exact State.frame_refl s _ _
  · split
    · exact s.setFw_frame _ _
    · split
      · exact s.setFw_frame _ _
      · exact State.frame_refl s _ _

theorem State.watch_frame (s : State) : s.frame s.watch (Reg.MGMT_FW_STATE :: eventRegs) [.mbx, .host, .irq] := by
  rw [State.watch]
  split
  · exact State.frame_refl s _ _
  · dsimp only
    split
    · exact State.frame_refl s _ _
    · refine State.frame_trans (State.frame_trans (State.frame_withMbx _ (State.frame_refl s _ _) (by decide))
        (frame_foldl _ (fun t k _ => ?_))) (State.stateFollow_frame _)
      split
      · exact State.frame_refl t _ _
      · exact State.frame_mono (t.postEvent_frame _ _ _) (fun _ ha => List.mem_cons_of_mem _ ha) (fun _ hx => hx)

/-! ## The end of a long operation -/

/-- The registers that the end of a long operation may change: its progress, the counts of its ring, those of the event queue. -/
def opEndRegs : List Nat := eventRegs ++ (List.range 8).map Reg.MBX_OP_PROG ++ (List.range 4).map Reg.MBX_CI

theorem State.opEvent_frame (s : State) (k : Nat) (o : LongOp) : s.frame (s.opEvent k o) eventRegs [.mbx, .host, .irq] := by
  rw [State.opEvent]
  split
  · exact State.frame_refl s _ _
  · exact State.frame_trans (State.frame_withMbx _ (State.frame_refl s _ _) (by decide)) (State.postEvent_frame _ _ _ _)

theorem State.answer_frame (s : State) (c : Taken) (status : Nat) (payload : List Byte) :
    s.frame (s.answer c status payload) [Reg.MBX_CI c.ring.val] [.bar2, .irq] :=
  State.frame_pulse _ (State.frame_add _ _ (State.frame_putBar2 _ _ (State.frame_refl s _ _) (by decide))
    (List.mem_singleton.2 rfl)) (by decide)

theorem progress_mem_opEndRegs {k : Nat} (hk : k < 8) : Reg.MBX_OP_PROG k ∈ opEndRegs :=
  List.mem_append_left _ (List.mem_append_right _ (List.mem_map_of_mem (List.mem_range.2 hk)))

theorem counts_mem_opEndRegs (r : Fin 4) : Reg.MBX_CI r.val ∈ opEndRegs :=
  List.mem_append_right _ (List.mem_map_of_mem (List.mem_range.2 r.isLt))

theorem State.opEnd_frame (s : State) {k : Nat} (hk : k < 8) (status : Nat) (payload : List Byte) :
    s.frame (s.opEnd k status payload) opEndRegs [.bar2, .mbx, .host, .irq] := by
  rw [State.opEnd]
  split
  · exact State.frame_refl s _ _
  · rename_i o _
    have hevent : s.frame (s.opEvent k o) opEndRegs [.bar2, .mbx, .host, .irq] :=
      State.frame_step (State.frame_refl s _ _) (s.opEvent_frame k o) (by decide) (by decide)
    have hanswer : s.frame (if o.auto then s.opEvent k o else (s.opEvent k o).answer o.cmd status payload) opEndRegs
        [.bar2, .mbx, .host, .irq] := by
      split
      · exact hevent
      · exact State.frame_step hevent (State.answer_frame _ _ _ _)
          (List.cons_subset.2 ⟨counts_mem_opEndRegs o.cmd.ring, List.nil_subset _⟩) (by decide)
    exact State.frame_setB _ _ (State.frame_withMbx _ hanswer (by decide)) (progress_mem_opEndRegs hk)

/-- Every operation of an opcode ends. -/
theorem State.opsEnd_frame (s : State) (opcode status : Nat) (payload : List Byte) :
    s.frame ((s.opsOf opcode).foldl (fun s k => s.opEnd k status payload) s) opEndRegs [.bar2, .mbx, .host, .irq] :=
  frame_foldl s (fun t _ hk => t.opEnd_frame (List.mem_range.1 (List.mem_filter.1 hk).1) status payload)

end Sys2Proof.Machine
end

section
/-! PROOFS. A plane that changes its state (R283, R284, Table 9.4): what the twin control leaves alone, and the state that the plane
is left in. -/

namespace Sys2Proof.Machine

variable {s t u : State} {p q v : Nat}

/-! ## The parts of a change -/

/-- The twin control without a re-synchronisation, the last one ended without success (R288). -/
def TwinUnit.endResync (t : TwinUnit) : TwinUnit := { t with resync := none, resyncEnded := true }

/-- The plane that a failed re-synchronisation was to return goes to OUT_OF_STEP, unless it is off or in INIT (R288). -/
def State.planeFails (s : State) (p : Nat) : State := if s.planeState p ≤ 1 then s else s.setPlaneState p 6

theorem State.resyncFail_none (h : s.tw.resync = none) (reason : Nat) : s.resyncFail reason = s := by
  rw [State.resyncFail, h]

theorem State.resyncFail_some {r : Resync} (h : s.tw.resync = some r) (reason : Nat) : s.resyncFail reason
    = (fun u : State => (u.opsOf 0x0600).foldl (fun u k => u.opEnd k 0x010B (leBytes 2 reason ++ leBytes 2 0)) u)
      ((((((s.modTwin TwinUnit.endResync).raise Fld.TWN_STATUS_RESYNC_FAIL_EV).planeFails r.plane).set
        Fld.TWN_RESYNC_PROG_PCT 0).set Fld.TWN_RESYNC_PROG_POS 0).happen 582) := by
  rw [State.resyncFail, h]
  rfl

/-- Plane `q` follows the other plane, which has left its state for `v`: ALONE from IN_STEP, and from CATCHUP in a joint start (R283,
R284). -/
def State.peerFollows (s : State) (q v : Nat) (mismatch : Bool) : State :=
  if v = 4 ∨ v = 5 then s
  else if s.planeState q = 4 then s.setPlaneState q 5
  else if s.planeState q = 3 ∧ (s.planeTw q).joint ∧ !mismatch then s.setPlaneState q 5
  else s

/-- A re-synchronisation fails with a plane that has left state `was` for `v`, the returning or the live one (R288). -/
def State.resyncFollows (s : State) (p v was : Nat) (mismatch : Bool) : State :=
  match s.tw.resync with
  | none => s
  | some r =>
    if r.plane = p then
      if v = 0 ∨ (r.copying ∧ (was = 2 ∨ was = 3) ∧ v ≠ 3 ∧ v ≠ 4) then s.resyncFail (if mismatch then 4 else 5) else s
    else if v = 4 ∨ v = 5 then s else s.resyncFail 3

theorem State.movePlane_eq (s : State) (p v : Nat) (mismatch : Bool) : s.movePlane p v mismatch
    = if s.planeState p = v then s
      else (((s.setPlaneState p v).peerFollows (1 - p) v mismatch).resyncFollows p v (s.planeState p) mismatch).xferCheck.watch := rfl

/-! ## What a change of a plane's state leaves alone -/

/-- The registers that a change of a plane's state may change. -/
def planeMoveRegs : List Nat := Reg.TWN_STATUS :: Reg.TWN_RESYNC_PROG :: Reg.MGMT_FW_STATE :: opEndRegs

/-- From `s` to `t` the twin control has acted and Berent has reported it; what the twin control holds of each plane is the same. -/
structure State.twinActed (s t : State) : Prop where
  frame : s.frame t planeMoveRegs [.bar2, .host, .irq, .fcr, .mbx, .tw]
  planes : t.tw.planes = s.tw.planes

namespace State.twinActed

theorem refl (s : State) : s.twinActed s := ⟨State.frame_refl s _ _, rfl⟩

theorem trans (h : State.twinActed s t) (h' : State.twinActed t u) : State.twinActed s u :=
  ⟨State.frame_trans h.frame h'.frame, h'.planes.trans h.planes⟩

theorem step (h : State.twinActed s t) {l : List Nat} {ps : List Part} (h' : t.frame u l ps) (hl : l ⊆ planeMoveRegs)
    (hp : ps ⊆ [.bar2, .host, .irq, .fcr, .mbx]) : State.twinActed s u where
  frame := State.frame_step h.frame h' hl (fun _ hx => List.mem_append_left [Part.tw] (hp hx))
  planes := by
    have htw : t.keeps u .tw := h'.2 .tw (fun hm => absurd (hp hm) (by decide))
    exact (congrArg TwinUnit.planes htw).trans h.planes

theorem set (h : State.twinActed s t) {f : FRef} (x : Nat) (hf : f.addr ∈ planeMoveRegs) : State.twinActed s (t.set f x) :=
  ⟨State.frame_set f x h.frame hf, h.planes⟩

theorem modTwin (h : State.twinActed s t) {f : TwinUnit → TwinUnit} (hf : (f t.tw).planes = t.tw.planes) :
    State.twinActed s (t.modTwin f) where
  frame := by
    refine ⟨h.frame.1, fun x hx => ?_⟩
    have hkept := h.frame.2 x hx
    cases x with
    | tw => exact absurd (by decide) hx
    | _ => exact hkept
  planes := hf.trans h.planes

theorem watch (h : State.twinActed s t) : State.twinActed s t.watch := h.step t.watch_frame (by decide) (by decide)

theorem ite {c : Prop} [Decidable c] (ht : State.twinActed s t) (hu : State.twinActed s u) :
    State.twinActed s (if c then t else u) := by
  split
  · exact ht
  · exact hu

theorem clearProgress (h : State.twinActed s t) :
    State.twinActed s ((t.set Fld.TWN_RESYNC_PROG_PCT 0).set Fld.TWN_RESYNC_PROG_POS 0) :=
  (h.set 0 (by decide)).set 0 (by decide)

theorem periodEnd (h : State.twinActed s t) (p : Nat) : State.twinActed s (t.periodEnd p) :=
  h.ite (h.set 1 (by decide))

theorem setPlaneState (h : State.twinActed s t) (p v : Nat) : State.twinActed s (t.setPlaneState p v) := by
  have hfield : (if p = 0 then Fld.TWN_STATUS_STATE_A else Fld.TWN_STATUS_STATE_B).addr ∈ planeMoveRegs := by
    split <;> decide
  have hstate := (h.set v hfield).set (f := Fld.TWN_STATUS_STATE_EV) 1 (by decide)
  exact h.ite (ite (periodEnd (hstate.clearProgress.ite hstate) p) (hstate.clearProgress.ite hstate))

theorem xferCheck (h : State.twinActed s t) : State.twinActed s t.xferCheck := by
  rw [State.xferCheck]
  split
  · exact h
  · exact h.ite ((h.modTwin rfl).set (f := Fld.TWN_STATUS_TRANSFER_PEND) _ (by decide))

theorem planeFails (h : State.twinActed s t) (p : Nat) : State.twinActed s (t.planeFails p) := h.ite (h.setPlaneState p 6)

theorem resyncFail (h : State.twinActed s t) (reason : Nat) : State.twinActed s (t.resyncFail reason) := by
  cases hr : t.tw.resync with
  | none => rwa [State.resyncFail_none hr]
  | some r =>
    have hended := ((h.modTwin (f := TwinUnit.endResync) rfl).set (f := Fld.TWN_STATUS_RESYNC_FAIL_EV) 1 (by decide)).planeFails
      r.plane
    rw [State.resyncFail_some hr]
    exact (hended.clearProgress.step (State.frame_happen 582 (State.frame_refl _ [] [.fcr]) (by decide)) (by decide)
      (by decide)).step (State.opsEnd_frame _ _ _ _) (by decide) (by decide)

theorem peerFollows (h : State.twinActed s t) (q v : Nat) (mismatch : Bool) : State.twinActed s (t.peerFollows q v mismatch) :=
  h.ite ((h.setPlaneState q 5).ite ((h.setPlaneState q 5).ite h))

theorem resyncFollows (h : State.twinActed s t) (p v was : Nat) (mismatch : Bool) :
    State.twinActed s (t.resyncFollows p v was mismatch) := by
  rw [State.resyncFollows]
  split
  · exact h
  · exact ite ((h.resyncFail _).ite h) (h.ite (h.resyncFail _))

theorem movePlane (h : State.twinActed s t) (p v : Nat) (mismatch : Bool) : State.twinActed s (t.movePlane p v mismatch) := by
  rw [State.movePlane_eq]
  exact h.ite ((((h.setPlaneState p v).peerFollows _ v mismatch).resyncFollows p v _ mismatch).xferCheck.watch)

end State.twinActed

/-! ## The state that a plane is left in -/

/-- The field of TWN_STATUS that shows the state of plane `p`. -/
def planeField (p : Nat) : FRef := if p = 0 then Fld.TWN_STATUS_STATE_A else Fld.TWN_STATUS_STATE_B

theorem State.planeState_eq (s : State) (p : Nat) : s.planeState p = s.get (planeField p) := by
  rw [State.planeState, planeField]
  split <;> rfl

theorem State.planeState_of_reg (h : t.reg Reg.TWN_STATUS = s.reg Reg.TWN_STATUS) : t.planeState q = s.planeState q := by
  simp only [State.planeState, State.get, Fld.TWN_STATUS_STATE_A, Fld.TWN_STATUS_STATE_B, h]

theorem State.planeState_of_frame {l : List Nat} {ps : List Part} (h : s.frame t l ps) (hl : Reg.TWN_STATUS ∉ l) :
    t.planeState q = s.planeState q := State.planeState_of_reg (h.1 _ hl)

/-- A field that is not one of the two states of TWN_STATUS. -/
theorem State.planeState_set (s : State) {f : FRef} (x : Nat) (hf : f.addr ≠ Reg.TWN_STATUS ∨ 10 ≤ f.lo) :
    (s.set f x).planeState q = s.planeState q := by
  have hother : ∀ g : FRef, g.addr = Reg.TWN_STATUS → g.lo + g.len ≤ 10 → (s.set f x).get g = s.get g := by
    intro g hg hlen
    refine State.get_set_other s f g x (hf.imp (fun h => hg ▸ h.symm) (fun h => ⟨by omega, .inr (by omega)⟩))
  simp only [State.planeState, hother Fld.TWN_STATUS_STATE_A rfl (by decide), hother Fld.TWN_STATUS_STATE_B rfl (by decide)]

theorem State.planeState_periodEnd (s : State) (p : Nat) : (s.periodEnd p).planeState q = s.planeState q := by
  rw [State.periodEnd]
  split
  · rfl
  · exact s.planeState_set 1 (.inr (by decide))

theorem State.planeState_clearProgress (s : State) :
    ((s.set Fld.TWN_RESYNC_PROG_PCT 0).set Fld.TWN_RESYNC_PROG_POS 0).planeState q = s.planeState q :=
  (State.planeState_set _ 0 (.inl (by decide))).trans (s.planeState_set 0 (.inl (by decide)))

/-- STATE_A and STATE_B after a change are those that writing the field of plane `p` leaves. -/
theorem State.planeState_setPlaneState (s : State) (q : Nat) (h : s.planeState p ≠ v) :
    (s.setPlaneState p v).planeState q = (s.set (planeField p) v).planeState q := by
  have hstate : ((s.set (planeField p) v).raise Fld.TWN_STATUS_STATE_EV).planeState q = (s.set (planeField p) v).planeState q :=
    State.planeState_set _ 1 (.inr (by decide))
  rw [State.setPlaneState, if_neg h]
  simp only [apply_ite (fun t : State => t.planeState q), State.planeState_periodEnd, State.planeState_clearProgress, ite_self]
  exact hstate

theorem planeField_cases (p : Nat) : planeField p = Fld.TWN_STATUS_STATE_A ∨ planeField p = Fld.TWN_STATUS_STATE_B := by
  rw [planeField]
  split
  · exact .inl rfl
  · exact .inr rfl

theorem State.planeState_setPlaneState_same (s : State) (p : Nat) (hv : v < 8) : (s.setPlaneState p v).planeState p = v := by
  by_cases h : s.planeState p = v
  · rwa [State.setPlaneState, if_pos h]
  · rw [s.planeState_setPlaneState p h, State.planeState_eq]
    rcases planeField_cases p with hp | hp <;> rw [hp, State.get_set_same _ _ _ (by decide)] <;> exact Nat.mod_eq_of_lt hv

/-- Planes in different states are different planes, and a change of one leaves the state of the other. -/
theorem State.planeState_setPlaneState_other (s : State) (h : s.planeState q ≠ s.planeState p) :
    (s.setPlaneState p v).planeState q = s.planeState q := by
  by_cases hv : s.planeState p = v
  · rw [State.setPlaneState, if_pos hv]
  · have hne : planeField q ≠ planeField p := fun he => h (by rw [State.planeState_eq, State.planeState_eq, he])
    rw [s.planeState_setPlaneState q hv, State.planeState_eq, State.planeState_eq]
    refine State.get_set_other s _ _ _ (.inr ?_)
    rcases planeField_cases q with hq | hq <;> rcases planeField_cases p with hp | hp <;> rw [hq, hp] at hne ⊢
    · exact absurd rfl hne
    · decide
    · decide
    · exact absurd rfl hne

/-! A plane that is off or in INIT stays there while the rest follows. -/

theorem State.planeState_planeFails (s : State) (p : Nat) (h : s.planeState q ≤ 1) :
    (s.planeFails p).planeState q = s.planeState q := by
  rw [State.planeFails]
  split
  · rfl
  · exact s.planeState_setPlaneState_other (by omega)

theorem State.planeState_resyncFail (s : State) (reason : Nat) (h : s.planeState q ≤ 1) :
    (s.resyncFail reason).planeState q = s.planeState q := by
  cases hr : s.tw.resync with
  | none => rw [State.resyncFail_none hr]
  | some r =>
    have hraised : ((s.modTwin TwinUnit.endResync).raise Fld.TWN_STATUS_RESYNC_FAIL_EV).planeState q = s.planeState q :=
      State.planeState_set _ 1 (.inr (by decide))
    rw [State.resyncFail_some hr]
    calc
      _ = _ := State.planeState_of_frame (State.opsEnd_frame _ _ _ _) (by decide)
      _ = _ := State.planeState_of_reg (State.happen_reg _ _ _)
      _ = _ := State.planeState_clearProgress _
      _ = _ := State.planeState_planeFails _ _ (hraised ▸ h)
      _ = _ := hraised

theorem State.planeState_peerFollows (s : State) (p v : Nat) (mismatch : Bool) (h : s.planeState q ≤ 1) :
    (s.peerFollows p v mismatch).planeState q = s.planeState q := by
  rw [State.peerFollows]
  split
  · rfl
  · split
    · exact s.planeState_setPlaneState_other (by omega)
    · split
      · exact s.planeState_setPlaneState_other (by omega)
      · rfl

theorem State.planeState_resyncFollows (s : State) (p v was : Nat) (mismatch : Bool) (h : s.planeState q ≤ 1) :
    (s.resyncFollows p v was mismatch).planeState q = s.planeState q := by
  rw [State.resyncFollows]
  split
  · rfl
  · simp only [apply_ite (fun t : State => t.planeState q), s.planeState_resyncFail _ h, ite_self]

theorem State.planeState_xferCheck (s : State) : s.xferCheck.planeState q = s.planeState q := by
  rw [State.xferCheck]
  split
  · rfl
  · split
    · rfl
    · exact State.planeState_set _ _ (.inr (by decide))

/-- A plane that leaves its state for off or INIT is there at the end. -/
theorem State.planeState_movePlane (s : State) (p : Nat) (mismatch : Bool) (hv : v ≤ 1) :
    (s.movePlane p v mismatch).planeState p = v := by
  have hset : (s.setPlaneState p v).planeState p = v := s.planeState_setPlaneState_same p (by omega)
  have hpeer : ((s.setPlaneState p v).peerFollows (1 - p) v mismatch).planeState p = v :=
    (State.planeState_peerFollows _ _ _ _ (Nat.le_trans (Nat.le_of_eq hset) hv)).trans hset
  rw [State.movePlane_eq]
  split
  · assumption
  · calc
      _ = _ := State.planeState_of_frame (State.watch_frame _) (by decide)
      _ = _ := State.planeState_xferCheck _
      _ = _ := State.planeState_resyncFollows _ _ _ _ _ (Nat.le_trans (Nat.le_of_eq hpeer) hv)
      _ = v := hpeer

end Sys2Proof.Machine
end

section
/-! PROOFS. What software writes to the fault collector: cause bits with the levels of their classes (R442, R445), records (R452, R453),
FCR_FW_RAISE (R456), and the count of a refused access (R406). -/

namespace Sys2Proof.Machine

variable {s t : State} {c : Nat}

/-! ## Levels of classes -/

theorem State.unacked_congr (h : ∀ r, r < 19 → t.reg (Reg.FCR_CAUSE r) = s.reg (Reg.FCR_CAUSE r)) (c : Nat) :
    t.unacked c = s.unacked c := by
  rw [Bool.eq_iff_iff, State.unacked, State.unacked, List.any_eq_true, List.any_eq_true]
  refine exists_congr fun r => and_congr_right fun hr => ?_
  rw [h r (List.mem_range.1 hr)]

theorem State.unacked_of_frame {l : List Nat} {ps : List Part} (h : s.frame t l ps) (hl : ∀ r, r < 19 → Reg.FCR_CAUSE r ∉ l)
    (c : Nat) : t.unacked c = s.unacked c := State.unacked_congr (fun r hr => h.1 _ (hl r hr)) c

theorem State.escOf_setEsc_same (s : State) (c e : Nat) : (s.setEsc c e).escOf c = e := putD_getD_same _ _ _ _

theorem State.escOf_setEsc_other (s : State) {c d : Nat} (e : Nat) (h : c ≠ d) : (s.setEsc c e).escOf d = s.escOf d :=
  putD_getD_other _ _ _ _ _ h

/-- The registers that show the levels of the classes. -/
def levelRegs : List Nat := [Reg.FCR_CLASS_E 0, Reg.FCR_CLASS_E 1]

theorem State.setEsc_frame (s : State) (e : Nat) (hc : c < 20) : s.frame (s.setEsc c e) levelRegs [.fcr] := by
  have hreg : Reg.FCR_CLASS_E (c / 10) ∈ levelRegs := by
    have : c / 10 = 0 ∨ c / 10 = 1 := by omega
    rcases this with h | h <;> rw [h] <;> decide
  exact State.frame_set _ _ (State.frame_withFcr _ (State.frame_refl s _ _) (by decide)) hreg

/-- Class `c` returns to level 0 where it has no cause bit (R445). -/
def State.escFollow (s : State) (c : Nat) : State := if s.escOf c != 0 && !s.unacked c then s.setEsc c 0 else s

theorem State.escFollow_frame (s : State) (hc : c < 20) : s.frame (s.escFollow c) levelRegs [.fcr] := by
  rw [State.escFollow]
  split
  · exact s.setEsc_frame 0 hc
  · exact State.frame_refl s _ _

theorem State.escOf_escFollow_same (s : State) (c : Nat) :
    (s.escFollow c).escOf c = if s.unacked c then s.escOf c else 0 := by
  rw [State.escFollow]
  cases hu : s.unacked c with
  | true => simp
  | false =>
    by_cases he : s.escOf c = 0
    · simp [he]
    · simp [he, State.escOf_setEsc_same]

theorem State.escOf_escFollow_other (s : State) {c d : Nat} (h : c ≠ d) : (s.escFollow c).escOf d = s.escOf d := by
  rw [State.escFollow]
  split
  · exact s.escOf_setEsc_other 0 h
  · rfl

theorem State.foldl_escFollow_frame {cs : List Nat} (s : State) (hcs : ∀ c ∈ cs, c < 20) :
    s.frame (cs.foldl State.escFollow s) levelRegs [.fcr] := frame_foldl s (fun t c hc => t.escFollow_frame (hcs c hc))

theorem cause_notMem_levelRegs {r : Nat} (hr : r < 19) : Reg.FCR_CAUSE r ∉ levelRegs := by
  simp only [levelRegs, Reg.FCR_CAUSE, Reg.FCR_CLASS_E, List.mem_cons, List.not_mem_nil, or_false]
  omega

theorem State.escFollow_unacked (s : State) (hc : c < 20) (d : Nat) : (s.escFollow c).unacked d = s.unacked d :=
  State.unacked_of_frame (s.escFollow_frame hc) (fun _ => cause_notMem_levelRegs) d

/-- After the classes of a list have followed their cause bits, each of them without one is at level 0, and all else is as it was. -/
theorem State.escOf_foldl_escFollow {cs : List Nat} (s : State) (hcs : ∀ c ∈ cs, c < 20) (d : Nat) :
    (cs.foldl State.escFollow s).escOf d = if d ∈ cs ∧ s.unacked d = false then 0 else s.escOf d := by
  induction cs generalizing s with
  | nil => simp
  | cons c cs ih =>
    obtain ⟨hc, hcs⟩ := List.forall_mem_cons.1 hcs
    rw [List.foldl_cons, ih _ hcs, s.escFollow_unacked hc]
    by_cases hcd : c = d
    · subst hcd
      cases hu : s.unacked c <;> simp [State.escOf_escFollow_same, hu]
    · rw [s.escOf_escFollow_other hcd]
      simp [Ne.symm hcd]

/-! ## Cause bits -/

/-- The cause bits that a write of `v` leaves in register `r`. -/
def State.causeMasked (s : State) (r : Nat) (v : Word) : State :=
  s.setReg (Reg.FCR_CAUSE r) (s.reg (Reg.FCR_CAUSE r) &&& ~~~v)

theorem State.causeClear_eq (r : Nat) (v : Word) (hs : s.spineOn = true) :
    s.causeClear r v = ((List.range 20).foldl State.escFollow (s.causeMasked r v)).errnFollow := State.onSpine_pos _ _ hs

theorem State.errnFollow_frame (s : State) : s.frame s.errnFollow [Reg.FCR_STATUS] [] :=
  State.frame_setB _ _ (State.frame_refl s _ _) (List.mem_singleton.2 rfl)

/-- Clearing cause bits changes them, and then only the levels and ERR_N. -/
theorem State.causeClear_frame_masked (r : Nat) (v : Word) (hs : s.spineOn = true) :
    (s.causeMasked r v).frame (settle (s.causeClear r v)) (Reg.FCR_STATUS :: levelRegs) [.fcr] := by
  rw [State.causeClear_eq r v hs]
  exact State.frame_settle (State.frame_step (State.frame_step (State.frame_refl _ _ _)
    (State.foldl_escFollow_frame _ (fun c => List.mem_range.1)) (by decide) (by decide)) (State.errnFollow_frame _)
    (by decide) (by decide))

theorem cause_notMem_followRegs {r : Nat} (hr : r < 19) : Reg.FCR_CAUSE r ∉ Reg.FCR_STATUS :: levelRegs := by
  refine List.not_mem_cons_of_ne_of_not_mem ?_ (cause_notMem_levelRegs hr)
  rw [Reg.FCR_CAUSE, Reg.FCR_STATUS]
  omega

theorem State.causeClear_reg {r : Nat} (v : Word) (hs : s.spineOn = true) (hr : r < 19) :
    (settle (s.causeClear r v)).reg (Reg.FCR_CAUSE r) = (s.reg (Reg.FCR_CAUSE r) &&& ~~~v) :=
  ((State.causeClear_frame_masked r v hs).1 _ (cause_notMem_followRegs hr)).trans (State.reg_setReg_same s _ _)

theorem State.causeClear_frame (r : Nat) (v : Word) (hs : s.spineOn = true) : s.frame (settle (s.causeClear r v))
    [Reg.FCR_CAUSE r, Reg.FCR_CLASS_E 0, Reg.FCR_CLASS_E 1, Reg.FCR_STATUS] [.fcr] :=
  State.frame_step (State.frame_setReg _ _ (State.frame_refl s _ _) (by simp)) (State.causeClear_frame_masked r v hs)
    (by simp [levelRegs]) (by decide)

theorem State.causeClear_reg_other {r j : Nat} (v : Word) (hs : s.spineOn = true) (hj : j < 19) (hne : j ≠ r) :
    (settle (s.causeClear r v)).reg (Reg.FCR_CAUSE j) = s.reg (Reg.FCR_CAUSE j) :=
  ((State.causeClear_frame_masked r v hs).1 _ (cause_notMem_followRegs hj)).trans
    (State.reg_setReg_other s _ _ _ (by simp only [Reg.FCR_CAUSE]; omega))

theorem State.causeClear_unacked (r : Nat) (v : Word) (hs : s.spineOn = true) (c : Nat) :
    (settle (s.causeClear r v)).unacked c = (s.causeMasked r v).unacked c :=
  State.unacked_of_frame (State.causeClear_frame_masked r v hs) (fun _ => cause_notMem_followRegs) c

/-- A class without a cause bit is at level 0, any other keeps its level (R445). -/
theorem State.causeClear_escOf (r : Nat) (v : Word) (hs : s.spineOn = true) (hc : c < 20) :
    (settle (s.causeClear r v)).escOf c = if (settle (s.causeClear r v)).unacked c then s.escOf c else 0 := by
  have hesc : (settle (s.causeClear r v)).escOf c
      = ((List.range 20).foldl State.escFollow (s.causeMasked r v)).escOf c := by
    rw [State.escOf, settle_fcr_esc, State.causeClear_eq r v hs, State.errnFollow, State.setB_fcr, State.escOf]
  rw [hesc, State.escOf_foldl_escFollow _ (fun c => List.mem_range.1), State.causeClear_unacked r v hs]
  cases (s.causeMasked r v).unacked c
  · simp [hc]
  · simp [State.causeMasked, State.escOf]

/-! ## Records -/

/-- The register of a record that holds VALID: of the worst fault or of the first one. -/
def recordReg (worst : Bool) : Nat := if worst then Reg.FCR_WORST_SRC else Reg.FCR_FF_SRC

theorem State.recordEmpty_eq (worst : Bool) (hs : s.spineOn = true) : s.recordEmpty worst
    = ((s.setReg (recordReg worst) 0).setReg (recordReg worst + 4) 0).setReg (recordReg worst + 8) 0 := State.onSpine_pos _ _ hs

theorem State.recordEmpty_reg (worst : Bool) (hs : s.spineOn = true) :
    (settle (s.recordEmpty worst)).reg (recordReg worst) = 0 := by
  rw [settle_reg, State.recordEmpty_eq worst hs, State.reg_setReg_other _ _ _ _ (by omega),
    State.reg_setReg_other _ _ _ _ (by omega), State.reg_setReg_same]

theorem State.recordEmpty_frame (worst : Bool) (hs : s.spineOn = true) : s.frame (settle (s.recordEmpty worst))
    [recordReg worst, recordReg worst + 4, recordReg worst + 8] [] := by
  rw [State.recordEmpty_eq worst hs]
  exact State.frame_settle (State.frame_setReg _ _ (State.frame_setReg _ _ (State.frame_setReg _ _ (State.frame_refl s _ _)
    (by simp)) (by simp)) (by simp))

/-! ## FCR_FW_RAISE -/

theorem State.happen_due (s : State) (src k : Nat) :
    (s.happen src).fcr.due.testBit k = (s.fcr.due.testBit k || decide (src = k)) := by
  rw [State.happen, Nat.testBit_or, Nat.testBit_two_pow]

theorem wordBits_one_iff (v : Word) (i : Nat) : wordBits v i 1 = 1 ↔ v.getLsbD i = true := by
  have hbit : (wordBits v i 1).testBit 0 = v.getLsbD i := wordBits_testBit v i 1 0
  have hlt : wordBits v i 1 < 2 := Nat.mod_lt _ (by decide)
  rw [← hbit, Nat.testBit_zero, decide_eq_true_iff]
  omega

/-- A happening of `src` where bit `i` of a written word asks for it. -/
def State.happenIf (s : State) (v : Word) (i src : Nat) : State := if wordBits v i 1 = 1 then s.happen src else s

theorem State.happenIf_due (s : State) (v : Word) (i src k : Nat) :
    (s.happenIf v i src).fcr.due.testBit k = (s.fcr.due.testBit k || (v.getLsbD i && decide (src = k))) := by
  have hbit := wordBits_one_iff v i
  rw [State.happenIf]
  split
  · rw [s.happen_due, hbit.1 ‹_›, Bool.true_and]
  · rw [Bool.eq_false_iff.2 (mt hbit.2 ‹_›), Bool.false_and, Bool.or_false]

theorem State.happenIf_frame (s : State) (v : Word) (i src : Nat) : s.frame (s.happenIf v i src) [] [.fcr] := by
  rw [State.happenIf]
  split
  · exact State.frame_happen _ (State.frame_refl s _ _) (by decide)
  · exact State.frame_refl s _ _

theorem State.fwRaise_firmware (v : Word) (hs : s.spineOn = true) :
    s.fwRaise .firmware v = (s.happenIf v 0 36).happenIf v 1 68 := State.onSpine_pos _ _ hs

theorem State.fwRaise_host (v : Word) (hs : s.spineOn = true) :
    s.fwRaise .host v = s.badAccess false Reg.FCR_FW_RAISE true 4 := State.onSpine_pos _ _ hs

/-! ## Refused accesses -/

/-- The count of a refused access with its event bit (R406). -/
def State.accCounted (s : State) : State := (s.add Fld.GLB_ACC_STATUS_ACC_CNT 1).raise Fld.GLB_ACC_STATUS_BAD_ACC_EV

/-- The record of a refused access (R406). -/
def State.accRecorded (s : State) (bar2 : Bool) (offset : Nat) (write : Bool) (size : Nat) : State :=
  (((s.set Fld.GLB_ACC_LAST_OFFSET offset).setB Fld.GLB_ACC_LAST_BAR2 bar2).setB Fld.GLB_ACC_LAST_WRITE write).set
    Fld.GLB_ACC_LAST_SIZE (min size 15)

theorem State.badAccess_eq (s : State) (bar2 : Bool) (offset : Nat) (write : Bool) (size : Nat) :
    s.badAccess bar2 offset write size = (s.accCounted.accRecorded bar2 offset write size).happen 601 := rfl

theorem State.accCounted_frame (s : State) : s.frame s.accCounted [Reg.GLB_ACC_STATUS] [] :=
  State.frame_raise _ (State.frame_add _ _ (State.frame_refl s _ _) (by decide)) (by decide)

theorem State.accCounted_event (s : State) : s.accCounted.get Fld.GLB_ACC_STATUS_BAD_ACC_EV = 1 :=
  State.get_raise_same _ _ (by decide) (by decide)

theorem State.accCounted_count (s : State) :
    s.accCounted.get Fld.GLB_ACC_STATUS_ACC_CNT = (s.get Fld.GLB_ACC_STATUS_ACC_CNT + 1) % 2 ^ 16 :=
  (State.get_set_other _ _ _ _ (by decide)).trans (State.get_set_same s _ _ (by decide))

theorem State.accRecorded_frame (s : State) (bar2 : Bool) (offset : Nat) (write : Bool) (size : Nat) :
    s.frame (s.accRecorded bar2 offset write size) [Reg.GLB_ACC_LAST] [] :=
  State.frame_set _ _ (State.frame_setB _ _ (State.frame_setB _ _ (State.frame_set _ _ (State.frame_refl s _ _) (by decide))
    (by decide)) (by decide)) (by decide)

theorem State.accRecorded_offset (s : State) {offset : Nat} (bar2 write : Bool) (size : Nat) (ho : offset < 2 ^ 26) :
    (s.accRecorded bar2 offset write size).get Fld.GLB_ACC_LAST_OFFSET = offset :=
  calc
    _ = _ := State.get_set_other _ _ _ _ (by decide)
    _ = _ := State.get_set_other _ _ _ _ (by decide)
    _ = _ := State.get_set_other _ _ _ _ (by decide)
    _ = _ := State.get_set_same s _ _ (by decide)
    _ = offset := Nat.mod_eq_of_lt ho

theorem State.accRecorded_window (s : State) (bar2 : Bool) (offset : Nat) (write : Bool) (size : Nat) :
    (s.accRecorded bar2 offset write size).get Fld.GLB_ACC_LAST_BAR2 = b2n bar2 :=
  calc
    _ = _ := State.get_set_other _ _ _ _ (by decide)
    _ = _ := State.get_set_other _ _ _ _ (by decide)
    _ = b2n bar2 := State.get_setB_same _ _ _ (by decide) (by decide)

theorem State.badAccess_frame (s : State) (bar2 : Bool) (offset : Nat) (write : Bool) (size : Nat) :
    s.frame (s.badAccess bar2 offset write size) [Reg.GLB_ACC_STATUS, Reg.GLB_ACC_LAST] [.fcr] := by
  rw [State.badAccess_eq]
  exact State.frame_happen _ (State.frame_step (State.frame_step (State.frame_refl s _ _) s.accCounted_frame (by decide)
    (by decide)) (State.accRecorded_frame _ _ _ _ _) (by decide) (by decide)) (by decide)

theorem State.badAccess_get (s : State) (bar2 : Bool) (offset : Nat) (write : Bool) (size : Nat) (f : FRef) :
    (s.badAccess bar2 offset write size).get f = (s.accCounted.accRecorded bar2 offset write size).get f := by
  rw [State.badAccess_eq, State.happen_get]

theorem State.badAccess_status (s : State) (bar2 : Bool) (offset : Nat) (write : Bool) (size : Nat) {f : FRef}
    (hf : f.addr = Reg.GLB_ACC_STATUS) : (s.badAccess bar2 offset write size).get f = s.accCounted.get f := by
  rw [State.badAccess_get, State.get_of_frame (State.accRecorded_frame _ _ _ _ _) (hf ▸ by decide)]

theorem State.badAccess_due (s : State) (bar2 : Bool) (offset : Nat) (write : Bool) (size k : Nat) :
    (s.badAccess bar2 offset write size).fcr.due.testBit k = (s.fcr.due.testBit k || decide (601 = k)) := by
  rw [State.badAccess_eq, State.happen_due]
  rfl

end Sys2Proof.Machine
end

section
/-! PROOFS. O17: the block reset of a stopped plane (R449, R450), and the statement. -/

namespace Sys2Proof.Machine

variable {s t : State} {p : Nat}

/-! ## The block reset of a plane -/

theorem State.setBinBit_frame (s : State) (a : Nat) (day prev suspect v : Bool) :
    s.frame (s.setBinBit a day prev suspect v) [] [.bar2] := State.frame_putBar2Num _ _ _ (State.frame_refl s _ _) (by decide)

theorem State.suspect_frame (s : State) (a : Nat) : s.frame (s.suspect a) [] [.bar2] :=
  State.frame_trans (s.setBinBit_frame _ _ _ _ _) (State.setBinBit_frame _ _ _ _ _ _)

theorem State.planeSuspect_frame (s : State) (p : Nat) : s.frame (s.planeSuspect p) [] [.bar2] :=
  State.frame_trans (frame_foldl s (fun t _ _ => t.suspect_frame _))
    (frame_foldl _ (fun t _ _ => State.frame_trans (t.suspect_frame _) (State.suspect_frame _ _)))

/-- Plane `p` stopped as `b` says. -/
def State.stopAs (s : State) (p : Nat) (b : Bool) : State := s.modPlane p (fun x => { x with stopped := b })

/-- What the twin control holds of a plane whose block reset leads to INIT (R284). -/
def PlaneTwin.toInit (x : PlaneTwin) : PlaneTwin :=
  { x with initDue := true, inited := false, joint := false, grace := 0, restarted := true }

/-- What it holds of a plane that restarts with its SRAM (R449). -/
def PlaneTwin.toRestart (x : PlaneTwin) : PlaneTwin := { x with initDue := true, keep := true }

theorem State.planeReset_twin (hon : s.halfOn p = true) (hlock : s.coreLocked p = true) (ht : s.twin = true) :
    s.planeReset p = ((s.stopAs p (s.fatalLive p)).modTw p PlaneTwin.toInit).movePlane p 1 false := by
  rw [State.planeReset, State.when_pos _ _ _ (by rw [hon, hlock]; rfl)]
  exact if_pos ht

theorem State.planeReset_wide (hon : s.halfOn p = true) (hlock : s.coreLocked p = true) (ht : s.twin = false)
    (hdue : (s.planeTw p).initDue = false) : s.planeReset p
      = (((s.stopAs p (s.fatalLive p)).planeSuspect p).modTw p PlaneTwin.toRestart).watch := by
  rw [State.planeReset, State.when_pos _ _ _ (by rw [hon, hlock]; rfl)]
  exact (if_neg (Bool.eq_false_iff.1 ht)).trans (if_neg (Bool.eq_false_iff.1 hdue))

/-- A plane that restarts already goes on doing so. -/
theorem State.planeReset_wide_due (hon : s.halfOn p = true) (hlock : s.coreLocked p = true) (ht : s.twin = false)
    (hdue : (s.planeTw p).initDue = true) : s.planeReset p = (s.stopAs p (s.fatalLive p)).watch := by
  rw [State.planeReset, State.when_pos _ _ _ (by rw [hon, hlock]; rfl)]
  exact (if_neg (Bool.eq_false_iff.1 ht)).trans (if_pos hdue)

/-- From `s` to `t` plane `p` has received a block reset that left it stopped as `b` says: INIT or a restart is due, a restart in Wide
configuration keeps the SRAM, and no line and no time changes. -/
structure State.planeWasReset (p : Nat) (b : Bool) (s t : State) : Prop where
  stopped : (t.plane p).stopped = b
  initDue : (t.planeTw p).initDue = true
  keep : s.twin = false → (s.planeTw p).initDue = false → (t.planeTw p).keep = true
  lines : t.lines = s.lines
  tk : t.tk = s.tk

theorem State.twinActed.plane (h : s.twinActed t) (p : Nat) : t.plane p = s.plane p := by
  have hplanes : t.planes = s.planes := h.frame.2 .planes (by decide)
  rw [State.plane, hplanes, State.plane]

theorem State.twinActed.planeTw (h : s.twinActed t) (p : Nat) : t.planeTw p = s.planeTw p := by
  rw [State.planeTw, h.planes, State.planeTw]

theorem State.twinActed.settled (h : s.twinActed t) : s.twinActed (settle t) := ⟨State.frame_settle h.frame, h.planes⟩

/-- A block reset stands while the twin control acts on it and Berent reports it. -/
theorem State.planeWasReset.acted {b : Bool} (h : State.planeWasReset p b s t) {u : State} (hu : t.twinActed u) :
    State.planeWasReset p b s u where
  stopped := by rw [hu.plane, h.stopped]
  initDue := by rw [hu.planeTw, h.initDue]
  keep ht hdue := by rw [hu.planeTw, h.keep ht hdue]
  lines := (hu.frame.2 .lines (by decide)).trans h.lines
  tk := (hu.frame.2 .tk (by decide)).trans h.tk

theorem State.planeTw_modTw (s : State) (p : Nat) (f : PlaneTwin → PlaneTwin) : (s.modTw p f).planeTw p = f (s.planeTw p) :=
  modD_getD_same _ _ _ _

theorem State.stopAs_stopped (s : State) (p : Nat) (b : Bool) : ((s.stopAs p b).plane p).stopped = b := by
  rw [State.stopAs, State.modPlane_plane]

/-- Where the twin control's part of the stopped plane becomes `f` of it, the block reset is as `f` says. -/
theorem State.modTw_reset {b : Bool} {f : PlaneTwin → PlaneTwin} (hframe : (s.stopAs p b).frame t [] [.bar2])
    (hdue : (f (t.planeTw p)).initDue = true) (hkeep : s.twin = false → (f (t.planeTw p)).keep = true) :
    State.planeWasReset p b s (t.modTw p f) where
  stopped := by
    have hplanes : t.planes = (s.stopAs p b).planes := hframe.2 .planes (by decide)
    rw [State.plane, State.modTw_planes, hplanes]
    exact s.stopAs_stopped p b
  initDue := by rw [State.planeTw_modTw, hdue]
  keep ht _ := by rw [State.planeTw_modTw, hkeep ht]
  lines := hframe.2 .lines (by decide)
  tk := hframe.2 .tk (by decide)

theorem State.planeReset_reset (hon : s.halfOn p = true) (hlock : s.coreLocked p = true) :
    State.planeWasReset p (s.fatalLive p) s (s.planeReset p) := by
  cases ht : s.twin with
  | true =>
    rw [State.planeReset_twin hon hlock ht]
    have htoInit := State.modTw_reset (f := PlaneTwin.toInit) (State.frame_refl (s.stopAs p (s.fatalLive p)) _ _) rfl
      (fun hw => absurd (ht.symm.trans hw) (by decide))
    exact htoInit.acted (State.twinActed.movePlane (.refl _) p 1 false)
  | false =>
    cases hdue : (s.planeTw p).initDue with
    | true =>
      rw [State.planeReset_wide_due hon hlock ht hdue]
      have hrestarts : State.planeWasReset p (s.fatalLive p) s (s.stopAs p (s.fatalLive p)) :=
        ⟨s.stopAs_stopped p _, hdue, fun _ hd => absurd (hdue.symm.trans hd) (by decide), rfl, rfl⟩
      exact hrestarts.acted (State.twinActed.watch (.refl _))
    | false =>
      rw [State.planeReset_wide hon hlock ht hdue]
      have htoRestart := State.modTw_reset (f := PlaneTwin.toRestart)
        ((s.stopAs p (s.fatalLive p)).planeSuspect_frame p) rfl (fun _ => rfl)
      exact htoRestart.acted (State.twinActed.watch (.refl _))

/-- In Twin configuration a block reset leads the plane to INIT (R284). -/
theorem State.planeReset_toInit (hon : s.halfOn p = true) (hlock : s.coreLocked p = true) (ht : s.twin = true) :
    (s.planeReset p).planeState p = 1 := by
  rw [State.planeReset_twin hon hlock ht]
  exact State.planeState_movePlane _ p false (by decide)

theorem State.stopRelease_eq (hs : s.spineOn = true) (hstop : (s.plane p).stopped = true) (hfatal : s.fatalLive p = false)
    (hlock : s.coreLocked p = true) : s.stopRelease p = s.planeReset p := by
  rw [State.stopRelease, State.onSpine_pos _ _ hs, State.when_pos _ _ _ (by rw [hstop, hfatal, hlock]; rfl)]

/-! ## The statement -/

/-- Settles O17: each register write changes its own registers and what follows from them, and the release of a stopped plane is its
block reset, which leads to INIT in Twin configuration and keeps the SRAM in Wide. -/
theorem causesClearAndStopsRelease : Obligations.CausesClearAndStopsRelease := by
  unfold Obligations.CausesClearAndStopsRelease
  refine ⟨fun r v s hs => ⟨?causes, ?firstFault, ?worstFault, ?firmware, ?host⟩, fun p s hs hon hlock hstop hfatal => ?release⟩
  case causes =>
    exact ⟨_, rfl, State.causeClear_reg v hs r.isLt, fun j hj hne => State.causeClear_reg_other v hs hj hne,
      fun c hc hu => by rw [State.causeClear_escOf _ v hs hc, hu, if_neg (by decide)],
      fun c hc hu => by rw [State.causeClear_escOf _ v hs hc, hu, if_pos rfl], State.causeClear_frame _ v hs⟩
  case firstFault => exact ⟨_, rfl, State.recordEmpty_reg false hs, State.recordEmpty_frame false hs⟩
  case worstFault => exact ⟨_, rfl, State.recordEmpty_reg true hs, State.recordEmpty_frame true hs⟩
  case firmware =>
    refine ⟨_, rfl, ?_, ?_, ?_⟩ <;> rw [State.fwRaise_firmware v hs]
    · simp [State.happenIf_due]
    · simp [State.happenIf_due]
    · exact State.frame_settle (State.frame_trans (s.happenIf_frame v 0 36) (State.happenIf_frame _ v 1 68))
  case host =>
    refine ⟨_, rfl, ?_, ?_, ?_, ?_, ?_, ?_, ?_⟩ <;> rw [State.fwRaise_host v hs]
    · rw [settle_get, s.badAccess_status _ _ _ _ rfl, State.accCounted_event]
    · rw [settle_get, s.badAccess_status _ _ _ _ rfl, State.accCounted_count]
    · rw [settle_get, State.badAccess_get, State.accRecorded_offset _ _ _ _ (by decide)]
    · rw [settle_get, State.badAccess_get, State.accRecorded_window, b2n_false]
    · simp [State.badAccess_due]
    · simp [State.badAccess_due]
    · exact State.frame_settle (s.badAccess_frame _ _ _ _)
  case release =>
    have hreset := (hfatal ▸ State.planeReset_reset hon hlock).acted (State.twinActed.settled (.refl _))
    rw [← State.stopRelease_eq hs hstop hfatal hlock] at hreset
    refine ⟨_, rfl, hreset.stopped, hreset.initDue, fun ht => ?_, hreset.keep, hreset.lines, hreset.tk⟩
    rw [State.stopRelease_eq hs hstop hfatal hlock]
    exact State.planeReset_toInit hon hlock ht

end Sys2Proof.Machine
end

section
/-! PROOFS. The registers and parts that the halt of DMA channels (R428) stays within. -/

namespace Sys2Proof.Machine

variable {s t : State} {l : List Nat} {ps : List Part}

theorem State.frame_modDma (c : Nat) (f : DmaChan → DmaChan) (h : s.frame t l ps) (hf : Part.dma ∈ ps) :
    s.frame (t.modDma c f) l ps := by
  refine ⟨h.1, fun x hx => ?_⟩
  have hkept := h.2 x hx
  cases x with
  | dma => exact absurd hf hx
  | _ => exact hkept

theorem dmaReg_mem_dmaHaltRegs {a c : Nat} (hc : c < 16) (ha : a ∈ dmaRegs c) : a ∈ dmaHaltRegs :=
  List.mem_append_left _ (List.mem_flatMap_of_mem (List.mem_range.2 hc) ha)

theorem cvuStatus_mem_dmaHaltRegs {k : Nat} (hk : k < 16) : Reg.CVU_STATUS k ∈ dmaHaltRegs :=
  List.mem_append_right _ (List.mem_map_of_mem (List.mem_range.2 hk))

theorem State.dmaHalt_frame (s : State) {c : Nat} (hc : c < 16) (err : Nat) :
    s.frame (s.dmaHalt c err) dmaHaltRegs [.dma, .fcr] := by
  have hch : Reg.DMA_CH_STATUS c ∈ dmaHaltRegs := dmaReg_mem_dmaHaltRegs hc (by simp [dmaRegs])
  have hbusy : Reg.DMA_GLB_STATUS ∈ dmaHaltRegs := dmaReg_mem_dmaHaltRegs hc (by simp [dmaRegs])
  rw [State.dmaHalt]
  split
  · exact State.frame_refl s _ _
  · rename_i r _
    have hrun := State.frame_modDma c (fun x => { x with run := none, passed := 0 })
      (State.frame_refl s dmaHaltRegs [.dma, .fcr]) (by decide)
    have hshown := State.frame_set (Fld.DMA_CH_STATUS_DESC_IDX c) r.idx (State.frame_raise (Fld.DMA_CH_STATUS_ERR_EV c)
      (State.frame_set (Fld.DMA_CH_STATUS_ERR c) err (State.frame_set (Fld.DMA_CH_STATUS_STATE c) 2 hrun hch) hch) hch) hch
    have hpend := fun busy => State.frame_setB (Fld.DMA_CH_STATUS_PEND c) false (State.frame_happen (584 + c)
      (State.frame_set Fld.DMA_GLB_STATUS_BUSY busy hshown hbusy) (by decide)) hch
    dsimp only
    split
    · exact State.frame_setB _ _ (hpend _) (cvuStatus_mem_dmaHaltRegs (Nat.mod_lt _ (by decide)))
    · exact hpend _

theorem State.dmaHaltAll_frame (s : State) (err : Nat) : s.frame (s.dmaHaltAll err) dmaHaltRegs [.dma, .fcr] :=
  frame_foldl s (fun t _ hc => t.dmaHalt_frame (List.mem_range.1 hc) err)

end Sys2Proof.Machine
end

section
/-! PROOFS. O15: chip sleep and wake (R471 to R475). Entry counts itself and halts the DMA channels, its end takes the rails away
but not the always-on domain, and a wake that is enabled and active brings them back. -/

namespace Sys2Proof.Machine

variable {s t : State} {l : List Nat} {ps : List Part}

theorem State.frame_modPower (f : Power → Power) (h : s.frame t l ps) (hf : Part.power ∈ ps) :
    s.frame (t.modPower f) l ps := by
  refine ⟨h.1, fun x hx => ?_⟩
  have hkept := h.2 x hx
  cases x with
  | power => exact absurd hf hx
  | _ => exact hkept

theorem State.frame_withTk (k : TimeKeeper) (h : s.frame t l ps) (hf : Part.tk ∈ ps) : s.frame { t with tk := k } l ps := by
  refine ⟨h.1, fun x hx => ?_⟩
  have hkept := h.2 x hx
  cases x with
  | tk => exact absurd hf hx
  | _ => exact hkept

theorem settle_spineOn (s : State) : (settle s).spineOn = s.spineOn := rfl

/-! ## Entry -/

/-- An accepted entry: it is counted, the DMA channels are halted, and the steps of Table 17.4 begin. -/
def State.sleepEntered (s : State) : State :=
  ((s.add Fld.AON_WAKE_STATUS_SLEEP_CNT 1).dmaHaltAll 9).modPower (fun p => { p with sleep := .entering, wakeDue := 0 })

theorem State.sleepEnter_accepted {v : Word} (hs : s.spineOn = true) (hawake : s.power.sleep = .awake)
    (hkey : v.extractLsb' 16 16 = 0xA55A#16) (henter : v.getLsbD 0 = true) : s.sleepEnter v = s.sleepEntered := by
  have hkeyBits : wordBits v 16 16 = 0xA55A := congrArg BitVec.toNat hkey
  rw [State.sleepEnter, State.onSpine_pos _ _ hs,
    State.when_pos _ _ _ (by rw [hawake, (wordBits_one_iff v 0).2 henter, hkeyBits]; rfl), State.sleepEntered]

theorem State.sleepEnter_otherKey {v : Word} (hkey : v.extractLsb' 16 16 ≠ 0xA55A#16) : s.sleepEnter v = s := by
  have hkeyBits : wordBits v 16 16 ≠ 0xA55A := fun h => hkey (BitVec.eq_of_toNat_eq h)
  rw [State.sleepEnter, State.onSpine]
  split
  · exact State.when_neg _ _ _ (by rw [beq_false_of_ne hkeyBits, Bool.and_false])
  · rfl

theorem State.sleepEntered_frame (s : State) :
    s.frame s.sleepEntered (Reg.AON_WAKE_STATUS :: dmaHaltRegs) [.power, .dma, .fcr] :=
  State.frame_modPower _ (State.frame_step (State.frame_add _ _ (State.frame_refl s _ _) List.mem_cons_self)
    (State.dmaHaltAll_frame _ 9) (List.subset_cons_self _ _) (by decide)) (by decide)

theorem State.sleepEntered_count (s : State) :
    s.sleepEntered.get Fld.AON_WAKE_STATUS_SLEEP_CNT = (s.get Fld.AON_WAKE_STATUS_SLEEP_CNT + 1) % 2 ^ 16 := by
  rw [State.sleepEntered, State.modPower_get, State.get_of_frame (State.dmaHaltAll_frame _ 9) (by decide)]
  exact State.get_set_same s _ _ (by decide)

theorem State.sleepEntered_phase (s : State) : s.sleepEntered.power.sleep = .entering := rfl

/-! ## Wake sources -/

/-- Without a temperature trip the sources of a wake are the active ones among those enabled (R473). -/
theorem State.wakeMask_untripped (active : Nat) (htrip : s.flag Fld.AON_TEMP_CFG_TRIP = false) :
    s.wakeMask active = (active &&& (s.reg Reg.AON_WAKE_CFG).toNat) % 64 := by
  have hmod : ∀ x : Nat, x % 64 = x &&& 63 := fun x => (Nat.and_two_pow_sub_one_eq_mod x 6).symm
  rw [State.wakeMask, htrip, b2n_false, Nat.mul_zero, Nat.or_zero, hmod, hmod, Nat.and_assoc]

theorem State.wakeMask_none (htrip : s.flag Fld.AON_TEMP_CFG_TRIP = false) : s.wakeMask 0 = 0 := by
  rw [State.wakeMask_untripped 0 htrip, Nat.zero_and, Nat.zero_mod]

theorem State.wakeEvent_awake (active : Nat) (hawake : s.power.sleep = .awake) : s.wakeEvent active = s := by
  simp only [State.wakeEvent, hawake, ite_self]

theorem State.wakeEvent_entering {active : Nat} (hsleep : s.power.sleep = .entering) (hm : s.wakeMask active ≠ 0) :
    s.wakeEvent active = s.modPower (fun p => { p with wakeDue := p.wakeDue ||| s.wakeMask active }) := by
  simp only [State.wakeEvent, hsleep, if_neg hm]

theorem State.wakeEvent_asleep {active : Nat} (hsleep : s.power.sleep = .asleep) (hm : s.wakeMask active ≠ 0) :
    s.wakeEvent active = s.wake (s.wakeMask active) false := by
  simp only [State.wakeEvent, hsleep, if_neg hm]

/-! ## A wake -/

theorem State.wake_frame (s : State) (src : Nat) (rst : Bool) : s.frame (s.wake src rst) [Reg.AON_WAKE_STATUS] [.power] :=
  State.frame_modPower _ (State.frame_setB _ _ (State.frame_set _ _ (State.frame_refl s _ _) (by decide)) (by decide)) (by decide)

theorem State.wake_power (s : State) (src : Nat) (rst : Bool) :
    (s.wake src rst).power = { s.power with sleep := .awake, coreEn := true, wakeDue := 0, nextCause := 2 } := rfl

theorem State.wake_source (s : State) (rst : Bool) {src : Nat} (hsrc : src < 64) :
    (s.wake src rst).get Fld.AON_WAKE_STATUS_WAKE_SRC = src :=
  calc
    _ = _ := State.get_set_other _ _ _ _ (by decide)
    _ = src % 2 ^ 6 := State.get_set_same s _ _ (by decide)
    _ = src := Nat.mod_eq_of_lt hsrc

theorem State.wake_byReset (s : State) (src : Nat) (rst : Bool) :
    (s.wake src rst).get Fld.AON_WAKE_STATUS_WAKE_RST = b2n rst := State.get_setB_same _ _ _ (by decide) (by decide)

/-- A wake leaves the internal reset as it is: the start is a later step (R467). -/
theorem State.wake_spineOn_of_inReset (src : Nat) (rst : Bool) (h : s.power.inReset = true) :
    (s.wake src rst).spineOn = false := by
  rw [State.spineOn, State.wake_power, h]
  rfl

/-! ## The end of entry -/

/-- The always-on domain keeps its registers in a reset of everything else. -/
theorem State.fullReset_reg (s : State) (cause : Nat) {a : Nat} (ha : isAon a = true) : (s.fullReset cause).reg a = s.reg a := by
  have hfar : a ≠ Fld.GLB_CLK_STATUS_XTAL32K_OK.addr := fun h => absurd (h ▸ ha) (by decide)
  rw [State.fullReset, State.modPower_reg, State.resetAll, State.reg_setB_other _ _ _ _ hfar]
  exact (Sparse.get_filter _ _ _ _).trans (if_pos ha)

/-- The feed monitor has stopped reporting (Table 17.4). -/
def State.monitorSilent (s : State) : State :=
  let s := ((s.set Fld.AON_FEED_STATUS_FEED1_GOOD 0).set Fld.AON_FEED_STATUS_FEED2_GOOD 0).set Fld.AON_FEED_STATUS_MUX_LIMIT 0
  let s := (s.setB Fld.AON_FEED_STATUS_PG1 false).setB Fld.AON_FEED_STATUS_PG2 false
  (s.setB Fld.AON_FEED_STATUS_SPINE1_OK false).setB Fld.AON_FEED_STATUS_SPINE2_OK false

/-- The device asleep: everything outside the always-on domain is in reset, the time-keeper runs from CK_AON (R320) and the core
rails are off. -/
def State.railsOff (s : State) : State :=
  ((s.fullReset 2).raise Fld.AON_TK_CTL_SLEEP_CLK).monitorSilent.modPower (fun p => { p with sleep := .asleep, coreEn := false })

theorem State.sleepComplete_eq (hsleep : s.power.sleep = .entering) : s.sleepComplete =
    if (s.railsOff.power.wakeDue % 64 ||| s.railsOff.wakeMask 0) ≠ 0 ∨ !s.railsOff.power.resetN
    then s.railsOff.wake (s.railsOff.power.wakeDue % 64 ||| s.railsOff.wakeMask 0) (!s.railsOff.power.resetN)
    else s.railsOff :=
  State.when_pos _ _ _ (by rw [hsleep]; rfl)

theorem State.monitorSilent_frame (s : State) : s.frame s.monitorSilent [Reg.AON_FEED_STATUS] [] := by
  have hreg : Reg.AON_FEED_STATUS ∈ [Reg.AON_FEED_STATUS] := List.mem_cons_self
  have hgood := State.frame_set Fld.AON_FEED_STATUS_MUX_LIMIT 0 (State.frame_set Fld.AON_FEED_STATUS_FEED2_GOOD 0
    (State.frame_set Fld.AON_FEED_STATUS_FEED1_GOOD 0 (State.frame_refl s _ []) hreg) hreg) hreg
  exact State.frame_setB _ _ (State.frame_setB _ _ (State.frame_setB _ _ (State.frame_setB _ _ hgood hreg) hreg) hreg) hreg

theorem State.railsOff_reg (s : State) {a : Nat} (ha : isAon a = true) (htk : a ≠ Reg.AON_TK_CTL)
    (hfeed : a ≠ Reg.AON_FEED_STATUS) : s.railsOff.reg a = s.reg a := by
  rw [State.railsOff, State.modPower_reg, (State.monitorSilent_frame _).1 a (by simpa using hfeed),
    State.reg_raise_other _ _ _ htk, s.fullReset_reg 2 ha]

theorem State.railsOff_power (s : State) : s.railsOff.power = { s.power with
    inReset := true, chipReset := false, crstDue := none, halfHeld := [true, true], nextCause := 2
    sleep := .asleep, coreEn := false } := rfl

theorem State.railsOff_spineOn (s : State) : s.railsOff.spineOn = false := rfl

theorem State.railsOff_sleepClk (s : State) : s.railsOff.get Fld.AON_TK_CTL_SLEEP_CLK = 1 := by
  rw [State.railsOff, State.modPower_get, State.get_of_frame (State.monitorSilent_frame _) (by decide)]
  exact State.get_raise_same _ _ (by decide) (by decide)

theorem State.railsOff_tk (s : State) : s.railsOff.tk = s.tk := rfl

theorem State.railsOff_untripped (htrip : s.flag Fld.AON_TEMP_CFG_TRIP = false) :
    s.railsOff.flag Fld.AON_TEMP_CFG_TRIP = false := by
  rwa [State.flag, State.get, s.railsOff_reg (by decide) (by decide) (by decide)]

/-- Where RESET_N is high and nothing has tripped, entry ends in sleep unless a wake has arrived meanwhile (R475). -/
theorem State.sleepComplete_untripped (hsleep : s.power.sleep = .entering) (hreset : s.power.resetN = true)
    (htrip : s.flag Fld.AON_TEMP_CFG_TRIP = false) : s.sleepComplete =
      if s.power.wakeDue % 64 ≠ 0 then s.railsOff.wake (s.power.wakeDue % 64) false else s.railsOff := by
  rw [State.sleepComplete_eq hsleep, State.wakeMask_none (State.railsOff_untripped htrip), s.railsOff_power, hreset]
  simp

/-! ## The temperature comparator -/

theorem signedOf_toNat (b : BitVec 8) : signedOf 8 b.toNat = b.toInt := by
  have := b.isLt
  simp only [signedOf, BitVec.toInt]
  split <;> split <;> omega

/-- The reading shown. -/
def State.tempRead (s : State) (b : BitVec 8) : State := s.set Fld.AON_TEMP_CFG_TEMP b.toNat

/-- The reading shown, and the trip that follows from it (R473). -/
def State.tempFollow (s : State) (b : BitVec 8) : State :=
  if s.tempThr ≤ b.toInt then (s.tempRead b).raise Fld.AON_TEMP_CFG_TRIP
  else if b.toInt ≤ s.tempThr - 5 then (s.tempRead b).setB Fld.AON_TEMP_CFG_TRIP false
  else s.tempRead b

theorem State.tempRead_thr (s : State) (b : BitVec 8) : (s.tempRead b).tempThr = s.tempThr := by
  rw [State.tempThr, State.tempRead, State.get_set_other _ _ _ _ (by decide), State.tempThr]

theorem State.tempTrip_eq (s : State) (b : BitVec 8) : s.tempTrip b.toNat = (s.tempFollow b).wakeEvent 0 := by
  rw [State.tempFollow, ← s.tempRead_thr b, ← signedOf_toNat]
  rfl

theorem State.tempFollow_frame (s : State) (b : BitVec 8) : s.frame (s.tempFollow b) [Reg.AON_TEMP_CFG] [] := by
  have hread : s.frame (s.tempRead b) [Reg.AON_TEMP_CFG] [] := State.frame_set _ _ (State.frame_refl s _ _) (by decide)
  rw [State.tempFollow]
  split
  · exact State.frame_raise _ hread (by decide)
  · split
    · exact State.frame_setB _ _ hread (by decide)
    · exact hread

theorem State.tempFollow_temp (s : State) (b : BitVec 8) : (s.tempFollow b).get Fld.AON_TEMP_CFG_TEMP = b.toNat := by
  have hread : (s.tempRead b).get Fld.AON_TEMP_CFG_TEMP = b.toNat :=
    (State.get_set_same s _ _ (by decide)).trans (Nat.mod_eq_of_lt b.isLt)
  rw [State.tempFollow]
  split
  · exact (State.get_set_other _ _ _ _ (by decide)).trans hread
  · split
    · exact (State.get_set_other _ _ _ _ (by decide)).trans hread
    · exact hread

theorem State.tempFollow_above {b : BitVec 8} (h : s.tempThr ≤ b.toInt) :
    (s.tempFollow b).get Fld.AON_TEMP_CFG_TRIP = 1 := by
  rw [State.tempFollow, if_pos h]
  exact State.get_raise_same _ _ (by decide) (by decide)

theorem State.tempFollow_below {b : BitVec 8} (h : b.toInt ≤ s.tempThr - 5) :
    (s.tempFollow b).get Fld.AON_TEMP_CFG_TRIP = 0 := by
  rw [State.tempFollow, if_neg (by omega), if_pos h]
  exact State.get_setB_same _ _ _ (by decide) (by decide)

theorem State.tempFollow_between {b : BitVec 8} (h : b.toInt < s.tempThr) (h' : s.tempThr - 5 < b.toInt) :
    (s.tempFollow b).get Fld.AON_TEMP_CFG_TRIP = s.get Fld.AON_TEMP_CFG_TRIP := by
  rw [State.tempFollow, if_neg (by omega), if_neg (by omega)]
  exact State.get_set_other _ _ _ _ (by decide)

theorem State.tempTrip_awake (b : BitVec 8) (hawake : s.power.sleep = .awake) : s.tempTrip b.toNat = s.tempFollow b := by
  have hpower : (s.tempFollow b).power = s.power := (s.tempFollow_frame b).2 .power (by decide)
  rw [State.tempTrip_eq, State.wakeEvent_awake 0 (hpower ▸ hawake)]

/-! ## The crystal -/

theorem State.xtalRise_stopped (hoff : s.flag Fld.GLB_CLK_STATUS_XTAL32K_OK = false) (hstop : s.tk.running = false) :
    s.xtalRise = { s.raise Fld.GLB_CLK_STATUS_XTAL32K_OK with tk := ⟨true, 0, 0, 0⟩ } := by
  rw [State.xtalRise, State.when_pos _ _ _ (by rw [hoff]; rfl)]
  exact if_neg (by rw [State.raise_tk, hstop]; decide)

/-! ## The statement -/

/-- Settles O15: an accepted entry is counted, its end is a reset of all but the always-on domain, and a source that is enabled
and active wakes the device then, or at once where it sleeps. -/
theorem chipSleepAndWake : Obligations.ChipSleepAndWake := by
  unfold Obligations.ChipSleepAndWake
  intro v active b s
  refine ⟨fun hs hawake hkey henter => ?enter, fun hkey => ?otherKey, fun hsleep hdue hreset htrip => ?sleep,
    fun hsleep hm htrip => ?wakeDuring, fun hsleep hdue hreset htrip => ?wakeAfter, fun hsleep hm htrip => ?wake,
    fun hawake => ?temperature, fun hoff hstop => ?crystal⟩
  case enter =>
    have hframe := s.sleepEntered_frame
    refine ⟨_, rfl, ?_⟩
    rw [State.sleepEnter_accepted hs hawake hkey henter, settle_power, settle_get, settle_lines, settle_planes, settle_tk]
    exact ⟨s.sleepEntered_phase, s.sleepEntered_count, hframe.2 .lines (by decide), hframe.2 .planes (by decide),
      hframe.2 .tk (by decide)⟩
  case otherKey =>
    refine ⟨_, rfl, ?_⟩
    rw [State.sleepEnter_otherKey hkey]
    exact State.frame_settle (State.frame_refl s _ _)
  case sleep =>
    refine ⟨_, rfl, ?_⟩
    rw [State.sleepComplete_untripped hsleep hreset htrip, hdue, if_neg (by decide), settle_power, settle_get, settle_tk,
      settle_spineOn, s.railsOff_power, s.railsOff_spineOn]
    exact ⟨rfl, rfl, rfl, s.railsOff_sleepClk, s.railsOff_tk, rfl,
      fun a ha htk hfeed => (settle_reg _ _).trans (s.railsOff_reg ha htk hfeed)⟩
  case wakeDuring =>
    refine ⟨_, rfl, ?_⟩
    rw [← State.wakeMask_untripped _ htrip] at hm ⊢
    rw [State.wakeEvent_entering hsleep hm, settle_power]
    exact ⟨hsleep, rfl, State.frame_settle (State.frame_modPower _ (State.frame_refl s _ _) (by decide))⟩
  case wakeAfter =>
    refine ⟨_, rfl, ?_⟩
    rw [State.sleepComplete_untripped hsleep hreset htrip, if_pos hdue, settle_power, settle_get, settle_spineOn,
      State.wake_power, State.wake_source _ _ (Nat.mod_lt _ (by decide)), State.wake_spineOn_of_inReset _ _ rfl]
    exact ⟨rfl, rfl, rfl, rfl, rfl⟩
  case wake =>
    have hlt := Nat.mod_lt (active.toNat &&& (s.reg Reg.AON_WAKE_CFG).toNat) (show 0 < 64 by decide)
    refine ⟨_, rfl, ?_⟩
    rw [← State.wakeMask_untripped _ htrip] at hm hlt ⊢
    rw [State.wakeEvent_asleep hsleep hm, settle_power, settle_get, settle_get, State.wake_power, State.wake_source _ _ hlt,
      State.wake_byReset]
    exact ⟨rfl, rfl, rfl, rfl, rfl, State.frame_settle (s.wake_frame _ _)⟩
  case temperature =>
    refine ⟨_, rfl, ?_⟩
    rw [State.tempTrip_awake b hawake, settle_get, settle_get]
    exact ⟨s.tempFollow_temp b, State.tempFollow_above, State.tempFollow_below, State.tempFollow_between,
      State.frame_settle (s.tempFollow_frame b)⟩
  case crystal =>
    refine ⟨_, rfl, ?_⟩
    rw [State.xtalRise_stopped hoff hstop]
    exact ⟨State.get_raise_same s _ (by decide) (by decide), rfl, State.frame_settle (State.frame_withTk _
      (State.frame_raise _ (State.frame_refl s _ _) (by decide)) (by decide))⟩

end Sys2Proof.Machine
end
